-- ==== Sys2Proof/Word.lean ====
section
/-!
DEFINITION. Word.lean: the words of the LAL-7720 (00_scope.md, "Registers" and R5) and the sparse map that holds
every addressed store of the machine as plain data.
-/
namespace Sys2Proof

/-- A 32-bit word: a register, a sample (Q5.27, R5), a memory word. -/
abbrev Word := BitVec 32

/-- One byte of flash, of a frame or of a host buffer. -/
abbrev Byte := BitVec 8

/-- An 80-bit accumulator (Table 03.1). -/
abbrev Acc := BitVec 80

/-- A 24-bit address or modifier register (Table 03.1). -/
abbrev Addr24 := BitVec 24

/-- A 16-bit supervisor register (14_supervisor_core.md). -/
abbrev Half := BitVec 16

/-- A sparse store: pairs of a key and a value, keys strictly rising, no value equal to what an unlisted key reads as. -/
abbrev Store (α : Type) := List (Nat × α)

/-- A device engine number, 16 × cluster + engine (R43). -/
abbrev EngNo := Fin 128

/-- A cluster, CL0 to CL7 (R43). -/
abbrev ClNo := Fin 8

/-- A V register's logical number (Table 03.1). -/
abbrev VNo := Fin 64

end Sys2Proof
end

