-- ==== Sys2Proof/Syntax.lean ====
section
/-!
DEFINITION. Syntax.lean: the commands of the block, one constructor per row of opcode_table.json, with the operands the
spec gives each. A command that the world outside causes (a received word, a conversion, an expired timer) carries
the outside facts as operands.
-/
namespace Sys2Proof

/-- What an SRAM read found (R66, R68): nothing, a corrected single-bit error, an uncorrectable error. -/
inductive Ecc where
  | clean | corrected | uncorrectable
deriving DecidableEq, Repr, Inhabited

/-- What the fetch of an instruction word found (R66, R68): nothing, a corrected error, or an uncorrectable error in the
word's lower or upper half. -/
inductive Fetch where
  | clean | corrected
  | bad (upper : Bool)
deriving DecidableEq, Repr, Inhabited

/-- Fields of an M slot (Table 04.3). `resBad` names the lanes whose product fails the residue check (R65), a fact of
the hardware and no field of the word. -/
structure MOp where
  /-- false = X operand shared, true = Y operand shared -/
  sh : Bool
  /-- false = mode SS, true = mode SU -/
  md : Bool
  /-- scale -/
  sc : Bool
  vs : Fin 64
  qi : Fin 16
  dst : Fin 8
  resBad : BitVec 4
deriving DecidableEq, Repr, Inhabited

/-- Which L slot (R87). -/
inductive LSlot where
  | l0 | l1
deriving DecidableEq, Repr, Inhabited

/-- opm 1 to 4 of Table 04.9. -/
inductive LdMode where
  | plain | post | circ | offset
deriving DecidableEq, Repr, Inhabited

/-- opm 5 to 7 of Table 04.9. -/
inductive StMode where
  | plain | post | circ
deriving DecidableEq, Repr, Inhabited

/-- Part of an accumulator (R55). -/
inductive AccPart where
  | lo | mid | hi
deriving DecidableEq, Repr, Inhabited

/-- Who performs a control access (R40, R158, R370): SV0, SV1, PCIe BAR0 or the local bus. -/
inductive Path where
  | sv0 | sv1 | pcie | lb
deriving DecidableEq, Repr, Inhabited

/-- One entry of a COMMIT frame as received (Table 17.8). -/
structure RawEntry where
  block : Half
  word : Byte
  rsv : Byte
  val : Word
deriving DecidableEq, Repr, Inhabited

/-- The operations of a REQ body after its common part (Table 17.8). -/
inductive AudonReq where
  | commit (gseq lease : Word) (ents : List RawEntry)
  | read (block : Half) (first rsv : Byte) (count : Half)
  | acquire (duration : Word) (blocks : List Half)
  | renew (lease duration : Word)
  | release (lease : Word)
  | reset
  | close
  | ping
deriving DecidableEq, Repr, Inhabited

/-- A UDP datagram as a frame carries it (R299): addresses, ports, whether it is an IP fragment, and its payload. -/
structure Udp where
  src : Word
  dst : Word
  sport : Half
  dport : Half
  frag : Bool
  payload : List Byte
deriving DecidableEq, Repr, Inhabited

/-- What an Ethernet frame carries (R299). -/
inductive EthBody where
  | udp (d : Udp)
  | arp | icmp | igmp
  | pause
  | other
deriving DecidableEq, Repr, Inhabited

/-- A received Ethernet frame: port, length in bytes, whether its FCS holds, its destination MAC address (first byte highest), the
nanoseconds from the last tick boundary to its timestamp point (Table 13.8), and its content. -/
structure EthFrame where
  port : Fin 4
  len : Nat
  fcsOk : Bool
  mac : BitVec 48
  ns : Half
  body : EthBody
deriving DecidableEq, Repr, Inhabited


/-- A word in which a scrubber or a transport finds an error in a tick guard (R67, R68, R119, R140): an engine of the
cluster and its local, program or window address, or a delay bank of the cluster and its address. -/
inductive Place where
  | data (e : Fin 16) (a : BitVec 16)
  | prog (e : Fin 16) (a : Fin 24576) (upper : Bool)
  | delay (bank : Fin 48) (a : BitVec 16)
  | window (e : Fin 16) (a : Fin 1024)
deriving DecidableEq, Repr, Inhabited

/-- What the checks of a tick guard find: where, in which cluster cycle, and whether it was corrected. -/
structure Finding where
  place : Place
  cycle : BitVec 15
  corrected : Bool
deriving DecidableEq, Repr, Inhabited

/-- One word of a commit group (R160). -/
structure Entry where
  block : Nat
  word : Nat
  val : Word
deriving DecidableEq, Repr, Inhabited

/-- A session as admission names it (R162, R179): its number, its epoch, and whether it is held by the partner twin
(R238). The internal session of CMT_SUBMIT (R159) is number 4,096. -/
structure SessId where
  num : Nat
  epoch : Nat := 0
  peer : Bool := false
deriving DecidableEq, Repr, Inhabited

/-- Where a group stands (R163, R173, R183). -/
inductive GroupPhase where
  /-- accepted, neither flipped nor discarded: in flight (R167) -/
  | staged
  /-- flipped; its echo proceeds -/
  | echo
  /-- discarded; its undo proceeds -/
  | undo
deriving DecidableEq, Repr, Inhabited

/-- An accepted commit group with its bookings: pairs of a tick and a number of words (R164). -/
structure Group where
  part : Nat
  who : SessId
  seq : Nat
  ents : List Entry
  ta : Nat
  tick : Nat
  /-- the lease that it names: entry and serial (R180, R181) -/
  lease : Option (Nat × Nat)
  stage : List (Nat × Nat)
  echo : List (Nat × Nat)
  /-- words staged so far -/
  nStaged : Nat
  /-- words echoed or undone so far -/
  nEchoed : Nat
  phase : GroupPhase
  /-- forwarded and not yet confirmed by the follower (R185) -/
  waiting : Bool
  /-- forwarded to the follower (R185, R187) -/
  forwarded : Bool
  /-- its number in the control stream, at the follower that took it (R185) -/
  ctl : Nat := 0
deriving DecidableEq, Repr, Inhabited

/-- An entry of the lease table (R179). -/
structure Lease where
  part : Nat
  who : SessId
  serial : Nat
  blocks : List Nat
  endTick : Nat
  /-- the boundary at which a released lease ends (R180) -/
  relAt : Option Nat
deriving DecidableEq, Repr, Inhabited

/-- What admission decides: a status code of Table 07.5 and what the answer carries (Table 17.8). -/
structure Reply where
  status : Nat := 0
  arg : Nat := 0
  tickA : Nat := 0
  tickB : Nat := 0
  data : List Word := []
deriving DecidableEq, Repr, Inhabited

/-- An item that this twin puts on the control stream (Table 10.3 class 4). -/
inductive CtlItem where
  /-- an accepted group, with its number in the stream (R185) -/
  | group (ctl : Nat) (part : Nat) (who : SessId) (ta tick : Nat) (lease : Option (Nat × Nat)) (ents : List Entry)
  /-- a lease granted, renewed or released: its entry as it stands (R185) -/
  | lease (ctl : Nat) (index : Nat) (entry : Lease)
  /-- an accepted partition reset, with its number (R216) -/
  | partReset (ctl p r : Nat)
  /-- a PART_RESET request that reached the follower (R216) -/
  | relayReset (p : Nat)
  /-- a graft that has become pending, with its number (R210) -/
  | graft (ctl p s : Nat)
  /-- everything up to item `ctl` has been received (R185) -/
  | confirm (ctl : Nat)
  /-- a request that the follower relays (R185, R238) -/
  | relay (part : Nat) (session epoch : Nat) (reqId : Nat) (req : AudonReq)
  /-- the leader's answer to a relayed request -/
  | relayed (session : Nat) (op reqId : Nat) (reply : Reply)
  | submit (ents : List (Word × Word)) (count : Nat)
  | submitted (reply : Reply)
  /-- a stream-table write accepted by the owner (R302) -/
  | stream (ctl key : Nat) (tick : Nat) (words : List Word)
  /-- a cluster-control write accepted by the owner (R359) -/
  | cluster (ctl tick a : Nat) (v : Word)
  | sessionEnd (session epoch : Nat)
  | takeover
  | detach
  | handover (h : Nat)
  | joinTick (j : Nat)
  /-- an in-flight group with its staged words and bookings, for a joiner (R252) -/
  | inflight (g : Group)
  /-- a cluster's power state and a silence count as they stand after boundary J − 1 (R252) -/
  | power (cluster : Nat) (asleep : Bool) (wakeAt : Nat)
  | silence (num count : Nat)
  /-- a block's current value and flip bit (R253) -/
  | param (block flip : Nat) (words : List Word)
  /-- the owner's media origin (R308) -/
  | origin (o : Nat)
deriving DecidableEq, Repr, Inhabited

/-- A link frame (Table 10.3, R239): whether its CRC-32C holds; the sender's role (true = B), the bits of its heartbeat with
the part of its image hash that the frame's tick carries (log entry 129), and what R259 compares of its image (log entry
130); how many of the other twin's control-stream items it acknowledges; its output CRCs by TWIN group; the owner's ASRC
measurements, hot states by guard, and network words by channel sample; and the control-stream items that it brings, the
first of them numbered `seq`. -/
structure LinkFrame where
  crcOk : Bool
  roleB : Bool
  tick : Word
  boot : Fin 8
  ripe : Fin 8
  owner : Bool
  fault : Bool
  seq : Nat
  hashPart : Word
  compat : List Nat
  acked : Nat
  crcs : List (Nat × Word)
  asrc : List (Nat × Word)
  hot : List (Nat × Nat)
  net : List (Nat × Word)
  items : List CtlItem
deriving DecidableEq, Repr, Inhabited

/-- What a tap read burst of the current schedule entry finds (R127): the item's place in the record of its cluster, what the
read and its repeat find, whether a repeat slot beyond those that R124 keeps free is left, and the eight words received. -/
structure BurstFinding where
  cluster : ClNo
  item : Nat
  read : Ecc
  again : Ecc
  slotLeft : Bool
  got : List Word
deriving DecidableEq, Repr, Inhabited

/-- What the reads of one on-chip access of a DMA channel find (R66, R127, R338): words or bursts with a single-bit error, which is
corrected, and whether a DRAM burst was read uncorrectable at first and then right in a repeat slot. What stays uncorrectable is a bus
error, with a command of its own (R345). The findings are operands (DEDUCED, log entry 165). -/
structure MemFind where
  ce : Fin 9 := 0
  repeated : Bool := false
deriving DecidableEq, Repr, Inhabited

/-- What one DMA beat meets (R343): the channels whose next beat waits for a bank cycle or a burst slot, and what the reads of the
beat find: of its data or descriptor, and of a DRAM burst for the status write and for the own write that end a descriptor. -/
structure BeatMeet where
  waiting : List (Fin 32) := []
  data : MemFind := {}
  status : MemFind := {}
  own : MemFind := {}
deriving DecidableEq, Repr, Inhabited

/-- The bus errors of R345, in the order of DMA_ERR.kind; `repeated`: a repeat slot was left for the DRAM read of R127, and its repeat
failed too. -/
inductive BusError where
  | urOrCa | timeout | poisoned | tier1 | dram (repeated : Bool) | buffer
deriving DecidableEq, Repr, Inhabited

/-- Facts at a device tick boundary that come from outside the block: the filtered PL_ALIVE_IN is high, the receive lanes
locked, the link aligned, the skew of R235, the ASRC measurements of the tick (R149), and what the fetch of an engine's
first word of its program window finds, by engine, and what the tap read bursts of the tick find. -/
structure TickPins where
  alive : Bool
  lanes : BitVec 4
  aligned : Bool
  skew : Half
  asrc : List (Nat × Word)
  fetch : List (Nat × Fetch)
  bursts : List BurstFinding
deriving DecidableEq, Repr, Inhabited

/-- One word of a copy set's recursive state (R254, R255): the registers of an engine that its carried state names, local
words, a guard's or gain cell's state, and an in-flight in-window word. -/
inductive CopyWord where
  | v (e : EngNo) (n : VNo) (x : Word)
  | acc (e : EngNo) (n : Fin 4) (x : Acc)
  | k (e : EngNo) (n : Fin 16) (x : Addr24)
  | m (e : EngNo) (n : Fin 16) (x : Addr24)
  | bx (e : EngNo) (x : BitVec 5)
  | flg (e : EngNo) (x : BitVec 6)
  | mem (e : EngNo) (a : BitVec 16) (x : Word)
  | inWord (e : EngNo) (a : Fin 1024) (x : Word)
  | guard (n : Nat) (dcs ms : Int)
  | cell (n : Fin 4096) (current target : Word) (pending crossed : Bool) (deadline : Nat) (last : Word)
deriving DecidableEq, Repr, Inhabited


/-- What a self-detected fault comes from (Table 11.6, causes 8 to 11): a cluster with the kind, unit, address and cycle of R69,
PLL-B, XTAL, a rail, or a temperature sensor. -/
inductive FaultSrc where
  | cluster (c : ClNo) (kind : Fin 8) (unit : Fin 64) (addr : Addr24) (cycle : BitVec 15)
  | pllbUnlock
  | xtalLost
  | supply (rail : Fin 9)
  | thermal (sensor : Fin 16)
deriving DecidableEq, Repr, Inhabited

/-- Where the session engine takes its next frame from (R376): the UDP input buffer, or the request ring of page `p`, whose
bytes from tx_head on are those given. -/
inductive AudonSrc where
  | udp
  | bell (p : Fin 256) (bytes : List Byte)
deriving DecidableEq, Repr, Inhabited

/-- What PCIe does to the same mailbox word in the cycle of a local-bus access (Table 17.6), and what the SECDED check of the word that the
access reads or merges into finds (R66, R375); for an access that reaches the parameter store, of that word. -/
inductive LbMeet where
  | alone (ecc : Ecc := .clean)
  | pcieRead (ecc : Ecc := .clean)
  | pcieWrite (v : Word) (be : BitVec 4) (ecc : Ecc := .clean)
deriving DecidableEq, Repr, Inhabited

/-- What the hardware does to a PTP message as it leaves (R309): nothing, the timestamp going to the firmware (two-step), or one-step:
it writes the originTimestamp, or adds the residence time since the ingress timestamp `since`, in tenths of a nanosecond of the PHC, to
the correctionField. -/
inductive PtpStep where
  | twoStep
  | origin
  | residence (since : Nat)
deriving DecidableEq, Repr, Inhabited

/-- A PTP message that firmware hands to a port (R309): UDP port 319 (`event`) or 320, the nanoseconds from the last tick boundary to its
timestamp point, and its bytes from the PTP header on. -/
structure PtpSend where
  port : Fin 4
  dst : Word
  event : Bool
  ns : BitVec 16
  step : PtpStep
  body : List Byte
deriving DecidableEq, Repr, Inhabited

/-- Where an access goes: a write of a control-space address on a path (with the byte enables of a PCIe write, and what the SECDED
check of a word that it merges into finds), of an offset of a doorbell page in BAR2, of a word of a vector's MSI-X table entry in BAR4, or
of a local-bus location; a PTP message handed to a port by firmware; or a read of any of these, or of a word of the pending-bit array in
BAR4. The table has no row of their own for the reads and for sending (log entries 104, 156). -/
inductive WriteTarget where
  | ctl (path : Path) (a v : Word) (be : BitVec 4) (ecc : Ecc := .clean)
  | page (p : Fin 256) (o : BitVec 12) (v : Word) (be : BitVec 4)
  | msix (n : Fin 64) (dw : Fin 4) (v : Word)
  | lb (loc : Byte) (v : Half) (m : LbMeet)
  | ptp (m : PtpSend)
  | ctlRead (path : Path) (a : Word) (ecc : Ecc := .clean)
  | pageRead (p : Fin 256) (o : BitVec 12)
  | msixRead (n : Fin 64) (dw : Fin 4)
  | pbaRead (high : Bool)
  | lbRead (loc : Byte) (m : LbMeet)
deriving DecidableEq, Repr, Inhabited

/-- Where an alias write goes (R132): the parameter-store window on a path, or local memory of a supervisor core, its own or
the other's, as core `c` writes it. -/
inductive AliasTarget where
  | params (path : Path) (o : BitVec 23) (v : Word) (be : BitVec 4) (ecc : Ecc)
  | svMem (c : Fin 2) (other : Bool) (w : BitVec 19) (v : Half) (ecc : Ecc)
deriving DecidableEq, Repr, Inhabited

/-- The address form of a supervisor load or store (Table 14.3): one word, of W0 to W7 with an 8-bit displacement, or two
words, of W0 to W15 with a 16-bit one. -/
inductive SvMem where
  | short (w b : Fin 8) (disp : BitVec 8)
  | long (w : Fin 16) (b : Fin 8) (disp : Half)
deriving DecidableEq, Repr, Inhabited

/-- The commands of the LAL-7720: one constructor per row of opcode_table.json. -/
inductive Instr where
  /-- TICK_BOUNDARY (R41). A device tick boundary is reached after the fixed cycle count, and the device applies the boundary's events in precedence order. -/
  | tickBoundary (pins : TickPins)
  /-- DRAM_RETRAIN (R126). On its tick count, the DAU retrains one DRAM channel in reserved slots and updates the margin warning. -/
  | dramRetrain (ch : Fin 16) (warn : Bool)
  /-- DRAM_REFRESH (R126). DRAM refresh runs in reserved burst slots at the rate that the dies require. -/
  | dramRefresh
  /-- GROUP_FLIP (R172). At the promised tick, the flip bits of every block of the group are inverted in one flip-table update. -/
  | groupFlip
  /-- GAIN_CELL_TIMEOUT (R177). A pending gain cell whose deadline arrives steps to its target and counts a timeout. -/
  | gainCellTimeout (cell : Fin 4096)
  /-- CLUSTER_RESUME (R357). Three boundaries after its wake decision, a woken cluster runs its first program window. -/
  | clusterResume (c : ClNo)
  /-- DIVERGE_MUTE_END (R241). After 1,024 consecutive matching compared ticks, a group's divergence mute ends. -/
  | divergeMuteEnd (g : Fin 256)
  /-- TICK_GUARD (R143). In a cluster's tick guard, output words pass to the I/O side, input frames and bridge results land, and scrubbing runs. -/
  | tickGuard (c : ClNo) (finds : List Finding)
  /-- CAPTURE_INSTANT (R142). At the capture instant, the input words of the tick are closed and network playout samples are decided. -/
  | captureInstant
  /-- LAUNCH_INSTANT (R141). At the launch instant, the output words of the tick begin to leave. -/
  | launchInstant
  /-- ENGINE_DELAYED_WRITE (R79). An issued engine operation delivers its result at its distance. -/
  | engineDelayedWrite (e : EngNo) (next : Fetch)
  /-- SELF_DETECTED_FAULT (R243). A self-detected fault is raised: PL_ALIVE_OUT drops, the outputs float or mute, and the restart path begins. -/
  | selfDetectedFault (src : FaultSrc)
  /-- FAULT_HOLD_END (R270). The hold after an uncounted fault ends, the outputs float, and the device restarts. -/
  | faultHoldEnd
  /-- MPY (R52). The M slot loads accumulators with four exact products. -/
  | mpy (e : EngNo) (o : MOp)
  /-- MAC (R52). The M slot adds four exact products to accumulators. -/
  | mac (e : EngNo) (o : MOp)
  /-- MSU (R52). The M slot subtracts four exact products from accumulators. -/
  | msu (e : EngNo) (o : MOp)
  /-- EXT (R82). Extracts a shifted, rounded or floored, saturated accumulator value into a V register. -/
  | ext (e : EngNo) (k : Fin 4) (vd : VNo) (sh : Fin 64) (rnd trk : Bool)
  /-- ADD (R83). Wrapping addition of two V registers. -/
  | add (e : EngNo) (vd vs : VNo)
  /-- SUB (R83). Wrapping subtraction of two V registers. -/
  | sub (e : EngNo) (vd vs : VNo)
  /-- ADDS (R83). Saturating addition of two V registers. -/
  | adds (e : EngNo) (vd vs : VNo)
  /-- SUBS (R83). Saturating subtraction of two V registers. -/
  | subs (e : EngNo) (vd vs : VNo)
  /-- MOV (R83). Copies Vs to Vd. -/
  | mov (e : EngNo) (vd vs : VNo)
  /-- MIN (R83). Writes the signed minimum of Vd and Vs. -/
  | min_ (e : EngNo) (vd vs : VNo)
  /-- MAX (R83). Writes the signed maximum of Vd and Vs. -/
  | max_ (e : EngNo) (vd vs : VNo)
  /-- AND (R83). Bitwise AND of Vd and Vs. -/
  | and_ (e : EngNo) (vd vs : VNo)
  /-- OR (R83). Bitwise OR of Vd and Vs. -/
  | or_ (e : EngNo) (vd vs : VNo)
  /-- XOR (R83). Bitwise XOR of Vd and Vs. -/
  | xor_ (e : EngNo) (vd vs : VNo)
  /-- SEL (R83). Selects Vs or Vd according to bit 31 of V0. -/
  | sel (e : EngNo) (vd vs : VNo)
  /-- CLT (R83). Writes an all-ones mask if Vd < Vs, otherwise 0. -/
  | clt (e : EngNo) (vd vs : VNo)
  /-- CLE (R83). Writes an all-ones mask if Vd ≤ Vs, otherwise 0. -/
  | cle (e : EngNo) (vd vs : VNo)
  /-- SHI (R83). Shifts Vd by an immediate, saturating left or rounding right. -/
  | shi (e : EngNo) (vd : VNo) (n : BitVec 6)
  /-- SHT (R83). Shifts Vd by an immediate, wrapping left or flooring right. -/
  | sht (e : EngNo) (vd : VNo) (n : BitVec 6)
  /-- NOP (R84). The A slot does nothing. -/
  | nop (e : EngNo)
  /-- NEG (R84). Saturating negation of Vd. -/
  | neg (e : EngNo) (vd : VNo)
  /-- ABS (R84). Saturating absolute value of Vd. -/
  | abs (e : EngNo) (vd : VNo)
  /-- NOT (R84). Bitwise inversion of Vd. -/
  | not_ (e : EngNo) (vd : VNo)
  /-- EXP (R59). Writes the exponent of Vd as an integer. -/
  | exp (e : EngNo) (vd : VNo)
  /-- NORM (R59). Normalises Vd by its exponent. -/
  | norm (e : EngNo) (vd : VNo)
  /-- TRK (R61). Folds the exponent of Vd into BX. -/
  | trk (e : EngNo) (vd : VNo)
  /-- BXCLR (R61). Sets BX to 31. -/
  | bxclr (e : EngNo)
  /-- BXRD (R84). Reads BX into Vd. -/
  | bxrd (e : EngNo) (vd : VNo)
  /-- BXS (R61). Block-scales Vd by BX minus a guard. -/
  | bxs (e : EngNo) (vd : VNo) (g : Fin 8)
  /-- EXPA (R60). Writes the exponent of an accumulator to Vd. -/
  | expa (e : EngNo) (vd : VNo) (k : Fin 4)
  /-- ACLR (R84). Clears an accumulator. -/
  | aclr (e : EngNo) (k : Fin 4)
  /-- APRD (R55). Reads one part of an accumulator into Vd. -/
  | aprd (e : EngNo) (vd : VNo) (part : AccPart) (k : Fin 4)
  /-- APWR (R55). Writes one part of an accumulator from a V register. -/
  | apwr (e : EngNo) (vs : VNo) (part : AccPart) (k : Fin 4)
  /-- FLGRD (R85). Reads FLG into Vd. -/
  | flgrd (e : EngNo) (vd : VNo)
  /-- FLGCLR (R85). Clears the FLG bits named by the mask. -/
  | flgclr (e : EngNo) (mask : BitVec 6)
  /-- RRBRD (R84). Reads RRB into Vd. -/
  | rrbrd (e : EngNo) (vd : VNo)
  /-- RRBSET (R84). Sets RRB to an immediate. -/
  | rrbset (e : EngNo) (val : BitVec 5)
  /-- RRBWR (R84). Sets RRB from bits 4:0 of a V register. -/
  | rrbwr (e : EngNo) (vs : VNo)
  /-- SETK (R86). Loads a K register with a zero-extended immediate. -/
  | setk (e : EngNo) (n : Fin 16) (imm : BitVec 20)
  /-- SETM (R86). Loads an M register with a sign-extended immediate. -/
  | setm (e : EngNo) (n : Fin 16) (imm : BitVec 20)
  /-- ADDK (R86). Adds a signed immediate to a K register, modulo 2^24. -/
  | addk (e : EngNo) (n : Fin 16) (imm : BitVec 20)
  /-- ADDM (R86). Adds a signed immediate to an M register, modulo 2^24. -/
  | addm (e : EngNo) (n : Fin 16) (imm : BitVec 20)
  /-- SETVH (R86). Sets Vd to an immediate shifted left by 14. -/
  | setvh (e : EngNo) (vd : VNo) (imm : BitVec 18)
  /-- SETVL (R86). Sets Vd to a sign-extended immediate. -/
  | setvl (e : EngNo) (vd : VNo) (imm : BitVec 18)
  /-- INSL (R86). Replaces bits 13:0 of Vd with an immediate. -/
  | insl (e : EngNo) (vd : VNo) (imm : BitVec 14)
  /-- LDA (R55). Loads an accumulator with a shifted V register. -/
  | lda (e : EngNo) (k : Fin 4) (vs : VNo) (sh : Fin 64)
  /-- MOVKV (R86). Moves a V register into a K or M register. -/
  | movkv (e : EngNo) (km : Bool) (n : Fin 16) (vs : VNo)
  /-- MOVVK (R86). Moves a K or M register into a V register. -/
  | movvk (e : EngNo) (km : Bool) (n : Fin 16) (vd : VNo)
  /-- LD (R88). An L slot loads a local-memory word into Vt, with optional pointer update. -/
  | ld (e : EngNo) (slot : LSlot) (mode : LdMode) (vt : VNo) (kp : Fin 4) (ecc : Ecc)
  /-- ST (R88). An L slot stores Vt to local memory, with optional pointer update. -/
  | st (e : EngNo) (slot : LSlot) (mode : StMode) (vt : VNo) (kp : Fin 4)
  /-- XNOP (R91). The X slot does nothing. -/
  | xnop (e : EngNo)
  /-- ROT (R49). Rotates the rotating register file at the end of the cycle. -/
  | rot (e : EngNo)
  /-- PHASE (R100). Ends the current program phase. -/
  | phase (e : EngNo)
  /-- LOOP (R94). Runs the following body a fixed number of times, with optional rotation. -/
  | loop (e : EngNo) (rot : Bool) (lenM1 : Fin 64) (cntM1 : Fin 1024)
  /-- REP (R97). Repeats the following word a fixed number of times, on warden engines only. -/
  | rep (e : EngNo) (cntM1 : Fin 32768)
  /-- END (R101). Ends the program for the rest of the program window. -/
  | endProg (e : EngNo)
  /-- XR (R92). Reads an exchange in-window word and increments K14. -/
  | xr (e : EngNo) (n : Fin 32) (ecc : Ecc)
  /-- XW (R92). Writes an exchange out-window word and increments K15. -/
  | xw (e : EngNo) (n : Fin 32)
  /-- REQ_DELAY_TAP (R109). Requests an interpolated delay-tap sample through a handle. -/
  | reqDelayTap (e : EngNo) (n : Fin 32) (ecc : List Ecc)
  /-- REQ_GAIN_CELL (R93). Requests the current gain of a gain cell. -/
  | reqGainCell (e : EngNo) (n : Fin 32)
  /-- SV_LD (R316). A supervisor load into a W register. -/
  | svLd (c : Fin 2) (m : SvMem) (ecc : Ecc)
  /-- SV_ST (R316). A supervisor store from a W register. -/
  | svSt (c : Fin 2) (m : SvMem) (ecc : Ecc)
  /-- SV_LDB (R316). Loads a B register from two words. -/
  | svLdb (c : Fin 2) (t b : Fin 8) (disp : Half) (ecc : Ecc × Ecc)
  /-- SV_STB (R316). Stores a B register to two words. -/
  | svStb (c : Fin 2) (t b : Fin 8) (disp : Half) (ecc ecc2 : Ecc)
  /-- SV_MOV (R317). Register move. -/
  | svMov (c : Fin 2) (d w : Fin 16)
  /-- SV_ADD (R317). Register addition. -/
  | svAdd (c : Fin 2) (d w : Fin 16)
  /-- SV_ADC (R317). Register addition with carry. -/
  | svAdc (c : Fin 2) (d w : Fin 16)
  /-- SV_SUB (R317). Register subtraction. -/
  | svSub (c : Fin 2) (d w : Fin 16)
  /-- SV_SBC (R317). Register subtraction with borrow. -/
  | svSbc (c : Fin 2) (d w : Fin 16)
  /-- SV_AND (R317). Register AND. -/
  | svAnd (c : Fin 2) (d w : Fin 16)
  /-- SV_OR (R317). Register OR. -/
  | svOr (c : Fin 2) (d w : Fin 16)
  /-- SV_XOR (R317). Register XOR. -/
  | svXor (c : Fin 2) (d w : Fin 16)
  /-- SV_SHL (R317). Left shift. -/
  | svShl (c : Fin 2) (d w : Fin 16)
  /-- SV_SHR (R317). Logical right shift. -/
  | svShr (c : Fin 2) (d w : Fin 16)
  /-- SV_SAR (R317). Arithmetic right shift. -/
  | svSar (c : Fin 2) (d w : Fin 16)
  /-- SV_CMP (R317). Sets flags from a subtraction. -/
  | svCmp (c : Fin 2) (d w : Fin 16)
  /-- SV_MUL (R317). Low half of a product. -/
  | svMul (c : Fin 2) (d w : Fin 16)
  /-- SV_MULHU (R317). High half of an unsigned product. -/
  | svMulhu (c : Fin 2) (d w : Fin 16)
  /-- SV_MULHS (R317). High half of a signed product. -/
  | svMulhs (c : Fin 2) (d w : Fin 16)
  /-- SV_TST (R317). Sets flags from an AND. -/
  | svTst (c : Fin 2) (d w : Fin 16)
  /-- SV_ADDI (R317). Adds a signed 8-bit immediate. -/
  | svAddi (c : Fin 2) (d : Fin 16) (imm : Byte)
  /-- SV_MOVI (R317). Loads a signed 8-bit immediate. -/
  | svMovi (c : Fin 2) (d : Fin 16) (imm : Byte)
  /-- SV_MOVW (R317). Loads a 16-bit immediate. -/
  | svMovw (c : Fin 2) (d : Fin 16) (imm : Half)
  /-- SV_ADDW (R317). Adds a 16-bit immediate. -/
  | svAddw (c : Fin 2) (d : Fin 16) (imm : Half)
  /-- SV_SUBW (R317). Subtracts a 16-bit immediate. -/
  | svSubw (c : Fin 2) (d : Fin 16) (imm : Half)
  /-- SV_ANDW (R317). ANDs a 16-bit immediate. -/
  | svAndw (c : Fin 2) (d : Fin 16) (imm : Half)
  /-- SV_ORW (R317). ORs a 16-bit immediate. -/
  | svOrw (c : Fin 2) (d : Fin 16) (imm : Half)
  /-- SV_XORW (R317). XORs a 16-bit immediate. -/
  | svXorw (c : Fin 2) (d : Fin 16) (imm : Half)
  /-- SV_CMPW (R317). Compares with a 16-bit immediate. -/
  | svCmpw (c : Fin 2) (d : Fin 16) (imm : Half)
  /-- SV_TSTW (R317). Tests against a 16-bit immediate. -/
  | svTstw (c : Fin 2) (d : Fin 16) (imm : Half)
  /-- SV_NOP (R316). Does nothing. -/
  | svNop (c : Fin 2)
  /-- SV_NOT (R316). Inverts a W register. -/
  | svNot (c : Fin 2) (d : Fin 16)
  /-- SV_NEG (R316). Negates a W register. -/
  | svNeg (c : Fin 2) (d : Fin 16)
  /-- SV_PAR (R316). Computes the parity of a W register. -/
  | svPar (c : Fin 2) (d : Fin 16)
  /-- SV_BREV (R316). Reverses the bits of a W register. -/
  | svBrev (c : Fin 2) (d : Fin 16)
  /-- SV_SWAB (R316). Swaps the bytes of a W register. -/
  | svSwab (c : Fin 2) (d : Fin 16)
  /-- SV_WAIT (R320). Stops issue until an enabled event is pending. -/
  | svWait (c : Fin 2)
  /-- SV_SIG (R320). Raises event XCORE in the other core. -/
  | svSig (c : Fin 2)
  /-- SV_BCC (R318). Conditional branch with a delay slot. -/
  | svBcc (c : Fin 2) (cond : Fin 16) (disp : BitVec 7)
  /-- SV_BRA (R318). Unconditional branch with a delay slot. -/
  | svBra (c : Fin 2) (disp : BitVec 10)
  /-- SV_CALL (R318). Branch that links the return address into B7. -/
  | svCall (c : Fin 2) (disp : BitVec 10)
  /-- SV_JMPB (R318). Jumps to the address in a B register. -/
  | svJmpb (c : Fin 2) (b : Fin 8)
  /-- SV_MOVB (R316). Copies a B register. -/
  | svMovb (c : Fin 2) (d b : Fin 8)
  /-- SV_ADDB (R316). Adds a W register to a B register. -/
  | svAddb (c : Fin 2) (d : Fin 8) (w : Fin 16)
  /-- SV_BLO (R316). Reads the low half of a B register. -/
  | svBlo (c : Fin 2) (d : Fin 16) (b : Fin 8)
  /-- SV_BHI (R316). Reads the high bits of a B register. -/
  | svBhi (c : Fin 2) (d : Fin 16) (b : Fin 8)
  /-- SV_SETBL (R316). Sets the low half of a B register. -/
  | svSetbl (c : Fin 2) (d : Fin 8) (w : Fin 16)
  /-- SV_SETBH (R316). Sets the high bits of a B register. -/
  | svSetbh (c : Fin 2) (d : Fin 8) (w : Fin 16)
  /-- SV_SETB (R316). Loads a B register with a 24-bit address. -/
  | svSetb (c : Fin 2) (d : Fin 8) (a : Addr24)
  /-- SV_CRC16 (R319). A 16-bit CRC step over two data bytes. -/
  | svCrc16 (c : Fin 2) (d w : Fin 16)
  /-- SV_CRC32 (R319). A 32-bit CRC step over two data bytes. -/
  | svCrc32 (c : Fin 2) (d w : Fin 16)
  /-- SV_CRC16B (R319). A 16-bit CRC step over one byte. -/
  | svCrc16b (c : Fin 2) (d w : Fin 16)
  /-- SV_CRC32B (R319). A 32-bit CRC step over one byte. -/
  | svCrc32b (c : Fin 2) (d w : Fin 16)
  /-- SV_MFS (R320). Reads a special register. -/
  | svMfs (c : Fin 2) (d idx : Fin 16)
  /-- SV_MTS (R320). Writes a special register. -/
  | svMts (c : Fin 2) (idx w : Fin 16)
  /-- ENG_FAULT_CLEAR (R69). Clearing ENG_FAULT.valid clears more and injected and re-arms fault recording. -/
  | engFaultClear (c : ClNo)
  /-- FINJ_ARM (R70). Arms a test fault injection of a given kind on an engine. -/
  | finjArm (c : ClNo) (e : Fin 16) (kind : Fin 8)
  /-- FINJ_DISARM (R70). Cancels a pending fault injection. -/
  | finjDisarm (c : ClNo) (v : Word)
  /-- ENG_LOG_CLR (R71). Clears ENG_FLAGSe of all 16 engines of a cluster. -/
  | engLogClr (c : ClNo)
  /-- ENG_CNT_CLR (R66). Clears ENG_ECC_CNT and ENG_SCRUB.wbq_drop. -/
  | engCntClr (c : ClNo)
  /-- REF_LOSS (R25). The selected reference meets a loss criterion, and PLL-A enters HOLDOVER with a frozen control word. -/
  | refLoss (src : Fin 5)
  /-- ALT_FALLBACK (R27). After the alternate source has been valid for 1 s, PLL-A leaves holdover for it. -/
  | altFallback
  /-- REF_REVERT (R27). After the primary has been valid for 10 s, PLL-A returns to it. -/
  | refRevert
  /-- SOURCE_VALID_AGAIN (R25). A lost source becomes valid again after meeting the criteria for 1 s. -/
  | sourceValidAgain (src : Fin 5)
  /-- PLLA_UPDATE (R24). PLL-A's periodic update computes its control word and applies bandwidth changes. -/
  | pllaUpdate (errNs : Int)
  /-- PLLA_LOCK (R24). PLL-A enters LOCKED once the phase error has stayed within ±50 ns for the required time. -/
  | pllaLock
  /-- CLK_REFSEL_WRITE (R27). A write of CLK_REFSEL changes the source through HOLDOVER and ACQUIRE. -/
  | clkRefselWrite (v : Word)
  /-- PLLA_CTL_WRITE (R24). A write of CLK_PLLA_CTL sets bandwidth and slew, or freezes or releases PLL-A. -/
  | pllaCtlWrite (v : Word)
  /-- VTUNE_WARN (R32). The PLL-B tuning voltage nears a band edge, and the warning bits are set. -/
  | vtuneWarn (near : Bool)
  /-- PLLB_UNLOCK (R33). PLL-B unlock or loss of XTAL is detected as a self-detected fault, and PLL-B restarts. -/
  | pllbUnlock (xtal : Bool)
  /-- CLK_OUT_CONFIG (R34). A change of a clock output's enable or divider takes effect at the next tick boundary. -/
  | clkOutConfig (n : Fin 8) (div : Bool) (v : Word)
  /-- CLK_WCLK_CONFIG (R35). A write of CLK_WCLK_CTL enables or delays WCLK_OUT. -/
  | clkWclkConfig (v : Word)
  /-- TICK_COUNT_READ (R40). A read of the low word of TICK_COUNT latches the high word. -/
  | tickCountRead (path : Path)
  /-- BANK_HANDOVER_REQUEST (R128). A supervisor go in MEM_BANK_OWNERb requests a bank handover, which is accepted into CLEARING or refused. -/
  | bankHandoverRequest (path : Path) (b : Fin 384) (v : Word)
  /-- BANK_CLEAR_DONE (R129). Clearing of a bank ends, and the new owner takes it at the next boundary. -/
  | bankClearDone (b : Fin 384)
  /-- BANK_POWER_REQUEST (R130). A write of MEM_BANK_PWRb requests ON, RETENTION or OFF for a bank. -/
  | bankPowerRequest (b : Fin 384) (v : Word)
  /-- BANK_ZERO_FILL_DONE (R130). A bank powered on from OFF completes its zero fill and becomes ON. -/
  | bankZeroFillDone (b : Fin 384)
  /-- MEM_CNT_CLR (R117). Clears the MEM conflict and error counters. -/
  | memCntClr
  /-- BIT_SET_WRITE (R133). A write to a bit-set alias ORs the value into the word atomically. -/
  | bitSetWrite (t : AliasTarget)
  /-- BIT_CLEAR_WRITE (R133). A write to a bit-clear alias clears the value's bits in the word atomically. -/
  | bitClearWrite (t : AliasTarget)
  /-- ASRC_UNLOCK (R148). An ASRC whose receiver loses lock or whose ratio leaves its range enters UNLOCKED and delivers 0. -/
  | asrcUnlock (n : Fin 8) (lost oor : Bool)
  /-- ASRC_LOCK (R148). An ASRC completes acquisition and delivers converted samples after one tick in LOCKED. -/
  | asrcLock (n : Fin 8) (ratio : Half) (rate : Fin 9)
  /-- QS_INPUT_WORD (R295). A Quickset input word is latched, checked for framing and fed to the mixer and decimator. -/
  | qsInputWord (lane : Fin 16) (j : Fin 16) (raw : Word) (fs : Option (BitVec 8)) (first : Bool)
  /-- QS_OUTPUT_WORD (R152). A Quickset output word starts 88 IOCLK periods after its input word's last bit. -/
  | qsOutputWord (lane : Fin 16) (j : Fin 16)
  /-- COMMIT (R161). An Audon COMMIT is admitted or refused, and an accepted group is booked with a promised tick. -/
  | commit (sess : Fin 4096) (reqId : Word) (flags : Byte) (gseq : Word) (lease : Word) (ents : List RawEntry)
  /-- AUDON_READ (R175). An Audon READ returns words of the current copy of a block. -/
  | audonRead (sess : Fin 4096) (reqId : Word) (flags : Byte) (block : Half) (first rsv : Byte) (count : Half)
  /-- LEASE_ACQUIRE (R179). An Audon request for a lease on 1 to 64 blocks is granted or refused. -/
  | leaseAcquire (sess : Fin 4096) (reqId : Word) (flags : Byte) (duration : Word) (blocks : List Half)
  /-- LEASE_RENEW (R180). An Audon request moves a held lease's end tick. -/
  | leaseRenew (sess : Fin 4096) (reqId : Word) (flags : Byte) (lease duration : Word)
  /-- LEASE_RELEASE (R180). An Audon request releases a lease at the next boundary. -/
  | leaseRelease (sess : Fin 4096) (reqId : Word) (flags : Byte) (lease : Word)
  /-- AUDON_RESET (R216). An Audon RESET requests a reset of the session's own partition. -/
  | audonReset (sess : Fin 4096) (reqId : Word) (flags : Byte)
  /-- CLOSE (R382). An Audon CLOSE ends the session at the next boundary. -/
  | close (sess : Fin 4096) (reqId : Word) (flags : Byte)
  /-- PING (R381). An Audon PING returns TICK_COUNT. -/
  | ping (sess : Fin 4096) (reqId : Word) (flags : Byte)
  /-- CMT_SUBMIT (R159). A go in CMT_SUBMIT submits submission-buffer entries as one partition-0 group. -/
  | cmtSubmit (v : Word)
  /-- FOLLOWER_CONFIRM (R185). The follower's confirmation arrives, and the leader sends ACCEPTED. -/
  | followerConfirm (seq : Word)
  /-- REPLICA_LATE (R186). A missing confirmation by the end of tick Ta + 1 sets replica_late and splits the pair. -/
  | replicaLate
  /-- LEASE_EXPIRY (R181). A lease's end tick arrives, and the lease ends or breaks at step 2. -/
  | leaseExpiry (index : Fin 16384)
  /-- CMT_CNT_CLR (R177). Clears CMT_GC_STAT.timeouts. -/
  | cmtCntClr
  /-- LEASE_SEL_WRITE (R179). A write of LEASE_SEL latches a lease-table entry into LEASE_TBL. -/
  | leaseSelWrite (v : Word)
  /-- VERIFY_SLOT (R209). Starts verification of the bundle in a flash slot as a full image. -/
  | verifySlot (slot : Fin 2)
  /-- VERIFY_GRAFT (R209). Starts verification of a graft image as a composite. -/
  | verifyGraft (part : Fin 256)
  /-- GRAFT (R210). Starts verification of a graft and its application if it passes. -/
  | graft (part : Fin 256)
  /-- VERIFY_COMPLETE (R204). The verifier finishes its steps, writes ESP_ERR and passes or fails the image. -/
  | verifyComplete (flashErr : Option (Fin 1024))
  /-- GRAFT_RESET (R210). At boundary s, the partition reset that starts a graft takes effect. -/
  | graftReset (part : Fin 256)
  /-- GRAFT_COMPLETE (R210). At boundary c, the graft completes: the new structure applies and engines and lines start. -/
  | graftComplete (part : Fin 256)
  /-- PART_RESET_REQUEST (R216). A go in PART_RESET requests a partition reset, which is accepted, absorbed or refused. -/
  | partResetRequest (v : Word)
  /-- PARTITION_RESET (R184). At boundary r, the partition's leases break, its groups are discarded and its engines halt. -/
  | partitionReset (p : Fin 256)
  /-- PARTITION_RESET_COMPLETE (R217). At boundary c, the partition's engines and lines start and admission resumes. -/
  | partitionResetComplete (p : Fin 256)
  /-- THN_LOG_CLR (R228). Clears every Thorn trip log entry and THN_TRIP_WP. -/
  | thnLogClr
  /-- JTAG_INSTRUCTION (R222). An IEEE 1149.1 instruction load other than BYPASS or IDCODE ends normal service. -/
  | jtagInstruction (test : Bool)
  /-- LINK_FRAME (R233). A Pleach link frame arrives, is checked by CRC and delivers its items. -/
  | linkFrame (f : LinkFrame)
  /-- LINK_DOWN (R239). No valid heartbeat for two ticks sets link_down and detaches the follower. -/
  | linkDown
  /-- SKEW_ERROR (R235). Tick skew above 20 ns for 16 ticks makes role B leave the pair. -/
  | skewError
  /-- PL_ALIVE_FALL (R244). PL_ALIVE_IN falls, and a ripe follower takes over the outputs. -/
  | plAliveFall
  /-- TAKEOVER_NOTICE (R246). An owner receiving a takeover notice gives up both roles and detaches. -/
  | takeoverNotice
  /-- DETACH_NOTICE (R248). A follower receiving a detach notice becomes a detached twin. -/
  | detachNotice (last : Word)
  /-- FOLLOWER_DETACH (R248). A follower unable to send a confirmation for a whole tick detaches itself. -/
  | followerDetach (last : Word)
  /-- DIV_CLR (R241). A write of TWN_CTL.div_clr ends every divergence mute. -/
  | divClr
  /-- HO_GO (R251). The owner requests a planned handover at boundary H. -/
  | hoGo
  /-- PLANNED_HANDOVER (R251). At boundary H, both roles pass to the partner. -/
  | plannedHandover
  /-- TWIN_LEAVE (R247). A write of TWN_CTL.leave makes the twin DETACHED unless it owns a paired partner. -/
  | twinLeave
  /-- JOIN_REQUEST (R252). A joiner enters JOINING, and the partner names a joining tick J. -/
  | joinRequest (j : BitVec 64)
  /-- JOIN_TICK (R252). At boundary J, the joiner adopts TICK_COUNT, starts its engines and enters COPYING. -/
  | joinTick (pins : TickPins)
  /-- COPY_SET_TRANSFER (R255). At boundary k, a copy set's recursive state is copied over the link. -/
  | copySetTransfer (e : EngNo) (words : List CopyWord)
  /-- BULK_LINE_COPY (R256). A tier-2 line copy completes, and the joiner sets the line's age to length. -/
  | bulkLineCopy (c : ClNo) (line : Fin 1024) (words : List Word)
  /-- BECOME_RIPE (R257). The joiner becomes RIPE once lines, bridges and ASRCs are equal and the CRCs match. -/
  | becomeRipe
  /-- AON_RESET (R261). An AON reset enters COLD and starts the start sequence. -/
  | aonReset (strap : BitVec 9)
  /-- SUPPLIES_READY (R262). The core supplies are in range, and the ROM chooses the slot and leaves COLD. -/
  | suppliesReady
  /-- TJ_WINDOW_REACHED (R263). Every sensor lies within the start window, and L1 ends. -/
  | tjWindowReached
  /-- TJ_RANGE_TIMEOUT (R263). After 600 s outside the start window, the start fails with TJ_RANGE. -/
  | tjRangeTimeout
  /-- PLLB_LOCK (R262). PLL-B locks in L2, and the LOCK fields close. -/
  | pllbLock (band : Fin 16)
  /-- DRAM_TRAINING_DONE (R126). DRAM training, firmware load and image placement of L3 end, or training fails. -/
  | dramTrainingDone (failed : BitVec 16)
  /-- SETTINGS_APPLIED (R276). L4 applies the newest readable settings generation, or fails the start with SETTINGS. -/
  | settingsApplied
  /-- FW_READY (R262). The supervisor firmware reports ready, and L5 ends. -/
  | fwReady
  /-- TICK_GENERATOR_START (R262). The tick generator starts, aligned as required, and the device enters RUN or RIPENING. -/
  | tickGeneratorStart (pins : TickPins) (common : Bool)
  /-- TWIN_LINK_TIMEOUT (R266). Role B without an aligned link for 500 ms starts as a sole twin. -/
  | twinLinkTimeout
  /-- LATE_LINK_ALIGN (R267). Two owning twins align late, and role B yields and restarts. -/
  | lateLinkAlign
  /-- RESTART (R273). A write of BOOT_CTL.restart restarts the device. -/
  | restart
  /-- CONFIRM (R274). A confirm in RUN sets SLOT_LKG, clears START_FAILS and marks generations confirmed. -/
  | confirm (path : Path)
  /-- SAVE (R277). Starts saving a new settings generation. -/
  | save
  /-- SAVE_COMPLETE (R278). A settings save finishes and marks its slot VALID. -/
  | saveComplete
  /-- ENTER_COPPICE (R279). A write of BOOT_CTL.enter_coppice enters Coppice mode with reason HOST. -/
  | enterCoppice
  /-- SLOT_ACTIVE_WRITE (R274). A write of SLOT_ACTIVE sets the slot of the next start. -/
  | slotActiveWrite (v : BitVec 2)
  /-- HOST_WAIT_EXPIRY (R271). HOST_WAIT expires, SLOT_ACTIVE becomes SLOT_LKG, and the device restarts. -/
  | hostWaitExpiry
  /-- PROVING_TIMEOUT (R272). After 600 s of continuous RUN, START_FAILS is cleared and the start stops proving. -/
  | provingTimeout
  /-- AON_BROWNOUT (R269). The AON LDO over-current detector records AON_BROWNOUT and resets the AON domain. -/
  | aonBrownout
  /-- OTP_KEY_HASH_PROGRAM (R282). Programs an owner key hash slot. -/
  | otpKeyHashProgram (path : Path) (arg : Fin 16)
  /-- OTP_REVOKE (R282). Sets a key revoke bit. -/
  | otpRevoke (path : Path) (arg : Fin 16)
  /-- OTP_MIN_SEC_RAISE (R282). Raises the minimum security version. -/
  | otpMinSecRaise (path : Path)
  /-- OTP_FAIL_LIMIT (R282). Programs fail_limit. -/
  | otpFailLimit (path : Path)
  /-- OTP_HOST_WAIT_DEFAULT (R282). Programs host_wait_default. -/
  | otpHostWaitDefault (path : Path)
  /-- OTP_STUB_ENTRY (R282). Programs one stub route entry. -/
  | otpStubEntry (path : Path) (arg : Fin 16)
  /-- OTP_STUB_CONFIG (R282). Programs the stub enable, family, crystal and master bits. -/
  | otpStubConfig (path : Path)
  /-- OTP_BOOT_SRC (R282). Programs boot_src. -/
  | otpBootSrc (path : Path)
  /-- OTP_KEY_HASH_READ (R282). Reads a key hash into BOOT_OTP_DATA0–7. -/
  | otpKeyHashRead (path : Path) (arg : Fin 16)
  /-- OTP_PROGRAM_DONE (R282). OTP programming completes and busy clears. -/
  | otpProgramDone
  /-- TDM_SLOT_INPUT (R286). A TDM input slot word is latched and converted. -/
  | tdmSlotInput (port : Fin 32) (slot : Fin 16) (j : Fin 4) (raw : Word) (fs : Option (BitVec 8)) (first : Bool)
  /-- TDM_SLOT_OUTPUT (R286). A TDM output slot word is launched. -/
  | tdmSlotOutput (port : Fin 32) (slot : Fin 16) (j : Fin 4)
  /-- TDM_LOCK (R288). After 16 good frames, a slave group enters LOCKED. -/
  | tdmLock (g : Fin 4)
  /-- TDM_UNLOCK (R288). Four bad frames or a missing bit clock return the group to SEARCH. -/
  | tdmUnlock (g : Fin 4) (clkLost : Bool)
  /-- TDM_CNT_CLR (R288). Clears every TDM fs_err count. -/
  | tdmCntClr
  /-- AES_RX_SUBFRAME (R290). An AES3 subframe is received, checked and passed to the ASRC. -/
  | aesRxSubframe (n : Fin 8) (chB : Bool) (audio : BitVec 24) (v parityBad bpBad : Bool)
  /-- AES_RX_LOCK (R290). An AES3 receiver locks to its input. -/
  | aesRxLock (n : Fin 8)
  /-- AES_CS_BLOCK (R291). A 192-frame channel-status block is checked and shown. -/
  | aesCsBlock (n : Fin 8) (chB : Bool) (bytes : List Byte)
  /-- AES_TX_FRAME (R292). An AES3 transmitter sends a frame with its channel-status bits. -/
  | aesTxFrame (n : Fin 8) (i : Fin 4)
  /-- AES_CNT_CLR (R290). Clears every par_err and bp_err. -/
  | aesCntClr
  /-- QS_LOCK (R296). The Quickset port enters LOCKED or returns to SEARCH by the TDM rules. -/
  | qsLock (clkLost : Bool)
  /-- QS_CNT_CLR (R295). Clears the Quickset error counters. -/
  | qsCntClr
  /-- ETH_FRAME_RX (R299). An Ethernet frame is accepted and classified to PTP, Audon, a stream, the supervisor or discard. -/
  | ethFrameRx (f : EthFrame)
  /-- NET_LINK_CHANGE (R298). An Ethernet link comes up or goes down. -/
  | netLinkChange (port : Fin 4) (up : Bool)
  /-- NET_FALLBACK (R298). After 2 s without its configured link, a port falls back to 1000BASE-X or retries. -/
  | netFallback (port : Fin 4)
  /-- STREAM_ENTRY_READ (R301). Reads a stream entry into NET_STRWw. -/
  | streamEntryRead
  /-- STREAM_ENTRY_WRITE (R301). Writes a stream entry, which is accepted or refused. -/
  | streamEntryWrite
  /-- STREAM_ENTRY_APPLY (R302). An accepted stream-entry write takes effect at its boundary. -/
  | streamEntryApply
  /-- STREAM_PACKET_TX (R306). A transmit packet is sent once its last sample's launch instant has passed. -/
  | streamPacketTx (index : Fin 512)
  /-- NET_TX_MODE_WRITE (R307). A write of NET_CTL.tx_mode takes effect at the next boundary. -/
  | netTxModeWrite (v : Word)
  /-- NET_CNT_CLR (R299). Clears the network and stream counters. -/
  | netCntClr
  /-- PTP_ADJ_WRITE (R310). A write of the PHC rate correction counts as a servo update. -/
  | ptpAdjWrite (v : Word)
  /-- PTP_STEP_WRITE (R310). Adds a signed offset to the PHC. -/
  | ptpStepWrite (v : Word)
  /-- PTP_VALID_WRITE (R310). Marks the PTP_DCO valid or invalid. -/
  | ptpValidWrite (v : Word)
  /-- SV_DELAYED_RESULT (R321). A supervisor result becomes visible at its distance. -/
  | svDelayedResult (c : Fin 2) (fetch : Ecc)
  /-- SV_EVENT (R320). A supervisor event sets its EVT bit and releases a waiting core. -/
  | svEvent (c : Fin 2) (n : Fin 14)
  /-- CORE_STOP (R323). A core fetches a forbidden code or meets an uncorrectable error and stops. -/
  | coreStop (core : Fin 2) (cause : Fin 8)
  /-- SV_CWIN_LOW_READ (R314). Performs a 32-bit control read and latches the high half. -/
  | svCwinLowRead (c : Fin 2) (r : BitVec 21)
  /-- SV_CWIN_LOW_WRITE (R314). Fills the control-window write buffer. -/
  | svCwinLowWrite (c : Fin 2) (v : Half)
  /-- SV_CWIN_HIGH_WRITE (R314). Performs one 32-bit control write. -/
  | svCwinHighWrite (c : Fin 2) (r : BitVec 21) (v : Half)
  /-- WDT_KICK (R327). A valid kick sequence starts a new watchdog period. -/
  | wdtKick
  /-- WDT_WARN (R327). At half the timeout, the watchdog raises WDT_WARN. -/
  | wdtWarn
  /-- WATCHDOG_RESTART (R328). On timeout or core stop, both supervisor cores are restarted. -/
  | watchdogRestart
  /-- FIRMWARE_ENTRY (R328). After a watchdog restart, both cores start at their entries. -/
  | firmwareEntry
  /-- FLASH_PROGRAM_PAGE (R330). The flash port programs a 256-byte page. -/
  | flashProgramPage (core : Fin 2)
  /-- FLASH_ERASE_BLOCK (R330). The flash port erases a 64 KiB block. -/
  | flashEraseBlock (core : Fin 2)
  /-- FLASH_CMD_DONE (R330). A flash command completes. -/
  | flashCmdDone (err : Bool)
  /-- FLASH_SERVICE_ERASE (R331). A mailbox flash-service request to erase a slot. -/
  | flashServiceErase (err : Bool)
  /-- FLASH_SERVICE_WRITE (R331). A mailbox flash-service request to write data into a slot. -/
  | flashServiceWrite (err : Bool)
  /-- DMA_GO (R347). Starts a channel at HEAD. -/
  | dmaGo (n : Fin 32)
  /-- DMA_ABORT (R347). Aborts a channel at its next beat boundary. -/
  | dmaAbort (n : Fin 32 × MemFind)
  /-- DMA_DOORBELL (R337). Makes a channel read the descriptor at HEAD again. -/
  | dmaDoorbell (n : Fin 32)
  /-- DMA_SOFT_REQUEST (R341). A software pacing request. -/
  | dmaSoftRequest (n : Fin 32)
  /-- DMA_TICK_REQUEST (R341). The TICK request rises at device cycle 384. -/
  | dmaTickRequest
  /-- DMA_BEAT (R343). One 32-byte beat is granted to the ready channel of highest priority, after its window check. -/
  | dmaBeat (meet : BeatMeet)
  /-- DMA_BARRIER_DONE (R339). A barrier confirms arrival of the data, and completion writes follow. -/
  | dmaBarrierDone (n : Fin 32 × MemFind × MemFind)
  /-- DMA_READ_DATA (R338). Read data for a channel arrives. -/
  | dmaReadData (n : Fin 32) (bytes : List Byte)
  /-- DMA_BUS_ERROR (R345). A bus error stops every running channel. -/
  | dmaBusError (kind : BusError) (ch : Option (Fin 32)) (space : Fin 3) (addr : BitVec 64) (cycle : BitVec 15)
  /-- DMA_RESTART (R346). The supervisor resumes the masked stopped channels. -/
  | dmaRestart (path : Path) (mask : Word) (withStop : Bool)
  /-- DMA_FILL_DEC (R342). Subtracts bytes from a channel's fill count. -/
  | dmaFillDec (n : Fin 32) (v : Word)
  /-- DMA_CNT_CLR (R341). Clears the DMA stop count and every req_over. -/
  | dmaCntClr
  /-- DOMAIN_SLEEP (R350). A write of PWR_DOM_CTLd.sleep enters the idle target if the domain is idle. -/
  | domainSleep (d : Fin 17) (quiet withWake : Bool)
  /-- DOMAIN_WAKE (R352). A write of PWR_DOM_CTLd.wake wakes a domain as a class-L event. -/
  | domainWake (d : Fin 17)
  /-- IDLE_TIMER_EXPIRY (R350). A domain's idle timer expires, and the domain enters its idle target. -/
  | idleTimerExpiry (d : Fin 17) (quiet withWake : Bool)
  /-- DOMAIN_ENTRY_DONE (R351). A domain completes ENTERING, and a latched wake is replayed. -/
  | domainEntryDone (d : Fin 17) (level : Bool)
  /-- DOMAIN_PART_READY (R351). A waking domain's supply, clock, memory or logic part signals ready. -/
  | domainPartReady (d : Fin 17)
  /-- DRAM_ACCESS_WAKE (R352). A DMA access to DRAM wakes DAU/DRAM. -/
  | dramAccessWake
  /-- NET_FRAME_WAKE (R352). A matching frame wakes NET. -/
  | netFrameWake (f : EthFrame)
  /-- PCIE_LINK_WAKE (R352). The PCIe link leaving L1, or PERST released, wakes PCIE. -/
  | pcieLinkWake
  /-- PLEACH_SIGNAL_WAKE (R352). A detected Pleach link signal wakes PLEACH. -/
  | pleachSignalWake
  /-- INPUT_ACTIVITY_WAKE (R352). Activity on a routed serial input wakes TDM, AES or QS. -/
  | inputActivityWake (k : Fin 3) (level lastPeriods : Bool)
  /-- AMON_COMPARATOR (R367). An AMON comparator fires, raises MON and wakes its domain. -/
  | amonComparator (n : Fin 8) (above : Bool)
  /-- CLUSTER_CONTROL_WRITE (R359). A cluster power-control or wake-map write is accepted or refused. -/
  | clusterControlWrite (a : Word) (v : Word)
  /-- CLUSTER_CONTROL_APPLY (R359). An accepted cluster power-control write takes effect at its boundary. -/
  | clusterControlApply
  /-- PWR_CNT_CLR (R354). Clears the residency counters and the overlap count. -/
  | pwrCntClr
  /-- TEMP_CONVERSION (R362). A temperature sensor conversion applies the thermal thresholds. -/
  | tempConversion (n : Fin 16) (temp : Half)
  /-- MON_PEAK_CLR (R363). Clears MON_TJ_MAX. -/
  | monPeakClr
  /-- SUPPLY_FAULT (R365). A rail outside ±6 % for 1 µs raises SUPPLY. -/
  | supplyFault (rail : Fin 9)
  /-- AMON_CONVERSION (R366). An AMON conversion slot produces a code with its status. -/
  | amonConversion (n : Fin 8) (code : BitVec 12) (moved : Bool)
  /-- REGISTER_WRITE (R370). A register write with no row of its own sets or clears fields, or is discarded. -/
  | registerWrite (t : WriteTarget)
  /-- MSIX_UNMASK (R371). Unmasking a vector with its pending bit set sends one message. -/
  | msixUnmask (vector : Fin 64)
  /-- DOORBELL_ENABLE (R372). Setting en on a doorbell page enables its rings, or is refused. -/
  | doorbellEnable (p : Fin 256) (irqEn : Bool) (rxLog2 txLog2 : BitVec 4)
  /-- DOORBELL_DISABLE (R372). Clearing en stops the rings after the frame in progress. -/
  | doorbellDisable (p : Fin 256) (irqEn : Bool) (rxLog2 txLog2 : BitVec 4)
  /-- DOORBELL_TX_TAIL (R372). A write of tx_tail rings the doorbell for new request frames. -/
  | doorbellTxTail (p : Fin 256) (v : Word)
  /-- ANSWER_WRITE (R372). An answer is written once it fits in the answer ring. -/
  | answerWrite (p : Fin 256)
  /-- LB_DATA_LO_READ (R373). Performs a 32-bit read at ptr and latches the high half. -/
  | lbDataLoRead (hi : Bool) (m : LbMeet)
  /-- LB_DATA_LO_WRITE (R373). Fills the local-bus write buffer. -/
  | lbDataLoWrite (v : Half)
  /-- LB_DATA_HI_WRITE (R373). Performs one 32-bit write at ptr. -/
  | lbDataHiWrite (v : Half) (m : LbMeet)
  /-- MBX_DB_SV (R375). Rings the supervisor doorbell from PCIe or the local bus. -/
  | mbxDbSv (path : Path)
  /-- MBX_DB_HOST (R371). The supervisor sends the host doorbell vector. -/
  | mbxDbHost
  /-- MBX_DB_LB (R374). The supervisor sets the local-bus doorbell interrupt. -/
  | mbxDbLb
  /-- OPEN_REQ (R378). An OPEN_REQ is authenticated and held for the supervisor's decision. -/
  | openReq (src : AudonSrc)
  /-- OPEN_DECISION (R378). The supervisor decides an open request, and OPEN_RESP is sent. -/
  | openDecision
  /-- OPEN_REQUEST_TIMEOUT (R378). An open request held for 2 s is discarded. -/
  | openRequestTimeout
  /-- AUDON_FRAME_VERIFIED (R380). A frame's tag is verified, and it is received for its session. -/
  | audonFrameVerified (src : AudonSrc)
  /-- SESSION_IDLE_TIMEOUT (R382). A session without frames for the idle time ends. -/
  | sessionIdleTimeout (sess : Fin 4096)
  /-- KEY_WRITE (R383). Writes a partition key slot. -/
  | keyWrite (path : Path) (slot : Fin 256)
  /-- KEY_ERASE (R383). Erases a partition key slot. -/
  | keyErase (path : Path) (slot : Fin 256)
  /-- KEY_WRITE_DONE (R383). A key slot write completes and the data registers clear. -/
  | keyWriteDone
  /-- SES_CNT_CLR (R380). Clears SES_CNT0 and SES_CNT1. -/
  | sesCntClr
  /-- CORE_SUPPLY_LOSS (R360). The core supplies leave their range while the device is in COLD, so the SV domain goes OFF and, with lp_en set, the AON LDO enters low-power mode. -/
  | coreSupplyLoss
  /-- FIRMWARE_READY_TIMEOUT (R264). Supervisor firmware that is not ready 50 ms after its load in L3 fails the start with FW_START. -/
  | firmwareReadyTimeout
deriving DecidableEq, Repr

end Sys2Proof
end

