-- ==== Sys2Proof/Decode.lean ====
section
/-!
DEFINITION. Decode.lean: the commands that a word spells. No row of spec/opcode_table.json has bits of its own, so no word
of the table spells a command. A word of an engine's program memory spells the operations of its five slots
(Tables 04.1 to 04.12): an engine row has its effect in the cycle in which the engine issues a word that spells it.
-/
namespace Sys2Proof

/-- The command that the `nbits`-bit word `w` spells: none, since the table gives no row any bits. -/
def decodeTableWord (_nbits _w : Nat) : Option Instr := none

/-! ### Engine words (R74 to R76) -/

/-- Word bits `lo` to `lo + n − 1` as bits. -/
def bitsAt (w : BitVec 64) (lo n : Nat) : BitVec n := w.extractLsb' lo n

/-- Word bits `lo` to `lo + n − 1` as a number. -/
def fieldAt (w : BitVec 64) (lo n : Nat) : Fin (2 ^ n) := (bitsAt w lo n).toFin

/-- Word bit `i`. -/
def bitAt (w : BitVec 64) (i : Nat) : Bool := w.getLsbD i

/-- The M field (Table 04.3). With op 0 the slot performs nothing. -/
def decodeM (e : EngNo) (w : BitVec 64) : Option Instr :=
  let o : MOp := ⟨bitAt w 61, bitAt w 60, bitAt w 59, fieldAt w 53 6, fieldAt w 49 4, fieldAt w 46 3, 0⟩
  match (fieldAt w 62 2).val with
  | 1 => some (.mpy e o)
  | 2 => some (.mac e o)
  | 3 => some (.msu e o)
  | _ => none

/-- A part code (Table 04.7); 3 is reserved. -/
def partCode : Nat → Option AccPart
  | 0 => some .lo
  | 1 => some .mid
  | 2 => some .hi
  | _ => none

/-- The A field's long form (Table 04.8): the payload is word bits 40:35 over 28:7 (R86). -/
def decodeLong (e : EngNo) (w : BitVec 64) : Option Instr :=
  let p : BitVec 64 := ((bitsAt w 35 6) ++ (bitsAt w 7 22) : BitVec 28).setWidth 64
  let n := fieldAt p 20 4
  let imm := bitsAt p 0 20
  let vd := fieldAt p 18 6
  match (fieldAt p 24 4).val with
  | 0 => some (.setk e n imm)
  | 1 => some (.setm e n imm)
  | 2 => some (.addk e n imm)
  | 3 => some (.addm e n imm)
  | 4 => some (.setvh e vd (bitsAt p 0 18))
  | 5 => some (.setvl e vd (bitsAt p 0 18))
  | 6 => if bitsAt p 14 4 = 0 then some (.insl e vd (bitsAt p 0 14)) else none
  | 7 =>
    if bitsAt p 0 10 = 0 ∧ (fieldAt p 10 6).val ≤ 48 then
      some (.lda e (fieldAt p 22 2) (fieldAt p 16 6) (fieldAt p 10 6))
    else none
  | 8 => if bitsAt p 0 13 = 0 then some (.movkv e (bitAt p 23) (fieldAt p 19 4) (fieldAt p 13 6)) else none
  | 9 => if bitsAt p 0 13 = 0 then some (.movvk e (bitAt p 23) (fieldAt p 19 4) (fieldAt p 13 6)) else none
  | _ => none

/-- The unary group (Table 04.7): an operation without an operand needs d = 0 (R84). -/
def decodeUnary (e : EngNo) (w : BitVec 64) : Option Instr :=
  let d : VNo := fieldAt w 35 6
  let k : Fin 4 := fieldAt w 29 2
  let sub := (fieldAt w 29 6).val
  let bare (i : Instr) : Option Instr := if d = 0 then some i else none
  match sub with
  | 0x00 => bare (.nop e)
  | 0x01 => some (.neg e d)
  | 0x02 => some (.abs e d)
  | 0x03 => some (.not_ e d)
  | 0x04 => some (.exp e d)
  | 0x05 => some (.norm e d)
  | 0x06 => some (.trk e d)
  | 0x07 => bare (.bxclr e)
  | 0x08 => some (.bxrd e d)
  | 0x2C => some (.flgrd e d)
  | 0x2D => some (.flgclr e (bitsAt w 35 6))
  | 0x2E => some (.rrbrd e d)
  | 0x2F => if bitAt w 40 then none else some (.rrbset e (bitsAt w 35 5))
  | 0x3C => some (.rrbwr e d)
  | 0x3F => decodeLong e w
  | _ =>
    if 0x10 ≤ sub ∧ sub ≤ 0x17 then some (.bxs e d (fieldAt w 29 3))
    else if 0x18 ≤ sub ∧ sub ≤ 0x1B then some (.expa e d k)
    else if 0x1C ≤ sub ∧ sub ≤ 0x1F then bare (.aclr e k)
    else if 0x20 ≤ sub ∧ sub ≤ 0x2B then (partCode (fieldAt w 31 2).val).map (fun p => .aprd e d p k)
    else if 0x30 ≤ sub ∧ sub ≤ 0x3B then (partCode (fieldAt w 31 2).val).map (fun p => .apwr e d p k)
    else none

/-- The A field (Tables 04.5 and 04.6), where no long X form has borrowed it. -/
def decodeA (e : EngNo) (w : BitVec 64) : Option Instr :=
  let vd : VNo := fieldAt w 35 6
  let vs : VNo := fieldAt w 29 6
  if bitAt w 45 then some (.ext e (fieldAt w 43 2) (fieldAt w 37 6) (fieldAt w 31 6) (bitAt w 30) (bitAt w 29))
  else
    match (fieldAt w 41 4).val with
    | 0x1 => some (.add e vd vs)
    | 0x2 => some (.sub e vd vs)
    | 0x3 => some (.adds e vd vs)
    | 0x4 => some (.subs e vd vs)
    | 0x5 => some (.mov e vd vs)
    | 0x6 => some (.min_ e vd vs)
    | 0x7 => some (.max_ e vd vs)
    | 0x8 => some (.and_ e vd vs)
    | 0x9 => some (.or_ e vd vs)
    | 0xA => some (.xor_ e vd vs)
    | 0xB => some (.sel e vd vs)
    | 0xC => some (.clt e vd vs)
    | 0xD => some (.cle e vd vs)
    | 0xE => some (.shi e vd (bitsAt w 29 6))
    | 0xF => some (.sht e vd (bitsAt w 29 6))
    | _ => decodeUnary e w

/-- The A field holds a long form, which borrows the L fields (R75). -/
def longFormA (w : BitVec 64) : Bool := bitsAt w 41 5 == 0 && bitsAt w 29 6 == 0x3F

/-- The X field holds LOOP or REP, which borrow the A field (R75). -/
def longFormX (w : BitVec 64) : Bool := bitsAt w 0 7 == 3 || bitsAt w 0 7 == 4

/-- An L field that begins at word bit `lo` (Table 04.9). -/
def decodeL (e : EngNo) (slot : LSlot) (w : BitVec 64) (lo : Nat) : Option Instr :=
  let vt : VNo := fieldAt w (lo + 2) 6
  let kp : Fin 4 := fieldAt w lo 2
  match (fieldAt w (lo + 8) 3).val with
  | 1 => some (.ld e slot .plain vt kp .clean)
  | 2 => some (.ld e slot .post vt kp .clean)
  | 3 => some (.ld e slot .circ vt kp .clean)
  | 4 => some (.ld e slot .offset vt kp .clean)
  | 5 => some (.st e slot .plain vt kp)
  | 6 => some (.st e slot .post vt kp)
  | 7 => some (.st e slot .circ vt kp)
  | _ => none

/-- The X field (Table 04.11). A REQ is one of two rows: bit 31 of the request word tells which (R93). -/
def decodeX (e : EngNo) (w : BitVec 64) : List Instr :=
  let n : Fin 32 := fieldAt w 0 5
  match (fieldAt w 5 2).val with
  | 1 => [.xr e n .clean]
  | 2 => [.xw e n]
  | 3 => [.reqDelayTap e n [], .reqGainCell e n]
  | _ =>
    match n.val with
    | 0 => [.xnop e]
    | 1 => [.rot e]
    | 2 => [.phase e]
    | 3 => [.loop e (bitAt w 45) (fieldAt w 39 6) (fieldAt w 29 10)]
    | 4 => if bitsAt w 44 2 = 0 then [.rep e (fieldAt w 29 15)] else []
    | 5 => [.endProg e]
    | _ => []

/-- The commands of the instruction word `w` of engine `e` (R74, R75). A reserved code spells nothing (R76). -/
def decodeWord (e : EngNo) (w : BitVec 64) : List Instr :=
  let l := if !longFormX w && longFormA w then []
    else (decodeL e .l0 w 18).toList ++ (decodeL e .l1 w 7).toList
  (decodeM e w).toList ++ (if longFormX w then [] else (decodeA e w).toList) ++ l ++ decodeX e w

/-! ### Supervisor words (R316 to R320) -/

/-- Word bits `lo` to `lo + n − 1` as bits. -/
def hBits (w : Half) (lo n : Nat) : BitVec n := w.extractLsb' lo n

/-- Word bits `lo` to `lo + n − 1` as a number. -/
def hField (w : Half) (lo n : Nat) : Fin (2 ^ n) := (hBits w lo n).toFin

/-- The register ALU (Table 14.4). -/
def decodeSvAlu (c : Fin 2) (d w : Fin 16) : Nat → Instr
  | 0x0 => .svMov c d w
  | 0x1 => .svAdd c d w
  | 0x2 => .svAdc c d w
  | 0x3 => .svSub c d w
  | 0x4 => .svSbc c d w
  | 0x5 => .svAnd c d w
  | 0x6 => .svOr c d w
  | 0x7 => .svXor c d w
  | 0x8 => .svShl c d w
  | 0x9 => .svShr c d w
  | 0xA => .svSar c d w
  | 0xB => .svCmp c d w
  | 0xC => .svMul c d w
  | 0xD => .svMulhu c d w
  | 0xE => .svMulhs c d w
  | _ => .svTst c d w

/-- The single-register group (Table 14.5): NOP, WAIT and SIG have W = 0. -/
def decodeSvSingle (c : Fin 2) (w : Fin 16) : Nat → Option Instr
  | 0x00 => if w = 0 then some (.svNop c) else none
  | 0x01 => some (.svNot c w)
  | 0x02 => some (.svNeg c w)
  | 0x03 => some (.svPar c w)
  | 0x04 => some (.svBrev c w)
  | 0x05 => some (.svSwab c w)
  | 0x06 => if w = 0 then some (.svWait c) else none
  | 0x07 => if w = 0 then some (.svSig c) else none
  | _ => none

/-- The base group (Table 14.7): function, Bb, and the operand bits 4:0 of word `h`. -/
def decodeSvBase (c : Fin 2) (h : Half) (b : Fin 8) : Nat → Option Instr
  | 0 => if hBits h 0 2 = 0 then some (.svMovb c b (hField h 2 3)) else none
  | 1 => if hBits h 0 5 = 0 then some (.svJmpb c b) else none
  | 2 => if hBits h 0 1 = 0 then some (.svAddb c b (hField h 1 4)) else none
  | 3 => if hBits h 0 1 = 0 then some (.svBlo c (hField h 1 4) b) else none
  | 4 => if hBits h 0 1 = 0 then some (.svBhi c (hField h 1 4) b) else none
  | 5 => if hBits h 0 1 = 0 then some (.svSetbl c b (hField h 1 4)) else none
  | 6 => if hBits h 0 1 = 0 then some (.svSetbh c b (hField h 1 4)) else none
  | _ => none

/-- The two-word loads and stores. The B register of LDB and STB stands in the field that holds W for LD and ST, whose top
bit is then 0 (log entry 121). -/
def decodeSvMem (c : Fin 2) (h disp : Half) : Option Instr :=
  let w : Fin 16 := hField h 5 4
  let t : Fin 8 := hField h 5 3
  let b : Fin 8 := hField h 2 3
  if hBits h 0 2 ≠ 0 then none
  else
    match (hField h 9 2).val with
    | 0 => some (.svLd c (.long w b disp) .clean)
    | 1 => some (.svSt c (.long w b disp) .clean)
    | 2 => if hBits h 8 1 = 0 then some (.svLdb c t b disp (.clean, .clean)) else none
    | _ => if hBits h 8 1 = 0 then some (.svStb c t b disp .clean .clean) else none

/-- The immediates of two words. -/
def decodeSvImm (c : Fin 2) (d : Fin 16) (imm : Half) : Nat → Instr
  | 0 => .svMovw c d imm
  | 1 => .svAddw c d imm
  | 2 => .svSubw c d imm
  | 3 => .svAndw c d imm
  | 4 => .svOrw c d imm
  | 5 => .svXorw c d imm
  | 6 => .svCmpw c d imm
  | _ => .svTstw c d imm

/-- CRC steps and special registers. -/
def decodeSvCrc (c : Fin 2) (a b : Fin 16) : Nat → Option Instr
  | 0 => some (.svCrc16 c a b)
  | 1 => some (.svCrc32 c a b)
  | 2 => some (.svCrc16b c a b)
  | 3 => some (.svCrc32b c a b)
  | 4 => some (.svMfs c a b)
  | 5 => some (.svMts c b a)
  | _ => none

/-- The class 0b00 (Table 14.3). -/
def decodeSvZero (c : Fin 2) (h next : Half) : Option Instr :=
  match (hField h 11 3).val with
  | 0 => if hBits h 0 1 = 0 then decodeSvSingle c (hField h 1 4) (hField h 5 6).val else none
  | 1 => some (.svBcc c (hField h 7 4) (hBits h 0 7))
  | 2 => some (if hBits h 10 1 = 0 then .svBra c (hBits h 0 10) else .svCall c (hBits h 0 10))
  | 3 => decodeSvBase c h (hField h 5 3) (hField h 8 3).val
  | 4 => decodeSvMem c h next
  | 5 => if hBits h 0 4 = 0 then some (decodeSvImm c (hField h 4 4) next (hField h 8 3).val) else none
  | 6 => some (.svSetb c (hField h 8 3) (hBits h 0 8 ++ next : BitVec 24))
  | _ => decodeSvCrc c (hField h 4 4) (hField h 0 4) (hField h 8 3).val

/-- The command that word `h` of core `c`'s code spells, with the word after it for a form of two words (Table 14.3). A reserved
code spells none; condition 15 and the special indices from 7 on are rejected by their own meanings. -/
def decodeSv (c : Fin 2) (h next : Half) : Option Instr :=
  match (hField h 14 2).val with
  | 0 => decodeSvZero c h next
  | 1 =>
    if hBits h 13 1 = 0 then
      if hBits h 0 1 = 0 then some (decodeSvAlu c (hField h 5 4) (hField h 1 4) (hField h 9 4).val) else none
    else if hBits h 12 1 = 0 then some (.svAddi c (hField h 8 4) (hBits h 0 8))
    else some (.svMovi c (hField h 8 4) (hBits h 0 8))
  | 2 => some (.svLd c (.short (hField h 11 3) (hField h 8 3) (hBits h 0 8)) .clean)
  | _ => some (.svSt c (.short (hField h 11 3) (hField h 8 3) (hBits h 0 8)) .clean)

/-! ### Facts beside the fields -/

/-- An engine or supervisor command without the facts of the hardware that it carries beside the fields of its word. -/
def Instr.plain : Instr → Instr
  | .mpy e o => .mpy e { o with resBad := 0 }
  | .mac e o => .mac e { o with resBad := 0 }
  | .msu e o => .msu e { o with resBad := 0 }
  | .ld e slot mode vt kp _ => .ld e slot mode vt kp .clean
  | .xr e n _ => .xr e n .clean
  | .reqDelayTap e n _ => .reqDelayTap e n []
  | .svLd c m _ => .svLd c m .clean
  | .svSt c m _ => .svSt c m .clean
  | .svLdb c t b disp _ => .svLdb c t b disp (.clean, .clean)
  | .svStb c t b disp _ _ => .svStb c t b disp .clean .clean
  | i => i

end Sys2Proof
end

