-- ==== Sys2Proof/Machine/Crc.lean ====
section
/-!
DEFINITION. Machine/Crc.lean: the CRC-32C of RFC 3720 (R189), which bundles, images, settings generations and output
checks use.
-/
namespace Sys2Proof.Machine

/-- One bit of the reflected CRC with the Castagnoli polynomial 0x1EDC_6F41, bit-reversed 0x82F6_3B78. -/
def crcBit (c : Word) : Word := if c &&& 1 = 0 then c >>> 1 else (c >>> 1) ^^^ 0x82F63B78

/-- One byte, low bit first. -/
def crcByte (c : Word) (b : Byte) : Word :=
  let c := c ^^^ b.setWidth 32
  crcBit (crcBit (crcBit (crcBit (crcBit (crcBit (crcBit (crcBit c)))))))

/-- The CRC-32C of some bytes: initial value and final XOR 0xFFFF_FFFF (R189). -/
def crc32c (bs : List Byte) : Word := bs.foldl crcByte 0xFFFFFFFF ^^^ 0xFFFFFFFF

end Sys2Proof.Machine
end

