-- ==== Sys2Proof/Machine/Crypto.lean ====
section
/-!
DEFINITION. Machine/Crypto.lean: SHA-256 and the verification of an ECDSA P-256 signature (R191, R193). The spec names both
by their standards; the constants below are those of FIPS 180-4 and FIPS 186-4 (PRESUMED, log entry 21).
-/
namespace Sys2Proof.Machine

/-- The largest number below `r + 2^k` and not below `r` whose power `e` is at most `n`, found a bit at a time. -/
def rootFrom (e n : Nat) : Nat → Nat → Nat
  | 0, r => r
  | k + 1, r => rootFrom e n k (if (r + 2 ^ k) ^ e ≤ n then r + 2 ^ k else r)

/-- The first 32 bits after the point of the root `e` of `p`. -/
def rootFraction (e p : Nat) : Word := BitVec.ofNat 32 (rootFrom e (p * 2 ^ (32 * e)) 37 0)

/-- The primes below `n`, in order. -/
def primesBelow (n : Nat) : List Nat :=
  (List.range n).filter (fun p => decide (2 ≤ p) && (List.range 18).all (fun d => decide (d < 2 ∨ p ≤ d) || p % d != 0))

/-- The SHA-256 round constants, as FIPS 180-4 section 4.2.2 defines them: from the cube roots of the first 64 primes. -/
def shaK : List Word := (primesBelow 312).map (rootFraction 3)

/-- The eight chaining words. -/
structure Sha where
  a : Word
  b : Word
  c : Word
  d : Word
  e : Word
  f : Word
  g : Word
  h : Word
deriving DecidableEq, Repr

/-- Eight words as chaining words. -/
def Sha.ofList (w : List Word) : Sha :=
  ⟨w.getD 0 0, w.getD 1 0, w.getD 2 0, w.getD 3 0, w.getD 4 0, w.getD 5 0, w.getD 6 0, w.getD 7 0⟩

/-- The initial chaining value (FIPS 180-4 section 5.3.3): from the square roots of the first eight primes. -/
def shaInit : Sha := .ofList ((primesBelow 20).map (rootFraction 2))

/-- One round with K + W. -/
def shaRound (s : Sha) (kw : Word) : Sha :=
  let s1 := s.e.rotateRight 6 ^^^ s.e.rotateRight 11 ^^^ s.e.rotateRight 25
  let ch := (s.e &&& s.f) ^^^ (~~~s.e &&& s.g)
  let t1 := s.h + s1 + ch + kw
  let s0 := s.a.rotateRight 2 ^^^ s.a.rotateRight 13 ^^^ s.a.rotateRight 22
  let maj := (s.a &&& s.b) ^^^ (s.a &&& s.c) ^^^ (s.b &&& s.c)
  ⟨t1 + (s0 + maj), s.a, s.b, s.c, s.d + t1, s.e, s.f, s.g⟩

/-- The rounds over the constants, with the message schedule kept as its last 16 words, oldest first. -/
def shaRounds : List Word → List Word → Sha → Sha
  | [], _, s => s
  | k :: ks, w, s =>
    let w0 := w.getD 0 0
    let x := w.getD 1 0
    let y := w.getD 14 0
    let s0 := x.rotateRight 7 ^^^ x.rotateRight 18 ^^^ (x >>> 3)
    let s1 := y.rotateRight 17 ^^^ y.rotateRight 19 ^^^ (y >>> 10)
    shaRounds ks (w.drop 1 ++ [w0 + s0 + w.getD 9 0 + s1]) (shaRound s (k + w0))

/-- Four bytes as a big-endian word. -/
def beWord (b : List Byte) : Word := b.foldl (fun n x => (n <<< 8) ||| x.setWidth 32) 0

/-- Cuts a list into pieces of `n` words of four bytes. -/
def beWords : Nat → List Byte → List Word
  | 0, _ => []
  | n + 1, b => beWord (b.take 4) :: beWords n (b.drop 4)

/-- `n` blocks of 64 bytes are compressed. -/
def shaBlocks : Nat → List Byte → Sha → Sha
  | 0, _, s => s
  | n + 1, b, s =>
    let r := shaRounds shaK (beWords 16 (b.take 64)) s
    shaBlocks n (b.drop 64)
      ⟨s.a + r.a, s.b + r.b, s.c + r.c, s.d + r.d, s.e + r.e, s.f + r.f, s.g + r.g, s.h + r.h⟩

/-- The bytes of a word, low byte first. -/
def wordBytes (w : Word) : List Byte := (List.range 4).map (fun i => BitVec.ofNat 8 (w.toNat / 256 ^ i))

/-- Big-endian bytes of `n`, `k` of them. -/
def beBytes (k n : Nat) : List Byte := ((List.range k).map (fun i => BitVec.ofNat 8 (n / 256 ^ i))).reverse

/-- The number that some big-endian bytes write. -/
def beNum (b : List Byte) : Nat := b.foldl (fun n x => 256 * n + x.toNat) 0

/-- The SHA-256 of some bytes, as a 256-bit number. -/
def sha256 (m : List Byte) : BitVec 256 :=
  let n := m.length
  let z := (119 - n % 64) % 64
  let p := m ++ [0x80] ++ List.replicate z 0 ++ beBytes 8 (8 * n)
  let s := shaBlocks (p.length / 64) p shaInit
  s.a ++ s.b ++ s.c ++ s.d ++ s.e ++ s.f ++ s.g ++ s.h

/-! ### ECDSA P-256 -/

/-- The field prime. -/
def p256 : Nat := 2 ^ 256 - 2 ^ 224 + 2 ^ 192 + 2 ^ 96 - 1
/-- The coefficient b; a is −3. -/
def p256b : Nat := 0x5ac635d8aa3a93e7b3ebbd55769886bc651d06b0cc53b0f63bce3c3e27d2604b
/-- The order of the base point. -/
def p256n : Nat := 0xffffffff00000000ffffffffffffffffbce6faada7179e84f3b9cac2fc632551
/-- The base point. -/
def p256g : Nat × Nat :=
  (0x6b17d1f2e12c4247f8bce6e563a440f277037d812deb33a0f4a13945d898c296,
   0x4fe342e2fe1a7f9b8ee7eb4a7c0f9e162bce33576b315ececbb6406837bf51f5)

/-- x^e mod m over the low `k` bits of e. -/
def powMod (m : Nat) : Nat → Nat → Nat → Nat
  | 0, _, _ => 1 % m
  | k + 1, x, e =>
    let r := powMod m k (x * x % m) (e / 2)
    if e % 2 = 1 then r * x % m else r

/-- The inverse modulo a prime, by Fermat. -/
def invMod (m x : Nat) : Nat := powMod m 256 (x % m) (m - 2)

/-- The sum of two points of the curve; `none` is the point at infinity. -/
def ecAdd (u v : Option (Nat × Nat)) : Option (Nat × Nat) :=
  match u, v with
  | none, v => v
  | u, none => u
  | some (x1, y1), some (x2, y2) =>
    if x1 = x2 ∧ (y1 + y2) % p256 = 0 then none
    else
      let l := if x1 = x2 then (3 * x1 * x1 + (p256 - 3)) * invMod p256 (2 * y1) % p256
               else (y2 + p256 - y1) * invMod p256 (x2 + p256 - x1) % p256
      let x := (l * l + 2 * p256 - x1 - x2) % p256
      some (x, (l * (x1 + p256 - x) + p256 - y1) % p256)

/-- A multiple of a point over the low `k` bits of e. -/
def ecMul : Nat → Nat → Option (Nat × Nat) → Option (Nat × Nat)
  | 0, _, _ => none
  | k + 1, e, u =>
    let r := ecMul k (e / 2) (ecAdd u u)
    if e % 2 = 1 then ecAdd r u else r

/-- The point lies on the curve, with coordinates in the field. -/
def onCurve (x y : Nat) : Bool :=
  decide (x < p256 ∧ y < p256) && (y * y % p256 == (x * x * x + (p256 - 3) * x + p256b) % p256)

/-- The signature (r, s) of digest `z` under the public key (x, y) holds. -/
def ecdsaOk (z x y r s : Nat) : Bool :=
  if onCurve x y ∧ 0 < r ∧ r < p256n ∧ 0 < s ∧ s < p256n then
    let w := invMod p256n s
    match ecAdd (ecMul 256 (z * w % p256n) (some p256g)) (ecMul 256 (r * w % p256n) (some (x, y))) with
    | none => false
    | some (px, _) => px % p256n == r
  else false

end Sys2Proof.Machine
end

