-- ==== Sys2Proof/Config.lean ====
section
/-!
DEFINITION. Config.lean: what one device fixes (its variant, its MAC address, its straps) and the FREE VALUES: values
the spec leaves open. Each is a constant with no body, so nothing can be proved of the value it takes.
The log entry that declares each is named beside it.
-/
namespace Sys2Proof.Config

/-- The order variant: true = LAL-7720-32 (Table 00.1, R1). Log entry 2. -/
opaque dram32 : Bool

/-- The device's Ethernet MAC address (NET_MAC_LO and NET_MAC_HI: "per device"). Log entry 2. -/
opaque macAddr : BitVec 48

/-- The vendor key hash held in boot ROM (R191). Log entry 2. -/
opaque vendorKeyHash : BitVec 256

/-- Word `w` of the boot ROM (Table 14.2), whose contents the spec does not give. Log entry 2. -/
opaque rom : Nat → Half

/-- A fresh free word, read with the counter `State.freeCtr`. Log entry 3. -/
opaque freeValue : Nat → Word

/-- The serial of the first lease granted in a lease-table entry (R179). Log entry 4. -/
opaque leaseSerial0 : Nat → BitVec 16

/-- The word address within DAU staging of a tap's word (R69): engine, line, tap and position. The spec gives staging no
address layout. Log entry 118. -/
opaque stagingAddr : Nat → Nat → Nat → Nat → BitVec 24

/-- Output word `i` of a rate bridge: its kind, TICK_RATE.mult, and its source words of as many ticks as its filter is long,
newest first (R147). The spec gives no coefficients. Log entry 5. -/
opaque bridgeFilter : Nat → Nat → List (List Word) → Nat → Word

/-- One sample of an ASRC bridge from the received samples of its channel, newest first, and the phase word in force (R149).
The spec gives no coefficients. Log entry 5. -/
opaque asrcFilter : List Word → Word → Word

/-- The memory of the ratio loop of an ASRC after one more measurement word (R149). Log entry 5. -/
opaque ratioStep : Nat → Word → Nat

/-- The phase word that the ratio loop gives (R149). Log entry 5. -/
opaque ratioPhase : Nat → Word

/-- The ratio of received rate to base rate, in Q3.13, that a phase word applies (AES_ASRC_STATn.ratio). Log entry 5. -/
opaque phaseRatio : Word → Half

/-- Bytes of a control-stream item in a link frame, which Table 10.3 calls variable. Log entry 139. -/
opaque ctlBytes : CtlItem → Nat

end Sys2Proof.Config
end

