-- ==== Sys2Proof/Machine/RegTable.lean ====
section
/-!
DEFINITION. Machine/RegTable.lean: every register of the control space (Table 18.1, R384) with its address, its
value after a cold start (R6) and the access type of each field (Table 00.4), as the register tables of chapters 00
to 17 give them. A field that no row lists is reserved and reads 0 (R7).
-/
namespace Sys2Proof.Machine

/-- Access types (Table 00.4). -/
inductive Acs where
  | ro | rw | wo | w1c | rws | lock
deriving DecidableEq, Repr

/-- A named field of a register row: low bit, width, access. -/
structure RegField where
  lo : Nat
  w : Nat
  acs : Acs
deriving DecidableEq, Repr

/-- A run of `count` equal registers at `base`, `base + stride`, …. -/
structure RegRow where
  base : Nat
  stride : Nat
  count : Nat
  reset : Nat
  fields : List RegField
deriving DecidableEq, Repr

/-- The row holds the register at word address `a`. -/
def RegRow.holds (r : RegRow) (a : Nat) : Bool :=
  decide (r.base ≤ a) && decide ((a - r.base) % r.stride = 0) && decide ((a - r.base) / r.stride < r.count)

/-- Rows DEV_ID to TICK_COUNT1. -/
def regRows0 : List RegRow := [
  /- DEV_ID -/ ⟨0x0, 4, 1, 0x77200210, [⟨4, 4, .ro⟩, ⟨8, 4, .ro⟩, ⟨12, 4, .ro⟩, ⟨16, 16, .ro⟩]⟩,
  /- CLK_REFSEL -/ ⟨0x10000, 4, 1, 0x0, [⟨0, 3, .rw⟩, ⟨4, 3, .rw⟩, ⟨8, 3, .rw⟩, ⟨12, 1, .rw⟩, ⟨13, 1, .rw⟩, ⟨16, 2, .rw⟩]⟩,
  /- CLK_PLLA_CTL -/ ⟨0x10004, 4, 1, 0x4, [⟨0, 3, .rw⟩, ⟨4, 3, .rw⟩, ⟨8, 1, .rw⟩, ⟨9, 1, .rw⟩]⟩,
  /- CLK_PLLA_DCO -/ ⟨0x10008, 4, 1, 0x0, [⟨0, 32, .ro⟩]⟩,
  /- CLK_PLLB_FRAC -/ ⟨0x1000C, 4, 1, 0xC0000000, [⟨0, 24, .lock⟩, ⟨24, 8, .lock⟩]⟩,
  /- CLK_PLLB_SEED -/ ⟨0x10010, 4, 1, 0x1, [⟨0, 32, .lock⟩]⟩,
  /- CLK_STAT -/ ⟨0x10014, 4, 1, 0x0, [⟨0, 2, .ro⟩, ⟨2, 3, .ro⟩, ⟨5, 1, .ro⟩, ⟨6, 1, .ro⟩, ⟨7, 1, .ro⟩, ⟨8, 1, .ro⟩, ⟨12, 4, .ro⟩, ⟨16, 1, .w1c⟩, ⟨17, 1, .w1c⟩, ⟨18, 1, .w1c⟩, ⟨19, 1, .w1c⟩]⟩,
  /- CLK_WCLK_CTL -/ ⟨0x10018, 4, 1, 0x0, [⟨0, 1, .rw⟩, ⟨16, 16, .rw⟩]⟩,
  /- CLK_OUT_CTL -/ ⟨0x10040, 8, 8, 0x0, [⟨0, 1, .rw⟩, ⟨1, 1, .rw⟩, ⟨4, 4, .rw⟩, ⟨8, 12, .rw⟩]⟩,
  /- CLK_OUT_DIV -/ ⟨0x10044, 8, 8, 0x1, [⟨0, 16, .rw⟩]⟩,
  /- TICK_COUNT0 -/ ⟨0x20000, 4, 1, 0x0, [⟨0, 32, .ro⟩]⟩,
  /- TICK_COUNT1 -/ ⟨0x20004, 4, 1, 0x0, [⟨0, 32, .ro⟩]⟩]

/-- Rows TICK_RATE to ENG_FLAGS. -/
def regRows1 : List RegRow := [
  /- TICK_RATE -/ ⟨0x20008, 4, 1, 0x5E800000, [⟨0, 1, .ro⟩, ⟨1, 2, .ro⟩, ⟨16, 16, .ro⟩]⟩,
  /- ENG_FAULT -/ ⟨0x200000, 65536, 8, 0x0, [⟨0, 15, .ro⟩, ⟨16, 6, .ro⟩, ⟨24, 3, .ro⟩, ⟨29, 1, .ro⟩, ⟨30, 1, .ro⟩, ⟨31, 1, .w1c⟩]⟩,
  /- ENG_FAULT_TICK -/ ⟨0x200004, 65536, 8, 0x0, [⟨0, 32, .ro⟩]⟩,
  /- ENG_FAULT_ADDR -/ ⟨0x200008, 65536, 8, 0x0, [⟨0, 24, .ro⟩]⟩,
  /- ENG_ECC_CNT -/ ⟨0x20000C, 65536, 8, 0x0, [⟨0, 16, .ro⟩, ⟨16, 16, .ro⟩]⟩,
  /- ENG_SCRUB -/ ⟨0x200010, 65536, 8, 0x0, [⟨0, 8, .ro⟩, ⟨8, 8, .ro⟩, ⟨16, 16, .ro⟩]⟩,
  /- ENG_CTL -/ ⟨0x200014, 65536, 8, 0x0, [⟨0, 1, .wo⟩, ⟨1, 1, .wo⟩]⟩,
  /- ENG_FINJ -/ ⟨0x200018, 65536, 8, 0x0, [⟨0, 1, .rw⟩, ⟨1, 3, .rw⟩, ⟨4, 4, .rw⟩]⟩,
  /- ENG_FLAGS -/ ⟨0x200100, 4, 16, 0x0, [⟨0, 1, .w1c⟩, ⟨1, 4, .w1c⟩, ⟨5, 1, .w1c⟩, ⟨6, 1, .w1c⟩]⟩,
  /- ENG_FLAGS -/ ⟨0x210100, 4, 16, 0x0, [⟨0, 1, .w1c⟩, ⟨1, 4, .w1c⟩, ⟨5, 1, .w1c⟩, ⟨6, 1, .w1c⟩]⟩,
  /- ENG_FLAGS -/ ⟨0x220100, 4, 16, 0x0, [⟨0, 1, .w1c⟩, ⟨1, 4, .w1c⟩, ⟨5, 1, .w1c⟩, ⟨6, 1, .w1c⟩]⟩,
  /- ENG_FLAGS -/ ⟨0x230100, 4, 16, 0x0, [⟨0, 1, .w1c⟩, ⟨1, 4, .w1c⟩, ⟨5, 1, .w1c⟩, ⟨6, 1, .w1c⟩]⟩]

/-- Rows ENG_FLAGS to ENG_STAT. -/
def regRows2 : List RegRow := [
  /- ENG_FLAGS -/ ⟨0x240100, 4, 16, 0x0, [⟨0, 1, .w1c⟩, ⟨1, 4, .w1c⟩, ⟨5, 1, .w1c⟩, ⟨6, 1, .w1c⟩]⟩,
  /- ENG_FLAGS -/ ⟨0x250100, 4, 16, 0x0, [⟨0, 1, .w1c⟩, ⟨1, 4, .w1c⟩, ⟨5, 1, .w1c⟩, ⟨6, 1, .w1c⟩]⟩,
  /- ENG_FLAGS -/ ⟨0x260100, 4, 16, 0x0, [⟨0, 1, .w1c⟩, ⟨1, 4, .w1c⟩, ⟨5, 1, .w1c⟩, ⟨6, 1, .w1c⟩]⟩,
  /- ENG_FLAGS -/ ⟨0x270100, 4, 16, 0x0, [⟨0, 1, .w1c⟩, ⟨1, 4, .w1c⟩, ⟨5, 1, .w1c⟩, ⟨6, 1, .w1c⟩]⟩,
  /- ENG_STAT -/ ⟨0x200140, 4, 16, 0x4, [⟨0, 3, .ro⟩, ⟨8, 8, .ro⟩]⟩,
  /- ENG_STAT -/ ⟨0x210140, 4, 16, 0x4, [⟨0, 3, .ro⟩, ⟨8, 8, .ro⟩]⟩,
  /- ENG_STAT -/ ⟨0x220140, 4, 16, 0x4, [⟨0, 3, .ro⟩, ⟨8, 8, .ro⟩]⟩,
  /- ENG_STAT -/ ⟨0x230140, 4, 16, 0x4, [⟨0, 3, .ro⟩, ⟨8, 8, .ro⟩]⟩,
  /- ENG_STAT -/ ⟨0x240140, 4, 16, 0x4, [⟨0, 3, .ro⟩, ⟨8, 8, .ro⟩]⟩,
  /- ENG_STAT -/ ⟨0x250140, 4, 16, 0x4, [⟨0, 3, .ro⟩, ⟨8, 8, .ro⟩]⟩,
  /- ENG_STAT -/ ⟨0x260140, 4, 16, 0x4, [⟨0, 3, .ro⟩, ⟨8, 8, .ro⟩]⟩,
  /- ENG_STAT -/ ⟨0x270140, 4, 16, 0x4, [⟨0, 3, .ro⟩, ⟨8, 8, .ro⟩]⟩]

/-- Rows MEM_BANK_OWNER to AES_ASRC_STAT. -/
def regRows3 : List RegRow := [
  /- MEM_BANK_OWNER -/ ⟨0xF0000, 4, 384, 0x40000000, [⟨0, 8, .ro⟩, ⟨16, 8, .rw⟩, ⟨24, 1, .wo⟩, ⟨29, 2, .ro⟩, ⟨31, 1, .w1c⟩]⟩,
  /- MEM_BANK_PWR -/ ⟨0xF0800, 4, 384, 0x22, [⟨0, 2, .rw⟩, ⟨4, 2, .ro⟩, ⟨8, 1, .w1c⟩]⟩,
  /- MEM_CONFLICT -/ ⟨0xF1000, 4, 8, 0x0, [⟨0, 16, .ro⟩, ⟨16, 16, .ro⟩]⟩,
  /- MEM_DLY_ECC -/ ⟨0xF1020, 4, 8, 0x0, [⟨0, 16, .ro⟩, ⟨24, 8, .ro⟩]⟩,
  /- MEM_DRAM_STAT -/ ⟨0xF1040, 4, 1, 0x0, [⟨0, 2, .ro⟩, ⟨8, 8, .ro⟩, ⟨16, 8, .ro⟩, ⟨24, 8, .ro⟩]⟩,
  /- DRAM_MARGIN_WARN -/ ⟨0xF1044, 4, 1, 0x0, [⟨0, 16, .ro⟩, ⟨16, 16, .w1c⟩]⟩,
  /- MEM_DRAM_CONFLICT -/ ⟨0xF1048, 4, 1, 0x0, [⟨0, 32, .ro⟩]⟩,
  /- MEM_CTL -/ ⟨0xF1080, 4, 1, 0x0, [⟨0, 1, .wo⟩]⟩,
  /- QS_MIX_STAT -/ ⟨0xD0200, 4, 1, 0x0, [⟨0, 16, .w1c⟩]⟩,
  /- QS_MIX_SRC -/ ⟨0xD0240, 4, 16, 0x0, [⟨0, 16, .ro⟩, ⟨16, 16, .ro⟩]⟩,
  /- QS_MIX_GAIN -/ ⟨0xD0280, 4, 16, 0x0, [⟨0, 8, .ro⟩]⟩,
  /- AES_ASRC_STAT -/ ⟨0xC0400, 4, 8, 0x0, [⟨0, 2, .ro⟩, ⟨4, 1, .w1c⟩, ⟨5, 1, .w1c⟩, ⟨12, 4, .ro⟩, ⟨16, 16, .ro⟩]⟩]

/-- Rows CMT_CAPACITY to CMT_CTL. -/
def regRows4 : List RegRow := [
  /- CMT_CAPACITY -/ ⟨0x70000, 4, 1, 0x40000200, [⟨0, 10, .ro⟩, ⟨16, 16, .ro⟩]⟩,
  /- CMT_INFLIGHT -/ ⟨0x70004, 4, 1, 0x0, [⟨0, 17, .ro⟩]⟩,
  /- CMT_STAT -/ ⟨0x70008, 4, 1, 0x0, [⟨1, 7, .w1c⟩, ⟨8, 1, .w1c⟩, ⟨9, 1, .w1c⟩, ⟨10, 1, .w1c⟩]⟩,
  /- CMT_SUBMIT -/ ⟨0x70010, 4, 1, 0x0, [⟨0, 12, .rw⟩, ⟨16, 12, .rw⟩, ⟨30, 1, .ro⟩, ⟨31, 1, .wo⟩]⟩,
  /- CMT_SUBMIT_RES -/ ⟨0x70014, 4, 1, 0x0, [⟨0, 3, .ro⟩, ⟨31, 1, .ro⟩]⟩,
  /- CMT_SUBMIT_TICK -/ ⟨0x70018, 4, 1, 0x0, [⟨0, 32, .ro⟩]⟩,
  /- LEASE_SEL -/ ⟨0x70020, 4, 1, 0x0, [⟨0, 14, .rw⟩]⟩,
  /- LEASE_TBL0 -/ ⟨0x70024, 4, 1, 0x0, [⟨0, 32, .ro⟩]⟩,
  /- LEASE_TBL1 -/ ⟨0x70028, 4, 1, 0x0, [⟨0, 16, .ro⟩, ⟨16, 16, .ro⟩]⟩,
  /- LEASE_TBL2 -/ ⟨0x7002C, 4, 1, 0x0, [⟨0, 8, .ro⟩, ⟨8, 12, .ro⟩, ⟨20, 7, .ro⟩, ⟨31, 1, .ro⟩]⟩,
  /- CMT_GC_STAT -/ ⟨0x70030, 4, 1, 0x0, [⟨0, 13, .ro⟩, ⟨16, 16, .ro⟩]⟩,
  /- CMT_CTL -/ ⟨0x70034, 4, 1, 0x0, [⟨0, 1, .wo⟩]⟩]

/-- Rows CMT_PARTCFG to ESP_SCHEMA. -/
def regRows5 : List RegRow := [
  /- CMT_PARTCFG -/ ⟨0x70400, 4, 256, 0x0, [⟨0, 10, .ro⟩, ⟨10, 11, .ro⟩, ⟨24, 8, .ro⟩]⟩,
  /- CMT_PARTSTAT -/ ⟨0x70800, 4, 256, 0x0, [⟨0, 17, .ro⟩]⟩,
  /- CMT_FLIP -/ ⟨0x71000, 4, 384, 0x0, [⟨0, 32, .ro⟩]⟩,
  /- ESP_LOAD_CTL -/ ⟨0x50000, 4, 1, 0x0, [⟨0, 8, .rw⟩, ⟨8, 1, .rw⟩, ⟨16, 2, .rw⟩, ⟨31, 1, .wo⟩]⟩,
  /- ESP_STAT -/ ⟨0x50004, 4, 1, 0x0, [⟨0, 4, .ro⟩, ⟨16, 2, .ro⟩, ⟨18, 1, .w1c⟩, ⟨19, 1, .w1c⟩, ⟨24, 8, .ro⟩]⟩,
  /- ESP_ERR -/ ⟨0x50008, 4, 1, 0x0, [⟨0, 4, .ro⟩, ⟨8, 8, .ro⟩, ⟨20, 2, .ro⟩, ⟨22, 10, .ro⟩]⟩,
  /- ESP_ERR_REC -/ ⟨0x5000C, 4, 1, 0xFFFFFFFF, [⟨0, 32, .ro⟩]⟩,
  /- ESP_GRAFT_SRC -/ ⟨0x50010, 4, 1, 0x0, [⟨0, 32, .rw⟩]⟩,
  /- ESP_GRAFT_TICK -/ ⟨0x50018, 4, 1, 0x0, [⟨0, 32, .ro⟩]⟩,
  /- ESP_GRAFT_DONE -/ ⟨0x5001C, 4, 1, 0x0, [⟨0, 32, .ro⟩]⟩,
  /- ESP_IMG_HASH -/ ⟨0x50020, 4, 8, 0x0, [⟨0, 32, .ro⟩]⟩,
  /- ESP_SCHEMA -/ ⟨0x50040, 4, 1, 0x0, [⟨0, 32, .ro⟩]⟩]

/-- Rows PART_RESET to THN_GSTAT. -/
def regRows6 : List RegRow := [
  /- PART_RESET -/ ⟨0x60000, 4, 1, 0x0, [⟨0, 8, .rw⟩, ⟨8, 1, .w1c⟩, ⟨31, 1, .wo⟩]⟩,
  /- PART_RESET_TICK -/ ⟨0x60004, 4, 1, 0x0, [⟨0, 32, .ro⟩]⟩,
  /- PART_RESET_DONE -/ ⟨0x60008, 4, 1, 0x0, [⟨0, 32, .ro⟩]⟩,
  /- PART_STAT -/ ⟨0x60100, 4, 256, 0x0, [⟨0, 3, .ro⟩, ⟨16, 7, .ro⟩, ⟨23, 1, .w1c⟩, ⟨24, 8, .ro⟩]⟩,
  /- THN_SEL -/ ⟨0x80000, 4, 1, 0x0, [⟨0, 12, .rw⟩]⟩,
  /- THN_LIMIT0 -/ ⟨0x80004, 4, 1, 0x0, [⟨0, 32, .ro⟩]⟩,
  /- THN_LIMIT1 -/ ⟨0x80008, 4, 1, 0x0, [⟨0, 32, .ro⟩]⟩,
  /- THN_LIMIT2 -/ ⟨0x8000C, 4, 1, 0x0, [⟨0, 32, .ro⟩]⟩,
  /- THN_LIMIT3 -/ ⟨0x80010, 4, 1, 0x0, [⟨0, 32, .ro⟩]⟩,
  /- THN_LIMIT4 -/ ⟨0x80014, 4, 1, 0x0, [⟨0, 14, .ro⟩, ⟨16, 12, .ro⟩, ⟨28, 1, .ro⟩, ⟨29, 1, .ro⟩, ⟨30, 1, .ro⟩, ⟨31, 1, .ro⟩]⟩,
  /- THN_LIMIT5 -/ ⟨0x80018, 4, 1, 0x0, [⟨0, 3, .ro⟩, ⟨3, 1, .ro⟩, ⟨4, 1, .ro⟩, ⟨10, 2, .ro⟩, ⟨12, 8, .ro⟩, ⟨20, 12, .ro⟩]⟩,
  /- THN_GSTAT -/ ⟨0x80020, 4, 1, 0x0, [⟨0, 1, .ro⟩, ⟨1, 1, .ro⟩, ⟨2, 1, .ro⟩, ⟨3, 1, .ro⟩, ⟨4, 1, .ro⟩, ⟨5, 1, .ro⟩, ⟨6, 1, .ro⟩, ⟨7, 1, .ro⟩, ⟨16, 16, .ro⟩]⟩]

/-- Rows THN_STAT to TWN_HO_TICK. -/
def regRows7 : List RegRow := [
  /- THN_STAT -/ ⟨0x80024, 4, 1, 0x0, [⟨1, 7, .w1c⟩, ⟨8, 1, .ro⟩, ⟨31, 1, .w1c⟩]⟩,
  /- THN_TRIP_WP -/ ⟨0x80028, 4, 1, 0x0, [⟨0, 4, .ro⟩, ⟨16, 5, .ro⟩]⟩,
  /- THN_CTL -/ ⟨0x8002C, 4, 1, 0x0, [⟨0, 1, .wo⟩]⟩,
  /- THN_SIL_CTL -/ ⟨0x80030, 4, 1, 0x0, [⟨0, 2, .lock⟩]⟩,
  /- THN_SIL_SEL -/ ⟨0x80034, 4, 1, 0x0, [⟨0, 12, .rw⟩]⟩,
  /- THN_SIL_CNT -/ ⟨0x80038, 4, 1, 0x0, [⟨0, 24, .ro⟩, ⟨31, 1, .ro⟩]⟩,
  /- THN_TRIP_LOG0 -/ ⟨0x80100, 8, 16, 0x0, [⟨0, 32, .ro⟩]⟩,
  /- THN_TRIP_LOG1 -/ ⟨0x80104, 8, 16, 0x0, [⟨0, 12, .ro⟩, ⟨16, 4, .ro⟩, ⟨31, 1, .ro⟩]⟩,
  /- TWN_CTL -/ ⟨0x90000, 4, 1, 0x0, [⟨0, 1, .rw⟩, ⟨8, 16, .rw⟩, ⟨29, 1, .wo⟩, ⟨30, 1, .wo⟩, ⟨31, 1, .wo⟩]⟩,
  /- TWN_STAT -/ ⟨0x90004, 4, 1, 0x0, [⟨0, 8, .ro⟩, ⟨12, 1, .ro⟩, ⟨13, 1, .ro⟩, ⟨14, 1, .ro⟩, ⟨15, 1, .ro⟩, ⟨16, 3, .ro⟩, ⟨22, 1, .w1c⟩, ⟨23, 1, .ro⟩, ⟨24, 1, .ro⟩, ⟨25, 1, .ro⟩, ⟨26, 1, .ro⟩, ⟨27, 1, .w1c⟩, ⟨28, 1, .w1c⟩, ⟨29, 1, .w1c⟩, ⟨30, 1, .w1c⟩, ⟨31, 1, .w1c⟩]⟩,
  /- TWN_RIPE_ETA -/ ⟨0x90008, 4, 1, 0xFFFFFFFF, [⟨0, 32, .ro⟩]⟩,
  /- TWN_HO_TICK -/ ⟨0x9000C, 4, 1, 0x0, [⟨0, 32, .rw⟩]⟩]

/-- Rows TWN_LINK to BOOT_SETGEN. -/
def regRows8 : List RegRow := [
  /- TWN_LINK -/ ⟨0x90010, 4, 1, 0x0, [⟨0, 4, .ro⟩, ⟨5, 1, .ro⟩, ⟨6, 1, .ro⟩, ⟨16, 16, .ro⟩]⟩,
  /- TWN_SKEW -/ ⟨0x90014, 4, 1, 0x0, [⟨0, 16, .ro⟩]⟩,
  /- TWN_DIVERGE -/ ⟨0x90040, 4, 8, 0x0, [⟨0, 32, .w1c⟩]⟩,
  /- BOOT_STATE -/ ⟨0x100, 4, 1, 0x0, [⟨0, 3, .ro⟩, ⟨8, 1, .ro⟩, ⟨9, 1, .ro⟩, ⟨16, 16, .ro⟩]⟩,
  /- BOOT_CAUSE -/ ⟨0x104, 4, 1, 0x0, [⟨0, 5, .ro⟩, ⟨7, 1, .ro⟩, ⟨8, 2, .ro⟩, ⟨16, 16, .ro⟩]⟩,
  /- START_FAILS -/ ⟨0x108, 4, 1, 0x30, [⟨0, 3, .ro⟩, ⟨4, 3, .ro⟩]⟩,
  /- HOST_WAIT -/ ⟨0x10C, 4, 1, 0x64, [⟨0, 16, .rws⟩]⟩,
  /- SLOT_ACTIVE -/ ⟨0x110, 4, 1, 0x0, [⟨0, 2, .rw⟩]⟩,
  /- SLOT_LKG -/ ⟨0x114, 4, 1, 0x3, [⟨0, 2, .ro⟩]⟩,
  /- COPPICE_CAUSE -/ ⟨0x118, 4, 1, 0x0, [⟨0, 2, .ro⟩, ⟨8, 5, .ro⟩, ⟨16, 16, .ro⟩]⟩,
  /- BOOT_CTL -/ ⟨0x11C, 4, 1, 0x0, [⟨0, 1, .w1c⟩, ⟨8, 1, .ro⟩, ⟨28, 1, .wo⟩, ⟨29, 1, .wo⟩, ⟨30, 1, .wo⟩, ⟨31, 1, .wo⟩]⟩,
  /- BOOT_SETGEN -/ ⟨0x120, 4, 2, 0x0, [⟨0, 16, .ro⟩, ⟨27, 1, .ro⟩, ⟨28, 1, .ro⟩, ⟨29, 1, .ro⟩, ⟨30, 1, .ro⟩, ⟨31, 1, .ro⟩]⟩]

/-- Rows BOOT_SETSCH to AES_RX_CS. -/
def regRows9 : List RegRow := [
  /- BOOT_SETSCH -/ ⟨0x128, 4, 2, 0x0, [⟨0, 32, .ro⟩]⟩,
  /- BOOT_OTP_CTL -/ ⟨0x130, 4, 1, 0x0, [⟨0, 4, .rw⟩, ⟨8, 4, .rw⟩, ⟨29, 1, .w1c⟩, ⟨30, 1, .ro⟩, ⟨31, 1, .wo⟩]⟩,
  /- BOOT_OTP_DATA -/ ⟨0x140, 4, 8, 0x0, [⟨0, 32, .rw⟩]⟩,
  /- BOOT_REC0 -/ ⟨0x180, 8, 8, 0x0, [⟨0, 32, .ro⟩]⟩,
  /- BOOT_REC1 -/ ⟨0x184, 8, 8, 0x0, [⟨0, 5, .ro⟩, ⟨7, 1, .ro⟩, ⟨8, 2, .ro⟩, ⟨13, 3, .ro⟩, ⟨16, 16, .ro⟩]⟩,
  /- TDM_GCFG -/ ⟨0xB0000, 4, 4, 0x0, [⟨0, 3, .ro⟩, ⟨4, 2, .ro⟩, ⟨8, 2, .ro⟩, ⟨10, 1, .ro⟩, ⟨11, 1, .ro⟩, ⟨12, 1, .ro⟩, ⟨16, 16, .ro⟩]⟩,
  /- TDM_GSTAT -/ ⟨0xB0040, 4, 4, 0x0, [⟨0, 2, .ro⟩, ⟨2, 1, .w1c⟩, ⟨3, 1, .w1c⟩, ⟨8, 8, .ro⟩, ⟨16, 16, .ro⟩]⟩,
  /- TDM_CTL -/ ⟨0xB0080, 4, 1, 0x0, [⟨0, 1, .wo⟩]⟩,
  /- AES_RX_STAT -/ ⟨0xC0000, 4, 8, 0x0, [⟨0, 1, .ro⟩, ⟨1, 1, .ro⟩, ⟨3, 1, .w1c⟩, ⟨4, 1, .w1c⟩, ⟨5, 1, .w1c⟩, ⟨6, 1, .w1c⟩, ⟨8, 8, .ro⟩, ⟨16, 16, .ro⟩]⟩,
  /- AES_RX_CS -/ ⟨0xC0100, 4, 6, 0x0, [⟨0, 32, .ro⟩]⟩,
  /- AES_RX_CS -/ ⟨0xC0120, 4, 6, 0x0, [⟨0, 32, .ro⟩]⟩,
  /- AES_RX_CS -/ ⟨0xC0140, 4, 6, 0x0, [⟨0, 32, .ro⟩]⟩]

/-- Rows AES_RX_CS to NET_PORT_STAT. -/
def regRows10 : List RegRow := [
  /- AES_RX_CS -/ ⟨0xC0160, 4, 6, 0x0, [⟨0, 32, .ro⟩]⟩,
  /- AES_RX_CS -/ ⟨0xC0180, 4, 6, 0x0, [⟨0, 32, .ro⟩]⟩,
  /- AES_RX_CS -/ ⟨0xC01A0, 4, 6, 0x0, [⟨0, 32, .ro⟩]⟩,
  /- AES_RX_CS -/ ⟨0xC01C0, 4, 6, 0x0, [⟨0, 32, .ro⟩]⟩,
  /- AES_RX_CS -/ ⟨0xC01E0, 4, 6, 0x0, [⟨0, 32, .ro⟩]⟩,
  /- AES_TX_STAT -/ ⟨0xC0300, 4, 8, 0x0, [⟨0, 2, .ro⟩, ⟨2, 1, .ro⟩]⟩,
  /- AES_CTL -/ ⟨0xC0380, 4, 1, 0x0, [⟨0, 1, .wo⟩]⟩,
  /- QS_CFG -/ ⟨0xD0000, 4, 1, 0x0, [⟨0, 1, .ro⟩, ⟨8, 8, .ro⟩]⟩,
  /- QS_STAT -/ ⟨0xD0004, 4, 1, 0x0, [⟨0, 2, .ro⟩, ⟨2, 1, .w1c⟩, ⟨8, 8, .ro⟩, ⟨16, 16, .ro⟩]⟩,
  /- QS_CTL -/ ⟨0xD0008, 4, 1, 0x0, [⟨0, 1, .wo⟩]⟩,
  /- QS_LANE_STAT -/ ⟨0xD0040, 4, 16, 0x0, [⟨0, 1, .w1c⟩, ⟨1, 1, .w1c⟩, ⟨8, 8, .ro⟩, ⟨16, 16, .ro⟩]⟩,
  /- NET_PORT_STAT -/ ⟨0xE0000, 4, 4, 0x0, [⟨0, 2, .ro⟩, ⟨2, 1, .ro⟩, ⟨3, 1, .w1c⟩, ⟨4, 1, .ro⟩, ⟨8, 8, .ro⟩, ⟨16, 16, .ro⟩]⟩]

/-- Rows NET_MAC_LO to NET_PTP_ADJ. -/
def regRows11 : List RegRow := [
  /- NET_MAC_LO -/ ⟨0xE0020, 4, 1, 0x0, [⟨0, 32, .ro⟩]⟩,
  /- NET_MAC_HI -/ ⟨0xE0024, 4, 1, 0x0, [⟨0, 16, .ro⟩]⟩,
  /- NET_CTL -/ ⟨0xE0040, 4, 1, 0x0, [⟨0, 1, .rw⟩, ⟨1, 1, .wo⟩]⟩,
  /- NET_STR_SEL -/ ⟨0xE0100, 4, 1, 0x0, [⟨0, 9, .rw⟩, ⟨31, 1, .rw⟩]⟩,
  /- NET_STR_CMD -/ ⟨0xE0104, 4, 1, 0x0, [⟨0, 3, .ro⟩, ⟨30, 1, .rw⟩, ⟨31, 1, .wo⟩]⟩,
  /- NET_STR_TICK -/ ⟨0xE0108, 4, 1, 0x0, [⟨0, 32, .ro⟩]⟩,
  /- NET_STR_CNT0 -/ ⟨0xE010C, 4, 1, 0x0, [⟨0, 16, .ro⟩, ⟨16, 16, .ro⟩]⟩,
  /- NET_STR_CNT1 -/ ⟨0xE0110, 4, 1, 0x0, [⟨0, 16, .ro⟩, ⟨16, 16, .ro⟩]⟩,
  /- NET_STRW -/ ⟨0xE0120, 4, 8, 0x0, [⟨0, 32, .rw⟩]⟩,
  /- NET_BUF -/ ⟨0xE0140, 4, 1, 0x0, [⟨0, 14, .ro⟩, ⟨14, 18, .ro⟩]⟩,
  /- NET_PTP_CTL -/ ⟨0xE0200, 4, 1, 0x0, [⟨0, 1, .rw⟩]⟩,
  /- NET_PTP_ADJ -/ ⟨0xE0204, 4, 1, 0x0, [⟨0, 32, .rw⟩]⟩]

/-- Rows NET_PTP_TIME0 to SV_STAT. -/
def regRows12 : List RegRow := [
  /- NET_PTP_TIME0 -/ ⟨0xE0208, 4, 1, 0x0, [⟨0, 32, .ro⟩]⟩,
  /- NET_PTP_TIME1 -/ ⟨0xE020C, 4, 1, 0x0, [⟨0, 32, .ro⟩]⟩,
  /- NET_PTP_TIME2 -/ ⟨0xE0210, 4, 1, 0x0, [⟨0, 16, .ro⟩]⟩,
  /- NET_PTP_STEP -/ ⟨0xE0214, 4, 1, 0x0, [⟨0, 32, .wo⟩]⟩,
  /- NET_MEDIA_ORG0 -/ ⟨0xE0220, 4, 1, 0x0, [⟨0, 32, .ro⟩]⟩,
  /- NET_MEDIA_ORG1 -/ ⟨0xE0224, 4, 1, 0x0, [⟨0, 32, .ro⟩]⟩,
  /- NET_MEDIA_ERR -/ ⟨0xE0228, 4, 1, 0x0, [⟨0, 32, .ro⟩]⟩,
  /- DEV_FEAT0 -/ ⟨0x10, 4, 1, 0x3F, [⟨0, 1, .ro⟩, ⟨1, 1, .ro⟩, ⟨2, 1, .ro⟩, ⟨3, 1, .ro⟩, ⟨4, 1, .ro⟩, ⟨5, 1, .ro⟩]⟩,
  /- DEV_FEAT1 -/ ⟨0x14, 4, 1, 0xFF, [⟨0, 1, .ro⟩, ⟨1, 1, .ro⟩, ⟨2, 1, .ro⟩, ⟨3, 1, .ro⟩, ⟨4, 1, .ro⟩, ⟨5, 1, .ro⟩, ⟨6, 1, .ro⟩, ⟨7, 1, .ro⟩]⟩,
  /- DEV_FEAT2 -/ ⟨0x18, 4, 1, 0xFF47, [⟨0, 4, .ro⟩, ⟨4, 4, .ro⟩, ⟨8, 8, .ro⟩, ⟨16, 8, .ro⟩]⟩,
  /- DEV_FEAT3 -/ ⟨0x1C, 4, 1, 0x0, []⟩,
  /- SV_STAT -/ ⟨0x200, 4, 1, 0x0, [⟨0, 2, .ro⟩, ⟨2, 1, .w1c⟩, ⟨3, 1, .w1c⟩, ⟨16, 16, .ro⟩]⟩]

/-- Rows SV_WDT_CTL to DMA_ERR_ADDR0. -/
def regRows13 : List RegRow := [
  /- SV_WDT_CTL -/ ⟨0x204, 4, 1, 0x3E8, [⟨0, 14, .rw⟩]⟩,
  /- SV_WDT_KICK -/ ⟨0x208, 4, 1, 0x0, [⟨0, 16, .wo⟩]⟩,
  /- SV_WDT_STAT -/ ⟨0x20C, 4, 1, 0x0, [⟨0, 3, .ro⟩, ⟨6, 1, .ro⟩, ⟨7, 1, .ro⟩, ⟨16, 16, .rws⟩]⟩,
  /- SV_CWIN -/ ⟨0x210, 4, 2, 0x0, [⟨23, 9, .rw⟩]⟩,
  /- SV_FLASH_ADDR -/ ⟨0x220, 4, 1, 0x0, [⟨0, 32, .rw⟩]⟩,
  /- SV_FLASH_SRC -/ ⟨0x224, 4, 1, 0x0, [⟨0, 24, .rw⟩]⟩,
  /- SV_FLASH_CMD -/ ⟨0x228, 4, 1, 0x0, [⟨0, 2, .rw⟩, ⟨31, 1, .wo⟩]⟩,
  /- SV_FLASH_STAT -/ ⟨0x22C, 4, 1, 0x0, [⟨0, 3, .ro⟩, ⟨31, 1, .ro⟩]⟩,
  /- DMA_GSTAT -/ ⟨0xA0000, 4, 1, 0x0, [⟨0, 1, .ro⟩, ⟨1, 1, .w1c⟩, ⟨16, 16, .ro⟩]⟩,
  /- DMA_RESTART -/ ⟨0xA0004, 4, 1, 0x0, [⟨0, 32, .wo⟩]⟩,
  /- DMA_ERR -/ ⟨0xA0008, 4, 1, 0x0, [⟨0, 4, .ro⟩, ⟨4, 2, .ro⟩, ⟨8, 6, .ro⟩, ⟨31, 1, .w1c⟩]⟩,
  /- DMA_ERR_ADDR0 -/ ⟨0xA000C, 4, 1, 0x0, [⟨0, 32, .ro⟩]⟩]

/-- Rows DMA_ERR_ADDR1 to DMA_CH_START. -/
def regRows14 : List RegRow := [
  /- DMA_ERR_ADDR1 -/ ⟨0xA0010, 4, 1, 0x0, [⟨0, 32, .ro⟩]⟩,
  /- DMA_IRQ_STAT -/ ⟨0xA0014, 4, 1, 0x0, [⟨0, 32, .w1c⟩]⟩,
  /- DMA_CTL -/ ⟨0xA0018, 4, 1, 0x0, [⟨0, 1, .wo⟩]⟩,
  /- DMA_CH_CTL -/ ⟨0xA0100, 64, 32, 0x0, [⟨28, 1, .wo⟩, ⟨29, 1, .wo⟩, ⟨30, 1, .wo⟩, ⟨31, 1, .wo⟩]⟩,
  /- DMA_CH_CFG -/ ⟨0xA0104, 64, 32, 0x0, [⟨0, 8, .rw⟩, ⟨8, 5, .rw⟩, ⟨16, 2, .rw⟩, ⟨18, 1, .rw⟩, ⟨19, 1, .rw⟩, ⟨20, 2, .rw⟩, ⟨22, 1, .rw⟩, ⟨23, 1, .rw⟩, ⟨24, 1, .rw⟩, ⟨25, 1, .rw⟩, ⟨26, 6, .rw⟩]⟩,
  /- DMA_CH_RING0 -/ ⟨0xA0108, 64, 32, 0x0, [⟨0, 32, .rw⟩]⟩,
  /- DMA_CH_RING1 -/ ⟨0xA010C, 64, 32, 0x0, [⟨0, 32, .rw⟩]⟩,
  /- DMA_CH_RING_SIZE -/ ⟨0xA0110, 64, 32, 0x0, [⟨0, 16, .rw⟩, ⟨30, 2, .rw⟩]⟩,
  /- DMA_CH_HEAD -/ ⟨0xA0114, 64, 32, 0x0, [⟨0, 16, .rw⟩]⟩,
  /- DMA_CH_DONE -/ ⟨0xA0118, 64, 32, 0x0, [⟨0, 24, .ro⟩]⟩,
  /- DMA_CH_STAT -/ ⟨0xA011C, 64, 32, 0x0, [⟨0, 3, .ro⟩, ⟨4, 2, .ro⟩, ⟨12, 4, .ro⟩, ⟨16, 8, .ro⟩, ⟨24, 8, .ro⟩]⟩,
  /- DMA_CH_START -/ ⟨0xA0120, 64, 32, 0x0, [⟨0, 32, .rw⟩]⟩]

/-- Rows DMA_CH_FILL to PWR_RESID. -/
def regRows15 : List RegRow := [
  /- DMA_CH_FILL -/ ⟨0xA0124, 64, 32, 0x0, [⟨0, 24, .ro⟩, ⟨24, 1, .ro⟩]⟩,
  /- DMA_CH_FILL_DEC -/ ⟨0xA0128, 64, 32, 0x0, [⟨0, 24, .wo⟩]⟩,
  /- DMA_CH_MARKS -/ ⟨0xA012C, 64, 32, 0x0, [⟨0, 16, .rw⟩, ⟨16, 16, .rw⟩]⟩,
  /- PWR_DOM_CTL -/ ⟨0x30000, 4, 2, 0x0, [⟨0, 1, .wo⟩, ⟨1, 1, .wo⟩, ⟨8, 2, .rw⟩, ⟨10, 1, .rw⟩, ⟨28, 1, .ro⟩, ⟨29, 3, .ro⟩]⟩,
  /- PWR_DOM_CTL -/ ⟨0x30008, 4, 15, 0x40000000, [⟨0, 1, .wo⟩, ⟨1, 1, .wo⟩, ⟨8, 2, .rw⟩, ⟨10, 1, .rw⟩, ⟨28, 1, .ro⟩, ⟨29, 3, .ro⟩]⟩,
  /- PWR_IDLE_TMR -/ ⟨0x30080, 4, 17, 0x0, [⟨0, 24, .rw⟩]⟩,
  /- PWR_RESID -/ ⟨0x30100, 4, 3, 0x0, [⟨0, 32, .ro⟩]⟩,
  /- PWR_RESID -/ ⟨0x30110, 4, 3, 0x0, [⟨0, 32, .ro⟩]⟩,
  /- PWR_RESID -/ ⟨0x30120, 4, 3, 0x0, [⟨0, 32, .ro⟩]⟩,
  /- PWR_RESID -/ ⟨0x30130, 4, 3, 0x0, [⟨0, 32, .ro⟩]⟩,
  /- PWR_RESID -/ ⟨0x30140, 4, 3, 0x0, [⟨0, 32, .ro⟩]⟩,
  /- PWR_RESID -/ ⟨0x30150, 4, 3, 0x0, [⟨0, 32, .ro⟩]⟩]

/-- Rows PWR_RESID to PWR_WAKE_SRC. -/
def regRows16 : List RegRow := [
  /- PWR_RESID -/ ⟨0x30160, 4, 3, 0x0, [⟨0, 32, .ro⟩]⟩,
  /- PWR_RESID -/ ⟨0x30170, 4, 3, 0x0, [⟨0, 32, .ro⟩]⟩,
  /- PWR_RESID -/ ⟨0x30180, 4, 3, 0x0, [⟨0, 32, .ro⟩]⟩,
  /- PWR_RESID -/ ⟨0x30190, 4, 3, 0x0, [⟨0, 32, .ro⟩]⟩,
  /- PWR_RESID -/ ⟨0x301A0, 4, 3, 0x0, [⟨0, 32, .ro⟩]⟩,
  /- PWR_RESID -/ ⟨0x301B0, 4, 3, 0x0, [⟨0, 32, .ro⟩]⟩,
  /- PWR_RESID -/ ⟨0x301C0, 4, 3, 0x0, [⟨0, 32, .ro⟩]⟩,
  /- PWR_RESID -/ ⟨0x301D0, 4, 3, 0x0, [⟨0, 32, .ro⟩]⟩,
  /- PWR_RESID -/ ⟨0x301E0, 4, 3, 0x0, [⟨0, 32, .ro⟩]⟩,
  /- PWR_RESID -/ ⟨0x301F0, 4, 3, 0x0, [⟨0, 32, .ro⟩]⟩,
  /- PWR_RESID -/ ⟨0x30200, 4, 3, 0x0, [⟨0, 32, .ro⟩]⟩,
  /- PWR_WAKE_SRC -/ ⟨0x30300, 4, 17, 0x0, [⟨0, 4, .ro⟩, ⟨31, 1, .w1c⟩]⟩]

/-- Rows PWR_AON_LDO to MON_AMON_DATA. -/
def regRows17 : List RegRow := [
  /- PWR_AON_LDO -/ ⟨0x30380, 4, 1, 0x0, [⟨0, 1, .rws⟩, ⟨1, 1, .ro⟩]⟩,
  /- PWR_SIL_MAP -/ ⟨0x30400, 4, 64, 0x0, [⟨0, 12, .rw⟩, ⟨16, 12, .rw⟩, ⟨28, 3, .rw⟩, ⟨31, 1, .rw⟩]⟩,
  /- PWR_SIL_STAT -/ ⟨0x30500, 4, 1, 0x0, [⟨0, 8, .ro⟩, ⟨8, 8, .ro⟩, ⟨16, 16, .ro⟩]⟩,
  /- PWR_PAIR -/ ⟨0x30504, 4, 1, 0x0, [⟨31, 1, .w1c⟩]⟩,
  /- PWR_PAIR_TICK -/ ⟨0x30508, 4, 1, 0x0, [⟨0, 32, .ro⟩]⟩,
  /- PWR_CTL -/ ⟨0x3050C, 4, 1, 0x0, [⟨0, 1, .wo⟩]⟩,
  /- MON_TEMP -/ ⟨0x40000, 4, 16, 0x0, [⟨0, 16, .ro⟩, ⟨31, 1, .ro⟩]⟩,
  /- MON_THERM_CTL -/ ⟨0x40040, 4, 1, 0x7F0000, [⟨4, 4, .ro⟩, ⟨8, 1, .ro⟩, ⟨9, 1, .w1c⟩, ⟨10, 1, .w1c⟩, ⟨16, 8, .rw⟩, ⟨31, 1, .wo⟩]⟩,
  /- MON_TJ_MAX -/ ⟨0x40044, 4, 1, 0x8000, [⟨0, 16, .ro⟩]⟩,
  /- MON_SUPPLY -/ ⟨0x40048, 4, 1, 0x0, [⟨0, 9, .ro⟩]⟩,
  /- MON_AMON_CTL -/ ⟨0x40100, 4, 8, 0x0, [⟨11, 5, .rw⟩, ⟨16, 8, .rw⟩, ⟨24, 1, .rw⟩, ⟨25, 1, .rw⟩, ⟨26, 4, .rw⟩, ⟨30, 1, .rw⟩, ⟨31, 1, .rw⟩]⟩,
  /- MON_AMON_DATA -/ ⟨0x40140, 4, 8, 0x0, [⟨0, 12, .ro⟩, ⟨26, 1, .w1c⟩, ⟨27, 1, .ro⟩, ⟨28, 1, .w1c⟩, ⟨29, 1, .ro⟩, ⟨30, 2, .ro⟩]⟩]

/-- Rows MBX_STAT to SES_PSEL. -/
def regRows18 : List RegRow := [
  /- MBX_STAT -/ ⟨0x100000, 4, 1, 0x0, [⟨0, 16, .ro⟩, ⟨28, 2, .ro⟩, ⟨30, 1, .w1c⟩, ⟨31, 1, .w1c⟩]⟩,
  /- MBX_DB -/ ⟨0x100004, 4, 1, 0x0, [⟨0, 1, .wo⟩, ⟨1, 1, .wo⟩, ⟨2, 1, .wo⟩]⟩,
  /- MBX_CFG -/ ⟨0x100008, 4, 1, 0x0, [⟨0, 6, .rw⟩, ⟨8, 1, .rw⟩, ⟨16, 6, .rw⟩, ⟨24, 1, .rw⟩]⟩,
  /- SES_CFG -/ ⟨0x100010, 4, 1, 0x2710, [⟨0, 16, .rw⟩, ⟨31, 1, .wo⟩]⟩,
  /- SES_STAT -/ ⟨0x100014, 4, 1, 0x0, [⟨0, 9, .ro⟩, ⟨16, 13, .ro⟩]⟩,
  /- SES_CNT0 -/ ⟨0x100018, 4, 1, 0x0, [⟨0, 16, .ro⟩, ⟨16, 16, .ro⟩]⟩,
  /- SES_CNT1 -/ ⟨0x10001C, 4, 1, 0x0, [⟨0, 16, .ro⟩, ⟨16, 16, .ro⟩]⟩,
  /- SES_FILT_SEL -/ ⟨0x100020, 4, 1, 0x0, [⟨0, 8, .rw⟩]⟩,
  /- SES_FILT0 -/ ⟨0x100024, 4, 1, 0x0, [⟨0, 8, .rw⟩, ⟨16, 6, .rw⟩, ⟨24, 4, .rw⟩, ⟨31, 1, .rw⟩]⟩,
  /- SES_FILT1 -/ ⟨0x100028, 4, 1, 0x0, [⟨0, 16, .rw⟩]⟩,
  /- SES_FILT2 -/ ⟨0x10002C, 4, 1, 0x0, [⟨0, 32, .rw⟩]⟩,
  /- SES_PSEL -/ ⟨0x100030, 4, 1, 0x0, [⟨0, 8, .rw⟩]⟩]

/-- Rows SES_PCFG to SES_KEY_DATA. -/
def regRows19 : List RegRow := [
  /- SES_PCFG -/ ⟨0x100034, 4, 1, 0x0, [⟨0, 20, .rw⟩, ⟨24, 6, .rw⟩]⟩,
  /- SES_PWIN0 -/ ⟨0x100038, 4, 1, 0x0, [⟨0, 32, .rw⟩]⟩,
  /- SES_PWIN1 -/ ⟨0x10003C, 4, 1, 0x0, [⟨0, 32, .rw⟩]⟩,
  /- SES_KEY_CTL -/ ⟨0x100040, 4, 1, 0x0, [⟨0, 8, .rw⟩, ⟨8, 1, .rw⟩, ⟨29, 1, .w1c⟩, ⟨30, 1, .ro⟩, ⟨31, 1, .wo⟩]⟩,
  /- SES_KEY_ID -/ ⟨0x100044, 4, 1, 0x0, [⟨0, 32, .wo⟩]⟩,
  /- SES_KEY_DATA -/ ⟨0x100060, 4, 8, 0x0, [⟨0, 32, .wo⟩]⟩]

/-- Every register row of the control space. -/
def regRows : List RegRow :=
  regRows0 ++ regRows1 ++ regRows2 ++ regRows3 ++ regRows4 ++ regRows5 ++ regRows6 ++ regRows7 ++
  regRows8 ++ regRows9 ++ regRows10 ++ regRows11 ++ regRows12 ++ regRows13 ++ regRows14 ++ regRows15 ++ regRows16 ++ regRows17 ++ regRows18 ++ regRows19

/-- The row of the register at word address `a`, if a register stands there (R384). -/
def regRow (a : Nat) : Option RegRow := regRows.find? (fun r => r.holds a)

/-- A register's value after a cold start (R6). The device's variant, its MAC address and its strap are constants of
the device (Config.lean). -/
def regReset (a : Nat) : Word :=
  if a = 0 then (if Config.dram32 then 0x77202210 else 0x77201210)
  else if a = 0x18 then (if Config.dram32 then 0x0020FF47 else 0x0010FF47)
  else if a = 0xE0020 then Config.macAddr.setWidth 32
  else if a = 0xE0024 then (Config.macAddr >>> 32).setWidth 32
  else match regRow a with
    | some r => BitVec.ofNat 32 r.reset
    | none => 0

end Sys2Proof.Machine
end

