-- ==== Sys2Proof/Machine/State.lean ====
section
/-!
DEFINITION. Machine/State.lean: everything the spec gives the LAL-7720, as plain data.
Every control register (Table 18.1) lives in `State.regs`; what the spec gives the device beside its registers
(engine state, memories, windows, groups, leases, sessions, queues, pins) has fields of its own below.
-/
namespace Sys2Proof.Machine

/-- The faults of the machine. -/
inductive Fault where
  /-- Raised by no command: every address that the spec leaves out reads as 0, takes no write or sets an error bit, as the
  spec says (R313, R370, R374). It stands here since a machine names its faults. SAFE. -/
  | noSuchAddress
deriving DecidableEq, Repr

/-- The refusals of the machine. -/
inductive Refusal where
  /-- Raised by an arm of `exec` whose command has no meaning yet. SAFE: nothing is claimed of it. -/
  | notModelled (mnemonic : String)
  /-- Raised by a meaning for a command whose operands the spec's encoding or table excludes (WellFormed.lean).
  SAFE: the spec gives such a command no effect and the boot verifier never admits it (R76, R102). -/
  | illFormed (mnemonic : String)
deriving DecidableEq, Repr

/-! ### The running structure: the records of the loaded Espalier and its grafts (08_espalier.md) -/

/-- Where a record stands: section-table index (0x3FF = running structure) and record index (R204). -/
structure Loc where
  sec : Nat
  idx : Nat
deriving DecidableEq, Repr, Inhabited

/-- BOARD record (Table 08.6). -/
structure BoardRec where
  loc : Loc := ⟨0x3FF, 0⟩
  budgetMw : Nat := 0
  declaredMw : Nat := 0
  twinMode : Nat := 0
  pcieEn : Nat := 0
  strapMask : Nat := 0
  strapValue : Nat := 0
  graftBursts : Nat := 0
  graftRegion : Nat := 0xFFFF
  silThr : Nat := 0
deriving DecidableEq, Repr, Inhabited

/-- CLOCK record (Table 08.7); the Tj bounds are signed °C. -/
structure ClockRec where
  loc : Loc := ⟨0x3FF, 0⟩
  family : Nat := 0
  mult : Nat := 0
  xtal : Nat := 0
  refsel : Nat := 0
  pllaCtl : Nat := 4
  pllbFrac : Nat := 0xC0000000
  pllbSeed : Nat := 1
  tjMin : Int := -128
  tjMax : Int := 127
deriving DecidableEq, Repr, Inhabited

/-- PARTITION record (Table 08.8); a window is (first, count) in partition block indices. -/
structure PartRec where
  loc : Loc := ⟨0x3FF, 0⟩
  id : Nat
  graftable : Bool
  maxSessions : Nat
  queueM1 : Nat
  share : Nat
  leaseQuota : Nat
  windows : List (Nat × Nat)
deriving DecidableEq, Repr, Inhabited

/-- PROGRAM section (R197, Table 08.9); a handle names (line, tap). -/
structure ProgRec where
  loc : Loc := ⟨0x3FF, 0⟩
  engine : Nat
  partition : Nat
  sleepable : Bool
  words : List (BitVec 64)
  execCycles : Nat
  mCount : Nat
  carried : List Word
  handles : List (Nat × Nat)
deriving DecidableEq, Repr, Inhabited

/-- BANKMAP record (Table 08.10). -/
structure BankRec where
  loc : Loc := ⟨0x3FF, 0⟩
  bank : Nat
  state : Nat
  owner : Nat
  periodLog2 : Nat
  readers : Nat
  slots : Nat
deriving DecidableEq, Repr, Inhabited

/-- DRAMREG record; base and length in units of 128 words (Table 08.10). -/
structure DramRec where
  loc : Loc := ⟨0x3FF, 0⟩
  partition : Nat
  graftBuf : Bool
  base : Nat
  length : Nat
deriving DecidableEq, Repr, Inhabited

/-- A tap of a line (TAPS record, Table 08.10). -/
structure TapRec where
  disp : Nat
  frac : Nat
  mode : Nat
  halfW : Nat
deriving DecidableEq, Repr, Inhabited

/-- LINES record with its taps resolved (Table 05.2, Table 08.10). -/
structure LineRec where
  loc : Loc := ⟨0x3FF, 0⟩
  cluster : Nat
  line : Nat
  tier : Nat
  partition : Nat
  writer : Nat
  preload : Nat
  srcWord : Nat
  base : Nat
  lenM1 : Nat
  taps : List TapRec
deriving DecidableEq, Repr, Inhabited

/-- BANKXFER record; `from` is 0x100 for UNOWNED. -/
structure XferRec where
  loc : Loc := ⟨0x3FF, 0⟩
  bank : Nat
  fromP : Nat
  toP : Nat
deriving DecidableEq, Repr, Inhabited

/-- One record of a DAUSCHED section (R199): cluster, k and its items (Table 08.11). -/
structure DauRec where
  loc : Loc := ⟨0x3FF, 0⟩
  cluster : Nat
  k : Nat
  items : List Nat
deriving DecidableEq, Repr, Inhabited

/-- DMAWIN record (Table 08.10). -/
structure WinRec where
  loc : Loc := ⟨0x3FF, 0⟩
  channel : Nat
  partition : Nat
  space : Nat
  access : Nat
  length : Nat
  base : Nat
deriving DecidableEq, Repr, Inhabited

/-- EXCHANGE record (Table 08.12). -/
structure ExchRec where
  loc : Loc := ⟨0x3FF, 0⟩
  kind : Nat
  count : Nat
  srcEngine : Nat
  dstEngine : Nat
  srcWord : Nat
  dstWord : Nat
  path : Nat
  links : Nat
  slots : List Nat
deriving DecidableEq, Repr, Inhabited

/-- IOROUTE record (Table 08.13); `num` is its number in the running structure (R401). -/
structure IoRec where
  loc : Loc := ⟨0x3FF, 0⟩
  num : Nat
  dir : Nat
  kind : Nat
  port : Nat
  k : Nat
  channel : Nat
  partition : Nat
  wordBits : Nat
  engine : Nat
  word : Nat
deriving DecidableEq, Repr, Inhabited

/-- PORTCFG record (R201); `set` holds its 28 bytes of settings. -/
structure PortRec where
  loc : Loc := ⟨0x3FF, 0⟩
  kind : Nat
  port : Nat
  set : List Nat
deriving DecidableEq, Repr, Inhabited

/-- BRIDGE record (Table 08.13). -/
structure BridgeRec where
  loc : Loc := ⟨0x3FF, 0⟩
  kind : Nat
  partition : Nat
  unit : Nat
  cluster : Nat
  srcKind : Nat
  srcEngine : Nat
  src : Nat
  dstKind : Nat
  dstEngine : Nat
  dst : Nat
deriving DecidableEq, Repr, Inhabited

/-- QSMIX record (Table 08.13). -/
structure QsMixRec where
  loc : Loc := ⟨0x3FF, 0⟩
  output : Nat
  partition : Nat
  pblock : Nat
  di : Nat
  bq : Nat
deriving DecidableEq, Repr, Inhabited

/-- PBLOCK record (R202); a holder engine is (engine, p). `holders` bits: engines, Quickset mixer, gain-cell array. -/
structure BlockRec where
  loc : Loc := ⟨0x3FF, 0⟩
  block : Nat
  partition : Nat
  holders : Nat
  engines : List (Nat × Nat)
  init : List Word
deriving DecidableEq, Repr, Inhabited

/-- GAINCELL record (R202). -/
structure CellRec where
  loc : Loc := ⟨0x3FF, 0⟩
  cell : Nat
  partition : Nat
  tgtBlock : Nat
  tgtWord : Nat
  watchEngine : Nat
  watchWord : Nat
  timeoutMs : Nat
deriving DecidableEq, Repr, Inhabited

/-- THORN record (Table 08.14). -/
structure ThornRec where
  loc : Loc := ⟨0x3FF, 0⟩
  kind : Nat
  port : Nat
  channel : Nat
  flags : Nat
  amon : Nat
  window : Nat
  peak : Nat
  knee : Nat
  rms : Nat
  dc : Nat
  amonHot : Nat
deriving DecidableEq, Repr, Inhabited

/-- TWIN record (Table 08.14). -/
structure TwinRec where
  loc : Loc := ⟨0x3FF, 0⟩
  group : Nat
  kind : Nat
  port : Nat
  channel : Nat
  diverge : Nat
  unripe : Nat
deriving DecidableEq, Repr, Inhabited

/-- The running structure: the records of the loaded full image with the graft images applied (R208). -/
structure Structure where
  seed : BitVec 64 := 0
  schema : Nat := 0
  settingsRequired : Bool := false
  minFw : Nat := 0
  board : BoardRec := {}
  clock : ClockRec := {}
  parts : List PartRec := []
  progs : List ProgRec := []
  banks : List BankRec := []
  drams : List DramRec := []
  lines : List LineRec := []
  xfers : List XferRec := []
  dau : List DauRec := []
  wins : List WinRec := []
  exch : List ExchRec := []
  phases : List (Nat × List Nat) := []
  io : List IoRec := []
  ports : List PortRec := []
  bridges : List BridgeRec := []
  qsmix : List QsMixRec := []
  blocks : List BlockRec := []
  cells : List CellRec := []
  thorn : List ThornRec := []
  twin : List TwinRec := []
  /-- one above the highest IOROUTE number given since the Espalier load (R401) -/
  ioNext : Nat := 0
  /-- tier-1 banks handed over since the Espalier load (R129): bank and new owner, 0x100 while none owns it -/
  handed : List (Nat × Nat) := []
deriving DecidableEq, Repr, Inhabited

/-! ### One sample engine (03_engine_datapath.md, Table 03.1) -/

/-- Which slot of a word a write comes from; the order decides ties (R48). -/
inductive Slot where
  | m | a | l0 | l1 | x
deriving DecidableEq, Repr, Inhabited

/-- The effect of an operation in flight, applied when it completes (R77, R79). -/
inductive Eff where
  /-- write the physical V register `p` (R49) from `slot` -/
  | wrV (slot : Slot) (p : Nat) (val : Word)
  /-- M update of ACC`k`: the value M updates of later cycles see (R53); `ov`: the exact sum was wrapped (R52) -/
  | accM (k : Nat) (val : Acc) (ov : Bool)
  /-- M update of ACC`k` reaching the A-slot view (Table 04.2, distance 4) -/
  | accView (k : Nat) (val : Acc)
  /-- A-slot write of ACC`k` (ACLR, LDA) -/
  | accA (k : Nat) (val : Acc)
  /-- A-slot write of one part of ACC`k` (APWR, R55); part 0 = lo, 1 = mid, 2 = hi -/
  | accPart (k : Nat) (part : Nat) (val : Word)
  /-- write K`n`; `long` marks a long A form, which wins over a post-modify (R79) -/
  | wrK (long : Bool) (n : Nat) (val : Addr24)
  | wrM (n : Nat) (val : Addr24)
  | rrbSet (val : BitVec 5)
  | rotate
  | bxClr
  | bxMin (e : Nat)
  | flgSet (mask : BitVec 6)
  | flgClr (mask : BitVec 6)
deriving DecidableEq, Repr, Inhabited

/-- An operation in flight; `left` cycles remain after the current one. -/
structure Pend where
  left : Nat
  eff : Eff
deriving DecidableEq, Repr, Inhabited

/-- One level of loop state (R96): body range, iterations left, rotation. -/
structure LoopLevel where
  first : Nat
  last : Nat
  left : Nat
  rot : Bool
deriving DecidableEq, Repr, Inhabited

/-- All state of one sample engine: Table 03.1, its memories, its windows and its checking queues. -/
structure Engine where
  /-- V0–V63 by physical number, default 0 -/
  v : Store Word := []
  /-- ACC0–ACC3 as M updates see them -/
  accM : Store Acc := []
  /-- ACC0–ACC3 as A-slot reads see them -/
  accA : Store Acc := []
  k : Store Addr24 := []
  m : Store Addr24 := []
  rrb : BitVec 5 := 0
  bx : BitVec 5 := 31
  flg : BitVec 6 := 0
  pc : Nat := 0
  loops : List LoopLevel := []
  /-- repetitions of the repeated word still to issue (R97) -/
  rep : Nat := 0
  /-- the loop or REP asked for by the X slot of the current word, taken at the end of the cycle -/
  seqLoop : Option LoopLevel := none
  seqRep : Nat := 0
  seqEnd : Bool := false
  phase : Nat := 0
  /-- END has issued in this program window (R101) -/
  done : Bool := false
  /-- the tick abort holds (R98): nothing more issues once `rep` is 0 -/
  aborted : Bool := false
  /-- this tick was cut short: every out-window word reads 0 (R99) -/
  cut : Bool := false
  /-- cycles issued in this program window; the cluster cycle is 256 + cyc -/
  cyc : Nat := 0
  /-- the program window of the current tick runs for this engine -/
  win : Bool := false
  /-- slots that have issued in the current cycle (R74, R75) -/
  used : List Slot := []
  /-- operations in flight -/
  fly : List Pend := []
  /-- local data memory, 65,536 words -/
  mem : Store Word := []
  /-- program memory, 24,576 words of 64 bits -/
  prog : Store (BitVec 64) := []
  /-- the word fetched for the current cycle was uncorrectable: its five slots do nothing (R68) -/
  dead : Bool := false
  /-- write-back queue, at most 4 addresses (R67) -/
  wbq : List Nat := []
  scrubData : Nat := 0
  scrubProg : Nat := 0
  /-- exchange windows, 1,024 words each, double-buffered (R134) -/
  outFront : Store Word := []
  outBack : Store Word := []
  inFront : Store Word := []
  inBack : Store Word := []
deriving DecidableEq, Repr, Inhabited

/-- A burst that the DAU has marked uncorrectable in tap staging (R127): the engine, line and tap it serves, the position of
its first word, the words received, and whether a point has been read from it. -/
structure BadBurst where
  engine : Nat
  line : Nat
  tap : Nat
  pos : Nat
  got : List Word
  reported : Bool := false
deriving DecidableEq, Repr, Inhabited

/-- A phase-hop word on its way: it lands in engine `dst`'s front in buffer before cluster cycle `at` (R139). -/
structure Hop where
  dst : Nat
  word : Nat
  val : Word
  landsAt : Nat
deriving DecidableEq, Repr, Inhabited

/-! ### Parameters, commit groups, gain cells and leases (07_parameters_and_commit.md) -/

/-- One gain cell (R177). -/
structure Cell where
  current : Word := 0
  target : Word := 0
  pending : Bool := false
  deadline : Nat := 0
  crossed : Bool := false
  last : Word := 0
deriving DecidableEq, Repr, Inhabited

/-- An answer frame (R381): transport, partition, session, frame number, operation and request. `op` 0 is OPEN_RESP. -/
structure Answer where
  bell : Bool
  part : Nat
  session : Nat
  frame : Nat
  op : Nat
  reqId : Nat
  reply : Reply
  /-- k_d2c, the UDP address and port, and the Nd and epoch of an OPEN_RESP -/
  key : BitVec 256 := 0
  addr : Nat := 0
  nd : BitVec 128 := 0
  epoch : Nat := 0
deriving DecidableEq, Repr, Inhabited

/-- A remembered COMMIT answer (R162). -/
structure Remembered where
  who : SessId
  seq : Nat
  ta : Nat
  tick : Nat
deriving DecidableEq, Repr, Inhabited

/-- A partition reset or graft that is pending or in progress (R210, R216, R217). -/
structure PartOp where
  part : Nat
  graft : Bool
  /-- boundary r, or s for a graft -/
  start : Nat
  /-- boundary c, known from boundary `start` on -/
  done : Option Nat
  /-- length of the graft image in bytes -/
  bytes : Nat
deriving DecidableEq, Repr, Inhabited

/-! ### Thorn guards and silence detectors (09_partitions_and_thorn.md) -/

/-- One Thorn guard (R221, R228). Causes are numbered as in Table 09.8. -/
structure Guard where
  /-- DC state, Q5.59 -/
  dcs : Int := 0
  /-- mean square, Q10.54 -/
  ms : Int := 0
  /-- RMS gain of the last sample, Q5.27 -/
  gain : Nat := 2 ^ 27
  /-- launch tick of the last sample -/
  tick : Nat := 0
  /-- causes present in that launch tick, and in the one before -/
  now : List Nat := []
  prev : List Nat := []
  /-- causes logged in that launch tick -/
  logged : List Nat := []
  /-- causes present on the last sample -/
  last : List Nat := []
deriving DecidableEq, Repr, Inhabited

/-! ### The pleached pair (10_twin_operation.md) -/

/-- What discarding a forwarded item has to undo (R248): a lease entry as it stood before; a partition reset or graft that is
pending; a stream-table write; a cluster-control write. -/
inductive Undo where
  | lease (index : Nat) (old : Option Lease)
  | reset (part : Nat)
  | graft (part : Nat)
  | stream (key tick : Nat)
  | cluster (tick a : Nat)
deriving DecidableEq, Repr, Inhabited

/-- The link frame that this twin sends in a tick (Table 10.3): classes 1, 3 and 4; the copy-window stream; and the bulk copy
of tier-2 lines as cluster, line, first word and words. -/
structure LinkSent where
  frame : LinkFrame
  copy : List CopyWord
  bulk : List (Nat × Nat × Nat × List Word)
  /-- bytes that the frame has left for items of the control stream that the rest of the tick brings -/
  room : Nat := 0
deriving DecidableEq, Repr, Inhabited

/-- What the twin logic holds beside its registers: the link, the partner's last heartbeat, pins and timers. -/
structure Twin where
  /-- whole ticks in a row without a valid heartbeat, and whether the current tick has brought one (R239) -/
  silent : Nat := 0
  heard : Bool := false
  /-- this twin followed in the tick that ended at the last boundary: what it shares of that tick are the owner's words (R237) -/
  followed : Bool := false
  /-- heartbeats sent in LOAD, before the tick runs (R236; log entry 157) -/
  loadFrames : Nat := 0
  /-- link frames received this tick carried the owner's items (R237) -/
  gotOwner : Bool := false
  partnerBoot : Nat := 0
  partnerRipe : Nat := 0
  partnerOwner : Bool := false
  partnerFault : Bool := false
  /-- images equal (0), compatible (1), neither (2), or not yet known (3), R234 -/
  image : Nat := 3
  /-- the partner's image hash as its heartbeats have shown it, by part; consecutive heartbeats received, and the tick of the
  last one (R239) -/
  hashParts : Store Word := []
  hashRun : Nat := 0
  lastTick : Word := 0
  paired : Bool := false
  /-- joining tick J (R252) -/
  joinTick : Option Nat := none
  /-- boundary H of a planned handover (R251) -/
  hoPend : Option Nat := none
  /-- restart waits for the planned handover (R273) -/
  restartAfterHo : Bool := false
  /-- ownership change due at step 1 of the next boundary: `some true` = take, `some false` = give up -/
  ownNext : Option Bool := none
  /-- leave the pair at step 1 of the boundary of this tick (R248) -/
  splitAt : Option Nat := none
  /-- groups still without confirmation are checked at this tick -/
  skewTicks : Nat := 0
  /-- output CRCs that travel in this tick: own, and the partner's, per TWIN group (R240) -/
  ownCrc : Store Word := []
  partCrc : Store Word := []
  /-- consecutive compared ticks that matched, per group (R241, R257) -/
  matched : Store Nat := []
  /-- first launch tick of a divergence mute, and the one in which it has ended, plus one; 0 = none (R241) -/
  muteFrom : Store Nat := []
  muteTo : Store Nat := []
  /-- first launch tick that this twin owns, for frames and for packets, and the first that it owns no more (R249, R251) -/
  ownFrom : Nat := 0
  pktFrom : Nat := 0
  ownUntil : Nat := 0
  /-- boundary plus one from which an engine's state equals the partner's, while this twin joins (R255, R256) -/
  eqFrom : Store Nat := []
  /-- tier-2 lines whose bulk copy has passed every word, and, at the owner, the words passed of the next (R256) -/
  bulkDone : List Nat := []
  bulkAt : Nat := 0
  /-- joining tick J from which the copy proceeds, on both twins, until the joiner is RIPE (R252, R255) -/
  copyFrom : Option Nat := none
  /-- the engines of the set that is copied in the current tick (R255) -/
  copyNow : List Nat := []
  /-- blocks of the parameter copy that wait for free commit-window words: number, flip bit, current words (R253) -/
  params : List (Nat × Nat × List Word) := []
  /-- the link frame of the current tick (R233) -/
  sent : Option LinkSent := none
  /-- the last control-stream item taken from the partner, and the last of our own that a frame has carried (R233) -/
  rxSeq : Nat := 0
  sentTo : Nat := 0
  /-- forwarded items and their confirmations, by number in the order of R185 -/
  ctlSeq : Nat := 0
  ctlConfirmed : Nat := 0
  /-- ASRC measurement words and hot states in force, from the owner (R237) -/
  asrcMeas : Store Word := []
  ownerHot : Store Nat := []
  /-- the owner's network words of the last tick, if its items arrived (R237) -/
  ownerNet : Option (Store Word) := none
  /-- the drivers are armed after a confirmed loss of the partner (R244) -/
  armed : Bool := false
  /-- the partner has stopped: its sessions' leases break at the next boundary (R187) -/
  peerGone : Bool := false
  /-- sessions of the partner that end at the next boundary: number and epoch (R382) -/
  peerEnded : List (Nat × Nat) := []
  /-- the follower leaves the pair at step 1 of the next boundary, having confirmed the items up to this one (R248) -/
  detach : Option Nat := none
  /-- forwarded items taken, by number, with what a split has to undo (R248) -/
  taken : List (Nat × Undo) := []
  /-- items of `ctlOut` acknowledged so far (R233) -/
  acked : Nat := 0
  /-- tick from which this twin is SOLE after a takeover (R258), for Table 10.10 -/
  soleAt : Nat := 0
  /-- 500 ms have passed at the end of L5 without an aligned link (Table 11.5) -/
  soleOk : Bool := false
  /-- role B yields to role A at the next boundary (R267) -/
  yield : Bool := false
  /-- place in the list of blocks of the next parameter copy to a joiner, plus one; 0 = none is due (R253) -/
  paramNext : Nat := 0
  /-- groups kept floated by the unripe policy mute (Table 10.10) -/
  kept : List Nat := []
deriving DecidableEq, Repr, Inhabited

/-! ### Boot, OTP, flash and scene memory (11_start_and_recovery.md) -/

/-- One entry of the boot record shown in BOOT_RECi. -/
structure BootEntry where
  start : Nat := 0
  cause : Nat := 0
  counted : Bool := false
  slot : Nat := 0
  state : Nat := 0
  detail : Nat := 0
deriving DecidableEq, Repr, Inhabited

/-- The boot record in scene memory (Table 11.7) and the RWS registers of the always-on domain: what survives every
reset (R6, R269). -/
structure BootNv where
  startFails : Nat := 0
  slotActive : Nat := 0
  slotLkg : Nat := 3
  begun : Bool := false
  reached : Nat := 0
  startNo : Nat := 0
  /-- the cause that ended the last start, until the next one takes it: cause, counted, detail -/
  pend : Option (Nat × Bool × Nat) := none
  /-- the last 8 start causes, newest first (R283) -/
  log : List BootEntry := []
deriving DecidableEq, Repr, Inhabited

/-- One of the two copies of the boot record (Table 11.7): its sequence number, its CRC-32C, and what it holds (R283). -/
structure BootCopy where
  seq : Nat := 0
  crc : Word := 0
  body : BootNv := {}
deriving DecidableEq, Repr, Inhabited

/-- Owner OTP (Table 11.8). `none` = unprogrammed. -/
structure Otp where
  keyHash : Store (BitVec 256) := []
  keyProg : List Nat := []
  revoked : List Nat := []
  minSec : Nat := 0
  failLimit : Option Nat := none
  hostWait : Option Nat := none
  bootSrc : Option Nat := none
  stubCfg : Option Nat := none
  stub : Store (BitVec 64) := []
deriving DecidableEq, Repr, Inhabited

/-- An OTP programming request (R282): operation and argument of Table 11.10, BOOT_OTP_DATA0 and 1, and the key hash. -/
structure OtpReq where
  op : Nat
  arg : Nat
  d0 : Nat
  d1 : Nat
  hash : BitVec 256
deriving DecidableEq, Repr, Inhabited

/-- A settings generation (R275). -/
structure Gen where
  seq : Nat := 0
  schema : Nat := 0
  hash : BitVec 256 := 0
  /-- the state is VALID -/
  valid : Bool := false
  writing : Bool := false
  confirmed : Bool := false
  body : List (Nat × Nat × List Word) := []
  /-- CRC-32C over header and body -/
  crc : Word := 0
deriving DecidableEq, Repr, Inhabited

/-- A verification in progress beside audio (R209): op of Table 08.22, slot, partition, ESP_GRAFT_SRC. -/
structure EspOp where
  op : Nat
  slot : Nat
  part : Nat
  src : Nat
deriving DecidableEq, Repr, Inhabited

/-- A settings save in progress (R277): target slot, its sequence number, blocks read so far, blocks left. -/
structure Save where
  slot : Nat
  seq : Nat
  got : List (Nat × Nat × List Word)
  left : List Nat
deriving DecidableEq, Repr, Inhabited

/-! ### Audon sessions (17_host_and_control_ports.md) -/

/-- An open session (R376, R379, R382). -/
structure Session where
  part : Nat
  epoch : Nat
  /-- true = doorbell page, false = UDP -/
  bell : Bool
  /-- answers go to this source address and port (UDP) -/
  addr : Nat
  /-- highest accepted sequence number H, and the accepted ones among the last 64 -/
  high : Nat
  seen : List Nat
  /-- frames sent -/
  txSeq : Nat
  /-- milliseconds since the newest authenticated frame -/
  idle : Nat
  /-- the session ends at the next boundary (R382) -/
  ending : Bool
  /-- k_c2d and k_d2c (R378), byte 0 first -/
  kIn : BitVec 256 := 0
  kOut : BitVec 256 := 0
deriving DecidableEq, Repr, Inhabited

/-- An open request held for the supervisor's decision (R378). -/
structure OpenReq where
  part : Nat
  bell : Bool
  addr : Nat
  ms : Nat
  /-- Nc, byte 0 first -/
  nc : BitVec 128 := 0
deriving DecidableEq, Repr, Inhabited

/-- Who waits for an answer: a session on a transport, CMT_SUBMIT, a session of the partner, or its CMT_SUBMIT. -/
inductive Asker where
  | session (num : Nat) (op reqId : Nat)
  | submit
  | peer (num : Nat) (op reqId : Nat)
  | peerSubmit
deriving DecidableEq, Repr, Inhabited

/-- An answer withheld until the follower confirms item `ctl`, or until the end of tick `ta` + 1 (R185, R186). -/
structure Held where
  ctl : Nat
  ta : Nat
  asker : Asker
  reply : Reply
  /-- what is remembered when it goes out (R162) -/
  rem : Option Remembered := none
deriving DecidableEq, Repr, Inhabited

/-! ### Supervisor cores (14_supervisor_core.md, Table 14.1) -/

/-- A result of a supervisor instruction on its way to its register (R321). -/
inductive SvEff where
  | w (n : Nat) (v : Half)
  | b (n : Nat) (v : Addr24)
  /-- the value that address generation, JMPB, BLO and BHI see (Table 14.9) -/
  | bAddr (n : Nat) (v : Addr24)
  | flags (v : BitVec 4)
  | crcpLo (v : Half)
  | crcpHi (v : Half)
  | crcm (v : Bool)
deriving DecidableEq, Repr, Inhabited

/-- A result in flight: `left` more instructions issue before it is seen; `load` marks a load's result, which loses
against another write of the same register that completes with it (R322). -/
structure SvPend where
  left : Nat
  load : Bool
  eff : SvEff
deriving DecidableEq, Repr, Inhabited

/-- One supervisor core. -/
structure SvCore where
  w : Store Half := []
  b : Store Addr24 := []
  /-- B registers as address generation, JMPB, BLO and BHI see them -/
  bAddr : Store Addr24 := []
  /-- before firmware runs, the core runs ROM code, from its first word on (log entry 24) -/
  pc : Addr24 := 0x300000
  /-- Z, N, C, V in bits 3:0 -/
  flags : BitVec 4 := 0
  crcpLo : Half := 0
  crcpHi : Half := 0
  crcm : Bool := false
  evt : Half := 0
  even : Half := 0
  /-- control-window write buffer and read holding word (R314) -/
  wbuf : Half := 0
  hold : Half := 0
  /-- the next instruction stands in a branch's delay slot (R318): the target where the branch is taken -/
  slot : Option (Option Addr24) := none
  fly : List SvPend := []
  /-- WAIT has stopped issue (R320) -/
  waiting : Bool := false
  /-- the core issues: it has not stopped (R323) -/
  on : Bool := true
  /-- where the core starts (R328): until firmware is placed, the ROM's first word -/
  entry : Nat := 0x300000
  /-- words 0 to protWords − 1 are protected (R326) -/
  protWords : Nat := 0
  /-- local memory, 512 Ki words -/
  mem : Store Half := []
deriving DecidableEq, Repr, Inhabited

/-! ### Ports (06_exchange_and_rate_domains.md, 12_serial_audio_ports.md) -/

/-- A frame that an AES3 transmitter sends (R292): both port words, their V bits, and the channel-status bit. -/
structure AesFrame where
  wordA : Word
  wordB : Word
  vA : Bool
  vB : Bool
  /-- a Z preamble: the first frame of a channel-status block -/
  z : Bool
  cs : Bool
deriving DecidableEq, Repr, Inhabited

/-- The serial ports. Channel samples are kept by `chanKey`: kind, port, channel and sample within the tick. -/
structure Io where
  /-- input words latched since the last capture instant, in Q5.27 (R142, R144) -/
  inNow : Store Word := []
  /-- the input words that the last capture instant closed -/
  inTick : Store Word := []
  /-- network words of the tick before, delivered one tick later in twin mode (R237) -/
  netHeld : Store Word := []
  /-- output words on their way to their Thorn guards, in Q5.27 (R143) -/
  outSrc : Store Word := []
  /-- output words formed for the next launch instant, and those that are leaving: port words of b bits (R226) -/
  outNext : Store Word := []
  outNow : Store Word := []
  /-- the tick of the last launch instant, plus one -/
  launched : Nat := 0
  /-- output words before any mute, for the output CRCs of R240: those formed last, and the Quickset words of this tick -/
  raw : Store Word := []
  rawQs : Store Word := []
  /-- ASRC measurement words by receiver: this device's of the current tick, and those of the tick before that count (R149) -/
  asrcOwn : Store Word := []
  asrcMeas : Store Word := []
  /-- the memory of each receiver's ratio loop, and the phase words of this tick and the next (R149) -/
  asrcLoop : Store Nat := []
  asrcPhase : Store Word := []
  asrcPhaseNext : Store Word := []
  /-- received samples by 2 × receiver + channel, newest first (R149) -/
  asrcRx : Store (List Word) := []
  /-- receivers whose ASRC delivers samples in the current tick (R148) -/
  asrcOn : Store Bool := []
  /-- samples on which a guard held a mute, formed and leaving (R292) -/
  muteNext : List Nat := []
  muteNow : List Nat := []
  /-- TDM_DO slots that this twin drives in the frame in progress, by 16 × port + slot (R249) -/
  tdmDrives : Store Bool := []
  /-- what each TDM_DO slot carried last; `none` = the ball floats -/
  tdmOut : Store (Option Word) := []
  /-- consecutive good frames in SEARCH and consecutive FS errors in LOCKED, per TDM group; 4 = Quickset -/
  fsGood : Store Nat := []
  fsBad : Store Nat := []
  /-- previous good sample by 2 × receiver + channel (R290) -/
  aesPrev : Store Word := []
  /-- ticks since the ASRC entered LOCKED (R148) -/
  asrcTicks : Store Nat := []
  /-- frames since the start of the transmitter's channel-status block, plus one; 0 = it starts one next (R292) -/
  aesBlock : Store Nat := []
  /-- the local sample address code of the block in progress (Table 12.4) -/
  aesAddr : Store Nat := []
  /-- the frame each transmitter sent last; `none` = its pins float -/
  aesOut : Store (Option AesFrame) := []
  /-- current word of each QS_DI lane as the mixer sees it -/
  qsIn : Store Word := []
  /-- seq of the lane's last word without a framing error, plus one; 0 = none since LOCKED (R295) -/
  qsSeq : Store Nat := []
  /-- gains of the blocks that flipped at the last boundary, as they were before it, by 64 × block + word -/
  qsOld : Store Word := []
  qsFlipped : List Nat := []
  /-- what each QS_DO lane sent last, bit 0 of Table 12.6 in bit 31; `none` = the ball floats -/
  qsOut : Store (Option Word) := []
  /-- source words of the last ticks of each bridge, newest first (R147) -/
  bridgeHist : Store (List (List Word)) := []
  /-- samples of the B→Q bridges of this tick and of the one before, by 16 × unit + sample (R147) -/
  bqNow : Store Word := []
  bqPrev : Store Word := []
  /-- results of port bridges for output channels, by `chanKey` -/
  bridgeOut : Store Word := []
deriving DecidableEq, Repr, Inhabited

/-! ### Network audio (13_network_audio_and_time.md) -/

/-- A sample in a receive stream's buffer (R303): stream entry, channel of the run, stream sample index. -/
structure RxSample where
  entry : Nat
  chan : Nat
  s : Int
  val : Word
deriving DecidableEq, Repr, Inhabited

/-- A stream packet that the device sends (R306). -/
structure RtpPacket where
  port : Nat
  /-- source address: the sending port's (R307) -/
  src : Nat
  dst : Word
  udp : Nat
  pt : Nat
  ssrc : Word
  seq : Nat
  ts : Nat
  /-- DSCP of the IP header, and VID and PCP of the 802.1Q tag on a port with vlan_en (Table 13.2) -/
  dscp : Nat
  vlan : Option (Nat × Nat)
  /-- port words, sample by sample in channel order -/
  samples : List Word
deriving DecidableEq, Repr, Inhabited

/-- A PTP message that the device sends (R309): as a stream packet, with its body as it leaves, the UDP checksum forced to 0 where the
hardware has written into the body, and its transmit timestamp in tenths of a nanosecond of the PHC. -/
structure PtpFrame where
  port : Nat
  src : Nat
  dst : Word
  udp : Nat
  dscp : Nat
  vlan : Option (Nat × Nat)
  body : List Byte
  noSum : Bool
  stamp : Option Nat
deriving DecidableEq, Repr, Inhabited

/-- A frame passed to the supervisor (R299): its port, its hardware timestamp in tenths of a nanosecond of the PHC (PTP), and what it
carries. -/
structure SvFrame where
  port : Nat
  stamp : Option Nat
  body : EthBody
deriving DecidableEq, Repr, Inhabited

/-- Counters of a stream entry (NET_STR_CNT0, NET_STR_CNT1). -/
structure StreamCnt where
  leg0 : Nat := 0
  leg1 : Nat := 0
  missing : Nat := 0
  early : Nat := 0
deriving DecidableEq, Repr, Inhabited

/-- The network ports, the stream tables and the PTP hardware clock. Tables are keyed by 512 × tx + index. -/
structure Net where
  /-- stream entries of 8 words -/
  entries : Store (List Word) := []
  counts : Store StreamCnt := []
  /-- accepted writes: boundary at which they take effect, entry, words (R302) -/
  writes : List (Nat × Nat × List Word) := []
  rx : List RxSample := []
  /-- port words of transmit streams not yet sent: entry, sample index, words in channel order -/
  tx : List (Nat × Nat × List Word) := []
  /-- a transmit stream runs from its first packet boundary (R302) -/
  txOn : Store Bool := []
  /-- transmit streams that end after the packet in progress, with their old words: the entry plus 1,024, 2,048, … -/
  txEnding : Store (List Word) := []
  /-- packets sent, and frames passed to the supervisor, since the last tick boundary -/
  sent : List RtpPacket := []
  toSv : List SvFrame := []
  ptpOut : List PtpFrame := []
  /-- NET_CTL.tx_mode in force (R307) -/
  txMode : Nat := 0
  /-- PHC: seconds and nanoseconds (R310) -/
  sec : Nat := 0
  ns : Nat := 0
  /-- seconds latched by a read of NET_PTP_TIME, per reader path; media origin likewise (R40) -/
  secHold : Store Nat := []
  orgHold : Store Nat := []
  orgSet : Bool := false
  /-- milliseconds since the link of a port went down (R298) -/
  downMs : Store Nat := []
  /-- the last tick whose capture instant has passed, plus one -/
  captured : Nat := 0
  /-- fraction of a nanosecond of the PHC: in units of 1/f ns with the media clock, of 2^-64 ns as PTP_DCO (R310) -/
  nsFrac : Nat := 0
  dcoFrac : Nat := 0
  /-- the session filter table: SES_FILT0 to SES_FILT2 by entry (R376) -/
  filt : Store (List Word) := []
  /-- Audon datagrams in the 64 KiB input buffer, oldest first: partition, source address and port, bytes (R380) -/
  audonIn : List (Nat × Nat × List Byte) := []
deriving DecidableEq, Repr, Inhabited

/-! ### Clocks (02_clocks_and_tick.md) -/

/-- What a clock output does from the last boundary on (R34). -/
structure ClkOut where
  en : Bool := false
  divM1 : Nat := 1
  /-- IOCLK periods since the last rising edge at the boundary, and the divisor minus 1 of the period in progress -/
  phase : Nat := 0
  curM1 : Nat := 1
  /-- the period in progress is low throughout, so that no low pulse is cut short -/
  held : Bool := false
  /-- IOCLK periods for which a disabled output stays high from the boundary on -/
  high : Nat := 0
  /-- delay in sixteenths of an IOCLK period, as last reloaded -/
  dly : Nat := 0
deriving DecidableEq, Repr, Inhabited

/-- PLL-A and the clock outputs beside their registers. -/
structure Clk where
  /-- sources that are valid, and for how many milliseconds (Table 02.3; XTAL is always valid) -/
  valid : Store Bool := []
  validMs : Store Nat := []
  /-- control words of the last 80 updates, newest first (R26) -/
  hist : List Int := []
  /-- the word that HOLDOVER froze -/
  frozen : Int := 0
  /-- CLK_PLLA_CTL.bw in force (R24) -/
  bw : Nat := 4
  /-- milliseconds for which the phase error has stayed within ±50 ns -/
  inBandMs : Nat := 0
  /-- the source that PLL-A follows has reached LOCKED since its acquisition (R27) -/
  hadLock : Bool := false
  /-- slew not yet used by whole units of the control word (R28) -/
  slewAcc : Nat := 0
  /-- milliseconds since the PTP servo's last update (Table 02.4) -/
  servoMs : Nat := 0
  /-- the clock outputs in force by number, WCLK_OUT's enable, and whether they are driven by their registers (R35) -/
  outs : Store ClkOut := []
  wclkEn : Bool := false
  driven : Bool := false
deriving DecidableEq, Repr, Inhabited


/-! ### Host interrupts, local bus, doorbell pages, keys (17_host_and_control_ports.md) -/

/-- The MSI-X table in BAR4 (Table 17.1, R371). -/
structure Msix where
  /-- message address and data by vector -/
  ents : Store (BitVec 64 × Word) := []
  /-- vectors that are not masked -/
  open' : Store Bool := []
  /-- vectors whose pending bit is set -/
  pend : List Nat := []
  /-- vectors sent since the last tick boundary, oldest first -/
  sent : List Nat := []
deriving DecidableEq, Repr, Inhabited

/-- The local-bus locations of Table 17.4. -/
structure LbPort where
  ptr : Word := 0
  wbuf : Half := 0
  hold : Half := 0
  autoinc : Bool := false
  /-- int_pend bits 1 (supervisor doorbell), 2 (BOOT_STATE change) and 3 (mailbox collision) -/
  svDb : Bool := false
  bootChg : Bool := false
  collide : Bool := false
  mask : BitVec 4 := 0
  mpage : Nat := 0
  /-- LB_BUSY_N pulsed low for the last access (Table 17.6) -/
  busy : Bool := false
deriving DecidableEq, Repr, Inhabited

/-- A doorbell page (Table 17.3). -/
structure Page where
  txBase : BitVec 64 := 0
  rxBase : BitVec 64 := 0
  en : Bool := false
  irqEn : Bool := false
  rxLog2 : Nat := 0
  txLog2 : Nat := 0
  txTail : Nat := 0
  txHead : Nat := 0
  rxTail : Nat := 0
  rxHead : Nat := 0
  fmtErr : Bool := false
  winErr : Bool := false
  /-- the rings run; a clear of en lets the frame in progress end first (R372) -/
  run : Bool := false
deriving DecidableEq, Repr, Inhabited

/-- A partition key slot (R383). -/
structure KeySlot where
  key : BitVec 256 := 0
  id : Word := 0
  valid : Bool := false
deriving DecidableEq, Repr, Inhabited

/-- A partition's host window: SES_PCFG, and the base in SES_PWIN. -/
structure HostWin where
  cfg : Word := 0
  base : BitVec 64 := 0
deriving DecidableEq, Repr, Inhabited

/-! ### Stream DMA (15_dma.md) -/

/-- What a DMA channel waits for outside the device or reads next. -/
inductive DmaPhase where
  /-- the descriptor at HEAD is to be read -/
  | fetch
  /-- data moves -/
  | move
  /-- the written data is to be known to have arrived (R339) -/
  | barrier
  /-- it has arrived while the channel was STOPPED; the completion writes are still to be issued -/
  | arrived
deriving DecidableEq, Repr, Inhabited

/-- One DMA channel beside its registers. -/
structure Chan where
  phase : DmaPhase := .fetch
  /-- the descriptor in progress, 8 words -/
  desc : Option (List Word) := none
  /-- a read towards the host is outstanding -/
  asked : Bool := false
  /-- bytes read and not yet dropped, from byte `bufAt` of the descriptor on (the 1 KiB channel buffer) -/
  buf : List Byte := []
  bufAt : Nat := 0
  /-- bytes left of the current burst, and of the round-robin share (R341, R343) -/
  burst : Nat := 0
  share : Nat := 0
  /-- the half event of the descriptor has happened -/
  half : Bool := false
  /-- first tick whose TICK request is taken (R341) -/
  fromTick : Nat := 0
deriving DecidableEq, Repr, Inhabited

/-- The DMA block. -/
structure Dma where
  chans : Store Chan := []
  /-- the channel that had the last beat, per priority -/
  last : Store Nat := []
  /-- bytes written to host memory since the last tick boundary: address and bytes, oldest first -/
  host : List (Nat × List Byte) := []
deriving DecidableEq, Repr, Inhabited

/-! ### Power domains (16_power_and_monitoring.md) -/

/-- A power domain beside its registers. -/
structure Dom where
  /-- the state being entered in ENTERING: 1 = RETENTION, 2 = OFF -/
  target : Nat := 0
  /-- the state that a wake left -/
  left : Nat := 0
  /-- parts ready in WAKING: supply, clock, memories, logic (R351) -/
  ready : Nat := 0
  /-- a class-L wake arrived in ENTERING, with its source (R352) -/
  latched : Option Nat := none
deriving DecidableEq, Repr, Inhabited
/-! ### The whole machine -/

/-- The state of the LAL-7720. -/
structure State where
  /-- the commands that wait, first in, first out -/
  pending : List Instr := []
  /-- the control registers; an unlisted one holds its value after a cold start (R6) -/
  regs : Store Word := []
  /-- the model's own counter for fresh free values (log entry 3) -/
  freeCtr : Nat := 0
  /-- TICK_COUNT (R39) -/
  tick : Nat := 0
  /-- the tick generator runs (R262) -/
  tickOn : Bool := false
  /-- holding registers of TICK_COUNT for the supervisor (0), PCIe (1) and the local bus (2), R40 -/
  tickHold : Store Word := []
  /-- the sample engines by device engine number (R43) -/
  eng : Store Engine := []
  /-- phase-hop words on their way (R139) -/
  hops : List Hop := []
  /-- the running structure (R208) -/
  str : Structure := {}
  /-- the LOCK fields are closed (Table 00.4, Table 11.3 L2) -/
  locked : Bool := false
  /-- parameter store, copy A, by 64 × block + word (R155) -/
  pstA : Store Word := []
  /-- parameter store, copy B (R155) -/
  pstB : Store Word := []
  /-- the Quickset mixer's copy A (R155) -/
  qsA : Store Word := []
  /-- the Quickset mixer's copy B (R155) -/
  qsB : Store Word := []
  /-- the gain-cell array's copy A (R155) -/
  gcA : Store Word := []
  /-- the gain-cell array's copy B (R155) -/
  gcB : Store Word := []
  /-- submission buffer of partition 0, 8,192 words (R159) -/
  subm : Store Word := []
  /-- accepted groups in acceptance order, until their echo or undo ends -/
  groups : List Group := []
  /-- the lease table by entry (R179) -/
  leases : Store Lease := []
  /-- the serial of the next lease of an entry, where one was granted (R179) -/
  leaseSerial : Store Nat := []
  /-- broken-lease flags by block (R181) -/
  broken : Store Bool := []
  /-- the gain cells by number (R177) -/
  cells : Store Cell := []
  /-- remembered answers of commits (R162) -/
  remembered : List Remembered := []
  /-- resets and grafts pending or in progress (R219) -/
  partOps : List PartOp := []
  /-- delay lines' ages by 1,024 × cluster + line (R107) -/
  age : Store Nat := []
  /-- tier-1 delay SRAM by 65,536 × bank + word -/
  delay : Store Word := []
  /-- in-package DRAM by word address -/
  dram : Store Word := []
  /-- words in the DAUs' write staging, by the DRAM word address they wait for (R105, R122) -/
  staged : List (Nat × Word) := []
  /-- bursts marked uncorrectable in tap staging (R127) -/
  badBursts : List BadBurst := []
  /-- DRAM retraining (R126): the channel that is next -/
  retrainCh : Nat := 0
  /-- DRAM retraining (R126): the tick from which that channel's is due -/
  retrainDue : Nat := 0
  /-- open sessions by number (R376, R378) -/
  sessions : Store Session := []
  /-- session epochs by session number (R378, R379) -/
  epochs : Store Nat := []
  /-- open requests held for the supervisor's decision (R378) -/
  openReqs : List OpenReq := []
  /-- answers waiting for their doorbell ring (R372), in order -/
  bellOut : List Answer := []
  /-- frames sent on UDP in the current tick, and OPEN_RESP frames -/
  udpOut : List Answer := []
  /-- answers withheld until the follower has confirmed (R185, R186) -/
  held : List Held := []
  /-- a self-detected fault has occurred since the last start (R243) -/
  faultStart : Bool := false
  /-- a self-detected fault has occurred since Espalier load (R224) -/
  faultLoad : Bool := false
  /-- every output driver is floated (R249, R270) -/
  floated : Bool := true
  /-- the cause whose hold precedes a restart (R270) -/
  hold : Option Nat := none
  /-- boot record and values that survive every reset (Table 11.7, R269) -/
  nv : BootNv := {}
  /-- the two copies of the boot record by number (R283) -/
  recs : Store BootCopy := []
  /-- owner OTP (Table 11.8, R282) -/
  otp : Otp := {}
  /-- an OTP programming in progress (R282) -/
  otpNext : Option OtpReq := none
  /-- strap pins sampled at AON reset: TWIN_ROLE in bit 0, STRAP0–7 in bits 8:1 (R396) -/
  strap : BitVec 9 := 0
  /-- settings generations in slots 0 and 1 (Table 11.7) -/
  gens : Store Gen := []
  /-- a settings save in progress (R277) -/
  save : Option Save := none
  /-- phases of the start that have ended: L1 to L5 (Table 11.3) -/
  phases : List Nat := []
  /-- cycles left over by the millisecond count at boundaries: the model's own (log entry 76) -/
  msFrac : Nat := 0
  /-- twin logic beside its registers (R230 to R260) -/
  twin : Twin := {}
  /-- items waiting on the control stream (Table 10.3) -/
  ctlOut : List CtlItem := []
  /-- Thorn guards by guard number (R220) -/
  guards : Store Guard := []
  /-- hot states of each guard's thermal link at the last four boundaries (R225): newest in bit 0 -/
  hot : Store Nat := []
  /-- silence counts by IOROUTE number (R229) -/
  silence : Store Nat := []
  /-- whether a route's last tick was silent (R229) -/
  silent : Store Bool := []
  /-- an IEEE 1149.1 instruction other than BYPASS or IDCODE is loaded (R222) -/
  jtag : Bool := false
  /-- the AMON input has produced a GOOD conversion since it was last enabled (R225) -/
  amonGood : Store Bool := []
  /-- the first launch tick after the partition's last reset or graft mute (Table 09.7) -/
  muteEnd : Store Nat := []
  /-- the supervisor cores, SV0 and SV1 (R311) -/
  sv : Store SvCore := []
  /-- the watchdog: the first half of a kick has been written (R327) -/
  kick : Bool := false
  /-- the watchdog: WDT_WARN has been raised in this period (R327) -/
  wdtWarned : Bool := false
  /-- mailbox RAM by 16-bit word (R312) -/
  mbx : Store Half := []
  /-- in-package flash: slots A and B by byte (R330) -/
  flash : Store Byte := []
  /-- the flash command in progress: op, address, page (R330) -/
  flashOp : Option (Nat × Nat × List Byte) := none
  /-- the serial ports (R284 to R297) -/
  io : Io := {}
  /-- PLL-A and the clock outputs (R23 to R36) -/
  clk : Clk := {}
  /-- data of the last control read on each path: SV0, SV1, PCIe, local bus (R370) -/
  readData : Store Word := []
  /-- clusters whose tick guard of the current tick has run (R134) -/
  guarded : List Nat := []
  /-- next delay-SRAM row that a cluster's scrubber visits (R119) -/
  scrubRow : Store Nat := []
  /-- MSI-X (R371) -/
  msix : Msix := {}
  /-- the local-bus port (Table 17.4, R373) -/
  lb : LbPort := {}
  /-- doorbell pages by number (Table 17.3) -/
  pages : Store Page := []
  /-- host windows by partition (SES_PCFG, SES_PWIN; R372) -/
  hostWins : Store HostWin := []
  /-- partition key slots by number (R383) -/
  keys : Store KeySlot := []
  /-- the key-slot operation in progress: slot and the contents that it leaves (R383) -/
  keyOp : Option (Nat × KeySlot) := none
  /-- the DMA channels (R332 to R346) -/
  dma : Dma := {}
  /-- power domains, by number (Table 16.1) -/
  doms : Store Dom := []
  /-- banks that change owner at the next boundary, cleared for the new one (R129) -/
  bankOwned : List Nat := []
  /-- banks that go ON at the next boundary (R130) -/
  bankOn : List Nat := []
  /-- banks whose zero fill after OFF is in progress (R130) -/
  bankFill : List Nat := []
  /-- hot conversions in a row, by sensor (R363) -/
  hotRun : Store Nat := []
  /-- accepted cluster-control writes: boundary, register address, value (R359) -/
  cluWrites : List (Nat × Nat × Word) := []
  /-- boundary at which a waking cluster runs its first window, plus one; 0 = not waking (R357) -/
  wakeAt : Store Nat := []
  /-- AMON: the plain code that awaits its test, plus one; and the phase of the alternation (R368) -/
  amonPlain : Store Nat := []
  /-- external QSPI flash, slots A and B by byte (Table 11.8 boot_src) -/
  qspi : Store Byte := []
  /-- fw_version of the firmware container of the bundle that passed V1 (R191) -/
  fwVersion : Nat := 0
  /-- a core has stopped and its restart follows: core, cause, and whether the word was protected (R323, R328) -/
  svStop : Option (Nat × Nat × Bool) := none
  /-- the verification in progress beside audio (R209) -/
  espOp : Option EspOp := none
  /-- the composite structure of the graft that is pending or loading, and the blocks that it names (R210) -/
  graftNew : Option (Structure × List Nat) := none
  /-- the network ports (R298 to R310) -/
  net : Net := {}
  /-- the core supplies are out of range (R349, R360) -/
  coreOut : Bool := false
  /-- rails of Table 16.8 that the supply monitor has found out of range (R365, R270) -/
  railsOut : List Nat := []
deriving DecidableEq, Repr, Inhabited

/-- The machine right after reset: every field at its value after a cold start (R6), no command waiting. -/
def State.reset : State := {}

end Sys2Proof.Machine
end

