-- ==== Sys2Proof/Machine/Ops.lean ====
section
/-!
DEFINITION. Machine/Ops.lean: the named operations over stores, control registers and the fields of registers
(00_scope.md Table 00.4, R6 to R8; 17_host_and_control_ports.md R370).
-/
namespace Sys2Proof.Machine

/-- The value at key `k`, or `d` where the store lists none. -/
def storeGet {α : Type} (d : α) : Store α → Nat → α
  | [], _ => d
  | (k', v) :: r, k => if k = k' then v else storeGet d r k

/-- The value at key `k`, if the store lists one. -/
def storeFind {α : Type} : Store α → Nat → Option α
  | [], _ => none
  | (k', v) :: r, k => if k = k' then some v else storeFind r k

/-- Removes key `k`. -/
def storeDel {α : Type} : Store α → Nat → Store α
  | [], _ => []
  | (k', v) :: r, k => if k = k' then storeDel r k else (k', v) :: storeDel r k

/-- Lists `v` at key `k`, keeping the keys rising. -/
def storeIns {α : Type} (k : Nat) (v : α) : Store α → Store α
  | [] => [(k, v)]
  | (k', v') :: r =>
    if k < k' then (k, v) :: (k', v') :: r
    else if k = k' then (k, v) :: r
    else (k', v') :: storeIns k v r

/-- Writes `v` at key `k`: the default is never listed, so equal stores are equal data. -/
def storeSet {α : Type} [DecidableEq α] (d : α) (m : Store α) (k : Nat) (v : α) : Store α :=
  if v = d then storeDel m k else storeIns k v m

/-- Writes `f i` at key `lo + i` for every `i < n`; the other keys stay. -/
def storeFill {α : Type} [DecidableEq α] (d : α) (m : Store α) (lo n : Nat) (f : Nat → α) : Store α :=
  m.filter (fun e => decide (e.1 < lo)) ++
    (List.range n).filterMap (fun i => if f i = d then none else some (lo + i, f i)) ++
    m.filter (fun e => decide (lo + n ≤ e.1))

/-- Keys strictly rising. -/
def storeSorted {α : Type} : Store α → Bool
  | [] => true
  | [_] => true
  | (k, _) :: (k', v') :: r => decide (k < k') && storeSorted ((k', v') :: r)

/-- The canonical form of a store: keys strictly rising, no entry equal to the default. -/
def Memory.wf {α : Type} [DecidableEq α] (d : α) (m : Store α) : Bool :=
  storeSorted m && m.all (fun e => decide (e.2 ≠ d))

/-! ### Control registers -/

/-- A field of a control register: word address, low bit, width. -/
structure Fld where
  addr : Nat
  lo : Nat
  w : Nat
deriving DecidableEq, Repr

/-- Bits `lo` to `lo + w - 1` of `x`. -/
def bitsOf (x : Word) (lo w : Nat) : Nat := x.toNat / 2 ^ lo % 2 ^ w

/-- `x` with bits `lo` to `lo + w - 1` replaced by those of `v`. -/
def putBits (x : Word) (lo w v : Nat) : Word :=
  BitVec.ofNat 32 (x.toNat / 2 ^ (lo + w) * 2 ^ (lo + w) + v % 2 ^ w * 2 ^ lo + x.toNat % 2 ^ lo)

/-- The register at word address `a` as stored; an unlisted register holds its reset value (R6). -/
def State.reg (s : State) (a : Nat) : Word := storeGet (regReset a) s.regs a

/-- Stores a register. -/
def State.setReg (s : State) (a : Nat) (v : Word) : State :=
  { s with regs := storeSet (regReset a) s.regs a v }

/-- Reads a field. -/
def State.fld (s : State) (f : Fld) : Nat := bitsOf (s.reg f.addr) f.lo f.w

/-- Sets a field; the register's other bits stay. -/
def State.setFld (s : State) (f : Fld) (v : Nat) : State :=
  s.setReg f.addr (putBits (s.reg f.addr) f.lo f.w v)

/-- Counts up a field that saturates at its largest value. -/
def State.satInc (s : State) (f : Fld) : State :=
  if s.fld f + 1 < 2 ^ f.w then s.setFld f (s.fld f + 1) else s

/-- Adds `n` to a field that saturates at its largest value. -/
def State.satAdd (s : State) (f : Fld) (n : Nat) : State :=
  s.setFld f (min (s.fld f + n) (2 ^ f.w - 1))

/-- Counts up a field modulo its size. -/
def State.wrapInc (s : State) (f : Fld) : State := s.setFld f (s.fld f + 1)

/-- Returns a register to its value after a cold start. -/
def State.resetReg (s : State) (a : Nat) : State := { s with regs := storeDel s.regs a }

end Sys2Proof.Machine
end

