-- ==== Sys2Proof/Machine/Regs.lean ====
section
/-!
DEFINITION. Machine/Regs.lean: the addresses of the control registers and the places of their fields, under the
names of the register tables of chapters 00 to 17 (Table 18.1, R384).
-/
namespace Sys2Proof.Machine.Reg

def DEV_ID : Nat := 0x0
def DEV_ID_part_num : Fld := ⟨DEV_ID, 16, 16⟩
def DEV_ID_mem_var : Fld := ⟨DEV_ID, 12, 4⟩
def DEV_ID_step_major : Fld := ⟨DEV_ID, 8, 4⟩
def DEV_ID_step_minor : Fld := ⟨DEV_ID, 4, 4⟩
def CLK_REFSEL : Nat := 0x10000
def CLK_REFSEL_wclk_mult : Fld := ⟨CLK_REFSEL, 16, 2⟩
def CLK_REFSEL_revert : Fld := ⟨CLK_REFSEL, 13, 1⟩
def CLK_REFSEL_alt_en : Fld := ⟨CLK_REFSEL, 12, 1⟩
def CLK_REFSEL_alt_sel : Fld := ⟨CLK_REFSEL, 8, 3⟩
def CLK_REFSEL_aes_rx : Fld := ⟨CLK_REFSEL, 4, 3⟩
def CLK_REFSEL_sel : Fld := ⟨CLK_REFSEL, 0, 3⟩
def CLK_PLLA_CTL : Nat := 0x10004
def CLK_PLLA_CTL_acq_fast : Fld := ⟨CLK_PLLA_CTL, 9, 1⟩
def CLK_PLLA_CTL_freeze : Fld := ⟨CLK_PLLA_CTL, 8, 1⟩
def CLK_PLLA_CTL_slew : Fld := ⟨CLK_PLLA_CTL, 4, 3⟩
def CLK_PLLA_CTL_bw : Fld := ⟨CLK_PLLA_CTL, 0, 3⟩
def CLK_PLLA_DCO : Nat := 0x10008
def CLK_PLLA_DCO_dco : Fld := ⟨CLK_PLLA_DCO, 0, 32⟩
def CLK_PLLB_FRAC : Nat := 0x1000C
def CLK_PLLB_FRAC_int_n : Fld := ⟨CLK_PLLB_FRAC, 24, 8⟩
def CLK_PLLB_FRAC_frac : Fld := ⟨CLK_PLLB_FRAC, 0, 24⟩
def CLK_PLLB_SEED : Nat := 0x10010
def CLK_PLLB_SEED_seed : Fld := ⟨CLK_PLLB_SEED, 0, 32⟩
def CLK_STAT : Nat := 0x10014
def CLK_STAT_vtune_seen : Fld := ⟨CLK_STAT, 19, 1⟩
def CLK_STAT_fallback : Fld := ⟨CLK_STAT, 18, 1⟩
def CLK_STAT_holdover_entered : Fld := ⟨CLK_STAT, 17, 1⟩
def CLK_STAT_ref_lost : Fld := ⟨CLK_STAT, 16, 1⟩
def CLK_STAT_pllb_band : Fld := ⟨CLK_STAT, 12, 4⟩
def CLK_STAT_vtune_warn : Fld := ⟨CLK_STAT, 8, 1⟩
def CLK_STAT_pllb_lock : Fld := ⟨CLK_STAT, 7, 1⟩
def CLK_STAT_alt_valid : Fld := ⟨CLK_STAT, 6, 1⟩
def CLK_STAT_ref_valid : Fld := ⟨CLK_STAT, 5, 1⟩
def CLK_STAT_cur_src : Fld := ⟨CLK_STAT, 2, 3⟩
def CLK_STAT_plla_state : Fld := ⟨CLK_STAT, 0, 2⟩
def CLK_WCLK_CTL : Nat := 0x10018
def CLK_WCLK_CTL_dly : Fld := ⟨CLK_WCLK_CTL, 16, 16⟩
def CLK_WCLK_CTL_en : Fld := ⟨CLK_WCLK_CTL, 0, 1⟩
def CLK_OUT_CTL (n : Nat) : Nat := 0x10040 + 8 * n
def CLK_OUT_CTL_dly_coarse (n : Nat) : Fld := ⟨(CLK_OUT_CTL n), 8, 12⟩
def CLK_OUT_CTL_dly_fine (n : Nat) : Fld := ⟨(CLK_OUT_CTL n), 4, 4⟩
def CLK_OUT_CTL_inv (n : Nat) : Fld := ⟨(CLK_OUT_CTL n), 1, 1⟩
def CLK_OUT_CTL_en (n : Nat) : Fld := ⟨(CLK_OUT_CTL n), 0, 1⟩
def CLK_OUT_DIV (n : Nat) : Nat := 0x10044 + 8 * n
def CLK_OUT_DIV_div_m1 (n : Nat) : Fld := ⟨(CLK_OUT_DIV n), 0, 16⟩
def TICK_COUNT0 : Nat := 0x20000
def TICK_COUNT0_count : Fld := ⟨TICK_COUNT0, 0, 32⟩
def TICK_COUNT1 : Nat := 0x20004
def TICK_COUNT1_count : Fld := ⟨TICK_COUNT1, 0, 32⟩
def TICK_RATE : Nat := 0x20008
def TICK_RATE_prog_window : Fld := ⟨TICK_RATE, 16, 16⟩
def TICK_RATE_mult : Fld := ⟨TICK_RATE, 1, 2⟩
def TICK_RATE_family : Fld := ⟨TICK_RATE, 0, 1⟩
def ENG_FAULT (c : Nat) : Nat := 0x200000 + 0x10000 * c
def ENG_FAULT_valid (c : Nat) : Fld := ⟨(ENG_FAULT c), 31, 1⟩
def ENG_FAULT_more (c : Nat) : Fld := ⟨(ENG_FAULT c), 30, 1⟩
def ENG_FAULT_injected (c : Nat) : Fld := ⟨(ENG_FAULT c), 29, 1⟩
def ENG_FAULT_kind (c : Nat) : Fld := ⟨(ENG_FAULT c), 24, 3⟩
def ENG_FAULT_unit (c : Nat) : Fld := ⟨(ENG_FAULT c), 16, 6⟩
def ENG_FAULT_cycle (c : Nat) : Fld := ⟨(ENG_FAULT c), 0, 15⟩
def ENG_FAULT_TICK (c : Nat) : Nat := 0x200004 + 0x10000 * c
def ENG_FAULT_TICK_tick (c : Nat) : Fld := ⟨(ENG_FAULT_TICK c), 0, 32⟩
def ENG_FAULT_ADDR (c : Nat) : Nat := 0x200008 + 0x10000 * c
def ENG_FAULT_ADDR_addr (c : Nat) : Fld := ⟨(ENG_FAULT_ADDR c), 0, 24⟩
def ENG_ECC_CNT (c : Nat) : Nat := 0x20000C + 0x10000 * c
def ENG_ECC_CNT_ce_data (c : Nat) : Fld := ⟨(ENG_ECC_CNT c), 16, 16⟩
def ENG_ECC_CNT_ce_prog (c : Nat) : Fld := ⟨(ENG_ECC_CNT c), 0, 16⟩
def ENG_SCRUB (c : Nat) : Nat := 0x200010 + 0x10000 * c
def ENG_SCRUB_data_pass (c : Nat) : Fld := ⟨(ENG_SCRUB c), 16, 16⟩
def ENG_SCRUB_prog_pass (c : Nat) : Fld := ⟨(ENG_SCRUB c), 8, 8⟩
def ENG_SCRUB_wbq_drop (c : Nat) : Fld := ⟨(ENG_SCRUB c), 0, 8⟩
def ENG_CTL (c : Nat) : Nat := 0x200014 + 0x10000 * c
def ENG_CTL_log_clr (c : Nat) : Fld := ⟨(ENG_CTL c), 1, 1⟩
def ENG_CTL_cnt_clr (c : Nat) : Fld := ⟨(ENG_CTL c), 0, 1⟩
def ENG_FINJ (c : Nat) : Nat := 0x200018 + 0x10000 * c
def ENG_FINJ_engine (c : Nat) : Fld := ⟨(ENG_FINJ c), 4, 4⟩
def ENG_FINJ_kind (c : Nat) : Fld := ⟨(ENG_FINJ c), 1, 3⟩
def ENG_FINJ_arm (c : Nat) : Fld := ⟨(ENG_FINJ c), 0, 1⟩
def ENG_FLAGS (c e : Nat) : Nat := 0x200100 + 0x10000 * c + 4 * e
def ENG_FLAGS_ce (c e : Nat) : Fld := ⟨(ENG_FLAGS c e), 6, 1⟩
def ENG_FLAGS_addr (c e : Nat) : Fld := ⟨(ENG_FLAGS c e), 5, 1⟩
def ENG_FLAGS_aov (c e : Nat) : Fld := ⟨(ENG_FLAGS c e), 1, 4⟩
def ENG_FLAGS_sat (c e : Nat) : Fld := ⟨(ENG_FLAGS c e), 0, 1⟩
def ENG_STAT (c e : Nat) : Nat := 0x200140 + 0x10000 * c + 4 * e
def ENG_STAT_partition (c e : Nat) : Fld := ⟨(ENG_STAT c e), 8, 8⟩
def ENG_STAT_state (c e : Nat) : Fld := ⟨(ENG_STAT c e), 0, 3⟩
def MEM_BANK_OWNER (b : Nat) : Nat := 0xF0000 + 4 * b
def MEM_BANK_OWNER_refused (b : Nat) : Fld := ⟨(MEM_BANK_OWNER b), 31, 1⟩
def MEM_BANK_OWNER_state (b : Nat) : Fld := ⟨(MEM_BANK_OWNER b), 29, 2⟩
def MEM_BANK_OWNER_go (b : Nat) : Fld := ⟨(MEM_BANK_OWNER b), 24, 1⟩
def MEM_BANK_OWNER_req (b : Nat) : Fld := ⟨(MEM_BANK_OWNER b), 16, 8⟩
def MEM_BANK_OWNER_owner (b : Nat) : Fld := ⟨(MEM_BANK_OWNER b), 0, 8⟩
def MEM_BANK_PWR (b : Nat) : Nat := 0xF0800 + 4 * b
def MEM_BANK_PWR_refused (b : Nat) : Fld := ⟨(MEM_BANK_PWR b), 8, 1⟩
def MEM_BANK_PWR_state (b : Nat) : Fld := ⟨(MEM_BANK_PWR b), 4, 2⟩
def MEM_BANK_PWR_req (b : Nat) : Fld := ⟨(MEM_BANK_PWR b), 0, 2⟩
def MEM_CONFLICT (c : Nat) : Nat := 0xF1000 + 4 * c
def MEM_CONFLICT_dma (c : Nat) : Fld := ⟨(MEM_CONFLICT c), 16, 16⟩
def MEM_CONFLICT_sv (c : Nat) : Fld := ⟨(MEM_CONFLICT c), 0, 16⟩
def MEM_DLY_ECC (c : Nat) : Nat := 0xF1020 + 4 * c
def MEM_DLY_ECC_pass (c : Nat) : Fld := ⟨(MEM_DLY_ECC c), 24, 8⟩
def MEM_DLY_ECC_ce (c : Nat) : Fld := ⟨(MEM_DLY_ECC c), 0, 16⟩
def MEM_DRAM_STAT : Nat := 0xF1040
def MEM_DRAM_STAT_retrain : Fld := ⟨MEM_DRAM_STAT, 24, 8⟩
def MEM_DRAM_STAT_link_ce : Fld := ⟨MEM_DRAM_STAT, 16, 8⟩
def MEM_DRAM_STAT_retry : Fld := ⟨MEM_DRAM_STAT, 8, 8⟩
def MEM_DRAM_STAT_train : Fld := ⟨MEM_DRAM_STAT, 0, 2⟩
def DRAM_MARGIN_WARN : Nat := 0xF1044
def DRAM_MARGIN_WARN_seen : Fld := ⟨DRAM_MARGIN_WARN, 16, 16⟩
def DRAM_MARGIN_WARN_warn : Fld := ⟨DRAM_MARGIN_WARN, 0, 16⟩
def MEM_DRAM_CONFLICT : Nat := 0xF1048
def MEM_DRAM_CONFLICT_dma : Fld := ⟨MEM_DRAM_CONFLICT, 0, 32⟩
def MEM_CTL : Nat := 0xF1080
def MEM_CTL_cnt_clr : Fld := ⟨MEM_CTL, 0, 1⟩
def QS_MIX_STAT : Nat := 0xD0200
def QS_MIX_STAT_sat : Fld := ⟨QS_MIX_STAT, 0, 16⟩
def QS_MIX_SRC (n : Nat) : Nat := 0xD0240 + 4 * n
def QS_MIX_SRC_bq (n : Nat) : Fld := ⟨(QS_MIX_SRC n), 16, 16⟩
def QS_MIX_SRC_di (n : Nat) : Fld := ⟨(QS_MIX_SRC n), 0, 16⟩
def QS_MIX_GAIN (n : Nat) : Nat := 0xD0280 + 4 * n
def QS_MIX_GAIN_pblock (n : Nat) : Fld := ⟨(QS_MIX_GAIN n), 0, 8⟩
def AES_ASRC_STAT (n : Nat) : Nat := 0xC0400 + 4 * n
def AES_ASRC_STAT_ratio (n : Nat) : Fld := ⟨(AES_ASRC_STAT n), 16, 16⟩
def AES_ASRC_STAT_rate (n : Nat) : Fld := ⟨(AES_ASRC_STAT n), 12, 4⟩
def AES_ASRC_STAT_unlock (n : Nat) : Fld := ⟨(AES_ASRC_STAT n), 5, 1⟩
def AES_ASRC_STAT_oor (n : Nat) : Fld := ⟨(AES_ASRC_STAT n), 4, 1⟩
def AES_ASRC_STAT_state (n : Nat) : Fld := ⟨(AES_ASRC_STAT n), 0, 2⟩
def CMT_CAPACITY : Nat := 0x70000
def CMT_CAPACITY_dev_words : Fld := ⟨CMT_CAPACITY, 16, 16⟩
def CMT_CAPACITY_eng_words : Fld := ⟨CMT_CAPACITY, 0, 10⟩
def CMT_INFLIGHT : Nat := 0x70004
def CMT_INFLIGHT_count : Fld := ⟨CMT_INFLIGHT, 0, 17⟩
def CMT_STAT : Nat := 0x70008
def CMT_STAT_replica_late : Fld := ⟨CMT_STAT, 10, 1⟩
def CMT_STAT_wr_denied : Fld := ⟨CMT_STAT, 9, 1⟩
def CMT_STAT_discard : Fld := ⟨CMT_STAT, 8, 1⟩
def CMT_STAT_refused : Fld := ⟨CMT_STAT, 1, 7⟩
def CMT_SUBMIT : Nat := 0x70010
def CMT_SUBMIT_go : Fld := ⟨CMT_SUBMIT, 31, 1⟩
def CMT_SUBMIT_busy : Fld := ⟨CMT_SUBMIT, 30, 1⟩
def CMT_SUBMIT_offset : Fld := ⟨CMT_SUBMIT, 16, 12⟩
def CMT_SUBMIT_count_m1 : Fld := ⟨CMT_SUBMIT, 0, 12⟩
def CMT_SUBMIT_RES : Nat := 0x70014
def CMT_SUBMIT_RES_valid : Fld := ⟨CMT_SUBMIT_RES, 31, 1⟩
def CMT_SUBMIT_RES_status : Fld := ⟨CMT_SUBMIT_RES, 0, 3⟩
def CMT_SUBMIT_TICK : Nat := 0x70018
def CMT_SUBMIT_TICK_tick : Fld := ⟨CMT_SUBMIT_TICK, 0, 32⟩
def LEASE_SEL : Nat := 0x70020
def LEASE_SEL_index : Fld := ⟨LEASE_SEL, 0, 14⟩
def LEASE_TBL0 : Nat := 0x70024
def LEASE_TBL0_end_tick : Fld := ⟨LEASE_TBL0, 0, 32⟩
def LEASE_TBL1 : Nat := 0x70028
def LEASE_TBL1_epoch : Fld := ⟨LEASE_TBL1, 16, 16⟩
def LEASE_TBL1_serial : Fld := ⟨LEASE_TBL1, 0, 16⟩
def LEASE_TBL2 : Nat := 0x7002C
def LEASE_TBL2_valid : Fld := ⟨LEASE_TBL2, 31, 1⟩
def LEASE_TBL2_blocks : Fld := ⟨LEASE_TBL2, 20, 7⟩
def LEASE_TBL2_session : Fld := ⟨LEASE_TBL2, 8, 12⟩
def LEASE_TBL2_partition : Fld := ⟨LEASE_TBL2, 0, 8⟩
def CMT_GC_STAT : Nat := 0x70030
def CMT_GC_STAT_timeouts : Fld := ⟨CMT_GC_STAT, 16, 16⟩
def CMT_GC_STAT_pending : Fld := ⟨CMT_GC_STAT, 0, 13⟩
def CMT_CTL : Nat := 0x70034
def CMT_CTL_cnt_clr : Fld := ⟨CMT_CTL, 0, 1⟩
def CMT_PARTCFG (p : Nat) : Nat := 0x70400 + 4 * p
def CMT_PARTCFG_queue_m1 (p : Nat) : Fld := ⟨(CMT_PARTCFG p), 24, 8⟩
def CMT_PARTCFG_lease_quota (p : Nat) : Fld := ⟨(CMT_PARTCFG p), 10, 11⟩
def CMT_PARTCFG_share (p : Nat) : Fld := ⟨(CMT_PARTCFG p), 0, 10⟩
def CMT_PARTSTAT (p : Nat) : Nat := 0x70800 + 4 * p
def CMT_PARTSTAT_queue_used (p : Nat) : Fld := ⟨(CMT_PARTSTAT p), 0, 17⟩
def CMT_FLIP (n : Nat) : Nat := 0x71000 + 4 * n
def CMT_FLIP_flip (n : Nat) : Fld := ⟨(CMT_FLIP n), 0, 32⟩
def ESP_LOAD_CTL : Nat := 0x50000
def ESP_LOAD_CTL_go : Fld := ⟨ESP_LOAD_CTL, 31, 1⟩
def ESP_LOAD_CTL_op : Fld := ⟨ESP_LOAD_CTL, 16, 2⟩
def ESP_LOAD_CTL_slot : Fld := ⟨ESP_LOAD_CTL, 8, 1⟩
def ESP_LOAD_CTL_partition : Fld := ⟨ESP_LOAD_CTL, 0, 8⟩
def ESP_STAT : Nat := 0x50004
def ESP_STAT_graft_part : Fld := ⟨ESP_STAT, 24, 8⟩
def ESP_STAT_busy_ign : Fld := ⟨ESP_STAT, 19, 1⟩
def ESP_STAT_refused_state : Fld := ⟨ESP_STAT, 18, 1⟩
def ESP_STAT_result : Fld := ⟨ESP_STAT, 16, 2⟩
def ESP_STAT_state : Fld := ⟨ESP_STAT, 0, 4⟩
def ESP_ERR : Nat := 0x50008
def ESP_ERR_section : Fld := ⟨ESP_ERR, 22, 10⟩
def ESP_ERR_part : Fld := ⟨ESP_ERR, 20, 2⟩
def ESP_ERR_step : Fld := ⟨ESP_ERR, 8, 8⟩
def ESP_ERR_code : Fld := ⟨ESP_ERR, 0, 4⟩
def ESP_ERR_REC : Nat := 0x5000C
def ESP_ERR_REC_record : Fld := ⟨ESP_ERR_REC, 0, 32⟩
def ESP_GRAFT_SRC : Nat := 0x50010
def ESP_GRAFT_SRC_offset : Fld := ⟨ESP_GRAFT_SRC, 0, 32⟩
def ESP_GRAFT_TICK : Nat := 0x50018
def ESP_GRAFT_TICK_start : Fld := ⟨ESP_GRAFT_TICK, 0, 32⟩
def ESP_GRAFT_DONE : Nat := 0x5001C
def ESP_GRAFT_DONE_done : Fld := ⟨ESP_GRAFT_DONE, 0, 32⟩
def ESP_IMG_HASH (n : Nat) : Nat := 0x50020 + 4 * n
def ESP_IMG_HASH_hash (n : Nat) : Fld := ⟨(ESP_IMG_HASH n), 0, 32⟩
def ESP_SCHEMA : Nat := 0x50040
def ESP_SCHEMA_schema : Fld := ⟨ESP_SCHEMA, 0, 32⟩
def PART_RESET : Nat := 0x60000
def PART_RESET_go : Fld := ⟨PART_RESET, 31, 1⟩
def PART_RESET_refused : Fld := ⟨PART_RESET, 8, 1⟩
def PART_RESET_partition : Fld := ⟨PART_RESET, 0, 8⟩
def PART_RESET_TICK : Nat := 0x60004
def PART_RESET_TICK_r : Fld := ⟨PART_RESET_TICK, 0, 32⟩
def PART_RESET_DONE : Nat := 0x60008
def PART_RESET_DONE_c : Fld := ⟨PART_RESET_DONE, 0, 32⟩
def PART_STAT (p : Nat) : Nat := 0x60100 + 4 * p
def PART_STAT_resets (p : Nat) : Fld := ⟨(PART_STAT p), 24, 8⟩
def PART_STAT_absorbed (p : Nat) : Fld := ⟨(PART_STAT p), 23, 1⟩
def PART_STAT_sessions (p : Nat) : Fld := ⟨(PART_STAT p), 16, 7⟩
def PART_STAT_state (p : Nat) : Fld := ⟨(PART_STAT p), 0, 3⟩
def THN_SEL : Nat := 0x80000
def THN_SEL_guard : Fld := ⟨THN_SEL, 0, 12⟩
def THN_LIMIT0 : Nat := 0x80004
def THN_LIMIT0_peak : Fld := ⟨THN_LIMIT0, 0, 32⟩
def THN_LIMIT1 : Nat := 0x80008
def THN_LIMIT1_knee : Fld := ⟨THN_LIMIT1, 0, 32⟩
def THN_LIMIT2 : Nat := 0x8000C
def THN_LIMIT2_rms : Fld := ⟨THN_LIMIT2, 0, 32⟩
def THN_LIMIT3 : Nat := 0x80010
def THN_LIMIT3_dc : Fld := ⟨THN_LIMIT3, 0, 32⟩
def THN_LIMIT4 : Nat := 0x80014
def THN_LIMIT4_amon_link : Fld := ⟨THN_LIMIT4, 31, 1⟩
def THN_LIMIT4_start_allow : Fld := ⟨THN_LIMIT4, 30, 1⟩
def THN_LIMIT4_mute_on_fault : Fld := ⟨THN_LIMIT4, 29, 1⟩
def THN_LIMIT4_hot_low : Fld := ⟨THN_LIMIT4, 28, 1⟩
def THN_LIMIT4_amon_hot : Fld := ⟨THN_LIMIT4, 16, 12⟩
def THN_LIMIT4_window : Fld := ⟨THN_LIMIT4, 0, 14⟩
def THN_LIMIT5 : Nat := 0x80018
def THN_LIMIT5_channel : Fld := ⟨THN_LIMIT5, 20, 12⟩
def THN_LIMIT5_port : Fld := ⟨THN_LIMIT5, 12, 8⟩
def THN_LIMIT5_kind : Fld := ⟨THN_LIMIT5, 10, 2⟩
def THN_LIMIT5_valid : Fld := ⟨THN_LIMIT5, 4, 1⟩
def THN_LIMIT5_no_dither : Fld := ⟨THN_LIMIT5, 3, 1⟩
def THN_LIMIT5_amon : Fld := ⟨THN_LIMIT5, 0, 3⟩
def THN_GSTAT : Nat := 0x80020
def THN_GSTAT_rms_gain : Fld := ⟨THN_GSTAT, 16, 16⟩
def THN_GSTAT_clip : Fld := ⟨THN_GSTAT, 7, 1⟩
def THN_GSTAT_knee : Fld := ⟨THN_GSTAT, 6, 1⟩
def THN_GSTAT_twin_mute : Fld := ⟨THN_GSTAT, 5, 1⟩
def THN_GSTAT_service_mute : Fld := ⟨THN_GSTAT, 4, 1⟩
def THN_GSTAT_part_mute : Fld := ⟨THN_GSTAT, 3, 1⟩
def THN_GSTAT_hot : Fld := ⟨THN_GSTAT, 2, 1⟩
def THN_GSTAT_fault_mute : Fld := ⟨THN_GSTAT, 1, 1⟩
def THN_GSTAT_dc_mute : Fld := ⟨THN_GSTAT, 0, 1⟩
def THN_STAT : Nat := 0x80024
def THN_STAT_log_over : Fld := ⟨THN_STAT, 31, 1⟩
def THN_STAT_faulted : Fld := ⟨THN_STAT, 8, 1⟩
def THN_STAT_cause : Fld := ⟨THN_STAT, 1, 7⟩
def THN_TRIP_WP : Nat := 0x80028
def THN_TRIP_WP_count : Fld := ⟨THN_TRIP_WP, 16, 5⟩
def THN_TRIP_WP_next : Fld := ⟨THN_TRIP_WP, 0, 4⟩
def THN_CTL : Nat := 0x8002C
def THN_CTL_log_clr : Fld := ⟨THN_CTL, 0, 1⟩
def THN_SIL_CTL : Nat := 0x80030
def THN_SIL_CTL_thr : Fld := ⟨THN_SIL_CTL, 0, 2⟩
def THN_SIL_SEL : Nat := 0x80034
def THN_SIL_SEL_record : Fld := ⟨THN_SIL_SEL, 0, 12⟩
def THN_SIL_CNT : Nat := 0x80038
def THN_SIL_CNT_silent : Fld := ⟨THN_SIL_CNT, 31, 1⟩
def THN_SIL_CNT_count : Fld := ⟨THN_SIL_CNT, 0, 24⟩
def THN_TRIP_LOG0 (i : Nat) : Nat := 0x80100 + 8 * i
def THN_TRIP_LOG0_tick (i : Nat) : Fld := ⟨(THN_TRIP_LOG0 i), 0, 32⟩
def THN_TRIP_LOG1 (i : Nat) : Nat := 0x80104 + 8 * i
def THN_TRIP_LOG1_valid (i : Nat) : Fld := ⟨(THN_TRIP_LOG1 i), 31, 1⟩
def THN_TRIP_LOG1_cause (i : Nat) : Fld := ⟨(THN_TRIP_LOG1 i), 16, 4⟩
def THN_TRIP_LOG1_guard (i : Nat) : Fld := ⟨(THN_TRIP_LOG1 i), 0, 12⟩
def TWN_CTL : Nat := 0x90000
def TWN_CTL_ho_go : Fld := ⟨TWN_CTL, 31, 1⟩
def TWN_CTL_div_clr : Fld := ⟨TWN_CTL, 30, 1⟩
def TWN_CTL_leave : Fld := ⟨TWN_CTL, 29, 1⟩
def TWN_CTL_settle : Fld := ⟨TWN_CTL, 8, 16⟩
def TWN_CTL_bulk_en : Fld := ⟨TWN_CTL, 0, 1⟩
def TWN_STAT : Nat := 0x90004
def TWN_STAT_ho_refused : Fld := ⟨TWN_STAT, 31, 1⟩
def TWN_STAT_contest : Fld := ⟨TWN_STAT, 30, 1⟩
def TWN_STAT_skew_err : Fld := ⟨TWN_STAT, 29, 1⟩
def TWN_STAT_tick_mismatch : Fld := ⟨TWN_STAT, 28, 1⟩
def TWN_STAT_input_own : Fld := ⟨TWN_STAT, 27, 1⟩
def TWN_STAT_link_down : Fld := ⟨TWN_STAT, 26, 1⟩
def TWN_STAT_mismatch : Fld := ⟨TWN_STAT, 25, 1⟩
def TWN_STAT_mixed : Fld := ⟨TWN_STAT, 24, 1⟩
def TWN_STAT_oversize : Fld := ⟨TWN_STAT, 23, 1⟩
def TWN_STAT_replica_detach : Fld := ⟨TWN_STAT, 22, 1⟩
def TWN_STAT_ripe_state : Fld := ⟨TWN_STAT, 16, 3⟩
def TWN_STAT_partner_alive : Fld := ⟨TWN_STAT, 15, 1⟩
def TWN_STAT_alive : Fld := ⟨TWN_STAT, 14, 1⟩
def TWN_STAT_owner : Fld := ⟨TWN_STAT, 13, 1⟩
def TWN_STAT_role : Fld := ⟨TWN_STAT, 12, 1⟩
def TWN_STAT_handovers : Fld := ⟨TWN_STAT, 0, 8⟩
def TWN_RIPE_ETA : Nat := 0x90008
def TWN_RIPE_ETA_eta : Fld := ⟨TWN_RIPE_ETA, 0, 32⟩
def TWN_HO_TICK : Nat := 0x9000C
def TWN_HO_TICK_h : Fld := ⟨TWN_HO_TICK, 0, 32⟩
def TWN_LINK : Nat := 0x90010
def TWN_LINK_crc_err : Fld := ⟨TWN_LINK, 16, 16⟩
def TWN_LINK_role_clash : Fld := ⟨TWN_LINK, 6, 1⟩
def TWN_LINK_aligned : Fld := ⟨TWN_LINK, 5, 1⟩
def TWN_LINK_lanes_up : Fld := ⟨TWN_LINK, 0, 4⟩
def TWN_SKEW : Nat := 0x90014
def TWN_SKEW_skew : Fld := ⟨TWN_SKEW, 0, 16⟩
def TWN_DIVERGE (n : Nat) : Nat := 0x90040 + 4 * n
def TWN_DIVERGE_div (n : Nat) : Fld := ⟨(TWN_DIVERGE n), 0, 32⟩
def BOOT_STATE : Nat := 0x100
def BOOT_STATE_wait_left : Fld := ⟨BOOT_STATE, 16, 16⟩
def BOOT_STATE_settings_none : Fld := ⟨BOOT_STATE, 9, 1⟩
def BOOT_STATE_proving : Fld := ⟨BOOT_STATE, 8, 1⟩
def BOOT_STATE_state : Fld := ⟨BOOT_STATE, 0, 3⟩
def BOOT_CAUSE : Nat := 0x104
def BOOT_CAUSE_detail : Fld := ⟨BOOT_CAUSE, 16, 16⟩
def BOOT_CAUSE_slot : Fld := ⟨BOOT_CAUSE, 8, 2⟩
def BOOT_CAUSE_counted : Fld := ⟨BOOT_CAUSE, 7, 1⟩
def BOOT_CAUSE_cause : Fld := ⟨BOOT_CAUSE, 0, 5⟩
def START_FAILS : Nat := 0x108
def START_FAILS_limit : Fld := ⟨START_FAILS, 4, 3⟩
def START_FAILS_count : Fld := ⟨START_FAILS, 0, 3⟩
def HOST_WAIT : Nat := 0x10C
def HOST_WAIT_wait : Fld := ⟨HOST_WAIT, 0, 16⟩
def SLOT_ACTIVE : Nat := 0x110
def SLOT_ACTIVE_slot : Fld := ⟨SLOT_ACTIVE, 0, 2⟩
def SLOT_LKG : Nat := 0x114
def SLOT_LKG_slot : Fld := ⟨SLOT_LKG, 0, 2⟩
def COPPICE_CAUSE : Nat := 0x118
def COPPICE_CAUSE_detail : Fld := ⟨COPPICE_CAUSE, 16, 16⟩
def COPPICE_CAUSE_last_cause : Fld := ⟨COPPICE_CAUSE, 8, 5⟩
def COPPICE_CAUSE_reason : Fld := ⟨COPPICE_CAUSE, 0, 2⟩
def BOOT_CTL : Nat := 0x11C
def BOOT_CTL_restart : Fld := ⟨BOOT_CTL, 31, 1⟩
def BOOT_CTL_confirm : Fld := ⟨BOOT_CTL, 30, 1⟩
def BOOT_CTL_save : Fld := ⟨BOOT_CTL, 29, 1⟩
def BOOT_CTL_enter_coppice : Fld := ⟨BOOT_CTL, 28, 1⟩
def BOOT_CTL_save_busy : Fld := ⟨BOOT_CTL, 8, 1⟩
def BOOT_CTL_refused : Fld := ⟨BOOT_CTL, 0, 1⟩
def BOOT_SETGEN (n : Nat) : Nat := 0x120 + 4 * n
def BOOT_SETGEN_valid (n : Nat) : Fld := ⟨(BOOT_SETGEN n), 31, 1⟩
def BOOT_SETGEN_confirmed (n : Nat) : Fld := ⟨(BOOT_SETGEN n), 30, 1⟩
def BOOT_SETGEN_writing (n : Nat) : Fld := ⟨(BOOT_SETGEN n), 29, 1⟩
def BOOT_SETGEN_in_use (n : Nat) : Fld := ⟨(BOOT_SETGEN n), 28, 1⟩
def BOOT_SETGEN_readable (n : Nat) : Fld := ⟨(BOOT_SETGEN n), 27, 1⟩
def BOOT_SETGEN_seq (n : Nat) : Fld := ⟨(BOOT_SETGEN n), 0, 16⟩
def BOOT_SETSCH (n : Nat) : Nat := 0x128 + 4 * n
def BOOT_SETSCH_schema (n : Nat) : Fld := ⟨(BOOT_SETSCH n), 0, 32⟩
def BOOT_OTP_CTL : Nat := 0x130
def BOOT_OTP_CTL_go : Fld := ⟨BOOT_OTP_CTL, 31, 1⟩
def BOOT_OTP_CTL_busy : Fld := ⟨BOOT_OTP_CTL, 30, 1⟩
def BOOT_OTP_CTL_refused : Fld := ⟨BOOT_OTP_CTL, 29, 1⟩
def BOOT_OTP_CTL_op : Fld := ⟨BOOT_OTP_CTL, 8, 4⟩
def BOOT_OTP_CTL_arg : Fld := ⟨BOOT_OTP_CTL, 0, 4⟩
def BOOT_OTP_DATA (n : Nat) : Nat := 0x140 + 4 * n
def BOOT_OTP_DATA_data (n : Nat) : Fld := ⟨(BOOT_OTP_DATA n), 0, 32⟩
def BOOT_REC0 (i : Nat) : Nat := 0x180 + 8 * i
def BOOT_REC0_start (i : Nat) : Fld := ⟨(BOOT_REC0 i), 0, 32⟩
def BOOT_REC1 (i : Nat) : Nat := 0x184 + 8 * i
def BOOT_REC1_detail (i : Nat) : Fld := ⟨(BOOT_REC1 i), 16, 16⟩
def BOOT_REC1_state (i : Nat) : Fld := ⟨(BOOT_REC1 i), 13, 3⟩
def BOOT_REC1_slot (i : Nat) : Fld := ⟨(BOOT_REC1 i), 8, 2⟩
def BOOT_REC1_counted (i : Nat) : Fld := ⟨(BOOT_REC1 i), 7, 1⟩
def BOOT_REC1_cause (i : Nat) : Fld := ⟨(BOOT_REC1 i), 0, 5⟩
def TDM_GCFG (g : Nat) : Nat := 0xB0000 + 4 * g
def TDM_GCFG_fs_phase (g : Nat) : Fld := ⟨(TDM_GCFG g), 16, 16⟩
def TDM_GCFG_fs_width (g : Nat) : Fld := ⟨(TDM_GCFG g), 12, 1⟩
def TDM_GCFG_fs_dly (g : Nat) : Fld := ⟨(TDM_GCFG g), 11, 1⟩
def TDM_GCFG_master (g : Nat) : Fld := ⟨(TDM_GCFG g), 10, 1⟩
def TDM_GCFG_format (g : Nat) : Fld := ⟨(TDM_GCFG g), 8, 2⟩
def TDM_GCFG_q (g : Nat) : Fld := ⟨(TDM_GCFG g), 4, 2⟩
def TDM_GCFG_slots_log2 (g : Nat) : Fld := ⟨(TDM_GCFG g), 0, 3⟩
def TDM_GSTAT (g : Nat) : Nat := 0xB0040 + 4 * g
def TDM_GSTAT_fs_err (g : Nat) : Fld := ⟨(TDM_GSTAT g), 16, 16⟩
def TDM_GSTAT_phase_dev (g : Nat) : Fld := ⟨(TDM_GSTAT g), 8, 8⟩
def TDM_GSTAT_clk_lost (g : Nat) : Fld := ⟨(TDM_GSTAT g), 3, 1⟩
def TDM_GSTAT_unlock_seen (g : Nat) : Fld := ⟨(TDM_GSTAT g), 2, 1⟩
def TDM_GSTAT_state (g : Nat) : Fld := ⟨(TDM_GSTAT g), 0, 2⟩
def TDM_CTL : Nat := 0xB0080
def TDM_CTL_cnt_clr : Fld := ⟨TDM_CTL, 0, 1⟩
def AES_RX_STAT (n : Nat) : Nat := 0xC0000 + 4 * n
def AES_RX_STAT_par_err (n : Nat) : Fld := ⟨(AES_RX_STAT n), 16, 16⟩
def AES_RX_STAT_bp_err (n : Nat) : Fld := ⟨(AES_RX_STAT n), 8, 8⟩
def AES_RX_STAT_cs_new (n : Nat) : Fld := ⟨(AES_RX_STAT n), 6, 1⟩
def AES_RX_STAT_cs_crc (n : Nat) : Fld := ⟨(AES_RX_STAT n), 5, 1⟩
def AES_RX_STAT_v_seen (n : Nat) : Fld := ⟨(AES_RX_STAT n), 4, 1⟩
def AES_RX_STAT_lock_lost (n : Nat) : Fld := ⟨(AES_RX_STAT n), 3, 1⟩
def AES_RX_STAT_pro (n : Nat) : Fld := ⟨(AES_RX_STAT n), 1, 1⟩
def AES_RX_STAT_lock (n : Nat) : Fld := ⟨(AES_RX_STAT n), 0, 1⟩
def AES_RX_CS (n w : Nat) : Nat := 0xC0100 + 0x20 * n + 4 * w
def AES_RX_CS_cs (n w : Nat) : Fld := ⟨(AES_RX_CS n w), 0, 32⟩
def AES_TX_STAT (n : Nat) : Nat := 0xC0300 + 4 * n
def AES_TX_STAT_drive (n : Nat) : Fld := ⟨(AES_TX_STAT n), 2, 1⟩
def AES_TX_STAT_q (n : Nat) : Fld := ⟨(AES_TX_STAT n), 0, 2⟩
def AES_CTL : Nat := 0xC0380
def AES_CTL_cnt_clr : Fld := ⟨AES_CTL, 0, 1⟩
def QS_CFG : Nat := 0xD0000
def QS_CFG_fs_phase : Fld := ⟨QS_CFG, 8, 8⟩
def QS_CFG_master : Fld := ⟨QS_CFG, 0, 1⟩
def QS_STAT : Nat := 0xD0004
def QS_STAT_fs_err : Fld := ⟨QS_STAT, 16, 16⟩
def QS_STAT_phase_dev : Fld := ⟨QS_STAT, 8, 8⟩
def QS_STAT_clk_lost : Fld := ⟨QS_STAT, 2, 1⟩
def QS_STAT_state : Fld := ⟨QS_STAT, 0, 2⟩
def QS_CTL : Nat := 0xD0008
def QS_CTL_cnt_clr : Fld := ⟨QS_CTL, 0, 1⟩
def QS_LANE_STAT (n : Nat) : Nat := 0xD0040 + 4 * n
def QS_LANE_STAT_frame_err (n : Nat) : Fld := ⟨(QS_LANE_STAT n), 16, 16⟩
def QS_LANE_STAT_seq_err (n : Nat) : Fld := ⟨(QS_LANE_STAT n), 8, 8⟩
def QS_LANE_STAT_inval (n : Nat) : Fld := ⟨(QS_LANE_STAT n), 1, 1⟩
def QS_LANE_STAT_err (n : Nat) : Fld := ⟨(QS_LANE_STAT n), 0, 1⟩
def NET_PORT_STAT (n : Nat) : Nat := 0xE0000 + 4 * n
def NET_PORT_STAT_rx_drop (n : Nat) : Fld := ⟨(NET_PORT_STAT n), 16, 16⟩
def NET_PORT_STAT_crc_err (n : Nat) : Fld := ⟨(NET_PORT_STAT n), 8, 8⟩
def NET_PORT_STAT_fallback (n : Nat) : Fld := ⟨(NET_PORT_STAT n), 4, 1⟩
def NET_PORT_STAT_link_lost (n : Nat) : Fld := ⟨(NET_PORT_STAT n), 3, 1⟩
def NET_PORT_STAT_link (n : Nat) : Fld := ⟨(NET_PORT_STAT n), 2, 1⟩
def NET_PORT_STAT_mode (n : Nat) : Fld := ⟨(NET_PORT_STAT n), 0, 2⟩
def NET_MAC_LO : Nat := 0xE0020
def NET_MAC_LO_mac : Fld := ⟨NET_MAC_LO, 0, 32⟩
def NET_MAC_HI : Nat := 0xE0024
def NET_MAC_HI_mac : Fld := ⟨NET_MAC_HI, 0, 16⟩
def NET_CTL : Nat := 0xE0040
def NET_CTL_cnt_clr : Fld := ⟨NET_CTL, 1, 1⟩
def NET_CTL_tx_mode : Fld := ⟨NET_CTL, 0, 1⟩
def NET_STR_SEL : Nat := 0xE0100
def NET_STR_SEL_tx : Fld := ⟨NET_STR_SEL, 31, 1⟩
def NET_STR_SEL_index : Fld := ⟨NET_STR_SEL, 0, 9⟩
def NET_STR_CMD : Nat := 0xE0104
def NET_STR_CMD_go : Fld := ⟨NET_STR_CMD, 31, 1⟩
def NET_STR_CMD_op : Fld := ⟨NET_STR_CMD, 30, 1⟩
def NET_STR_CMD_status : Fld := ⟨NET_STR_CMD, 0, 3⟩
def NET_STR_TICK : Nat := 0xE0108
def NET_STR_TICK_tick : Fld := ⟨NET_STR_TICK, 0, 32⟩
def NET_STR_CNT0 : Nat := 0xE010C
def NET_STR_CNT0_leg1 : Fld := ⟨NET_STR_CNT0, 16, 16⟩
def NET_STR_CNT0_leg0 : Fld := ⟨NET_STR_CNT0, 0, 16⟩
def NET_STR_CNT1 : Nat := 0xE0110
def NET_STR_CNT1_missing : Fld := ⟨NET_STR_CNT1, 16, 16⟩
def NET_STR_CNT1_early : Fld := ⟨NET_STR_CNT1, 0, 16⟩
def NET_STRW (w : Nat) : Nat := 0xE0120 + 4 * w
def NET_STRW_w (w : Nat) : Fld := ⟨(NET_STRW w), 0, 32⟩
def NET_BUF : Nat := 0xE0140
def NET_BUF_rx_used : Fld := ⟨NET_BUF, 14, 18⟩
def NET_BUF_tx_used : Fld := ⟨NET_BUF, 0, 14⟩
def NET_PTP_CTL : Nat := 0xE0200
def NET_PTP_CTL_valid : Fld := ⟨NET_PTP_CTL, 0, 1⟩
def NET_PTP_ADJ : Nat := 0xE0204
def NET_PTP_ADJ_adj : Fld := ⟨NET_PTP_ADJ, 0, 32⟩
def NET_PTP_TIME0 : Nat := 0xE0208
def NET_PTP_TIME0_ns : Fld := ⟨NET_PTP_TIME0, 0, 32⟩
def NET_PTP_TIME1 : Nat := 0xE020C
def NET_PTP_TIME1_sec : Fld := ⟨NET_PTP_TIME1, 0, 32⟩
def NET_PTP_TIME2 : Nat := 0xE0210
def NET_PTP_TIME2_sec : Fld := ⟨NET_PTP_TIME2, 0, 16⟩
def NET_PTP_STEP : Nat := 0xE0214
def NET_PTP_STEP_step : Fld := ⟨NET_PTP_STEP, 0, 32⟩
def NET_MEDIA_ORG0 : Nat := 0xE0220
def NET_MEDIA_ORG0_origin : Fld := ⟨NET_MEDIA_ORG0, 0, 32⟩
def NET_MEDIA_ORG1 : Nat := 0xE0224
def NET_MEDIA_ORG1_origin : Fld := ⟨NET_MEDIA_ORG1, 0, 32⟩
def NET_MEDIA_ERR : Nat := 0xE0228
def NET_MEDIA_ERR_err : Fld := ⟨NET_MEDIA_ERR, 0, 32⟩
def DEV_FEAT0 : Nat := 0x10
def DEV_FEAT0_swab : Fld := ⟨DEV_FEAT0, 5, 1⟩
def DEV_FEAT0_wait : Fld := ⟨DEV_FEAT0, 4, 1⟩
def DEV_FEAT0_mulh : Fld := ⟨DEV_FEAT0, 3, 1⟩
def DEV_FEAT0_par_brev : Fld := ⟨DEV_FEAT0, 2, 1⟩
def DEV_FEAT0_crc_byte : Fld := ⟨DEV_FEAT0, 1, 1⟩
def DEV_FEAT0_crc : Fld := ⟨DEV_FEAT0, 0, 1⟩
def DEV_FEAT1 : Nat := 0x14
def DEV_FEAT1_bulk_copy : Fld := ⟨DEV_FEAT1, 7, 1⟩
def DEV_FEAT1_graft : Fld := ⟨DEV_FEAT1, 6, 1⟩
def DEV_FEAT1_pcie : Fld := ⟨DEV_FEAT1, 5, 1⟩
def DEV_FEAT1_qspi_boot : Fld := ⟨DEV_FEAT1, 4, 1⟩
def DEV_FEAT1_quickset : Fld := ⟨DEV_FEAT1, 3, 1⟩
def DEV_FEAT1_aes3 : Fld := ⟨DEV_FEAT1, 2, 1⟩
def DEV_FEAT1_net_25g : Fld := ⟨DEV_FEAT1, 1, 1⟩
def DEV_FEAT1_pleach : Fld := ⟨DEV_FEAT1, 0, 1⟩
def DEV_FEAT2 : Nat := 0x18
def DEV_FEAT2_dram_gib : Fld := ⟨DEV_FEAT2, 16, 8⟩
def DEV_FEAT2_part_m1 : Fld := ⟨DEV_FEAT2, 8, 8⟩
def DEV_FEAT2_eng_log2 : Fld := ⟨DEV_FEAT2, 4, 4⟩
def DEV_FEAT2_cl_m1 : Fld := ⟨DEV_FEAT2, 0, 4⟩
def DEV_FEAT3 : Nat := 0x1C
def SV_STAT : Nat := 0x200
def SV_STAT_ce : Fld := ⟨SV_STAT, 16, 16⟩
def SV_STAT_wp : Fld := ⟨SV_STAT, 3, 1⟩
def SV_STAT_bad_addr : Fld := ⟨SV_STAT, 2, 1⟩
def SV_STAT_state : Fld := ⟨SV_STAT, 0, 2⟩
def SV_WDT_CTL : Nat := 0x204
def SV_WDT_CTL_timeout : Fld := ⟨SV_WDT_CTL, 0, 14⟩
def SV_WDT_KICK : Nat := 0x208
def SV_WDT_KICK_key : Fld := ⟨SV_WDT_KICK, 0, 16⟩
def SV_WDT_STAT : Nat := 0x20C
def SV_WDT_STAT_restarts : Fld := ⟨SV_WDT_STAT, 16, 16⟩
def SV_WDT_STAT_reload : Fld := ⟨SV_WDT_STAT, 7, 1⟩
def SV_WDT_STAT_core : Fld := ⟨SV_WDT_STAT, 6, 1⟩
def SV_WDT_STAT_cause : Fld := ⟨SV_WDT_STAT, 0, 3⟩
def SV_CWIN (c : Nat) : Nat := 0x210 + 4 * c
def SV_CWIN_base (c : Nat) : Fld := ⟨(SV_CWIN c), 23, 9⟩
def SV_FLASH_ADDR : Nat := 0x220
def SV_FLASH_ADDR_addr : Fld := ⟨SV_FLASH_ADDR, 0, 32⟩
def SV_FLASH_SRC : Nat := 0x224
def SV_FLASH_SRC_src : Fld := ⟨SV_FLASH_SRC, 0, 24⟩
def SV_FLASH_CMD : Nat := 0x228
def SV_FLASH_CMD_go : Fld := ⟨SV_FLASH_CMD, 31, 1⟩
def SV_FLASH_CMD_op : Fld := ⟨SV_FLASH_CMD, 0, 2⟩
def SV_FLASH_STAT : Nat := 0x22C
def SV_FLASH_STAT_busy : Fld := ⟨SV_FLASH_STAT, 31, 1⟩
def SV_FLASH_STAT_status : Fld := ⟨SV_FLASH_STAT, 0, 3⟩
def DMA_GSTAT : Nat := 0xA0000
def DMA_GSTAT_stops : Fld := ⟨DMA_GSTAT, 16, 16⟩
def DMA_GSTAT_restart_lost : Fld := ⟨DMA_GSTAT, 1, 1⟩
def DMA_GSTAT_stopped : Fld := ⟨DMA_GSTAT, 0, 1⟩
def DMA_RESTART : Nat := 0xA0004
def DMA_RESTART_mask : Fld := ⟨DMA_RESTART, 0, 32⟩
def DMA_ERR : Nat := 0xA0008
def DMA_ERR_valid : Fld := ⟨DMA_ERR, 31, 1⟩
def DMA_ERR_channel : Fld := ⟨DMA_ERR, 8, 6⟩
def DMA_ERR_space : Fld := ⟨DMA_ERR, 4, 2⟩
def DMA_ERR_kind : Fld := ⟨DMA_ERR, 0, 4⟩
def DMA_ERR_ADDR0 : Nat := 0xA000C
def DMA_ERR_ADDR0_addr : Fld := ⟨DMA_ERR_ADDR0, 0, 32⟩
def DMA_ERR_ADDR1 : Nat := 0xA0010
def DMA_ERR_ADDR1_addr : Fld := ⟨DMA_ERR_ADDR1, 0, 32⟩
def DMA_IRQ_STAT : Nat := 0xA0014
def DMA_IRQ_STAT_irq : Fld := ⟨DMA_IRQ_STAT, 0, 32⟩
def DMA_CTL : Nat := 0xA0018
def DMA_CTL_cnt_clr : Fld := ⟨DMA_CTL, 0, 1⟩
def DMA_CH_CTL (n : Nat) : Nat := 0xA0100 + 0x40 * n
def DMA_CH_CTL_go (n : Nat) : Fld := ⟨(DMA_CH_CTL n), 31, 1⟩
def DMA_CH_CTL_abort (n : Nat) : Fld := ⟨(DMA_CH_CTL n), 30, 1⟩
def DMA_CH_CTL_db (n : Nat) : Fld := ⟨(DMA_CH_CTL n), 29, 1⟩
def DMA_CH_CTL_req (n : Nat) : Fld := ⟨(DMA_CH_CTL n), 28, 1⟩
def DMA_CH_CFG (n : Nat) : Nat := 0xA0104 + 0x40 * n
def DMA_CH_CFG_vec (n : Nat) : Fld := ⟨(DMA_CH_CFG n), 26, 6⟩
def DMA_CH_CFG_irq_host (n : Nat) : Fld := ⟨(DMA_CH_CFG n), 25, 1⟩
def DMA_CH_CFG_irq_lb (n : Nat) : Fld := ⟨(DMA_CH_CFG n), 24, 1⟩
def DMA_CH_CFG_irq_sv (n : Nat) : Fld := ⟨(DMA_CH_CFG n), 23, 1⟩
def DMA_CH_CFG_start_en (n : Nat) : Fld := ⟨(DMA_CH_CFG n), 22, 1⟩
def DMA_CH_CFG_pace (n : Nat) : Fld := ⟨(DMA_CH_CFG n), 20, 2⟩
def DMA_CH_CFG_req_sel (n : Nat) : Fld := ⟨(DMA_CH_CFG n), 19, 1⟩
def DMA_CH_CFG_drain_en (n : Nat) : Fld := ⟨(DMA_CH_CFG n), 18, 1⟩
def DMA_CH_CFG_prio (n : Nat) : Fld := ⟨(DMA_CH_CFG n), 16, 2⟩
def DMA_CH_CFG_drain_ch (n : Nat) : Fld := ⟨(DMA_CH_CFG n), 8, 5⟩
def DMA_CH_CFG_burst_m1 (n : Nat) : Fld := ⟨(DMA_CH_CFG n), 0, 8⟩
def DMA_CH_RING0 (n : Nat) : Nat := 0xA0108 + 0x40 * n
def DMA_CH_RING0_base (n : Nat) : Fld := ⟨(DMA_CH_RING0 n), 0, 32⟩
def DMA_CH_RING1 (n : Nat) : Nat := 0xA010C + 0x40 * n
def DMA_CH_RING1_base (n : Nat) : Fld := ⟨(DMA_CH_RING1 n), 0, 32⟩
def DMA_CH_RING_SIZE (n : Nat) : Nat := 0xA0110 + 0x40 * n
def DMA_CH_RING_SIZE_space (n : Nat) : Fld := ⟨(DMA_CH_RING_SIZE n), 30, 2⟩
def DMA_CH_RING_SIZE_size_m1 (n : Nat) : Fld := ⟨(DMA_CH_RING_SIZE n), 0, 16⟩
def DMA_CH_HEAD (n : Nat) : Nat := 0xA0114 + 0x40 * n
def DMA_CH_HEAD_head (n : Nat) : Fld := ⟨(DMA_CH_HEAD n), 0, 16⟩
def DMA_CH_DONE (n : Nat) : Nat := 0xA0118 + 0x40 * n
def DMA_CH_DONE_done (n : Nat) : Fld := ⟨(DMA_CH_DONE n), 0, 24⟩
def DMA_CH_STAT (n : Nat) : Nat := 0xA011C + 0x40 * n
def DMA_CH_STAT_partition (n : Nat) : Fld := ⟨(DMA_CH_STAT n), 24, 8⟩
def DMA_CH_STAT_req_over (n : Nat) : Fld := ⟨(DMA_CH_STAT n), 16, 8⟩
def DMA_CH_STAT_cause (n : Nat) : Fld := ⟨(DMA_CH_STAT n), 12, 4⟩
def DMA_CH_STAT_pending (n : Nat) : Fld := ⟨(DMA_CH_STAT n), 4, 2⟩
def DMA_CH_STAT_state (n : Nat) : Fld := ⟨(DMA_CH_STAT n), 0, 3⟩
def DMA_CH_START (n : Nat) : Nat := 0xA0120 + 0x40 * n
def DMA_CH_START_tick (n : Nat) : Fld := ⟨(DMA_CH_START n), 0, 32⟩
def DMA_CH_FILL (n : Nat) : Nat := 0xA0124 + 0x40 * n
def DMA_CH_FILL_enabled (n : Nat) : Fld := ⟨(DMA_CH_FILL n), 24, 1⟩
def DMA_CH_FILL_fill (n : Nat) : Fld := ⟨(DMA_CH_FILL n), 0, 24⟩
def DMA_CH_FILL_DEC (n : Nat) : Nat := 0xA0128 + 0x40 * n
def DMA_CH_FILL_DEC_dec (n : Nat) : Fld := ⟨(DMA_CH_FILL_DEC n), 0, 24⟩
def DMA_CH_MARKS (n : Nat) : Nat := 0xA012C + 0x40 * n
def DMA_CH_MARKS_hi (n : Nat) : Fld := ⟨(DMA_CH_MARKS n), 16, 16⟩
def DMA_CH_MARKS_lo (n : Nat) : Fld := ⟨(DMA_CH_MARKS n), 0, 16⟩
def PWR_DOM_CTL (d : Nat) : Nat := 0x30000 + 4 * d
def PWR_DOM_CTL_state (d : Nat) : Fld := ⟨(PWR_DOM_CTL d), 29, 3⟩
def PWR_DOM_CTL_pinned (d : Nat) : Fld := ⟨(PWR_DOM_CTL d), 28, 1⟩
def PWR_DOM_CTL_det_level (d : Nat) : Fld := ⟨(PWR_DOM_CTL d), 10, 1⟩
def PWR_DOM_CTL_idle_target (d : Nat) : Fld := ⟨(PWR_DOM_CTL d), 8, 2⟩
def PWR_DOM_CTL_wake (d : Nat) : Fld := ⟨(PWR_DOM_CTL d), 1, 1⟩
def PWR_DOM_CTL_sleep (d : Nat) : Fld := ⟨(PWR_DOM_CTL d), 0, 1⟩
def PWR_IDLE_TMR (d : Nat) : Nat := 0x30080 + 4 * d
def PWR_IDLE_TMR_idle (d : Nat) : Fld := ⟨(PWR_IDLE_TMR d), 0, 24⟩
def PWR_RESID (d s : Nat) : Nat := 0x30100 + 16 * d + 4 * s
def PWR_RESID_ms (d s : Nat) : Fld := ⟨(PWR_RESID d s), 0, 32⟩
def PWR_WAKE_SRC (d : Nat) : Nat := 0x30300 + 4 * d
def PWR_WAKE_SRC_replayed (d : Nat) : Fld := ⟨(PWR_WAKE_SRC d), 31, 1⟩
def PWR_WAKE_SRC_src (d : Nat) : Fld := ⟨(PWR_WAKE_SRC d), 0, 4⟩
def PWR_AON_LDO : Nat := 0x30380
def PWR_AON_LDO_lp_active : Fld := ⟨PWR_AON_LDO, 1, 1⟩
def PWR_AON_LDO_lp_en : Fld := ⟨PWR_AON_LDO, 0, 1⟩
def PWR_SIL_MAP (i : Nat) : Nat := 0x30400 + 4 * i
def PWR_SIL_MAP_en (i : Nat) : Fld := ⟨(PWR_SIL_MAP i), 31, 1⟩
def PWR_SIL_MAP_cluster (i : Nat) : Fld := ⟨(PWR_SIL_MAP i), 28, 3⟩
def PWR_SIL_MAP_first (i : Nat) : Fld := ⟨(PWR_SIL_MAP i), 16, 12⟩
def PWR_SIL_MAP_count_m1 (i : Nat) : Fld := ⟨(PWR_SIL_MAP i), 0, 12⟩
def PWR_SIL_STAT : Nat := 0x30500
def PWR_SIL_STAT_overlap : Fld := ⟨PWR_SIL_STAT, 16, 16⟩
def PWR_SIL_STAT_asleep : Fld := ⟨PWR_SIL_STAT, 8, 8⟩
def PWR_SIL_STAT_quiet : Fld := ⟨PWR_SIL_STAT, 0, 8⟩
def PWR_PAIR : Nat := 0x30504
def PWR_PAIR_refused : Fld := ⟨PWR_PAIR, 31, 1⟩
def PWR_PAIR_TICK : Nat := 0x30508
def PWR_PAIR_TICK_tick : Fld := ⟨PWR_PAIR_TICK, 0, 32⟩
def PWR_CTL : Nat := 0x3050C
def PWR_CTL_cnt_clr : Fld := ⟨PWR_CTL, 0, 1⟩
def MON_TEMP (s : Nat) : Nat := 0x40000 + 4 * s
def MON_TEMP_valid (s : Nat) : Fld := ⟨(MON_TEMP s), 31, 1⟩
def MON_TEMP_temp (s : Nat) : Fld := ⟨(MON_TEMP s), 0, 16⟩
def MON_THERM_CTL : Nat := 0x40040
def MON_THERM_CTL_peak_clr : Fld := ⟨MON_THERM_CTL, 31, 1⟩
def MON_THERM_CTL_user_alarm : Fld := ⟨MON_THERM_CTL, 16, 8⟩
def MON_THERM_CTL_user_seen : Fld := ⟨MON_THERM_CTL, 10, 1⟩
def MON_THERM_CTL_warn_seen : Fld := ⟨MON_THERM_CTL, 9, 1⟩
def MON_THERM_CTL_thermal_warn : Fld := ⟨MON_THERM_CTL, 8, 1⟩
def MON_THERM_CTL_hottest : Fld := ⟨MON_THERM_CTL, 4, 4⟩
def MON_TJ_MAX : Nat := 0x40044
def MON_TJ_MAX_temp : Fld := ⟨MON_TJ_MAX, 0, 16⟩
def MON_SUPPLY : Nat := 0x40048
def MON_SUPPLY_in_range : Fld := ⟨MON_SUPPLY, 0, 9⟩
def MON_AMON_CTL (n : Nat) : Nat := 0x40100 + 4 * n
def MON_AMON_CTL_en (n : Nat) : Fld := ⟨(MON_AMON_CTL n), 31, 1⟩
def MON_AMON_CTL_owire_en (n : Nat) : Fld := ⟨(MON_AMON_CTL n), 30, 1⟩
def MON_AMON_CTL_period (n : Nat) : Fld := ⟨(MON_AMON_CTL n), 26, 4⟩
def MON_AMON_CTL_cmp_en (n : Nat) : Fld := ⟨(MON_AMON_CTL n), 25, 1⟩
def MON_AMON_CTL_cmp_dir (n : Nat) : Fld := ⟨(MON_AMON_CTL n), 24, 1⟩
def MON_AMON_CTL_cmp_thr (n : Nat) : Fld := ⟨(MON_AMON_CTL n), 16, 8⟩
def MON_AMON_CTL_wake_dom (n : Nat) : Fld := ⟨(MON_AMON_CTL n), 11, 5⟩
def MON_AMON_DATA (n : Nat) : Nat := 0x40140 + 4 * n
def MON_AMON_DATA_status (n : Nat) : Fld := ⟨(MON_AMON_DATA n), 30, 2⟩
def MON_AMON_DATA_open (n : Nat) : Fld := ⟨(MON_AMON_DATA n), 29, 1⟩
def MON_AMON_DATA_open_seen (n : Nat) : Fld := ⟨(MON_AMON_DATA n), 28, 1⟩
def MON_AMON_DATA_cmp (n : Nat) : Fld := ⟨(MON_AMON_DATA n), 27, 1⟩
def MON_AMON_DATA_cmp_seen (n : Nat) : Fld := ⟨(MON_AMON_DATA n), 26, 1⟩
def MON_AMON_DATA_code (n : Nat) : Fld := ⟨(MON_AMON_DATA n), 0, 12⟩
def MBX_STAT : Nat := 0x100000
def MBX_STAT_collide : Fld := ⟨MBX_STAT, 31, 1⟩
def MBX_STAT_width_err : Fld := ⟨MBX_STAT, 30, 1⟩
def MBX_STAT_kind : Fld := ⟨MBX_STAT, 28, 2⟩
def MBX_STAT_word : Fld := ⟨MBX_STAT, 0, 16⟩
def MBX_DB : Nat := 0x100004
def MBX_DB_lb : Fld := ⟨MBX_DB, 2, 1⟩
def MBX_DB_host : Fld := ⟨MBX_DB, 1, 1⟩
def MBX_DB_sv : Fld := ⟨MBX_DB, 0, 1⟩
def MBX_CFG : Nat := 0x100008
def MBX_CFG_boot_en : Fld := ⟨MBX_CFG, 24, 1⟩
def MBX_CFG_boot_vec : Fld := ⟨MBX_CFG, 16, 6⟩
def MBX_CFG_host_en : Fld := ⟨MBX_CFG, 8, 1⟩
def MBX_CFG_host_vec : Fld := ⟨MBX_CFG, 0, 6⟩
def SES_CFG : Nat := 0x100010
def SES_CFG_cnt_clr : Fld := ⟨SES_CFG, 31, 1⟩
def SES_CFG_idle : Fld := ⟨SES_CFG, 0, 16⟩
def SES_STAT : Nat := 0x100014
def SES_STAT_open : Fld := ⟨SES_STAT, 16, 13⟩
def SES_STAT_open_pend : Fld := ⟨SES_STAT, 0, 9⟩
def SES_CNT0 : Nat := 0x100018
def SES_CNT0_auth_fail : Fld := ⟨SES_CNT0, 16, 16⟩
def SES_CNT0_rx_drop : Fld := ⟨SES_CNT0, 0, 16⟩
def SES_CNT1 : Nat := 0x10001C
def SES_CNT1_overlap : Fld := ⟨SES_CNT1, 16, 16⟩
def SES_CNT1_open_drop : Fld := ⟨SES_CNT1, 0, 16⟩
def SES_FILT_SEL : Nat := 0x100020
def SES_FILT_SEL_entry : Fld := ⟨SES_FILT_SEL, 0, 8⟩
def SES_FILT0 : Nat := 0x100024
def SES_FILT0_en : Fld := ⟨SES_FILT0, 31, 1⟩
def SES_FILT0_ports : Fld := ⟨SES_FILT0, 24, 4⟩
def SES_FILT0_prefix : Fld := ⟨SES_FILT0, 16, 6⟩
def SES_FILT0_partition : Fld := ⟨SES_FILT0, 0, 8⟩
def SES_FILT1 : Nat := 0x100028
def SES_FILT1_udp_port : Fld := ⟨SES_FILT1, 0, 16⟩
def SES_FILT2 : Nat := 0x10002C
def SES_FILT2_src : Fld := ⟨SES_FILT2, 0, 32⟩
def SES_PSEL : Nat := 0x100030
def SES_PSEL_partition : Fld := ⟨SES_PSEL, 0, 8⟩
def SES_PCFG : Nat := 0x100034
def SES_PCFG_vec : Fld := ⟨SES_PCFG, 24, 6⟩
def SES_PCFG_win_len : Fld := ⟨SES_PCFG, 0, 20⟩
def SES_PWIN0 : Nat := 0x100038
def SES_PWIN0_base : Fld := ⟨SES_PWIN0, 0, 32⟩
def SES_PWIN1 : Nat := 0x10003C
def SES_PWIN1_base : Fld := ⟨SES_PWIN1, 0, 32⟩
def SES_KEY_CTL : Nat := 0x100040
def SES_KEY_CTL_go : Fld := ⟨SES_KEY_CTL, 31, 1⟩
def SES_KEY_CTL_busy : Fld := ⟨SES_KEY_CTL, 30, 1⟩
def SES_KEY_CTL_refused : Fld := ⟨SES_KEY_CTL, 29, 1⟩
def SES_KEY_CTL_op : Fld := ⟨SES_KEY_CTL, 8, 1⟩
def SES_KEY_CTL_partition : Fld := ⟨SES_KEY_CTL, 0, 8⟩
def SES_KEY_ID : Nat := 0x100044
def SES_KEY_ID_key_id : Fld := ⟨SES_KEY_ID, 0, 32⟩
def SES_KEY_DATA (n : Nat) : Nat := 0x100060 + 4 * n
def SES_KEY_DATA_key (n : Nat) : Fld := ⟨(SES_KEY_DATA n), 0, 32⟩

end Sys2Proof.Machine.Reg
end

