-- ==== Sys2Proof/Machine/Operands.lean ====
section
/-!
DEFINITION. Machine/Operands.lean: the arithmetic of the datapath (03_engine_datapath.md): exact integers in, exact
integers out, narrowed explicitly at the end; and the operand forms of an engine: the rotating file (R49), pointers and
circular updates (R88, R89), accumulator parts (R55).
-/
namespace Sys2Proof.Machine

/-- `v / 2^sh` rounded convergently (R56): the nearest integer, ties to even. -/
def roundHalfEven (v : Int) (sh : Nat) : Int :=
  let q := v / 2 ^ sh
  let r := 2 * (v % 2 ^ sh)
  if r > 2 ^ sh then q + 1
  else if r < 2 ^ sh then q
  else if q % 2 = 0 then q else q + 1

/-- The integer nearest to `a / b`, ties to even, for `b > 0` (R221). -/
def rdiv (a b : Int) : Int :=
  let q := a / b
  let r := 2 * (a % b)
  if r > b then q + 1 else if r < b then q else if q % 2 = 0 then q else q + 1

/-- `v` clamped to `b` bits of two's complement. -/
def clampTo (b : Nat) (v : Int) : Int := max (-2 ^ (b - 1)) (min (2 ^ (b - 1) - 1) v)

/-- Saturation to 32 bits (R57). -/
def sat32 (v : Int) : Word := BitVec.ofInt 32 (clampTo 32 v)

/-- The value lies outside 32 bits, so a saturating operation sets FLG.sat (R57). -/
def outside32 (v : Int) : Bool := decide (v > 2 ^ 31 - 1) || decide (v < -2 ^ 31)

/-- The exponent of an `n`-bit value: the number of consecutive bits from bit `n - 2` down that equal bit `n - 1`. -/
def expBits (n : Nat) (v : Int) : Nat :=
  let m : Nat := (if v < 0 then -v - 1 else v).toNat
  n - 1 - (if m = 0 then 0 else Nat.log2 m + 1)

/-- EXP(v), 0 to 31 (R59). -/
def exp32 (v : Word) : Nat := expBits 32 v.toInt

/-- EXPA(a), 0 to 79 (R60). -/
def expA (a : Acc) : Nat := expBits 80 a.toInt

/-- The exact quotient of an extraction before saturation (R54). -/
def extractExact (a : Acc) (sh : Nat) (rnd : Bool) : Int :=
  if rnd then roundHalfEven a.toInt sh else a.toInt / 2 ^ sh

/-- SHI (R83): left exact, right rounded convergently. -/
def shiExact (v : Word) (n : Int) : Int :=
  if n ≥ 0 then v.toInt * 2 ^ n.toNat else roundHalfEven v.toInt (-n).toNat

/-- SHT (R83): wrapping left, floor right. -/
def shtVal (v : Word) (n : Int) : Word :=
  if n ≥ 0 then BitVec.ofInt 32 (v.toInt * 2 ^ n.toNat) else BitVec.ofInt 32 (v.toInt / 2 ^ (-n).toNat)

/-- Block scaling by BX − g (R61), before saturation. -/
def bxsExact (v : Word) (bx : Nat) (g : Nat) : Int :=
  if bx > g then v.toInt * 2 ^ (bx - g)
  else if bx < g then roundHalfEven v.toInt (g - bx)
  else v.toInt

/-- One part of an accumulator (R55). -/
def accPartRead (a : Acc) : AccPart → Word
  | .lo => a.setWidth 32
  | .mid => (a >>> 32).setWidth 32
  | .hi => ((a >>> 64).setWidth 16 : BitVec 16).signExtend 32

/-- An accumulator with one part replaced (R55); part 0 = lo, 1 = mid, else hi. -/
def accPartWrite (a : Acc) (part : Nat) (v : Word) : Acc :=
  match part with
  | 0 => (a >>> 32 <<< 32) ||| v.setWidth 80
  | 1 => (a >>> 64 <<< 64) ||| (v.setWidth 80 <<< 32) ||| ((a.setWidth 32 : Word).setWidth 80)
  | _ => ((v.setWidth 16 : BitVec 16).setWidth 80 <<< 64) ||| ((a.setWidth 64 : BitVec 64).setWidth 80)

/-- The part's number, as `accPartWrite` takes it. -/
def partNum : AccPart → Nat
  | .lo => 0
  | .mid => 1
  | .hi => 2

/-- LDA: the sign-extended register times 2^sh (R55). -/
def ldaVal (v : Word) (sh : Nat) : Acc := BitVec.ofInt 80 (v.toInt * 2 ^ sh)

/-- An accumulator update reduced modulo 2^80 into −2^79 to 2^79 − 1 (R52). -/
def wrap80 (v : Int) : Acc := BitVec.ofInt 80 v

/-- The stored accumulator differs from the exact result, so FLG.aov is set (R52). -/
def overflows80 (v : Int) : Bool := decide ((wrap80 v).toInt ≠ v)

/-- The smallest power of two not below `n`, for `n ≥ 1` (R89). -/
def pow2Above (n : Nat) : Nat := if n ≤ 1 then 1 else 2 ^ (Nat.log2 (n - 1) + 1)

/-- Circular pointer update (R89): `k` the pointer, `step` the modifier, `ln` the circular length. -/
def circ (k step ln : Addr24) : Addr24 :=
  if ln = 0 then k + step
  else
    let b := pow2Above ln.toNat
    let base := k.toNat / b * b
    BitVec.ofInt 24 ((base : Int) + ((k.toNat : Int) - base + step.toInt) % ln.toNat)

/-- The physical register that Vn names under `rrb` (R49). -/
def physReg (rrb : BitVec 5) (n : Nat) : Nat := if n < 32 then n else 32 + (n - 32 + rrb.toNat) % 32

/-- Vn as an operation that issues now reads it (R47, R49). -/
def Engine.rd (e : Engine) (n : Nat) : Word := storeGet 0 e.v (physReg e.rrb n)

/-- K register as stored. -/
def Engine.kReg (e : Engine) (n : Nat) : Addr24 := storeGet 0 e.k n

/-- M register as stored. -/
def Engine.mReg (e : Engine) (n : Nat) : Addr24 := storeGet 0 e.m n

/-- Accumulator as an A-slot read sees it (Table 04.2). -/
def Engine.accRead (e : Engine) (k : Nat) : Acc := storeGet 0 e.accA k

/-- Accumulator as an M update sees it (R53). -/
def Engine.accUpd (e : Engine) (k : Nat) : Acc := storeGet 0 e.accM k

/-- A word of local data memory (R62). -/
def Engine.memAt (e : Engine) (a : Nat) : Word := storeGet 0 e.mem (a % 65536)

/-- Residue, 0 to 2 (R65). -/
def res3 (v : Int) : Int := v % 3

/-- The pointer, modifier and circular-length registers of an L slot (Table 04.10). -/
def lRegs (slot : LSlot) (kp : Nat) : Nat × Nat × Nat :=
  match slot with
  | .l0 => (kp, kp, 8 + kp)
  | .l1 => (4 + kp, 4 + kp, 12 + kp)

/-- The four lane products of a quad multiply-accumulate before scaling (R50, R51). -/
def laneExact (e : Engine) (o : MOp) (i : Nat) : Int :=
  let vs := e.rd o.vs.val
  let q := e.rd (4 * o.qi.val + i)
  let x := if o.sh then q else vs
  let y := if o.sh then vs else q
  x.toInt * (if o.md then (y.toNat : Int) else y.toInt)

/-- A lane product as accumulated (R51). -/
def laneProduct (e : Engine) (o : MOp) (i : Nat) : Int :=
  if o.sc then laneExact e o i / 2 ^ 32 else laneExact e o i

/-- The lanes of a dst code in lane form (Table 04.4), none in sum form. -/
def dstLanes (d : Fin 8) : List Nat :=
  match d.val with
  | 0 => [0, 1, 2, 3]
  | 1 => [0, 1]
  | 2 => [2, 3]
  | 3 => [0]
  | _ => []

/-- The accumulators a quad multiply-accumulate updates, each with what it takes (R52, Table 04.4). -/
def macTerms (e : Engine) (o : MOp) : List (Nat × Int) :=
  if o.dst.val < 4 then (dstLanes o.dst).map (fun i => (i, laneProduct e o i))
  else [(o.dst.val - 4, laneProduct e o 0 + laneProduct e o 1 + laneProduct e o 2 + laneProduct e o 3)]

/-- Linear interpolation (R112). -/
def interpLinear (x0 x1 : Word) (f : Nat) : Int := x0.toInt + roundHalfEven ((x1.toInt - x0.toInt) * f) 16

/-- Hermite interpolation before saturation (R113). -/
def interpHermite (pm1 p0 p1 p2 : Word) (f : Nat) : Int :=
  let a := pm1.toInt
  let b := p0.toInt
  let c := p1.toInt
  let d := p2.toInt
  let c1 := c - a
  let c2 := 2 * a - 5 * b + 4 * c - d
  let c3 := (d - a) + 3 * (b - c)
  let t := (c3 * f) / 2 ^ 16
  let t := ((t + c2) * f) / 2 ^ 16
  let t := (t + c1) * f
  b + roundHalfEven t 17

/-- Input conversion of a word of `b` significant bits to Q5.27 (R144). -/
def convIn (b : Nat) (v : Int) : Int := if b ≤ 28 then v * 2 ^ (28 - b) else roundHalfEven v (b - 28)

end Sys2Proof.Machine
end

