-- ==== Sys2Proof/Machine/Flags.lean ====
section
/-!
DEFINITION. Machine/Flags.lean: the engine flags FLG (R85) and the computation of each flag an operation sets (R52,
R57, R62, R92, R110).
-/
namespace Sys2Proof.Machine

/-- FLG.sat (bit 0), R85. -/
def flgSat : BitVec 6 := 1

/-- FLG.aov0 to aov3 (bits 1 to 4), R85. -/
def flgAov (k : Nat) : BitVec 6 := 1 <<< (1 + k)

/-- FLG.addr (bit 5), R85. -/
def flgAddr : BitVec 6 := 32

/-- The sat flag of a saturating result (R57). -/
def satFlag (exact : Int) : BitVec 6 := if outside32 exact then flgSat else 0

/-- The addr flag of a local-memory address (R62). -/
def lAddrFlag (a : Addr24) : BitVec 6 := if a.toNat ≥ 65536 then flgAddr else 0

/-- The addr flag of a window address (R92). -/
def xAddrFlag (a : Addr24) : BitVec 6 := if a.toNat ≥ 1024 then flgAddr else 0

end Sys2Proof.Machine
end

