-- ==== Sys2Proof/Machine/Host.lean ====
section
/-!
DEFINITION. Machine/Host.lean: what the device signals: supervisor events (R320), MSI-X messages (R371) and the
local-bus interrupt (R374).
-/
namespace Sys2Proof.Machine

/-- Supervisor core `c`. -/
def State.core (s : State) (c : Nat) : SvCore := storeGet {} s.sv c

/-- Stores supervisor core `c`. -/
def State.setCore (s : State) (c : Nat) (x : SvCore) : State := { s with sv := storeSet {} s.sv c x }

/-- Event `n` of Table 14.8 in one core: its EVT bit is set, and a core that waits for it goes on. -/
def SvCore.event (x : SvCore) (n : Nat) : SvCore :=
  let e := x.evt ||| BitVec.ofNat 16 (2 ^ n)
  { x with evt := e, waiting := x.waiting && (e &&& x.even == 0) }

/-- Event `n` of Table 14.8 in both cores (log entry 16). -/
def raiseEvent (s : State) (n : Nat) : State :=
  (s.setCore 0 ((s.core 0).event n)).setCore 1 ((s.core 1).event n)

/-- The TWN event when TWN_STAT has changed since `old` (Table 14.8). -/
def twnEvent (old new : State) : State :=
  if old.reg Reg.TWN_STAT = new.reg Reg.TWN_STAT then new else raiseEvent new 12

/-- A message of vector `v`: sent, or pending while the vector is masked (R371). The endpoint runs while its domain is ON (R369). -/
def sendMsix (s : State) (v : Nat) : State :=
  if s.fld (Reg.PWR_DOM_CTL_state 12) ≠ 0 then s
  else if storeGet false s.msix.open' v then { s with msix := { s.msix with sent := s.msix.sent ++ [v] } }
  else if s.msix.pend.contains v then s
  else { s with msix := { s.msix with pend := s.msix.pend ++ [v] } }

/-- int_pend bit 0 (R374): a DMA channel with irq_lb has its DMA_IRQ_STAT bit set. -/
def lbDmaPend (s : State) : Bool :=
  (List.range 32).any (fun n => s.fld (Reg.DMA_CH_CFG_irq_lb n) == 1 && s.fld ⟨Reg.DMA_IRQ_STAT, n, 1⟩ == 1)

/-- int_pend as read at LB_A 0x07. -/
def lbPend (s : State) : BitVec 4 :=
  BitVec.ofNat 4 ((lbDmaPend s).toNat + 2 * s.lb.svDb.toNat + 4 * s.lb.bootChg.toNat + 8 * s.lb.collide.toNat)

/-- LB_INT_N is asserted, that is low (R374). -/
def lbInt (s : State) : Bool := lbPend s &&& s.lb.mask != 0

/-- A BOOT_STATE transition is signalled to the host and the local bus (Table 17.2, Table 17.4). -/
def bootEvent (s : State) : State :=
  let s : State := { s with lb := { s.lb with bootChg := true } }
  if s.fld Reg.MBX_CFG_boot_en = 1 then sendMsix s (s.fld Reg.MBX_CFG_boot_vec) else s

end Sys2Proof.Machine
end

