-- ==== Sys2Proof/Machine/SelfFault.lean ====
section
/-!
DEFINITION. Machine/SelfFault.lean: what a self-detected fault and a failed start do (R243, R268 to R272, R279), and
the entry into COLD, WAIT_HOST and COPPICE (Table 11.2).
-/
namespace Sys2Proof.Machine

/-- BOOT_STATE.state values (Table 11.1). -/
def bootCold : Nat := 0
def bootVerify : Nat := 1
def bootLoad : Nat := 2
def bootRipening : Nat := 3
def bootRun : Nat := 4
def bootWaitHost : Nat := 5
def bootCoppice : Nat := 6

/-- BOOT_STATE.state. -/
def State.boot (s : State) : Nat := s.fld Reg.BOOT_STATE_state

/-! ### What the paths reach (R265, R384) -/

/-- A byte of the mailbox RAM. -/
def inMailbox (a : Nat) : Bool := decide (0x140000 ≤ a ∧ a < 0x180000)

/-- A byte of the DEV/BOOT, ESP, MON or MBX block or of the mailbox RAM. -/
def earlyBlock (a : Nat) : Bool :=
  decide (a < 0x10000 ∨ (0x40000 ≤ a ∧ a < 0x60000) ∨ (0x100000 ≤ a ∧ a < 0x110000)) || inMailbox a

/-- Phase C1 of the present start has ended. -/
def c1Done (s : State) : Bool := s.boot != bootCold || s.fld Reg.ESP_STAT_state == 4

/-- A path reaches byte `a` (R265): nothing before the end of C1, the early blocks until the end of L2, then everything. -/
def reaches (s : State) (a : Nat) : Bool := c1Done s && (earlyBlock a || s.phases.contains 2)

/-- What a write or a read of register `a` with a row of its own does: `t` where the register is reached, and nothing where it is
not (R265). -/
def gated (s : State) (a : Nat) (t : State) : State := if reaches s a then t else s

/-- The same for an access on a named path: PCIe needs its endpoint, whose domain is ON (R369). -/
def gatedBy (s : State) (path : Path) (a : Nat) (t : State) : State :=
  if path = .pcie ∧ s.fld (Reg.PWR_DOM_CTL_state 12) ≠ 0 then s else gated s a t

/-! ### Power domains (R349 to R354) -/

/-- Domain states (PWR_DOM_CTLd.state). -/
def domStOn : Nat := 0
def domStRet : Nat := 1
def domStOff : Nat := 2
def domStEntering : Nat := 3
def domStWaking : Nat := 4

/-- State of domain `d`. -/
def State.domSt (s : State) (d : Nat) : Nat := s.fld (Reg.PWR_DOM_CTL_state d)

/-- What the model holds of domain `d` beside its registers. -/
def State.dom (s : State) (d : Nat) : Dom := storeGet {} s.doms d

/-- Stores it. -/
def State.setDom (s : State) (d : Nat) (x : Dom) : State := { s with doms := storeSet {} s.doms d x }

/-- The state towards which a domain's time counts (R354). -/
def residState (s : State) (d : Nat) : Nat :=
  let st := s.domSt d
  if st = domStEntering then (s.dom d).target else if st = domStWaking then 0 else st

/-- While no tick runs, the block has no measure of the time that domain `d` spends in its state: a free number of milliseconds
(R354; log entry 145). -/
def passDom (s : State) (d : Nat) : State :=
  if s.tickOn then s
  else { s.satAdd (Reg.PWR_RESID_ms d (residState s d)) (Config.freeValue s.freeCtr).toNat with freeCtr := s.freeCtr + 1 }

/-- The same for every domain. -/
def passTime (s : State) : State := (List.range 17).foldl passDom s

/-- A change of a domain's state raises event PWR (Table 14.8). -/
def State.setDomSt (s : State) (d v : Nat) : State :=
  if s.domSt d = v then s else raiseEvent ((passDom s d).setFld (Reg.PWR_DOM_CTL_state d) v) 11

/-! ### The boot record (R283) -/

/-- A number as four bytes, low byte first. -/
def recWord (n : Nat) : List Byte := wordBytes (BitVec.ofNat 32 n)

/-- The bytes of a start cause in the boot record (log entry 142). -/
def entryBytes (e : BootEntry) : List Byte :=
  recWord e.start ++ recWord (e.cause + e.counted.toNat * 256 + e.slot * 512 + e.state * 4096) ++ recWord e.detail

/-- The CRC-32C of a copy of the boot record over its sequence number and contents (R189, R283). The spec gives the record no byte
layout (log entry 142). -/
def bootCrc (seq : Nat) (n : BootNv) : Word :=
  crc32c (recWord seq ++ recWord (n.startFails + n.slotActive * 16 + n.slotLkg * 256 + n.begun.toNat * 4096 + n.reached * 65536) ++
    recWord n.startNo ++
    (match n.pend with | some (c, k, d) => recWord (2 ^ 31 + c + k.toNat * 256) ++ recWord d | none => recWord 0) ++
    n.log.flatMap entryBytes)

/-- Copy `k` of the boot record, where its CRC holds. -/
def State.bootCopy (s : State) (k : Nat) : Option BootCopy :=
  (storeFind s.recs k).filter (fun c => c.crc == bootCrc c.seq c.body)

/-- The newest copy whose CRC holds, with its number. -/
def State.newestCopy (s : State) : Option (Nat × BootCopy) :=
  match s.bootCopy 0, s.bootCopy 1 with
  | some a, some b => if a.seq < b.seq then some (1, b) else some (0, a)
  | some a, none => some (0, a)
  | none, some b => some (1, b)
  | none, none => none

/-- What C1 finds in the boot record (R283): the copy with the higher sequence number whose CRC holds; without one START_FAILS 0,
SLOT_ACTIVE A and SLOT_LKG none. -/
def State.bootRead (s : State) : BootNv := ((s.newestCopy).map (fun c => c.2.body)).getD {}

/-- Every change of the boot record writes the copy that is not the newest, with the next sequence number (Table 11.7, R283). -/
def State.setNv (s : State) (n : BootNv) : State :=
  let k := (s.newestCopy).elim 0 (fun c => 1 - c.1)
  let q := (s.newestCopy).elim 0 (fun c => c.2.seq + 1)
  { s with nv := n, recs := storeIns k ⟨q, bootCrc q n, n⟩ s.recs }

/-- Sets BOOT_STATE.state, signals a transition, and notes the state for an INTERRUPTED record (R269). From the first RUN or
COPPICE on, the clock outputs are driven according to their registers (R35). -/
def State.setBoot (s : State) (b : Nat) : State :=
  let s := if s.boot = b then s else bootEvent s
  let s := s.setFld Reg.BOOT_STATE_state b
  let s := if s.nv.reached = b then s else s.setNv { s.nv with reached := b }
  { s with clk := { s.clk with driven := s.clk.driven || b == bootRun || b == bootCoppice } }

/-- The running image declares twin mode (BOARD.twin_mode). -/
def State.twinMode (s : State) : Bool := s.str.board.twinMode == 1

/-- Power domain `d` is ON (PWR_DOM_CTLd.state, R349). -/
def State.domOn (s : State) (d : Nat) : Bool := s.domSt d == 0

/-- The START_FAILS limit: fail_limit from OTP, 3 while unprogrammed (Table 11.8). -/
def State.failLimit (s : State) : Nat := s.otp.failLimit.getD 3

/-- A save that is cut short leaves its slot invalid (R278). -/
def endWriting (m : Store Gen) : Store Gen :=
  [0, 1].foldl (fun m n => storeSet {} m n { storeGet {} m n with writing := false }) m

/-- The machine with everything at its reset value but what survives a restart: OTP, the boot record, scene memory,
flash, key slots, straps, mailbox RAM (log entry 25), the test logic's instruction, the supplies, and the commands that wait. -/
def State.survivors (s : State) : State :=
  { State.reset with
    pending := s.pending, freeCtr := s.freeCtr, nv := s.nv, recs := s.recs, otp := s.otp, otpNext := s.otpNext, strap := s.strap,
    gens := endWriting s.gens, flash := s.flash, qspi := s.qspi, flashOp := s.flashOp, keys := s.keys, keyOp := s.keyOp, mbx := s.mbx,
    jtag := s.jtag, msix := { sent := s.msix.sent }, coreOut := s.coreOut, railsOut := s.railsOut }

/-- The residency counters, which count since AON reset (R354). -/
def keepResid (old new : State) : State :=
  (List.range 17).foldl (fun s d => (List.range 3).foldl (fun s k => s.setReg (Reg.PWR_RESID d k) (old.reg (Reg.PWR_RESID d k))) s) new

/-- While the core supplies are out of range the SV domain is OFF, and the AON LDO is in low-power mode with lp_en (R349, R360). -/
def showSupplies (s : State) : State :=
  if s.coreOut then (s.setFld (Reg.PWR_DOM_CTL_state 1) 2).setFld Reg.PWR_AON_LDO_lp_active (s.fld Reg.PWR_AON_LDO_lp_en) else s

/-- The registers a restart keeps: fields of type RWS (Table 00.4, R6), the residency counters (R354), what the supplies show (R360),
and the busy bits of commands that go on. -/
def State.keepRws (old new : State) : State :=
  let new := keepResid old new
  let new := (new.setFld Reg.BOOT_OTP_CTL_busy new.otpNext.isSome.toNat).setFld Reg.SV_FLASH_STAT_busy
    new.flashOp.isSome.toNat
  let new := new.setFld Reg.SES_KEY_CTL_busy new.keyOp.isSome.toNat
  showSupplies (((new.setFld Reg.HOST_WAIT_wait (old.fld Reg.HOST_WAIT_wait)).setFld Reg.SV_WDT_STAT_restarts
    (old.fld Reg.SV_WDT_STAT_restarts)).setFld Reg.PWR_AON_LDO_lp_en (old.fld Reg.PWR_AON_LDO_lp_en))

/-- Writes BOOT_REC0 to BOOT_REC7 from the boot record, newest first. -/
def showRecs (s : State) : Nat → List BootEntry → State
  | _, [] => s
  | i, e :: r =>
    if i < 8 then
      showRecs ((s.setReg (Reg.BOOT_REC0 i) (BitVec.ofNat 32 e.start)).setReg (Reg.BOOT_REC1 i)
        (BitVec.ofNat 32 (e.cause + (if e.counted then 128 else 0) + e.slot * 256 + e.state * 8192 + e.detail * 65536)))
        (i + 1) r
    else s

/-- Generation in slot `n`. -/
def State.gen (s : State) (n : Nat) : Gen := storeGet {} s.gens n

/-- The CRC-32C of a generation over its header and its body (R275); the spec gives the header no byte layout (log entry 142). -/
def genCrc (g : Gen) : Word :=
  crc32c (recWord g.seq ++ recWord g.schema ++ beBytes 32 g.hash.toNat ++ recWord (g.valid.toNat + 2 * g.writing.toNat + 4 * g.confirmed.toNat) ++
    g.body.flatMap (fun b => recWord (b.1 * 65536 + b.2.1) ++ [0, 0, 0, 0] ++ b.2.2.flatMap wordBytes))

/-- A generation with the CRC of what it holds. -/
def Gen.sealed (g : Gen) : Gen := { g with crc := genCrc g }

/-- A generation is valid: its state is VALID and its CRC holds (R275). -/
def genValid (g : Gen) : Bool := g.valid && g.crc == genCrc g

/-- A generation is readable by the running image (R275). -/
def genReadable (s : State) (g : Gen) : Bool := genValid g && !s.str.parts.isEmpty && g.schema == s.str.schema

/-- Shows the generations in BOOT_SETGENn and BOOT_SETSCHn; in_use stays. -/
def showGens (s : State) : State :=
  (List.range 2).foldl (fun s n =>
    let g := s.gen n
    let s := (s.setFld (Reg.BOOT_SETGEN_valid n) (genValid g).toNat).setFld (Reg.BOOT_SETGEN_confirmed n) g.confirmed.toNat
    let s := (s.setFld (Reg.BOOT_SETGEN_writing n) g.writing.toNat).setFld (Reg.BOOT_SETGEN_readable n)
      (genReadable s g).toNat
    (s.setFld (Reg.BOOT_SETGEN_seq n) g.seq).setReg (Reg.BOOT_SETSCH n) (BitVec.ofNat 32 g.schema)) s

/-- Shows START_FAILS, SLOT_ACTIVE and SLOT_LKG from the boot record and OTP (Table 11.3 C1). -/
def showBoot (s : State) : State :=
  showRecs
    ((((s.setFld Reg.START_FAILS_count s.nv.startFails).setFld Reg.START_FAILS_limit s.failLimit).setFld
      Reg.SLOT_ACTIVE_slot s.nv.slotActive).setFld Reg.SLOT_LKG_slot s.nv.slotLkg) 0 s.nv.log

/-- Shows an entry in BOOT_CAUSE. -/
def showCause (s : State) (e : BootEntry) : State :=
  (((s.setFld Reg.BOOT_CAUSE_cause e.cause).setFld Reg.BOOT_CAUSE_counted e.counted.toNat).setFld
    Reg.BOOT_CAUSE_detail e.detail).setFld Reg.BOOT_CAUSE_slot e.slot

/-- Writes an entry to the boot record (R283). -/
def pushEntry (s : State) (e : BootEntry) : State := s.setNv { s.nv with log := (e :: s.nv.log).take 8 }

/-- The PCIE domain is on (R369). -/
def pcieKeptOn (s : State) : State := s.setDomSt 12 domStOn

/-- Phase C1 (Table 11.3, R269): the device reads the boot record; the start takes its number, writes its cause to BOOT_CAUSE and the
boot record, and begins to prove (R268). `own`: the start's own cause, with the state in which it arose; none: the cause
recorded of the start before, with the state in which that arose (log entry 29). -/
def phaseC1 (s : State) (own : Option BootEntry) : State :=
  let v := s.bootRead
  let n := v.startNo + 1
  let prev : BootEntry := match v.pend with
    | some (c, k, d) => { cause := c, counted := k, detail := d, state := (v.log.headD {}).state }
    | none => {}
  let e : BootEntry := { own.getD prev with start := n, slot := v.slotActive }
  let s := s.setNv { v with startNo := n, pend := none, begun := false, log := (e :: v.log).take 8 }
  let s := showCause (showBoot (showGens s)) e
  let s := (s.setFld Reg.BOOT_STATE_proving 1).setFld Reg.TWN_STAT_role (s.strap.toNat % 2)
  (pcieKeptOn (s.setFld Reg.ESP_STAT_state 4)).setBoot bootCold

/-- A restart (R261): BOOT_STATE returns to COLD and C1 runs, with the cause that was recorded, the first of the start (R268),
or else with cause `own` of the restart itself. -/
def restart (s : State) (own : Option Nat) : State :=
  let s := passTime (if s.boot = bootCold then s else bootEvent s)
  phaseC1 (State.keepRws s s.survivors)
    (if s.nv.pend.isSome then none else own.map (fun c => { cause := c, state := s.boot }))

/-- Floats every output (R270 steps 2 and 3; log entry 31). -/
def floatOutputs (s : State) : State := { s with floated := true }

/-- Records the cause that ends a start (R270 step 4): the boot record and BOOT_CAUSE show it, and the begun mark is
cleared (R269). A later cause in the same start is absorbed (R268). -/
def recordCause (s : State) (cause : Nat) (counted : Bool) (detail : Nat) : State :=
  if s.nv.pend.isSome then s else
  let e : BootEntry := { start := s.nv.startNo, cause := cause, counted := counted, slot := s.fld Reg.BOOT_CAUSE_slot,
                         state := s.boot, detail := detail }
  let s := pushEntry s e
  showRecs (showCause (s.setNv { s.nv with pend := some (cause, counted, detail), begun := false }) e) 0 s.nv.log

/-- AON_BROWNOUT is written to the boot record and is the cause of the next start, whatever cause the start already has; it counts
where it is the first (R268, R269; DEDUCED, log entry 146). -/
def recordBrownout (s : State) : State :=
  let first := s.nv.pend.isNone
  let s := recordCause (s.setNv { s.nv with pend := none }) 12 first 0
  if first then s.setNv { s.nv with startFails := min 7 (s.nv.startFails + 1) } else s

/-- Every domain but those listed goes OFF (R270, R279). -/
def domsOff (s : State) (keep : List Nat) : State :=
  (List.range 17).foldl (fun s d => if keep.contains d then s else (s.setDomSt d domStOff).setDom d {}) s

/-- The enabled stub entries of output lane `n` in index order, at most 8 (R280): source lane, gain, rms and dc ceilings, each
of 16 bits. -/
def stubEntries (o : Otp) (n : Nat) : List (Nat × Nat × Nat × Nat) :=
  (((List.range 16).map (fun i => (storeGet 0 o.stub i).toNat)).filter (fun e =>
    e / 2 ^ 60 % 16 == n && e / 2 ^ 59 % 2 == 1)).take 8 |>.map (fun e =>
      (e / 2 ^ 55 % 16, e / 2 ^ 32 % 65536, e / 2 ^ 16 % 65536, e % 65536))

/-- The Thorn guard of a stub lane (R280): the lowest rms ceiling, the lowest nonzero dc ceiling, a window of 1,000 ms,
mute_on_fault and start_allow. The limiter is bypassed, so peak and knee do not act. -/
def stubGuard (o : Otp) (n : Nat) : ThornRec :=
  let es := stubEntries o n
  { kind := 3, port := 0, channel := n, flags := 3, amon := 0, window := 1000, peak := 2 ^ 31 - 1, knee := 2 ^ 31 - 1,
    rms := ((es.map (fun e => 65536 * e.2.2.1)).min?).getD 0,
    dc := (((es.filter (fun e => e.2.2.2 != 0)).map (fun e => 65536 * e.2.2.2)).min?).getD 0, amonHot := 0 }

/-- The structure that the stub route of OTP stands for (R280): stub_en, stub_family, stub_xtal and stub_qs_master are bits 3
to 0 of its configuration (Table 11.10; log entry 32). -/
def stubStructure (o : Otp) (cfg : Nat) : Structure :=
  let lanes := (List.range 16).filter (fun n => !(stubEntries o n).isEmpty)
  { clock := { family := cfg / 4 % 2, xtal := cfg / 2 % 2 },
    ports := [{ kind := 3, port := 0, set := (cfg % 2) :: List.replicate 27 0 }],
    qsmix := lanes.map (fun n => { output := n, partition := 0, pblock := 0, di := 0, bq := 0 }),
    thorn := lanes.map (stubGuard o) }

/-- The configuration of an enabled stub route (R280). -/
def stubCfgOn (o : Otp) : Option Nat := o.stubCfg.filter (fun c => c / 8 % 2 == 1)

/-- CLK_PLLB_FRAC at the nominal ratio of a family and a crystal: the root of Table 02.1 over the crystal's frequency (R30). -/
def nominalFrac (family xtal : Nat) : Nat :=
  let root := if family = 0 then 4718592000 else 4335206400
  let fx := if xtal = 0 then 24576000 else 22579200
  (root * 2 ^ 24 + fx / 2) / fx

/-- The ROM starts PLL-B for the stub route while stub_en is 1 (R280): at the nominal ratio, which R30 gives with a control word of 0,
with PLL-A as a cold start has it; at 1× base, with the Quickset domain on. -/
def startStub (s : State) : State :=
  match stubCfgOn s.otp with
  | none => s
  | some cfg =>
    let s : State := { s with str := stubStructure s.otp cfg, tick := 0, tickOn := false }
    let s := [Reg.CLK_REFSEL, Reg.CLK_STAT, Reg.CLK_PLLA_CTL, Reg.CLK_PLLA_DCO].foldl State.resetReg s
    let s := ((s.setFld Reg.TICK_RATE_family (cfg / 4 % 2)).setFld Reg.TICK_RATE_mult 0).setFld Reg.TICK_RATE_prog_window 24192
    let s := (s.setReg Reg.CLK_PLLB_FRAC (BitVec.ofNat 32 (nominalFrac (cfg / 4 % 2) (cfg / 2 % 2)))).setReg Reg.QS_CFG
      (BitVec.ofNat 32 (cfg % 2))
    (s.setFld Reg.CLK_STAT_pllb_lock 0).setDomSt 15 domStOn

/-- PLL-B has locked for the stub route (R32, R280): the tick runs from tick 0, the Quickset port starts and its lanes are driven. -/
def runStub (s : State) : State :=
  match stubCfgOn s.otp with
  | none => s
  | some cfg =>
    ({ s with tick := 0, tickOn := true, floated := false } : State).setFld Reg.QS_STAT_state (if cfg % 2 = 1 then 2 else 1)

/-- No session is open any more (R382): what SES_STAT and PART_STAT show of them. -/
def showNoSessions (s : State) : State :=
  (List.range 256).foldl (fun s p => s.setFld (Reg.PART_STAT_sessions p) 0) (s.setReg Reg.SES_STAT 0)

/-- Enters Coppice mode for a reason of COPPICE_CAUSE (R279): UNPROVISIONED (3) wins where no owner key hash is
programmed. The engines, sessions, ports and the twin link are off; the outputs float. -/
def enterCoppice (s : State) (reason : Nat) : State :=
  let r := if s.otp.keyProg = [] then 3 else reason
  let t : State := ({ s.survivors with regs := s.regs, msix := s.msix, lb := s.lb, hostWins := s.hostWins } : State).setNv
    { s.nv with begun := false }
  let t := ((t.setFld Reg.COPPICE_CAUSE_reason r).setFld Reg.COPPICE_CAUSE_last_cause (s.fld Reg.BOOT_CAUSE_cause)).setFld
    Reg.COPPICE_CAUSE_detail (s.fld Reg.BOOT_CAUSE_detail)
  let t := ((t.setFld Reg.TWN_STAT_alive 0).setFld Reg.TWN_STAT_owner 0).setFld Reg.TWN_STAT_ripe_state 0
  let t := pcieKeptOn (domsOff ((showNoSessions t).setFld Reg.SV_STAT_state 0 |>.setFld Reg.BOOT_CTL_save_busy 0) [0, 1, 12, 15])
  startStub (((t.setFld Reg.ESP_STAT_state 0).setFld Reg.BOOT_STATE_wait_left 0).setBoot bootCoppice)

/-- Enters WAIT_HOST (Table 11.2, R270, R271): every domain but AON, SV and PCIE is off, and the wait begins. -/
def enterWaitHost (s : State) : State :=
  let t : State := ({ s.survivors with regs := s.regs, msix := s.msix, lb := s.lb, hostWins := s.hostWins } : State).setNv
    { s.nv with begun := false }
  let t := ((t.setFld Reg.TWN_STAT_alive 0).setFld Reg.TWN_STAT_owner 0).setFld Reg.TWN_STAT_ripe_state 0
  let t := pcieKeptOn (domsOff ((showNoSessions t).setFld Reg.SV_STAT_state 0 |>.setFld Reg.BOOT_CTL_save_busy 0) [0, 1, 12])
  let t := t.setFld Reg.BOOT_STATE_wait_left (t.fld Reg.HOST_WAIT_wait)
  (t.setFld Reg.ESP_STAT_state 0).setBoot bootWaitHost

/-- A failure is counted (R270 steps 2 to 5): outputs float, the cause is recorded, START_FAILS goes up. -/
def countFailure (s : State) (cause detail : Nat) : State :=
  let s := recordCause (floatOutputs s) cause true detail
  let s := s.setNv { s.nv with startFails := min 7 (s.nv.startFails + 1) }
  s.setFld Reg.START_FAILS_count s.nv.startFails

/-- A counted failure (R268, R270, Table 11.2): the device enters WAIT_HOST, or COPPICE at the limit. A later cause in the same start is
absorbed (R268). -/
def countedFailure (s : State) (cause detail : Nat) : State :=
  if s.nv.pend.isSome then s else
  let s := countFailure s cause detail
  if s.nv.startFails ≥ s.failLimit then enterCoppice s 1 else enterWaitHost s

/-- A twin that stops ends its sessions at the next boundary (R382). -/
def sessionsStop (s : State) : State := { s with sessions := s.sessions.map (fun e => (e.1, { e.2 with ending := true })) }

/-- The start and the load have found a fault; a follower that has armed for a takeover gives it up (R260). -/
def markFault (s : State) : State :=
  let s := { s with faultStart := true, faultLoad := true,
                    twin := { s.twin with armed := false, ownNext := if s.twin.ownNext = some true then none else s.twin.ownNext } }
  (s.setFld Reg.TWN_STAT_alive 0).setFld Reg.THN_STAT_faulted 1

/-- A fault outside the proving time (R270): the cause is recorded and the device holds, until its restart. -/
def holdFault (s : State) (cause detail : Nat) : State :=
  let s := { recordCause s cause false detail with hold := some cause }
  let s := if s.twinMode then sessionsStop s else s
  let s := if cause = 11 then ({ domsOff s [0] with tickOn := false } : State) else s
  if cause = 8 ∧ s.twinMode = false then s else floatOutputs s

/-- What a fault does in the state it comes in. -/
def faultActs (s : State) (cause detail : Nat) : State :=
  if s.boot = bootVerify ∨ s.boot = bootLoad ∨ s.boot = bootRipening ∨ s.boot = bootRun then
    if s.fld Reg.BOOT_STATE_proving = 1 then countedFailure s cause detail else holdFault s cause detail
  else if s.boot = bootCold ∧ s.fld Reg.BOOT_STATE_proving = 1 then
    let s := countFailure s cause detail
    if s.nv.startFails ≥ s.failLimit then enterCoppice s 1 else s
  else floatOutputs s

/-- A self-detected fault of a Table 11.6 cause (8 FAULT, 9 PLLB_UNLOCK, 10 SUPPLY, 11 THERMAL_CRIT; R243, R270).
A second fault before the next start is absorbed. In Coppice mode it floats the stub lanes (R280). In COLD, where Table 11.2 has no
transition for a failure, the state stays, but for the limit (DEDUCED, log entry 133). -/
def raiseFault (s : State) (cause detail : Nat) : State :=
  if s.faultStart then s else faultActs (markFault s) cause detail

/-- Cluster register block holds the first fault of a cluster (R69): ENG_FAULT, ENG_FAULT_TICK, ENG_FAULT_ADDR; a
further one sets only `more`. -/
def recordEngFault (s : State) (c kind unit addr cycle : Nat) (inj : Bool) : State :=
  if s.fld (Reg.ENG_FAULT_valid c) = 1 then s.setFld (Reg.ENG_FAULT_more c) 1
  else
    let w := 2 ^ 31 + (if inj then 2 ^ 29 else 0) + kind % 8 * 2 ^ 24 + unit % 64 * 2 ^ 16 + cycle % 2 ^ 15
    ((s.setReg (Reg.ENG_FAULT c) (BitVec.ofNat 32 w)).setReg (Reg.ENG_FAULT_TICK c) (BitVec.ofNat 32 s.tick)).setReg
      (Reg.ENG_FAULT_ADDR c) (BitVec.ofNat 32 (addr % 2 ^ 24))

/-- A cluster fault: it is recorded (R69) and raised (R243); the detail is the cluster in 11:8 and the kind in 2:0
(Table 11.6). -/
def clusterFault (s : State) (c kind unit addr cycle : Nat) (inj : Bool) : State :=
  raiseFault (recordEngFault s c kind unit addr cycle inj) 8 (c * 256 + kind)

end Sys2Proof.Machine
end

