-- ==== Sys2Proof/Machine/EngineCore.lean ====
section
/-!
DEFINITION. Machine/EngineCore.lean: issue and completion on a sample engine (04_engine_instructions.md R74 to R79,
R94 to R101): when a slot may issue, what an operation in flight does when it completes, how the word sequence goes on.
-/
namespace Sys2Proof.Machine

/-- Engine `e`. -/
def State.engine (s : State) (e : Nat) : Engine := storeGet {} s.eng e

/-- Stores engine `e`. -/
def State.setEngine (s : State) (e : Nat) (x : Engine) : State := { s with eng := storeSet {} s.eng e x }

/-- ENG_STATe.state of device engine `e` (Table 03.7). -/
def State.engState (s : State) (e : Nat) : Nat := s.fld (Reg.ENG_STAT_state (e / 16 % 8) (e % 16))

/-- Sets ENG_STATe.state. -/
def State.setEngState (s : State) (e v : Nat) : State := s.setFld (Reg.ENG_STAT_state (e / 16 % 8) (e % 16)) v

def engRun : Nat := 1
def engHalt : Nat := 2
def engAsleep : Nat := 3
def engOff : Nat := 4

/-- Program window in cycles (TICK_RATE.prog_window, Table 02.5). -/
def State.progWindow (s : State) : Nat := s.fld Reg.TICK_RATE_prog_window

/-- The engine issues the word at its program counter in this cycle (R10, R77, R98, R101). -/
def canIssue (s : State) (e : Nat) : Bool :=
  let x := s.engine e
  s.engState e == engRun && x.win && decide (x.cyc < s.progWindow) && !x.done && (!x.aborted || x.rep != 0)

/-- The word that engine `x` issues in this cycle (R77). -/
def Engine.word (x : Engine) : BitVec 64 := storeGet 0 x.prog x.pc

/-- The word that the engine has fetched for this cycle spells the command `i` (R74); an uncorrectable word spells
nothing (R68). -/
def spells (s : State) (e : EngNo) (i : Instr) : Bool :=
  !(s.engine e).dead && (decodeWord e (s.engine e).word).contains i.plain

/-- The command `i` may issue: the engine issues a word that spells it, and none of `slots` has issued in this cycle
(R74, R75). -/
def slotFree (s : State) (e : EngNo) (i : Instr) (slots : List Slot) : Bool :=
  canIssue s e && spells s e i && slots.all (fun t => !(s.engine e).used.contains t)

/-- The cluster cycle of the engine's current cycle (R36): the program window opens at cycle 256. -/
def clusterCycle (s : State) (e : Nat) : Nat := 256 + (s.engine e).cyc

/-- A corrected error in engine `e` (R66): ENG_ECC_CNT counts it and the engine's ce flag is set. -/
def correctedError (s : State) (e : Nat) (data : Bool) : State :=
  let s := s.satInc (if data then Reg.ENG_ECC_CNT_ce_data (e / 16) else Reg.ENG_ECC_CNT_ce_prog (e / 16))
  s.setFld (Reg.ENG_FLAGS_ce (e / 16) (e % 16)) 1

/-- Enters a corrected local-memory address into the write-back queue, or counts the drop (R67). -/
def queueWriteBack (s : State) (e a : Nat) : State :=
  let x := s.engine e
  if x.wbq.length < 4 then s.setEngine e { x with wbq := x.wbq ++ [a] }
  else s.satInc (Reg.ENG_SCRUB_wbq_drop (e / 16))

/-- The injection armed on engine `e` (R70), 0 = none. -/
def armedKind (s : State) (e : Nat) : Nat :=
  let c := e / 16
  if s.fld (Reg.ENG_FINJ_arm c) = 1 ∧ s.fld (Reg.ENG_FINJ_engine c) = e % 16 then s.fld (Reg.ENG_FINJ_kind c) else 0

/-- The armed injection fires: arm reads 0 (ENG_FINJ). -/
def disarm (s : State) (e : Nat) : State := s.setFld (Reg.ENG_FINJ_arm (e / 16)) 0

/-- What the fetch of the current word finds (R66, R68, R69): a corrected error is counted; an uncorrectable word is a
fault of kind 3 at its lower or upper half, and its slots do nothing. -/
def fetchFinding (s : State) (e : Nat) (f : Fetch) : State :=
  match f with
  | .clean => s
  | .corrected => correctedError s e false
  | .bad upper => clusterFault (s.setEngine e { s.engine e with dead := true }) (e / 16) 3 (e % 16)
      (2 * (s.engine e).pc + upper.toNat) (clusterCycle s e) false

/-- The fetch of the current word: an armed injection of kind 4 or 5 fires on the check path and leaves the instruction to
execute unchanged (R70; log entry 115). -/
def fetchWord (s : State) (e : Nat) (f : Fetch) : State :=
  let s := fetchFinding s e f
  if armedKind s e = 4 then correctedError (disarm s e) e false
  else if armedKind s e = 5 then
    clusterFault (disarm s e) (e / 16) 3 (e % 16) (2 * (s.engine e).pc) (clusterCycle s e) true
  else s

/-- Marks the slots issued. -/
def issueSlots (s : State) (e : Nat) (slots : List Slot) : State :=
  let x := s.engine e
  s.setEngine e { x with used := x.used ++ slots }

/-- Puts effects in flight (R77): distance `d` completes at the end of the `d`-th cycle after the current one. -/
def Engine.launch (x : Engine) (d : Nat) (effs : List Eff) : Engine :=
  { x with fly := x.fly ++ effs.map (fun f => ⟨d, f⟩) }

/-- The meaning of one slot operation `i`: nothing where it cannot issue; otherwise the slots issue and `f` changes
the engine. -/
def slotOp (s : State) (e : EngNo) (i : Instr) (slots : List Slot) (f : Engine → Engine) : State :=
  if slotFree s e i slots then
    let s := issueSlots s e slots
    s.setEngine e (f (s.engine e))
  else s

/-! ### Completion -/

/-- M updates completing now: the A-slot value wins where it completes in the same cycle (R48); otherwise the value
is stored and travels on to the A-slot view, and the overflow flag to FLGRD (Table 04.2). -/
def applyM (es : List Eff) (x : Engine) : Eff → Engine
  | .accM k v ov =>
    if es.any (fun f => match f with | .accA k' _ => k' == k | .accPart k' _ _ => k' == k | _ => false) then x
    else
      ({ x with accM := storeSet 0 x.accM k v }.launch 3
        ([Eff.accView k v] ++ (if ov then [Eff.flgSet (flgAov k)] else [])))
  | .accView k v => { x with accA := storeSet 0 x.accA k v }
  | _ => x

/-- Drops M results still on their way to the A-slot view of ACC`k`: an A-slot write has replaced them. -/
def dropViews (k : Nat) (fly : List Pend) : List Pend :=
  fly.filter (fun p => match p.eff with | .accView k' _ => k' != k | _ => true)

/-- Writes ACC`k` for every reader. -/
def Engine.setAcc (x : Engine) (k : Nat) (v : Acc) : Engine :=
  { x with accM := storeSet 0 x.accM k v, accA := storeSet 0 x.accA k v, fly := dropViews k x.fly }

/-- A-slot accumulator writes completing now. -/
def applyA (x : Engine) : Eff → Engine
  | .accA k v => x.setAcc k v
  | .accPart k part v => x.setAcc k (accPartWrite (x.accUpd k) part v)
  | _ => x

/-- V writes of one slot completing now. Two X-slot results for one register that complete in the same cycle (an XR or REQ
of one distance issued after another of a longer one) have no winner in R48 and R79, which rank slots: the one issued
later stands (DESIGN CHOICE, log entry 116). -/
def applyV (slot : Slot) (x : Engine) : Eff → Engine
  | .wrV sl p v => if sl = slot then { x with v := storeSet 0 x.v p v } else x
  | _ => x

/-- K and M writes completing now; long forms are applied last and win (R79). -/
def applyK (long : Bool) (x : Engine) : Eff → Engine
  | .wrK l n v => if l = long then { x with k := storeSet 0 x.k n v } else x
  | .wrM n v => if long then { x with m := storeSet 0 x.m n v } else x
  | _ => x

/-- BXCLR applies first, then tracked values (R79). A tracked value meets BX as it stands when it completes, so that BX is the
smallest since it was last cleared (R61), also where TRK issues before an earlier TRK or BXCLR has completed and
Table 04.2 would give it the previous value (DEDUCED, log entry 117). -/
def applyBx (clr : Bool) (x : Engine) : Eff → Engine
  | .bxClr => if clr then { x with bx := 31 } else x
  | .bxMin v => if clr then x else { x with bx := BitVec.ofNat 5 (min x.bx.toNat v) }
  | _ => x

/-- FLGCLR applies before the flags that operations set (R79). -/
def applyFlg (clr : Bool) (x : Engine) : Eff → Engine
  | .flgClr m => if clr then { x with flg := x.flg &&& ~~~m } else x
  | .flgSet m => if clr then x else { x with flg := x.flg ||| m }
  | _ => x

/-- Rotations, unless an RRB write completes in the same cycle (R79). -/
def applyRrb (es : List Eff) (x : Engine) : Engine :=
  match es.filterMap (fun f => match f with | .rrbSet v => some v | _ => none) with
  | [] => { x with rrb := x.rrb - BitVec.ofNat 5 (es.filter (fun f => f == .rotate)).length }
  | v :: _ => { x with rrb := v }

/-- Everything that completes in one cycle, in the order that settles ties (R48, R79). -/
def applyAll (es : List Eff) (x : Engine) : Engine :=
  let x := es.foldl (applyM es) x
  let x := es.foldl applyA x
  let x := es.foldl (applyV .a) x
  let x := es.foldl (applyV .l0) x
  let x := es.foldl (applyV .l1) x
  let x := es.foldl (applyV .x) x
  let x := es.foldl (applyK false) x
  let x := es.foldl (applyK true) x
  let x := es.foldl (applyBx true) x
  let x := es.foldl (applyBx false) x
  let x := es.foldl (applyFlg true) x
  let x := es.foldl (applyFlg false) x
  applyRrb es x

/-- The effects that complete at the end of the current cycle. -/
def Engine.due (x : Engine) : List Eff := (x.fly.filter (fun p => p.left == 0)).map (·.eff)

/-- The operations that stay in flight, one cycle nearer. -/
def Engine.rest (x : Engine) : List Pend :=
  (x.fly.filter (fun p => p.left != 0)).map (fun p => { p with left := p.left - 1 })

/-- The end of one ENGCLK cycle for the operations in flight. -/
def Engine.complete (x : Engine) : Engine := applyAll x.due { x with fly := x.rest }

/-- The end of a loop body (R94, R95): the next iteration, or the word after the body. -/
def Engine.loopEnd (x : Engine) : Engine :=
  match x.loops with
  | [] => { x with pc := x.pc + 1 }
  | l :: ls =>
    if x.pc = l.last then
      if l.left ≤ 1 then { x with pc := x.pc + 1, loops := ls }
      else { x with pc := l.first, loops := { l with left := l.left - 1 } :: ls }
    else { x with pc := x.pc + 1 }

/-- The rotation that a LOOP with rot = 1 makes at the end of its body's last word (R95). -/
def Engine.loopRot (x : Engine) : List Eff :=
  match x.loops with
  | l :: _ => if x.pc = l.last ∧ l.rot ∧ x.rep = 0 ∧ x.seqLoop = none ∧ x.seqRep = 0 then [.rotate] else []
  | [] => []

/-- The sequence after a word has issued (R94, R97, R101). -/
def Engine.advance (x : Engine) : Engine :=
  if x.rep ≠ 0 then
    if x.rep = 1 then { x.loopEnd with rep := 0 } else { x with rep := x.rep - 1 }
  else if x.seqEnd then { x with done := true, seqEnd := false }
  else if x.seqRep ≠ 0 then { x with rep := x.seqRep, seqRep := 0, pc := x.pc + 1 }
  else match x.seqLoop with
    | some l => { x with loops := l :: x.loops, seqLoop := none, pc := x.pc + 1 }
    | none => x.loopEnd

/-- The end of engine `e`'s ENGCLK cycle: operations due complete, the others come one cycle nearer, and an issuing
engine goes on to its next word. -/
def endCycle (s : State) (e : Nat) : State :=
  let x := s.engine e
  let y : Engine :=
    if canIssue s e then
      { ({ x with fly := x.fly ++ x.loopRot.map (fun f => ⟨0, f⟩) } : Engine).complete.advance with
        cyc := x.cyc + 1, used := [], dead := false }
    else { x.complete with cyc := x.cyc + 1, used := [], dead := false }
  s.setEngine e y

/-- The fetch that opens a cycle in which the engine issues. -/
def openCycle (s : State) (e : Nat) (f : Fetch) : State := if canIssue s e then fetchWord s e f else s

/-- Every operation in flight completes: the longest distance is 6 cycles and the guard has 128 (R79). -/
def Engine.drain (x : Engine) : Engine :=
  x.complete.complete.complete.complete.complete.complete.complete.complete

/-- Start values (Table 03.1, R45): the register state, and no loop or operation in flight. Memories and windows
stay. -/
def Engine.start (x : Engine) : Engine :=
  { x with
    v := [], accM := [], accA := [], k := [], m := [], rrb := 0, bx := 31, flg := 0, pc := 0, loops := [], rep := 0,
    seqLoop := none, seqRep := 0, seqEnd := false, phase := 0, done := false, aborted := false, cut := false,
    fly := [], used := [], dead := false, cyc := 0, win := false }

/-- A program-window start (last column of Table 03.1): RRB, the program counter and the loop state. -/
def Engine.window (x : Engine) : Engine :=
  { x with
    rrb := 0, pc := 0, loops := [], rep := 0, seqLoop := none, seqRep := 0, seqEnd := false, phase := 0, done := false,
    aborted := false, cut := false, used := [], dead := false, cyc := 0, win := true }

end Sys2Proof.Machine
end

