-- ==== Sys2Proof/Machine/Params.lean ====
section
/-!
DEFINITION. Machine/Params.lean: parameter blocks, their copies and the flip table (R154 to R156).
-/
namespace Sys2Proof.Machine

/-- The flip bit of block `b` (R155): 0 selects copy A, 1 copy B. -/
def State.flip (s : State) (b : Nat) : Nat := s.fld ⟨Reg.CMT_FLIP (b / 32), b % 32, 1⟩

/-- Sets the flip bit of block `b`. -/
def State.setFlip (s : State) (b v : Nat) : State := s.setFld ⟨Reg.CMT_FLIP (b / 32), b % 32, 1⟩ v

/-- The record of block `b` in the running structure. -/
def State.block (s : State) (b : Nat) : Option BlockRec := s.str.blocks.find? (fun r => r.block == b)

/-- The blocks of partition `p` in ascending device number: the place in this list is the partition index (R154). -/
def State.partBlocks (s : State) (p : Nat) : List Nat :=
  ((s.str.blocks.filter (fun r => r.partition == p)).map (·.block)).mergeSort (fun a b => decide (a ≤ b))

/-- Word `w` of copy `c` (0 = A, 1 = B) of block `b` in the parameter store. -/
def State.pstAt (s : State) (c b w : Nat) : Word := storeGet 0 (if c = 0 then s.pstA else s.pstB) (64 * b + w)

/-- The committed value: the current copy in the parameter store (R175). -/
def State.current (s : State) (b w : Nat) : Word := s.pstAt (s.flip b) b w

/-- Writes word `w` of copy `c` of block `b` into one holder's pair of stores. -/
def putCopy (ab : Store Word × Store Word) (c b w : Nat) (v : Word) : Store Word × Store Word :=
  if c = 0 then (storeSet 0 ab.1 (64 * b + w) v, ab.2) else (ab.1, storeSet 0 ab.2 (64 * b + w) v)

/-- Writes word `w` of copy `c` of block `b` in one engine's local memory (R156): copy A at p, copy B at p + 64. -/
def putEngineCopy (s : State) (e p c w : Nat) (v : Word) : State :=
  let x := s.engine e
  s.setEngine e { x with mem := storeSet 0 x.mem (p + 64 * c + w) v }

/-- Writes word `w` of copy `c` of block `b` into the parameter store and every holder (R155, R171). -/
def writeCopy (s : State) (c b w : Nat) (v : Word) : State :=
  let pst := putCopy (s.pstA, s.pstB) c b w v
  let s := { s with pstA := pst.1, pstB := pst.2 }
  match s.block b with
  | none => s
  | some r =>
    let s := r.engines.foldl (fun s ep => putEngineCopy s ep.1 ep.2 c w v) s
    let s := if r.holders / 2 % 2 = 1 then
        let q := putCopy (s.qsA, s.qsB) c b w v; { s with qsA := q.1, qsB := q.2 } else s
    if r.holders / 4 % 2 = 1 then
      let g := putCopy (s.gcA, s.gcB) c b w v; { s with gcA := g.1, gcB := g.2 } else s

/-- Writes a word into both copies, where no reader can see the change happen (R155). -/
def writeBoth (s : State) (b w : Nat) (v : Word) : State := writeCopy (writeCopy s 0 b w v) 1 b w v

/-- The parameter block of engine `e` that holds local address `a`, with its local address p (R90, R156). -/
def blockAt (s : State) (e a : Nat) : Option (Nat × Nat) :=
  s.str.blocks.findSome? (fun r =>
    (r.engines.find? (fun ep => ep.1 == e && decide (ep.2 ≤ a ∧ a < ep.2 + 128))).map (fun ep => (r.block, ep.2)))

/-- The local address an L-slot load reads: an address inside a parameter block is redirected to the current copy
(R90, R156). -/
def loadAddr (s : State) (e a : Nat) : Nat :=
  match blockAt s e a with
  | some (b, p) => p + 64 * s.flip b + (a - p) % 64
  | none => a

end Sys2Proof.Machine
end

