-- ==== Sys2Proof/Machine/Delay.lean ====
section
/-!
DEFINITION. Machine/Delay.lean: delay lines and tap requests (05_delay_memory.md R104 to R116, R122, R127).
-/
namespace Sys2Proof.Machine

/-- The program record of device engine `e`. -/
def State.prog (s : State) (e : Nat) : Option ProgRec := s.str.progs.find? (fun r => r.engine == e)

/-- The partition of engine `e` in the running structure (R44). -/
def State.engPart (s : State) (e : Nat) : Option Nat := (s.prog e).map (·.partition)

/-- Line `l` of cluster `c`. -/
def State.line (s : State) (c l : Nat) : Option LineRec :=
  s.str.lines.find? (fun r => r.cluster == c && r.line == l)

/-- A line's length in words (Table 08.10 holds it less one). -/
def LineRec.length (r : LineRec) : Nat := r.lenM1 + 1

/-- The bank within the cluster that holds a tier-1 line (R198). -/
def lineBank (r : LineRec) : Nat := r.base / 65536 % 64

/-- The age of a line (R107). -/
def State.lineAge (s : State) (r : LineRec) : Nat := storeGet 0 s.age (1024 * r.cluster + r.line)

/-- Sets the age of a line. -/
def State.setAge (s : State) (r : LineRec) (v : Nat) : State :=
  { s with age := storeSet 0 s.age (1024 * r.cluster + r.line) v }

/-- The memory address of position `p` of a line: in delay SRAM 65,536 × bank + word, in DRAM a word address (R198). -/
def lineAddr (r : LineRec) (p : Nat) : Nat :=
  if r.tier = 1 then 65536 * (48 * r.cluster + lineBank r) + (r.base % 65536 + p) % 65536 else r.base + p

/-- The word that waits in write staging for DRAM word address `a` (R105). -/
def stagedAt (s : State) (a : Nat) : Option Word := (s.staged.find? (fun w => w.1 == a)).map (·.2)

/-- The word at position `p` of a line: of a tier-2 line, from write staging until its burst has moved, then from the DRAM
(R122). -/
def lineWord (s : State) (r : LineRec) (p : Nat) : Word :=
  if r.tier = 1 then storeGet 0 s.delay (lineAddr r p)
  else (stagedAt s (lineAddr r p)).getD (storeGet 0 s.dram (lineAddr r p))

/-- The write of a line's new sample at position `p` (R105): into its bank, or into the DAU's write staging. -/
def putLineWord (s : State) (r : LineRec) (p : Nat) (v : Word) : State :=
  if r.tier = 1 then { s with delay := storeSet 0 s.delay (lineAddr r p) v }
  else { s with staged := storeIns (lineAddr r p) v s.staged }

/-- The position at integer displacement `j` in the current tick (R106). -/
def linePos (s : State) (r : LineRec) (j : Nat) : Nat :=
  (((s.tick : Int) - j) % r.length).toNat

/-- The burst in tap staging that engine `e`'s tap `tp` of line `r` reads for position `p`, where the DAU has marked it
uncorrectable (R127) and the word no longer waits in write staging. -/
def badBurst (s : State) (e : Nat) (r : LineRec) (tp p : Nat) : Option BadBurst :=
  if r.tier = 1 ∨ (stagedAt s (lineAddr r p)).isSome then none
  else s.badBursts.find? (fun b => b.engine == e && b.line == r.line && b.tap == tp && b.pos == p / 8 * 8)

/-- The sample at integer displacement `j` as tap `tp` of engine `e` reads it: a point older than the line's age is 0 (R106,
R107), one of a marked burst is the data received (R127). -/
def tapPoint (s : State) (e : Nat) (r : LineRec) (tp j : Nat) : Word :=
  if j > s.lineAge r then 0
  else
    let p := linePos s r j
    match badBurst s e r tp p with
    | some b => b.got.getD (p % 8) 0
    | none => lineWord s r p

/-- What a request answers: the value, its distance and the flags it sets (addr at distance 3, the others with the
result). -/
structure ReqResult where
  val : Word
  dist : Nat
  addr : Bool
  sat : Bool
deriving DecidableEq, Repr

/-- A request that fails returns 0 at the distance of a gain-cell read and sets FLG.addr (R93, R111). -/
def reqFail : ReqResult := ⟨0, 2, true, false⟩

/-- The engine's reader slot of the line's bank admits a tier-1 request in cluster cycle `cyc` (R116). -/
def onReaderSlot (s : State) (e : Nat) (r : LineRec) (cyc : Nat) : Bool :=
  match s.str.banks.find? (fun b => b.bank == 48 * r.cluster + lineBank r) with
  | none => false
  | some b => b.readers / 2 ^ (e % 16) % 2 == 1 && cyc % 2 ^ b.periodLog2 == b.slots / 16 ^ (e % 16) % 16

/-- The effective displacement in units of 2^−16 sample, and whether the offset was clamped (R110). -/
def effDisp (t : TapRec) (off : Int) : Int × Bool :=
  let lim : Int := t.halfW * 65536
  let o := max (-lim) (min lim off)
  ((t.disp * 65536 + t.frac : Int) + o, decide (o ≠ off))

/-- The integer displacements of the points that a tap reads at effective displacement `d` (Table 05.3). -/
def tapPoints (mode d : Nat) : List Nat :=
  let i := d / 65536
  match mode with
  | 0 => [i]
  | 1 => [i, i + 1]
  | _ => [i - 1, i, i + 1, i + 2]

/-- The tap's sample from its points (R108, R112, R113): its exact value before saturation. -/
def tapExact (f : Nat) : List Word → Int
  | [a] => a.toInt
  | [a, b] => interpLinear a b f
  | [a, b, c, d] => interpHermite a b c d f
  | _ => 0

/-- A delay-tap request that does not fail: the line, the tap's number and record, the effective displacement, and whether
the offset was clamped (R109 to R111). -/
def tapAsked (s : State) (e : Nat) (w : Word) : Option (LineRec × Nat × TapRec × Nat × Bool) :=
  match s.prog e with
  | none => none
  | some pr =>
    match pr.handles[bitsOf w 24 7]? with
    | none => none
    | some (ln, tp) =>
      match s.line (e / 16) ln with
      | none => none
      | some r =>
        match r.taps[tp]? with
        | none => none
        | some t =>
          let off : Int := ((w.setWidth 24 : BitVec 24)).toInt
          if r.partition ≠ pr.partition ∨ (t.halfW = 0 ∧ off ≠ 0) ∨
              (r.tier = 1 ∧ onReaderSlot s e r (clusterCycle s e) = false) then none
          else
            let d := effDisp t off
            some (r, tp, t, d.1.toNat, d.2)

/-- A delay-tap request of engine `e` (R109 to R113). -/
def tapRequest (s : State) (e : Nat) (w : Word) : ReqResult :=
  match tapAsked s e w with
  | none => reqFail
  | some (r, tp, t, d, clamped) =>
    let ex := tapExact (d % 65536) ((tapPoints t.mode d).map (tapPoint s e r tp))
    ⟨sat32 ex, if r.tier = 1 then 6 else 0, clamped, outside32 ex⟩

/-- A gain-cell read of engine `e` (R93, R178). -/
def cellRequest (s : State) (e : Nat) (w : Word) : ReqResult :=
  let n := bitsOf w 0 12
  if bitsOf w 12 19 ≠ 0 then reqFail
  else
    match s.str.cells.find? (fun r => r.cell == n), s.engPart e with
    | some r, some p => if r.partition = p then ⟨(storeGet {} s.cells n).current, 2, false, false⟩ else reqFail
    | _, _ => reqFail

/-- What the read of one tier-1 point finds (R68, R119): a corrected error is counted, an uncorrectable one is a fault of
kind 4 at the failing word of its bank. ENG_FAULT.cycle is the REQ's own cycle, which R69 leaves open within 16 (DESIGN CHOICE, log
entry 151). -/
def pointCheck (s : State) (e : Nat) (r : LineRec) (j : Nat) : Ecc → State
  | .clean => s
  | .corrected => s.satInc (Reg.MEM_DLY_ECC_ce r.cluster)
  | .uncorrectable =>
    clusterFault s r.cluster 4 (lineBank r) (lineAddr r (linePos s r j) % 65536) (clusterCycle s e) false

/-- The first point read from a marked burst raises a fault of kind 6 (R127). -/
def burstCheck (s : State) (e : Nat) (r : LineRec) (tp j : Nat) : State :=
  let p := linePos s r j
  match badBurst s e r tp p with
  | none => s
  | some b =>
    if b.reported then s
    else
      let t : State := { s with badBursts := s.badBursts.map (fun x => if x = b then { x with reported := true } else x) }
      clusterFault t r.cluster 6 0 (Config.stagingAddr e r.line tp p).toNat (clusterCycle s e) false

/-- What the read of a tap finds: `ecc` names what the tier-1 read finds in each point, in the order of `tapPoints`. -/
def tapChecks (s : State) (e : Nat) (w : Word) (ecc : List Ecc) : State :=
  match tapAsked s e w with
  | none => s
  | some (r, tp, t, d, _) =>
    let js := tapPoints t.mode d
    if r.tier = 1 then (js.zip ecc).foldl (fun s x => pointCheck s e r x.1 x.2) s
    else (js.filter (fun j => decide (j ≤ s.lineAge r))).foldl (fun s j => burstCheck s e r tp j) s

end Sys2Proof.Machine
end

