-- ==== Sys2Proof/WellFormed.lean ====
section
/-!
DEFINITION. WellFormed.lean: the operands the spec's encodings and tables admit, where the operand types do not say it
already (R76, R86, R97, Table 03.6).
-/
namespace Sys2Proof

/-- The command's operands are ones the spec gives a meaning. -/
def Instr.wellFormed : Instr → Bool
  | .lda _ _ _ sh => decide (sh.val ≤ 48)
  | .rep e _ => decide (e.val % 16 = 15)
  | _ => true

end Sys2Proof
end

