-- ==== Sys2Proof/Machine/EngineX.lean ====
section
/-!
DEFINITION. Machine/EngineX.lean: the X slot: exchange reads and writes, requests, loops, phases and the program's end
(R91 to R101, R134, R136, R139), the completion of operations in flight (R79), and the cluster's fault, injection and
counter controls (R66, R69 to R71).
-/
namespace Sys2Proof.Machine

/-- The words a bridge of a kind delivers or takes on its H side (R146). -/
def bridgeWords (kind : Nat) (dstSide : Bool) : Nat :=
  match kind, dstSide with
  | 0, true => 2
  | 1, true => 4
  | 2, false => 2
  | 3, false => 4
  | _, _ => 1

/-- The word lies in the run of `n` words from `w0`. -/
def inRun (w0 n w : Nat) : Bool := decide (w0 ≤ w ∧ w < w0 + n)

/-- The source engine of a phase hop runs and its tick is not cut short (R136). -/
def sourceRuns (s : State) (e : Nat) : Bool := s.engState e == engRun && !(s.engine e).cut

/-- What XR reads at in-window word `w` of engine `e`. Whether the source of a tick hop runs is decided at its cluster's
guard, in the tick of which the word comes (DEDUCED, log entry 124): 0 where the word has no source or its phase-hop source does not
run (R136), else the front in buffer (R134). -/
def inWord (s : State) (e w : Nat) : Word :=
  match s.str.exch.find? (fun r => r.dstEngine == e && inRun r.dstWord r.count w) with
  | some r => if r.kind = 2 ∧ sourceRuns s r.srcEngine = false then 0 else storeGet 0 (s.engine e).inFront w
  | none =>
    if s.str.io.any (fun r => r.dir == 0 && r.kind != 3 && r.engine == e && inRun r.word r.k w) ||
       s.str.bridges.any (fun r => r.dstKind == 0 && r.kind != 4 && r.dstEngine == e &&
         inRun r.dst (bridgeWords r.kind true) w)
    then storeGet 0 (s.engine e).inFront w else 0

/-- An X-slot operation. -/
def xOp (e : EngNo) (i : Instr) (f : Engine → Engine) (s : State) : State := slotOp s e i [.x] f

/-- XNOP (R91). -/
def execXnop (e : EngNo) (s : State) : Host.Outcome State Fault Refusal := .next (xOp e (.xnop e) (fun x => x) s)

/-- ROT (R49): the file rotates at the end of this cycle. -/
def execRot (e : EngNo) (s : State) : Host.Outcome State Fault Refusal :=
  .next (xOp e (.rot e) (fun x => x.launch 0 [.rotate]) s)

/-- PHASE (R100): the next phase starts in the following cycle. -/
def execPhase (e : EngNo) (s : State) : Host.Outcome State Fault Refusal :=
  .next (xOp e (.phase e) (fun x => { x with phase := x.phase + 1 }) s)

/-- LOOP (R94): takes the A field as its payload (R75); the body is the `lenM1 + 1` words that follow. -/
def execLoop (e : EngNo) (rot : Bool) (lenM1 : Fin 64) (cntM1 : Fin 1024) (s : State) :
    Host.Outcome State Fault Refusal :=
  .next (slotOp s e (.loop e rot lenM1 cntM1) [.a, .x] (fun x =>
    { x with seqLoop := some ⟨x.pc + 1, x.pc + 1 + lenM1.val, cntM1.val + 1, rot⟩ }))

/-- REP (R97): on warden engines only (R73); takes the A field as its payload. -/
def execRep (e : EngNo) (cntM1 : Fin 32768) (s : State) : Host.Outcome State Fault Refusal :=
  if (Instr.rep e cntM1).wellFormed then
    .next (slotOp s e (.rep e cntM1) [.a, .x] (fun x => { x with seqRep := cntM1.val + 1 }))
  else .refused (.illFormed "REP")

/-- END (R101): nothing issues from the next cycle on. -/
def execEndProg (e : EngNo) (s : State) : Host.Outcome State Fault Refusal :=
  .next (xOp e (.endProg e) (fun x => { x with seqEnd := true }) s)

/-- XR (R91, R92): V(32 + n) takes the in-window word at distance 3; K14 moves on at distance 0. An uncorrectable
window word is a fault of kind 5 (R68, R140). -/
def execXr (e : EngNo) (n : Fin 32) (ecc : Ecc) (s : State) : Host.Outcome State Fault Refusal :=
  if slotFree s e (.xr e n ecc) [.x] then
    let s := issueSlots s e [.x]
    let x := s.engine e
    let k := x.kReg 14
    let w := k.toNat % 1024
    let y := addrPend' (xAddrFlag k) ((x.launch 0 [.wrK false 14 (k + 1)]).launch 3
      [.wrV .x (physReg x.rrb (32 + n.val)) (inWord s e w)])
    let t := s.setEngine e y
    .next (if ecc = .uncorrectable then clusterFault t (e / 16) 5 (e % 16) w (clusterCycle s e) false else t)
  else .next s
where
  addrPend' (f : BitVec 6) (x : Engine) : Engine := if f = 0 then x else x.launch 3 [.flgSet f]

/-- XW (R91, R92): the out-window word takes V(32 + n); K15 moves on at distance 0. -/
def execXw (e : EngNo) (n : Fin 32) (s : State) : Host.Outcome State Fault Refusal :=
  .next (xOp e (.xw e n) (fun x =>
    let k := x.kReg 15
    let y := x.launch 0 [.wrK false 15 (k + 1)]
    let y := if xAddrFlag k = 0 then y else y.launch 3 [.flgSet (xAddrFlag k)]
    { y with outFront := storeSet 0 y.outFront (k.toNat % 1024) (x.rd (32 + n.val)) }) s)

/-- Puts a request's result and flags in flight (R93, Table 04.2). -/
def reqLaunch (x : Engine) (n : Nat) (r : ReqResult) : Engine :=
  let y := x.launch r.dist ([Eff.wrV .x (physReg x.rrb (32 + n)) r.val] ++ (if r.sat then [.flgSet flgSat] else []))
  if r.addr then y.launch 3 [.flgSet flgAddr] else y

/-- REQ with bit 31 of the request word 0: a delay tap (R109). With bit 31 set the X slot performs the other row. -/
def execReqDelayTap (e : EngNo) (n : Fin 32) (ecc : List Ecc) (s : State) : Host.Outcome State Fault Refusal :=
  let w := (s.engine e).rd (32 + n.val)
  if slotFree s e (.reqDelayTap e n ecc) [.x] ∧ w.getLsbD 31 = false then
    let s := issueSlots s e [.x]
    let x := s.engine e
    let t := s.setEngine e (reqLaunch x n.val (tapRequest s e w))
    .next (tapChecks t e w ecc)
  else .next s

/-- REQ with bit 31 of the request word 1: a gain cell (R93, R178). -/
def execReqGainCell (e : EngNo) (n : Fin 32) (s : State) : Host.Outcome State Fault Refusal :=
  let w := (s.engine e).rd (32 + n.val)
  if slotFree s e (.reqGainCell e n) [.x] ∧ w.getLsbD 31 = true then
    let s := issueSlots s e [.x]
    .next (s.setEngine e (reqLaunch (s.engine e) n.val (cellRequest s e w)))
  else .next s

/-! ### The end of a cycle -/

/-- The out-window word that transports of engine `e`'s current tick read (R99, R136). -/
def outWord (s : State) (e w : Nat) : Word :=
  if sourceRuns s e then storeGet 0 (s.engine e).outFront w else 0

/-- The phase-hop words whose crossbar slot is engine `e`'s current cycle leave its out window (R139). -/
def sendHops (s : State) (e : Nat) : State :=
  let c := clusterCycle s e
  let rs := s.str.exch.filter (fun r => r.kind == 2 && r.srcEngine == e && r.slots.head? == some c)
  let new : List Hop := rs.flatMap (fun r =>
    (List.range r.count).map (fun i => ⟨r.dstEngine, r.dstWord + i, outWord s e (r.srcWord + i), c + 2⟩))
  { s with hops := s.hops ++ new }

/-- The hops for engine `e` that land before its next cycle. -/
def landHops (s : State) (e : Nat) : State :=
  let c := clusterCycle s e
  let now := s.hops.filter (fun h => h.dst == e && decide (h.landsAt ≤ c + 1))
  let x := s.engine e
  let x := now.foldl (fun x h => { x with inFront := storeSet 0 x.inFront h.word h.val }) x
  { s.setEngine e x with hops := s.hops.filter (fun h => !(h.dst == e && decide (h.landsAt ≤ c + 1))) }

/-- ENGINE_DELAYED_WRITE (R77, R79): the engine's cycle ends. What is due completes, in the order that settles ties
(R48), and the engine goes on to its next word; `next` is what the fetch of that word finds. -/
def execEngineDelayedWrite (e : EngNo) (next : Fetch) (s : State) : Host.Outcome State Fault Refusal :=
  .next (openCycle (endCycle (landHops (sendHops s e) e) e) e next)

/-! ### Cluster controls -/

/-- ENG_FAULT_CLEAR (R69): clearing valid clears more and injected and re-arms recording. -/
def execEngFaultClear (c : ClNo) (s : State) : Host.Outcome State Fault Refusal :=
  .next (gated s (Reg.ENG_FAULT c) (((s.setFld (Reg.ENG_FAULT_valid c) 0).setFld (Reg.ENG_FAULT_more c) 0).setFld (Reg.ENG_FAULT_injected c) 0))

/-- A write of ENG_FINJ (R70): kind 1 to 5 with arm = 1 arms or replaces; kind 0 or arm = 0 disarms; a kind that
Table 03.6 does not list leaves the kind field unchanged (R8). -/
def finjWrite (s : State) (c e kind arm : Nat) : State :=
  let k := if kind ≤ 5 then kind else s.fld (Reg.ENG_FINJ_kind c)
  let s := (s.setFld (Reg.ENG_FINJ_engine c) e).setFld (Reg.ENG_FINJ_kind c) k
  s.setFld (Reg.ENG_FINJ_arm c) (if arm = 1 ∧ k ≠ 0 then 1 else 0)

/-- FINJ_ARM (R70). -/
def execFinjArm (c : ClNo) (e : Fin 16) (kind : Fin 8) (s : State) : Host.Outcome State Fault Refusal :=
  .next (gated s (Reg.ENG_FINJ c) (finjWrite s c e kind 1))

/-- FINJ_DISARM (R70): a write with arm = 0, or with arm = 1 and kind 0; `v` is the word written. -/
def execFinjDisarm (c : ClNo) (v : Word) (s : State) : Host.Outcome State Fault Refusal :=
  let arm := if bitsOf v 1 3 = 0 then bitsOf v 0 1 else 0
  .next (gated s (Reg.ENG_FINJ c) (finjWrite s c (bitsOf v 4 4) (bitsOf v 1 3) arm))

/-- Clears the flag log of the 16 engines of a cluster. -/
def clearFlagLog (s : State) (c : Nat) : Nat → State
  | 0 => s
  | n + 1 => (clearFlagLog s c n).resetReg (Reg.ENG_FLAGS c n)

/-- ENG_LOG_CLR (R71): the log alone changes, never FLG. -/
def execEngLogClr (c : ClNo) (s : State) : Host.Outcome State Fault Refusal := .next (gated s (Reg.ENG_CTL c) (clearFlagLog s c 16))

/-- ENG_CNT_CLR (R66): clears ENG_ECC_CNT and ENG_SCRUB.wbq_drop. -/
def execEngCntClr (c : ClNo) (s : State) : Host.Outcome State Fault Refusal :=
  .next (gated s (Reg.ENG_CTL c) ((s.resetReg (Reg.ENG_ECC_CNT c)).setFld (Reg.ENG_SCRUB_wbq_drop c) 0))

end Sys2Proof.Machine
end

