-- ==== Sys2Proof/Machine/Partition.lean ====
section
/-!
DEFINITION. Machine/Partition.lean: partitions, their state, the base rate, and the discards of a partition reset
(R181 to R184, R212, R216 to R219).
-/
namespace Sys2Proof.Machine

/-- pl of R163: 1 when the Espalier declares twin mode. -/
def State.pl (s : State) : Nat := if s.twinMode then 1 else 0

/-- The base rate in Hz (Table 02.1, TICK_RATE). -/
def State.baseRate (s : State) : Nat :=
  (if s.fld Reg.TICK_RATE_family = 0 then 48000 else 44100) * 2 ^ s.fld Reg.TICK_RATE_mult

/-- The PARTITION record of `p`. -/
def State.part (s : State) (p : Nat) : Option PartRec := s.str.parts.find? (fun r => r.id == p)

/-- Commit share S of a partition (R163). -/
def State.share (s : State) (p : Nat) : Nat := ((s.part p).map (·.share)).getD 0

/-- Queue capacity Q of a partition in words (R166). -/
def State.queueCap (s : State) (p : Nat) : Nat := ((s.part p).map (fun r => 256 * (r.queueM1 + 1))).getD 0

/-- A reset or graft of `p` is pending or in progress (R219). -/
def State.partOp (s : State) (p : Nat) : Option PartOp := s.partOps.find? (fun o => o.part == p)

/-- PART_STATp.state (Table 09.10). -/
def State.partState (s : State) (p : Nat) : Nat :=
  if (s.part p).isNone then 0
  else if s.boot ≠ bootRun then 5
  else match s.partOp p with
    | some o => if o.graft then 4 else if o.start ≤ s.tick then 3 else 2
    | none => 1

/-- Tokens of partition `p` booked in tick `x` (R164). -/
def booked (s : State) (p x : Nat) : Nat :=
  (s.groups.filter (fun g => g.part == p)).foldl (fun n g =>
    n + ((g.stage ++ g.echo).filter (fun b => b.1 == x)).foldl (fun m b => m + b.2) 0) 0

/-- A discarded group (R183): staging tokens at and after boundary `x` are released; its echo tokens become an undo. -/
def groupDiscard (x : Nat) (g : Group) : Group :=
  { g with phase := .undo, stage := g.stage.filter (fun b => decide (b.1 < x)), nEchoed := 0 }

/-- Discards every unflipped group that `p` picks, at the current boundary (R183). -/
def discardGroups (s : State) (p : Group → Bool) : State :=
  if s.groups.any (fun g => g.phase == GroupPhase.staged && p g) then
    let t : State := { s with groups := s.groups.map (fun g =>
      if g.phase = GroupPhase.staged ∧ p g = true then groupDiscard s.tick g else g) }
    t.setFld Reg.CMT_STAT_discard 1
  else s

/-- A lease breaks (R181): the entry is freed, its unflipped groups are discarded, its blocks are flagged. -/
def breakLease (s : State) (i : Nat) : State :=
  match storeFind s.leases i with
  | none => s
  | some l =>
    let s := { s with leases := storeDel s.leases i,
                      broken := l.blocks.foldl (fun m b => storeSet false m b true) s.broken }
    discardGroups s (fun g => g.lease == some (i, l.serial) && g.who == l.who)

/-- A released lease ends (R180): the entry is freed, its groups keep their promises. -/
def endLease (s : State) (i : Nat) : State := { s with leases := storeDel s.leases i }

/-- Breaks every unreleased lease that `p` picks. -/
def breakLeases (s : State) (p : Lease → Bool) : State :=
  (s.leases.filter (fun e => e.2.relAt.isNone && p e.2)).foldl (fun s e => breakLease s e.1) s

/-- Partition `p`'s gain cells step to their targets: pending cleared, last watched sample 0 (R177, R184). -/
def cellsToTarget (s : State) (p : Nat) : State :=
  (s.str.cells.filter (fun r => r.partition == p)).foldl (fun s r =>
    let t := s.current r.tgtBlock r.tgtWord
    { s with cells := storeSet {} s.cells r.cell { current := t, target := t } }) s

/-- The engines of partition `p`. -/
def State.partEngines (s : State) (p : Nat) : List Nat :=
  (s.str.progs.filter (fun r => r.partition == p)).map (·.engine)

/-- The last tick in which an echo or undo of partition `p` stands booked at boundary `r` (R210, R217). Groups still
unflipped before `r` keep their echo tokens when the reset discards them (R183). -/
def lastEcho (s : State) (p r : Nat) : Option Nat :=
  (((s.groups.filter (fun g => g.part == p)).flatMap (fun g => g.echo.map (·.1))).filter
    (fun t => decide (r ≤ t))).max?

/-- Partition `p`'s engines enter HALT, unless their cluster is off or asleep (Table 03.7). -/
def haltEngines (s : State) (p : Nat) : State :=
  (s.partEngines p).foldl (fun s e =>
    let s := if s.engState e = engRun then s.setEngState e engHalt else s
    s.setEngine e { s.engine e with win := false, done := true }) s

/-- The lines written by engine `e` start: age 0, or length when preloaded (R107). Words that wait in write staging go on to the DRAM
with their bursts (R121, R218). -/
def startLines (s : State) (e : Nat) : State :=
  (s.str.lines.filter (fun r => 16 * r.cluster + r.writer == e)).foldl (fun s r =>
    s.setAge r (if r.preload = 1 then r.length else 0)) s

/-- A bridge channel of the device (R147): its kind, cluster and unit. -/
def bridgeKey (r : BridgeRec) : Nat := (r.kind * 8 + r.cluster) * 64 + r.unit

/-- Bridges whose source is engine `e` start again with a history of 0 (R147). -/
def clearBridges (s : State) (e : Nat) : State :=
  (s.str.bridges.filter (fun b => b.srcKind == 0 && b.srcEngine == e)).foldl (fun s b =>
    { s with io := { s.io with bridgeHist := storeDel s.io.bridgeHist (bridgeKey b) } }) s

/-- Engine start (R45): start values, RUN, its lines start (R107), and so do its bridges (R147). -/
def startEngine (s : State) (e : Nat) : State :=
  let s := if s.engState e = engHalt ∨ s.engState e = engRun then s.setEngState e engRun else s
  startLines (clearBridges (s.setEngine e (s.engine e).start) e) e

/-- The reset that acts at step 2 of its boundary (R184, R216): leases break, groups are discarded, gain cells take
their targets, engines enter HALT; PART_STATp.resets counts it (R217). -/
def resetActions (s : State) (p : Nat) : State :=
  let s := breakLeases s (fun l => l.part == p)
  let s := discardGroups s (fun g => g.part == p)
  let s := haltEngines (cellsToTarget s p) p
  s.wrapInc (Reg.PART_STAT_resets p)

/-- Replaces the operation of partition `o.part`. -/
def setPartOp (s : State) (o : PartOp) : State :=
  { s with partOps := s.partOps.map (fun q => if q.part = o.part then o else q) }

/-- Removes the operation of partition `p`. -/
def dropPartOp (s : State) (p : Nat) : State :=
  { s with partOps := s.partOps.filter (fun q => q.part != p) }

/-- Tick abort of partition `p`'s engines (R98, R99): at once in the current window, or from the first cycle of the
next one. -/
def abortNow (s : State) (p : Nat) : State :=
  (s.partEngines p).foldl (fun s e => s.setEngine e { s.engine e with aborted := true, cut := true }) s

/-- The abort of a reset or graft whose boundary is `r`: in tick r − 1 (R98). -/
def scheduleAbort (s : State) (p r : Nat) : State := if r = s.tick + 1 then abortNow s p else s

/-- What a reset request meets (R216, R219). -/
inductive ResetVerdict where
  | refused | absorbed | accepted
deriving DecidableEq, Repr

/-- The verdict on a reset request for `p`. -/
def resetVerdict (s : State) (p : Nat) : ResetVerdict :=
  if p = 0 ∨ (s.part p).isNone = true ∨ s.boot ≠ bootRun then .refused
  else if (s.partOp p).isSome then .absorbed
  else .accepted

/-- The boundary c at which partition `p`'s reset at boundary `r` completes (R217). -/
def resetDone (s : State) (p r : Nat) : Nat :=
  match lastEcho s p r with
  | some e => max (r + 1) (e + 2)
  | none => r + 1

/-- L of R210 for a graft image of `bytes` bytes. -/
def graftTicks (s : State) (bytes : Nat) : Nat :=
  let d := 512 * s.str.board.graftBursts
  max 1 ((bytes + d - 1) / d)

/-- The boundary c at which a graft of `p` with boundary `b` completes (R210). -/
def graftDone (s : State) (p b bytes : Nat) : Nat :=
  match lastEcho s p b with
  | some e => max (b + graftTicks s bytes) (e + 2)
  | none => max (b + graftTicks s bytes) (b + 1)

/-- The completion boundary of an operation, as it stands now. -/
def PartOp.doneAt (s : State) (o : PartOp) : Nat :=
  o.done.getD (if o.graft then graftDone s o.part o.start o.bytes else resetDone s o.part o.start)

/-- A twin whose partner is control leader: its requests are relayed (R185, R238). -/
def State.follows (s : State) : Bool := s.twinMode && s.twin.paired && s.fld Reg.TWN_STAT_owner == 0

/-- A control leader with a paired follower: it forwards what it accepts (R185). What it accepts in tick J − 1 it forwards to the
joiner that its snapshot has reached (R252). -/
def State.leads (s : State) : Bool :=
  s.twinMode && (s.twin.paired || s.twin.joinTick == some (s.tick + 1)) && s.fld Reg.TWN_STAT_owner == 1

/-- Items of the control stream that a frame has carried, those acknowledged before it included. -/
def LinkSent.upTo (x : LinkSent) : Nat := x.frame.seq + x.frame.items.length - 1

/-- The item joins the frame of the current tick, if all items before it have and it fits (R185, R233). -/
def joinFrame (s : State) (i : CtlItem) : State :=
  match s.twin.sent with
  | none => s
  | some x =>
    if x.upTo + 1 = s.twin.acked + s.ctlOut.length ∧ Config.ctlBytes i ≤ x.room then
      { s with twin := { s.twin with sentTo := max s.twin.sentTo (x.upTo + 1), sent := some { x with
          frame := { x.frame with items := x.frame.items ++ [i] }, room := x.room - Config.ctlBytes i } } }
    else s

/-- Puts an item on the control stream: it leaves in the link frame of the current tick, or in a later one (R185, R233). -/
def sendCtl (s : State) (i : CtlItem) : State := joinFrame { s with ctlOut := s.ctlOut ++ [i] } i

/-- A leader forwards an accepted item under the next number (R185). -/
def forward (s : State) (i : Nat → CtlItem) : State :=
  if s.leads then
    let t := sendCtl s (i (s.twin.ctlSeq + 1))
    { t with twin := { t.twin with ctlSeq := t.twin.ctlSeq + 1 } }
  else s

/-- A reset of partition `p` is accepted in the current tick, for boundary r = x + 1 + pl (R216). -/
def addReset (s : State) (p : Nat) : State :=
  let r := s.tick + 1 + s.pl
  scheduleAbort { s with partOps := s.partOps ++ [(⟨p, false, r, none, 0⟩ : PartOp)] } p r

/-- A reset of partition `p` is accepted, and a leader forwards it (R216). -/
def acceptReset (s : State) (p : Nat) : State := forward (addReset s p) (fun n => .partReset n p (s.tick + 1 + s.pl))

/-- PARTITION_RESET (R184, R216, R217): at boundary r of a pending reset of `p`, its actions; r and c are shown. -/
def doPartReset (s : State) (p : Nat) : State :=
  match s.partOp p with
  | some o =>
    if o.graft = false ∧ o.done = none ∧ o.start ≤ s.tick then
      let s := resetActions s p
      let c := resetDone s p s.tick
      let s := setPartOp s { o with done := some c }
      (s.setReg Reg.PART_RESET_TICK (BitVec.ofNat 32 s.tick)).setReg Reg.PART_RESET_DONE (BitVec.ofNat 32 c)
    else s
  | none => s

/-- PARTITION_RESET_COMPLETE (R217): at boundary c engines and lines start and admission resumes. -/
def doPartDone (s : State) (p : Nat) : State :=
  match s.partOp p with
  | some o =>
    if o.graft = false ∧ o.done.any (fun c => decide (c ≤ s.tick)) then
      let s : State := { s with muteEnd := storeSet 0 s.muteEnd p (s.tick + 1) }
      (s.partEngines p).foldl startEngine (dropPartOp s p)
    else s
  | none => s

/-- A write of PART_RESET (R216, R219): `v` is the word written. A refused request changes nothing but the refused bit. -/
def partResetWrite (s : State) (v : Word) : State :=
  let s := if bitsOf v 8 1 = 1 then s.setFld Reg.PART_RESET_refused 0 else s
  let p := bitsOf v 0 8
  let t := s.setFld Reg.PART_RESET_partition p
  if bitsOf v 31 1 = 1 then
    match resetVerdict s p with
    | .refused => s.setFld Reg.PART_RESET_refused 1
    | .absorbed => t.setFld (Reg.PART_STAT_absorbed p) 1
    | .accepted => if t.follows then sendCtl t (.relayReset p) else acceptReset t p
  else t

/-- PART_RESET_REQUEST (R216). -/
def execPartResetRequest (v : Word) (s : State) : Host.Outcome State Fault Refusal := .next (gated s Reg.PART_RESET (partResetWrite s v))

/-- PARTITION_RESET (R184). -/
def execPartitionReset (p : Fin 256) (s : State) : Host.Outcome State Fault Refusal := .next (doPartReset s p.val)

/-- PARTITION_RESET_COMPLETE (R217). -/
def execPartitionResetComplete (p : Fin 256) (s : State) : Host.Outcome State Fault Refusal :=
  .next (doPartDone s p.val)

end Sys2Proof.Machine
end

