-- ==== Sys2Proof/Machine/Commit.lean ====
section
/-!
DEFINITION. Machine/Commit.lean: admission of commit groups, READ, leases, and the answers (R159 to R187, R379 to
R382).
-/
namespace Sys2Proof.Machine

/-! ### Bookings (R163 to R168) -/

/-- n = ceil(W / S) of R163. -/
def groupTicks (w share : Nat) : Nat := (w + share - 1) / share

/-- Partition `p`'s unbooked tokens in the `n` ticks from `first`. -/
def freeTokens (s : State) (p first n : Nat) : Nat :=
  ((List.range n).map (fun i => s.share p - booked s p (first + i))).sum

/-- Books `w` tokens, earliest tick first, in the `n` ticks from `x` (R164). -/
def bookRange (s : State) (p : Nat) : Nat → Nat → Nat → List (Nat × Nat)
  | _, 0, _ => []
  | w, n + 1, x =>
    let k := min w (s.share p - booked s p x)
    if k = 0 then bookRange s p w n (x + 1) else (x, k) :: bookRange s p (w - k) n (x + 1)

/-- The group has neither flipped nor been discarded at decision tick `x`. -/
def groupUnflipped (g : Group) (x : Nat) : Bool := g.phase == GroupPhase.staged && decide (x < g.tick)

/-- The group names block `b`. -/
def groupNames (g : Group) (b : Nat) : Bool := g.ents.any (fun e => e.block == b)

/-- Block `b` is busy for a group offered in tick `x` (R165). -/
def busyAt (s : State) (b x : Nat) : Bool :=
  s.groups.any (fun g => groupNames g b && (groupUnflipped g x || g.echo.any (fun t => decide (x + 2 + s.pl ≤ t.1))))

/-- Queue words occupied by partition `p` in tick `x` (R166). -/
def queueUsed (s : State) (p x : Nat) : Nat :=
  ((s.groups.filter (fun g => g.part == p && groupUnflipped g x)).map (fun g => g.ents.length)).sum

/-- Groups in flight device-wide in tick `x` (R167). -/
def inFlight (s : State) (x : Nat) : Nat := (s.groups.filter (fun g => groupUnflipped g x)).length

/-- Step 8 of Table 07.3 for a group offered in tick `x`. -/
def step8 (s : State) (p : Nat) (ents : List Entry) (x : Nat) : Bool :=
  let w := ents.length
  let n := groupTicks w (s.share p)
  ents.all (fun e => !busyAt s e.block x) && decide (queueUsed s p x + w ≤ s.queueCap p) &&
    decide (w ≤ freeTokens s p (x + 2 + s.pl) n) && decide (w ≤ freeTokens s p (x + 2 + s.pl + n) n) &&
    decide (inFlight s x < 65536)

/-- A tick after which no booking, group or lease stands. -/
def horizon (s : State) : Nat :=
  let g := s.groups.foldl (fun m g => (g.stage ++ g.echo).foldl (fun m b => max m b.1) (max m g.tick)) s.tick
  s.leases.foldl (fun m l => max m l.2.endTick) g

/-- The smallest tick from `x` on that passes `ok` (R168), searched up to the horizon. -/
def retryTick (ok : Nat → Bool) : Nat → Nat → Nat
  | 0, x => x
  | n + 1, x => if ok x then x else retryTick ok n (x + 1)

/-- The retry-after tick of the current tick (R168). -/
def State.retry (s : State) (ok : Nat → Bool) : Nat := retryTick ok (horizon s - s.tick + 1) (s.tick + 1)

/-! ### The checks of Table 07.3 -/

/-- REFUSED_STATE with its argument (R381). -/
def refuseState (s : State) (p reason tickB : Nat) : Reply :=
  { status := 7, arg := s.boot + s.partState p * 256 + reason * 65536, tickB := tickB }

/-- Step 2: BOOT_STATE is RUN and the partition has no reset or graft pending or in progress. -/
def checkState (s : State) (p : Nat) : Option Reply :=
  if s.boot ≠ bootRun then some (refuseState s p 0 0)
  else if (s.partOp p).isSome then some (refuseState s p 1 0)
  else none

/-- Partition index `i` lies in one of the partition's windows (R376). -/
def inWindows (r : PartRec) (i : Nat) : Bool := r.windows.any (fun w => decide (w.1 ≤ i ∧ i < w.1 + w.2))

/-- The device block that a session of `p` names by partition index `i`, if it lies in the session's windows. -/
def windowBlock (s : State) (p i : Nat) : Option Nat :=
  match s.part p with
  | none => none
  | some r => if inWindows r i then (s.partBlocks p)[i]? else none

/-- A word offered for a group: the number its block is named by, the device block (none: outside the windows),
whether the entry is well-formed (step 4), and the entry. -/
structure Offer where
  name : Nat
  block : Option Nat
  ok : Bool
  word : Nat
  val : Word
deriving DecidableEq, Repr

/-- The group's word for an offer inside the windows. -/
def Offer.entry (o : Offer) : Entry := ⟨o.block.getD 0, o.word, o.val⟩

/-- Step 3: the first entry outside the windows. -/
def checkWindows (os : List Offer) : Option Reply :=
  (os.findIdx? (fun o => o.block.isNone)).map (fun i => { status := 3, arg := i })

/-- Step 4: every entry well-formed and the size admissible; R169. -/
def checkForm (s : State) (p : Nat) (os : List Offer) : Option Reply :=
  match os.findIdx? (fun o => !o.ok) with
  | some i => some { status := 2, arg := i }
  | none =>
    if 1 ≤ os.length ∧ os.length ≤ 4096 ∧ os.length ≤ s.queueCap p then none
    else some { status := 2, arg := 0xFFFFFFFF }

/-- The lease that a handle names, where it is held by `who`, unbroken and not released (R180, R182); the handle is
coded as index, present bit and serial (R380). -/
def heldLease (s : State) (who : SessId) (h : Word) : Option (Nat × Lease) :=
  match storeFind s.leases (bitsOf h 0 14) with
  | none => none
  | some l =>
    if bitsOf h 15 1 = 1 ∧ l.serial = bitsOf h 16 16 ∧ l.who = who ∧ l.relAt = none then some (bitsOf h 0 14, l)
    else none

/-- Block `b` lies under a lease other than entry `own` (step 6). -/
def leasedByOther (s : State) (own : Option Nat) (b : Nat) : Bool :=
  s.leases.any (fun l => l.2.blocks.contains b && own != some l.1)

/-- Step 6: the first named block under another lease. -/
def checkLeases (s : State) (own : Option Nat) (os : List Offer) : Option Reply :=
  (os.find? (fun o => leasedByOther s own (o.block.getD 0))).map (fun o => { status := 4, arg := o.name })

/-- The promised tick T (R163). -/
def promised (s : State) (p w : Nat) : Nat := s.tick + 2 + groupTicks w (s.share p) + s.pl

/-- The group that admission accepts in the current tick, with its bookings (R164). -/
def newGroup (s : State) (p : Nat) (who : SessId) (seq : Nat) (lease : Option (Nat × Nat)) (ents : List Entry) : Group :=
  let w := ents.length
  let n := groupTicks w (s.share p)
  { part := p, who := who, seq := seq, ents := ents, ta := s.tick, tick := promised s p w, lease := lease,
    stage := bookRange s p w n (s.tick + 2 + s.pl), echo := bookRange s p w n (promised s p w),
    nStaged := 0, nEchoed := 0, phase := .staged, waiting := s.leads, forwarded := s.leads }

/-- What an admitted operation leaves: the machine, the answer, the item to forward to a follower (R185), and what is to be
remembered when the answer goes out (R162). -/
structure Served where
  st : State
  reply : Reply
  fwd : Option CtlItem
  rem : Option Remembered := none

/-- Steps 5 to 8 of Table 07.3 and the acceptance (R161 to R168). -/
def admitGroup (s : State) (p : Nat) (who : SessId) (seq : Nat) (h : Word) (os : List Offer) : Served :=
  let held := heldLease s who h
  let named := bitsOf h 15 1 == 1
  let own := held.map (fun h => (h.1, h.2.serial))
  let ents := os.map Offer.entry
  let t := promised s p ents.length
  if named && held.isNone then ⟨s, { status := 5 }, none, none⟩
  else
    match checkLeases s (held.map (·.1)) os with
    | some r => ⟨s, r, none, none⟩
    | none =>
      match held with
      | some (_, l) =>
        if named ∧ l.endTick ≤ t then ⟨s, refuseState s p 2 l.endTick, none, none⟩
        else admitLast s p who seq own ents
      | none => admitLast s p who seq own ents
where
  /-- Step 8 and acceptance. -/
  admitLast (s : State) (p : Nat) (who : SessId) (seq : Nat) (own : Option (Nat × Nat)) (ents : List Entry) : Served :=
    if step8 s p ents s.tick then
      let g := newGroup s p who seq own ents
      ⟨{ s with groups := s.groups ++ [g] }, { status := 0, tickB := g.tick },
       some (.group (s.twin.ctlSeq + 1) p who g.ta g.tick own ents), none⟩
    else ⟨s, { status := 1, tickB := s.retry (step8 s p ents) }, none, none⟩

/-- Table 07.3 from step 2 on. -/
def decideGroup (s : State) (p : Nat) (who : SessId) (seq : Nat) (h : Word) (os : List Offer) : Served :=
  match checkState s p with
  | some r => ⟨s, r, none, none⟩
  | none =>
    match checkWindows os with
    | some r => ⟨s, r, none, none⟩
    | none =>
      match checkForm s p os with
      | some r => ⟨s, r, none, none⟩
      | none => admitGroup s p who seq h os

/-- The remembered answer of a group sequence number (R162). -/
def rememberedFor (s : State) (who : SessId) (seq : Nat) : Option Remembered :=
  s.remembered.find? (fun r => r.who == who && r.seq == seq)

/-- Remembers a COMMIT that is answered ACCEPTED, unless its number is remembered; a session keeps its last 64 (R162). -/
def remember (s : State) (r : Remembered) : State :=
  if (rememberedFor s r.who r.seq).isSome then s else
  let mine := s.remembered.filter (fun q => q.who == r.who)
  { s with remembered := s.remembered.filter (fun q => q.who != r.who) ++ (mine ++ [r]).drop (mine.length - 63) }

/-- The offers of a COMMIT's entries (R160, R381). -/
def rawOffers (s : State) (p : Nat) (es : List RawEntry) : List Offer :=
  es.map (fun e => ⟨e.block.toNat, windowBlock s p e.block.toNat, decide (e.word.toNat < 64) && decide (e.rsv = 0),
    e.word.toNat, e.val⟩)

/-- COMMIT (R160 to R169). -/
def serveCommit (s : State) (p : Nat) (who : SessId) (seq h : Word) (es : List RawEntry) : Served :=
  match rememberedFor s who seq.toNat with
  | some r => ⟨s, { status := 0, tickA := r.ta, tickB := r.tick }, none, none⟩
  | none =>
    let v := decideGroup s p who seq.toNat h (rawOffers s p es)
    let r : Reply := { v.reply with tickA := s.tick }
    ⟨v.st, r, v.fwd, if r.status = 0 then some ⟨who, seq.toNat, s.tick, r.tickB⟩ else none⟩

/-- READ (R175): steps 1 to 3, then the fields. -/
def serveRead (s : State) (p : Nat) (block first rsv count : Nat) : Served :=
  match checkState s p with
  | some r => ⟨s, r, none, none⟩
  | none =>
    match windowBlock s p block with
    | none => ⟨s, { status := 3 }, none, none⟩
    | some b =>
      if count < 1 ∨ 64 < count ∨ 64 < first + count ∨ rsv ≠ 0 then ⟨s, { status := 2 }, none, none⟩
      else ⟨s, { status := 0, data := (List.range count).map (fun i => s.current b (first + i)) }, none, none⟩

/-! ### Leases (R179 to R182) -/

/-- The boundary at which a lease ends as it stands. -/
def leaseEnds (l : Lease) : Nat := match l.relAt with | some r => min r l.endTick | none => l.endTick

/-- Step 4 of R179 for a request offered in tick `x`. -/
def leaseRoom (s : State) (p : Nat) (who : SessId) (quota : Nat) (bs : List Nat) (x : Nat) : Bool :=
  let live := s.leases.filter (fun l => decide (s.tick = x ∨ x < leaseEnds l.2))
  bs.all (fun b => !s.groups.any (fun g => groupNames g b && groupUnflipped g x && g.who != who)) &&
    decide ((live.filter (fun l => l.2.part == p)).length < quota) && decide (live.length < 16384)

/-- The first free lease-table entry at or after `i`, cyclically. -/
def freeEntry (s : State) : Nat → Nat → Nat
  | 0, i => i
  | n + 1, i => if (storeFind s.leases i).isSome then freeEntry s n ((i + 1) % 16384) else i

/-- The broken mask of a grant (R179): bit k for block k of the request. -/
def brokenMask (s : State) (bs : List Nat) : Nat :=
  (bs.zipIdx.map (fun b => if storeGet false s.broken b.1 then 2 ^ b.2 else 0)).sum

/-- The handle of an entry (R380). -/
def leaseHandle (i serial : Nat) : Nat := i + 32768 + serial * 65536

/-- Grants a lease in the current tick (R179). Which free entry it takes, and the first serial of an entry, are free
values (log entries 3 and 4). -/
def grantLease (s : State) (p : Nat) (who : SessId) (duration : Nat) (bs : List Nat) : Served :=
  let i := freeEntry s s.leases.length ((Config.freeValue s.freeCtr).toNat % 16384)
  let n := storeGet 0 s.leaseSerial i
  let serial := ((Config.leaseSerial0 i).toNat + n) % 65536
  let m := brokenMask s bs
  let l : Lease := { part := p, who := who, serial := serial, blocks := bs, endTick := s.tick + duration, relAt := none }
  let t : State := { s with
    freeCtr := s.freeCtr + 1, leaseSerial := storeSet 0 s.leaseSerial i (n + 1), leases := storeIns i l s.leases,
    broken := bs.foldl (fun m b => storeSet false m b false) s.broken }
  ⟨t, { status := 0, arg := leaseHandle i serial, tickB := s.tick + duration,
        data := [BitVec.ofNat 32 m, BitVec.ofNat 32 (m / 2 ^ 32)] },
   some (.lease (s.twin.ctlSeq + 1) i l), none⟩

/-- LEASE_ACQUIRE (R179). -/
def serveAcquire (s : State) (p : Nat) (who : SessId) (duration : Nat) (blocks : List Half) : Served :=
  let os : List Offer := blocks.map (fun b => ⟨b.toNat, windowBlock s p b.toNat, true, 0, 0⟩)
  let bs := os.map (fun o => o.block.getD 0)
  let quota := ((s.part p).map (·.leaseQuota)).getD 0
  match checkState s p with
  | some r => ⟨s, r, none, none⟩
  | none =>
    match checkWindows os with
    | some r => ⟨s, r, none, none⟩
    | none =>
      if bs.length < 1 ∨ 64 < bs.length ∨ duration < 1 ∨ 1048575 < duration ∨ quota = 0 then ⟨s, { status := 2 }, none, none⟩
      else
        match checkLeases s none os with
        | some r => ⟨s, r, none, none⟩
        | none =>
          if leaseRoom s p who quota bs s.tick then grantLease s p who duration bs
          else ⟨s, { status := 1, tickB := s.retry (leaseRoom s p who quota bs) }, none, none⟩

/-- LEASE_RENEW (R180). -/
def serveRenew (s : State) (p : Nat) (who : SessId) (h : Word) (duration : Nat) : Served :=
  match checkState s p with
  | some r => ⟨s, r, none, none⟩
  | none =>
    if duration < 1 ∨ 1048575 < duration then ⟨s, { status := 2 }, none, none⟩
    else
      match heldLease s who h with
      | none => ⟨s, { status := 5 }, none, none⟩
      | some (i, l) =>
        let e := s.tick + duration
        if s.groups.any (fun g => g.lease == some (i, l.serial) && g.who == who && groupUnflipped g s.tick && decide (e ≤ g.tick)) then
          ⟨s, refuseState s p 2 l.endTick, none, none⟩
        else
          let l' := { l with endTick := e }
          ⟨{ s with leases := storeIns i l' s.leases }, { status := 0, tickB := e },
           some (.lease (s.twin.ctlSeq + 1) i l'), none⟩

/-- LEASE_RELEASE (R180): the lease ends at step 2 of the next boundary. -/
def serveRelease (s : State) (p : Nat) (who : SessId) (h : Word) : Served :=
  match checkState s p with
  | some r => ⟨s, r, none, none⟩
  | none =>
    match heldLease s who h with
    | none => ⟨s, { status := 5 }, none, none⟩
    | some (i, l) =>
      let l' := { l with relAt := some (s.tick + 1) }
      ⟨{ s with leases := storeIns i l' s.leases }, { status := 0, tickB := s.tick + 1 },
       some (.lease (s.twin.ctlSeq + 1) i l'), none⟩

/-- RESET of the session's own partition (R216, R219, R381). -/
def serveReset (s : State) (p : Nat) : Served :=
  match resetVerdict s p with
  | .refused =>
    ⟨s.setFld Reg.PART_RESET_refused 1, if p = 0 then { status := 2 } else refuseState s p 0 0, none, none⟩
  | .absorbed =>
    match s.partOp p with
    | some o => ⟨s.setFld (Reg.PART_STAT_absorbed p) 1, { status := 0, tickA := o.start, tickB := o.doneAt s }, none, none⟩
    | none => ⟨s, {}, none, none⟩
  | .accepted =>
    let r := s.tick + 1 + s.pl
    ⟨addReset s p, { status := 0, tickA := r, tickB := resetDone s p r }, some (.partReset (s.twin.ctlSeq + 1) p r), none⟩

/-- Session `n` ends at the next boundary (R382); a paired partner is told, so that its leases break in the same tick. -/
def endSoon (s : State) (n : Nat) : State :=
  match storeFind s.sessions n with
  | none => s
  | some e =>
    if e.ending then s
    else
      let s : State := { s with sessions := storeIns n { e with ending := true } s.sessions }
      if s.twin.paired then sendCtl s (.sessionEnd n e.epoch) else s

/-- One operation of Table 17.8 for `who` of partition `p`, on the control leader or on a single device. CLOSE ends the
session of this device's own `who.num` (R382). -/
def serve (s : State) (p : Nat) (who : SessId) : AudonReq → Served
  | .commit seq h es => serveCommit s p who seq h es
  | .read b f r n => serveRead s p b.toNat f.toNat r.toNat n.toNat
  | .acquire d bs => serveAcquire s p who d.toNat bs
  | .renew h d => serveRenew s p who h d.toNat
  | .release h => serveRelease s p who h
  | .reset => serveReset s p
  | .close => ⟨endSoon s who.num, {}, none, none⟩
  | .ping => ⟨s, { status := 0, tickA := s.tick }, none, none⟩

/-! ### Answers (R185, R186, R381) -/

/-- CMT_STAT.refused: bit k when status k is returned. -/
def noteStatus (s : State) (st : Nat) : State :=
  if st = 0 then s else s.setFld ⟨Reg.CMT_STAT, st, 1⟩ 1

/-- Sends an answer frame to an open session on its transport, with the next frame number (R379). -/
def answerSession (s : State) (n op reqId : Nat) (r : Reply) : State :=
  match storeFind s.sessions n with
  | none => s
  | some e =>
    let a : Answer := { bell := e.bell, part := e.part, session := n, frame := e.txSeq + 1, op := op, reqId := reqId, reply := r,
                        key := e.kOut, addr := e.addr }
    let s : State := { s with sessions := storeIns n { e with txSeq := e.txSeq + 1 } s.sessions }
    let s := if 2 ^ 64 ≤ e.txSeq + 2 then endSoon s n else s
    if e.bell then { s with bellOut := s.bellOut ++ [a] } else { s with udpOut := s.udpOut ++ [a] }

/-- CMT_SUBMIT's answer (R159). -/
def answerSubmit (s : State) (r : Reply) : State :=
  let s := s.setFld Reg.CMT_SUBMIT_busy 0
  let s := (s.setFld Reg.CMT_SUBMIT_RES_status r.status).setFld Reg.CMT_SUBMIT_RES_valid 1
  s.setReg Reg.CMT_SUBMIT_TICK (BitVec.ofNat 32 (if r.status ≤ 1 then r.tickB else 0))

/-- Returns an answer to whoever asked. -/
def deliver (s : State) (a : Asker) (r : Reply) : State :=
  let s := noteStatus s r.status
  match a with
  | .session n op id => answerSession s n op id r
  | .submit => answerSubmit s r
  | .peer n op id => sendCtl s (.relayed n op id r)
  | .peerSubmit => sendCtl s (.submitted r)

/-- Returns an answer, and remembers an ACCEPTED one of a COMMIT from then on (R162). -/
def answer (s : State) (a : Asker) (r : Reply) (rem : Option Remembered) : State :=
  deliver (rem.elim s (remember s)) a r

/-- Sends a decision: a leader forwards what it accepted, a partition reset among it (R216), and withholds the answer until the
follower confirms (R185). -/
def conclude (v : Served) (a : Asker) : State :=
  match v.fwd with
  | some i =>
    if v.st.leads then
      let s := forward v.st (fun _ => i)
      { s with held := s.held ++ [(⟨s.twin.ctlSeq, s.tick, a, v.reply, v.rem⟩ : Held)] }
    else answer v.st a v.reply v.rem
  | none => answer v.st a v.reply v.rem

/-- The operation's code (Table 17.8). -/
def reqOp : AudonReq → Nat
  | .commit .. => 1 | .read .. => 2 | .acquire .. => 3 | .renew .. => 4 | .release .. => 5 | .reset => 6 | .close => 7
  | .ping => 8

/-- A follower relays the operation to the leader (R155, R185, R216, R238): commits, leases and resets always, a READ
until this twin is RIPE. -/
def relays (s : State) : AudonReq → Bool
  | .read .. => s.follows && s.fld Reg.TWN_STAT_ripe_state != 4
  | .close => false
  | .ping => false
  | _ => s.follows

/-- arg of a COMMIT that its form refuses (Table 07.5): the index of the first malformed entry, or 0xFFFF_FFFF. -/
def malformedAt (es : List RawEntry) : Nat :=
  (es.findIdx? (fun e => !(decide (e.word.toNat < 64) && decide (e.rsv = 0)))).getD 0xFFFFFFFF

/-- arg of an operation that its flags refuse. -/
def formArg : AudonReq → Nat
  | .commit _ _ es => malformedAt es
  | _ => 0

/-- A received REQ of session `n` (R381): a session that is not open is counted, a nonzero flags byte is refused, and
the rest is relayed or served. -/
def request (n : Nat) (reqId : Word) (flags : Byte) (q : AudonReq) (s : State) : State :=
  match storeFind s.sessions n with
  | none => s.satInc Reg.SES_CNT0_auth_fail
  | some e =>
    let a : Asker := .session n (reqOp q) reqId.toNat
    if flags ≠ 0 then deliver s a { status := 2, arg := formArg q }
    else if relays s q then sendCtl s (.relay e.part n e.epoch reqId.toNat q)
    else conclude (serve s e.part ⟨n, e.epoch, false⟩ q) a

/-- COMMIT (R161). -/
def execCommit (sess : Fin 4096) (reqId : Word) (flags : Byte) (gseq lease : Word) (ents : List RawEntry) (s : State) :
    Host.Outcome State Fault Refusal := .next (request sess reqId flags (.commit gseq lease ents) s)

/-- READ (R175). -/
def execAudonRead (sess : Fin 4096) (reqId : Word) (flags : Byte) (block : Half) (first rsv : Byte) (count : Half)
    (s : State) : Host.Outcome State Fault Refusal := .next (request sess reqId flags (.read block first rsv count) s)

/-- LEASE_ACQUIRE (R179). -/
def execLeaseAcquire (sess : Fin 4096) (reqId : Word) (flags : Byte) (duration : Word) (blocks : List Half) (s : State) :
    Host.Outcome State Fault Refusal := .next (request sess reqId flags (.acquire duration blocks) s)

/-- LEASE_RENEW (R180). -/
def execLeaseRenew (sess : Fin 4096) (reqId : Word) (flags : Byte) (lease duration : Word) (s : State) :
    Host.Outcome State Fault Refusal := .next (request sess reqId flags (.renew lease duration) s)

/-- LEASE_RELEASE (R180). -/
def execLeaseRelease (sess : Fin 4096) (reqId : Word) (flags : Byte) (lease : Word) (s : State) :
    Host.Outcome State Fault Refusal := .next (request sess reqId flags (.release lease) s)

/-- RESET (R216, R219). -/
def execAudonReset (sess : Fin 4096) (reqId : Word) (flags : Byte) (s : State) : Host.Outcome State Fault Refusal :=
  .next (request sess reqId flags .reset s)

/-- CLOSE (R382). -/
def execClose (sess : Fin 4096) (reqId : Word) (flags : Byte) (s : State) : Host.Outcome State Fault Refusal :=
  .next (request sess reqId flags .close s)

/-- PING (R381). -/
def execPing (sess : Fin 4096) (reqId : Word) (flags : Byte) (s : State) : Host.Outcome State Fault Refusal :=
  .next (request sess reqId flags .ping s)

/-! ### CMT_SUBMIT (R159) -/

/-- Words 2k and 2k + 1 of the submission buffer for entries `off` to `off + m`. -/
def submitEntries (s : State) (off m : Nat) : List (Word × Word) :=
  (List.range (m + 1)).map (fun i => (storeGet 0 s.subm (2 * (off + i)), storeGet 0 s.subm (2 * (off + i) + 1)))

/-- The offers of submission entries: device block numbers of partition 0. -/
def submitOffers (s : State) (es : List (Word × Word)) : List Offer :=
  es.map (fun e =>
    let b := bitsOf e.1 16 14
    ⟨b, if (s.block b).any (fun r => r.partition == 0) then some b else none,
     decide (bitsOf e.1 30 2 = 0) && decide (bitsOf e.1 6 10 = 0), bitsOf e.1 0 6, e.2⟩)

/-- Admission of a submitted group of partition 0 (R159), for this device's supervisor or the partner's. -/
def serveSubmit (s : State) (who : SessId) (es : List (Word × Word)) (count : Nat) : Served :=
  match checkState s 0 with
  | some r => ⟨s, r, none, none⟩
  | none =>
    if es.length < count then ⟨s, { status := 2 }, none, none⟩
    else decideGroup s 0 who 0 0 (submitOffers s es)

/-- A write of CMT_SUBMIT (R159). -/
def submitWrite (s : State) (v : Word) : State :=
  if bitsOf v 31 1 = 1 ∧ s.fld Reg.CMT_SUBMIT_busy = 1 then s
  else
    let s := (s.setFld Reg.CMT_SUBMIT_offset (bitsOf v 16 12)).setFld Reg.CMT_SUBMIT_count_m1 (bitsOf v 0 12)
    if bitsOf v 31 1 = 0 then s
    else
      let s := (s.setFld Reg.CMT_SUBMIT_RES_valid 0).setFld Reg.CMT_SUBMIT_busy 1
      let off := bitsOf v 16 12
      let n := bitsOf v 0 12 + 1
      let es := if off + n ≤ 4096 then submitEntries s off (n - 1) else []
      if s.follows then sendCtl s (.submit es n) else conclude (serveSubmit s ⟨4096, 0, false⟩ es n) .submit

/-- CMT_SUBMIT (R159). -/
def execCmtSubmit (v : Word) (s : State) : Host.Outcome State Fault Refusal := .next (gated s Reg.CMT_SUBMIT (submitWrite s v))

/-! ### Replication (R185, R186) -/

/-- Answers withheld for items up to `n` are sent. -/
def confirmUpTo (s : State) (n : Nat) : State :=
  let done := s.held.filter (fun h => decide (h.ctl ≤ n))
  let s : State := { s with
    held := s.held.filter (fun h => decide (n < h.ctl)),
    groups := s.groups.map (fun g => if done.any (fun h => h.reply.status == 0 && h.reply.tickB == g.tick && h.ta == g.ta)
      then { g with waiting := false } else g),
    twin := { s.twin with ctlConfirmed := max s.twin.ctlConfirmed n } }
  done.foldl (fun s h => answer s h.asker h.reply h.rem) s

/-- FOLLOWER_CONFIRM (R185): the follower has confirmed every item up to number `seq`. -/
def execFollowerConfirm (seq : Word) (s : State) : Host.Outcome State Fault Refusal := .next (confirmUpTo s seq.toNat)

/-- The answers still withheld at the end of tick Ta + 1 (R186): they are sent, CMT_STAT.replica_late is set, a detach
notice goes out and the pair splits at step 1 of the next boundary (R248). -/
def replicaLate (s : State) : State :=
  let late := s.held.filter (fun h => decide (h.ta + 1 ≤ s.tick))
  if late.isEmpty then s
  else
    let s := { s with held := s.held.filter (fun h => decide (s.tick < h.ta + 1)) }
    let s := late.foldl (fun s h => answer s h.asker h.reply h.rem) s
    let s := sendCtl (s.setFld Reg.CMT_STAT_replica_late 1) .detach
    { s with twin := { s.twin with splitAt := some (s.tick + 1) } }

/-- REPLICA_LATE (R186). -/
def execReplicaLate (s : State) : Host.Outcome State Fault Refusal := .next (replicaLate s)

/-! ### Lease events and the lease table -/

/-- At the boundary of the current tick: a released lease ends, and one whose end tick has arrived breaks (R180, R181). -/
def leaseDue (s : State) (i : Nat) : State :=
  match storeFind s.leases i with
  | none => s
  | some l =>
    match l.relAt with
    | some r => if r ≤ s.tick then endLease s i else s
    | none => if l.endTick ≤ s.tick then breakLease s i else s

/-- LEASE_EXPIRY (R181). -/
def execLeaseExpiry (index : Fin 16384) (s : State) : Host.Outcome State Fault Refusal := .next (leaseDue s index)

/-- CMT_CTL.cnt_clr (R177). -/
def execCmtCntClr (s : State) : Host.Outcome State Fault Refusal := .next (gated s Reg.CMT_CTL (s.setFld Reg.CMT_GC_STAT_timeouts 0))

/-- A write of LEASE_SEL latches the entry into LEASE_TBL. -/
def leaseSel (s : State) (v : Word) : State :=
  let s := s.setFld Reg.LEASE_SEL_index (bitsOf v 0 14)
  match storeFind s.leases (bitsOf v 0 14) with
  | none => ((s.setReg Reg.LEASE_TBL0 0).setReg Reg.LEASE_TBL1 0).setReg Reg.LEASE_TBL2 0
  | some l =>
    ((s.setReg Reg.LEASE_TBL0 (BitVec.ofNat 32 l.endTick)).setReg Reg.LEASE_TBL1
      (BitVec.ofNat 32 (l.who.epoch * 65536 + l.serial))).setReg Reg.LEASE_TBL2
      (BitVec.ofNat 32 (2 ^ 31 + l.blocks.length * 2 ^ 20 + l.who.num % 4096 * 256 + l.part))

/-- LEASE_SEL_WRITE (R179). -/
def execLeaseSelWrite (v : Word) (s : State) : Host.Outcome State Fault Refusal := .next (gated s Reg.LEASE_SEL (leaseSel s v))

/-! ### Flips, staging and echo (R171 to R173, R183) -/

/-- The blocks of a group, each once. -/
def groupBlocks (g : Group) : List Nat := (g.ents.map (·.block)).eraseDups

/-- A flip of block `b`. The Quickset mixer still uses the copy that was current for words of frames that started before
the boundary (R151), so a block it holds keeps its words until the next boundary. -/
def flipBlock (s : State) (b : Nat) : State :=
  let old := (List.range 64).map (fun w =>
    (64 * b + w, storeGet 0 (if s.flip b = 0 then s.qsA else s.qsB) (64 * b + w)))
  let s : State := if (s.block b).any (fun r => r.holders / 2 % 2 == 1) then
      { s with io := { s.io with qsFlipped := s.io.qsFlipped ++ [b],
                                 qsOld := old.foldl (fun m e => storeSet 0 m e.1 e.2) s.io.qsOld } }
    else s
  s.setFlip b (1 - s.flip b)

/-- Step 3: every group whose promised tick has come flips its blocks (R172). -/
def doFlips (s : State) : State :=
  let due (g : Group) : Bool := g.phase == GroupPhase.staged && decide (g.tick ≤ s.tick)
  let s' := (s.groups.filter due).foldl (fun s g => (groupBlocks g).foldl flipBlock s) s
  { s' with groups := s.groups.map (fun g => if due g then { g with phase := .echo } else g) }

/-- GROUP_FLIP (R172). -/
def execGroupFlip (s : State) : Host.Outcome State Fault Refusal := .next (doFlips s)

/-- Tokens that a list of bookings gives tick `x`. -/
def tokensIn (l : List (Nat × Nat)) (x : Nat) : Nat := ((l.filter (fun b => b.1 == x)).map (·.2)).sum

/-- The commit window's words for one group (R171, R173, R183): staged words, echoed words, or undone words go into the
shadow. -/
def groupWindow (s : State) (g : Group) : State × Group :=
  match g.phase with
  | .staged =>
    let k := tokensIn g.stage s.tick
    (((g.ents.drop g.nStaged).take k).foldl (fun s e => writeCopy s (1 - s.flip e.block) e.block e.word e.val) s,
     { g with nStaged := g.nStaged + k })
  | .echo =>
    let k := tokensIn g.echo s.tick
    (((g.ents.drop g.nEchoed).take k).foldl (fun s e => writeCopy s (1 - s.flip e.block) e.block e.word e.val) s,
     { g with nEchoed := g.nEchoed + k })
  | .undo =>
    let k := tokensIn g.echo s.tick
    ((((g.ents.take g.nStaged).drop g.nEchoed).take k).foldl (fun s e =>
        writeCopy s (1 - s.flip e.block) e.block e.word (s.current e.block e.word)) s,
     { g with nEchoed := g.nEchoed + k })

/-- The commit window of the current tick, group by group in acceptance order (R164). -/
def commitWindow (s : State) : State :=
  let r := s.groups.foldl (fun (a : State × List Group) g => let w := groupWindow a.1 g; (w.1, a.2 ++ [w.2])) (s, [])
  { r.1 with groups := r.2 }

/-- Groups whose echo or undo has ended are forgotten. -/
def dropDone (s : State) : State :=
  { s with groups := s.groups.filter (fun g => g.phase == GroupPhase.staged || g.echo.any (fun b => decide (s.tick ≤ b.1))) }

/-! ### Gain cells (R177) -/

/-- D of R176. -/
def cellD (s : State) (r : CellRec) : Nat := (r.timeoutMs * s.baseRate + 999) / 1000

/-- Gain cell `n`. -/
def State.cell (s : State) (n : Nat) : Cell := storeGet {} s.cells n

/-- Stores gain cell `n`. -/
def State.setCell (s : State) (n : Nat) (c : Cell) : State := { s with cells := storeSet {} s.cells n c }

/-- Step 3 of a cell (R177). -/
def cellStep3 (s : State) (r : CellRec) : State :=
  let c := s.cell r.cell
  let t := s.current r.tgtBlock r.tgtWord
  let c := if t = c.current then { c with pending := false }
    else if c.pending then c else { c with pending := true, deadline := s.tick + cellD s r }
  s.setCell r.cell { c with target := t }

/-- Step 4 of a cell (R177). -/
def cellStep4 (s : State) (n : Nat) : State :=
  let c := s.cell n
  if c.pending ∧ (c.crossed ∨ c.deadline ≤ s.tick) then
    let s := if c.crossed then s else s.satInc Reg.CMT_GC_STAT_timeouts
    s.setCell n { c with current := c.target, pending := false, crossed := false }
  else s

/-- The tick guard of a cell watching `x` (R177). -/
def Cell.watch (c : Cell) (x : Word) : Cell :=
  { c with crossed := c.pending && (x == 0 || (x.msb != c.last.msb)), last := x }

/-- GAIN_CELL_TIMEOUT (R177): a pending cell whose deadline has come steps and counts. -/
def execGainCellTimeout (cell : Fin 4096) (s : State) : Host.Outcome State Fault Refusal :=
  let c := s.cell cell
  .next (if c.pending ∧ c.crossed = false ∧ c.deadline ≤ s.tick then cellStep4 s cell else s)

end Sys2Proof.Machine
end

