-- ==== Sys2Proof/Machine/Thorn.lean ====
section
/-!
DEFINITION. Machine/Thorn.lean: Thorn guards, their mutes and trips, the port conversion and dither, thermal links and
silence detection (R220 to R229).
-/
namespace Sys2Proof.Machine

/-- Bits of the integer square root, most significant first. -/
def isqrtAux (n : Nat) : Nat → Nat → Nat
  | 0, r => r
  | k + 1, r => isqrtAux n k (if (r + 2 ^ k) * (r + 2 ^ k) ≤ n then r + 2 ^ k else r)

/-- The floor square root of a number below 2^96 (R221). -/
def isqrt (n : Nat) : Nat := isqrtAux n 48 0

/-- The soft knee and ceiling (R221). -/
def thornLimit (z : Int) (knee peak : Nat) : Int :=
  let m : Int := z.natAbs
  let r : Int := (peak : Int) - knee
  if m ≤ knee then z
  else
    let o : Int := if r = 0 ∨ m ≥ knee + 2 * r then peak else m - rdiv ((m - knee) * (m - knee)) (4 * r)
    if z > 0 then o else -o

/-- x of the dither generator (R226). -/
def ditherX (seed : BitVec 64) (t gi j : Nat) : BitVec 64 :=
  let x : BitVec 64 := seed + BitVec.ofNat 64 (t * 0x9E3779B97F4A7C15) +
    BitVec.ofNat 64 ((gi * 256 + j) * 0xD1B54A32D192ED03)
  let x := (x ^^^ (x >>> 30)) * 0xBF58476D1CE4E5B9
  let x := (x ^^^ (x >>> 27)) * 0x94D049BB133111EB
  x ^^^ (x >>> 31)

/-- The two dither terms u1, u2 for shift `s` (R226). -/
def tpdf (seed : BitVec 64) (t gi j s : Nat) : Nat × Nat :=
  let x := (ditherX seed t gi j).toNat
  (x % 2 ^ 32 / 2 ^ (32 - s), x / 2 ^ (64 - s))

/-- The port word of `b` bits for z (R226). -/
def toPort (z : Int) (b : Nat) (noDither : Bool) (seed : BitVec 64) (t gi j : Nat) : Int :=
  if b = 32 then clampTo 32 (z * 16)
  else
    let s := 28 - b
    let u : Nat × Nat := if noDither then (0, 0) else tpdf seed t gi j s
    clampTo b (roundHalfEven (z + u.1 - u.2) s)

/-- The number of a channel sample: kind, port, channel, sample within the tick. -/
def chanKey (kind port ch j : Nat) : Nat := (((kind * 256 + port) * 65536) + ch) * 16 + j

/-- Quickset samples per tick (R145). -/
def State.qsPerTick (s : State) : Nat := 16 / 2 ^ s.fld Reg.TICK_RATE_mult

/-- The rate of an output over 44.1 or 48 kHz: k × base, or 16 on the Quickset path. -/
def rateFactor (s : State) (k : Nat) (qs : Bool) : Nat := if qs then 16 else k * 2 ^ s.fld Reg.TICK_RATE_mult

/-- kdc of Table 09.6. -/
def kdc (factor : Nat) : Nat := 16 + Nat.log2 factor

/-- The mean-square coefficient a, computed at load (R221). -/
def msCoeff (s : State) (window factor : Nat) : Int :=
  rdiv (2 ^ 32 * 1000) (window * ((if s.fld Reg.TICK_RATE_family = 0 then 48000 else 44100) * factor))

/-- Normal service (R222). -/
def State.normal (s : State) : Bool := s.boot == bootRun && !s.jtag

/-- Bit `i` of guard `gi`'s hot history: the sample `i` boundaries before the last one. -/
def hotAt (s : State) (gi i : Nat) : Bool := storeGet 0 s.hot gi / 2 ^ i % 2 == 1

/-- The boundary hot sample that decides launch tick `t` is that of boundary t − 2 (Table 09.7, Thermal link). -/
def hotFor (s : State) (gi t : Nat) : Bool := hotAt s gi (s.tick + 2 - t)

/-- Partition `p`'s outputs are muted in launch tick `t`: from r or s to c (Table 09.7, Partition). -/
def partMuted (s : State) (p t : Nat) : Bool :=
  (match s.partOp p with
   | some o => decide (o.start ≤ t)
   | none => false) || decide (t < storeGet 0 s.muteEnd p)

/-- The TWIN group of an output. -/
def twinGroup (s : State) (kind port ch : Nat) : Option TwinRec :=
  s.str.twin.find? (fun r => r.kind == kind && r.port == port && r.channel == ch)

/-- A divergence mute of group `g` holds in launch tick `t` (R241): from its first launch tick to the one that ends it. -/
def divergeMuted (s : State) (g t : Nat) : Bool :=
  let f := storeGet 0 s.twin.muteFrom g
  let e := storeGet 0 s.twin.muteTo g
  f != 0 && decide (f ≤ t + 1) && (e == 0 || decide (t + 1 < e))

/-- A twin-policy mute holds for the output in launch tick `t` (Table 09.7): a divergence mute, or the unripe policy, which
keeps the group floated (Table 10.10). -/
def twinMuted (s : State) (kind port ch t : Nat) : Bool :=
  match twinGroup s kind port ch with
  | some r => divergeMuted s r.group t || s.twin.kept.contains r.group
  | none => false

/-- The output group of a channel is kept floated by the unripe policy (Table 10.10). -/
def keptFloated (s : State) (kind port ch : Nat) : Bool :=
  match twinGroup s kind port ch with
  | some r => s.twin.kept.contains r.group
  | none => false

/-- A self-detected fault floats every output (R270 step 2): all but a FAULT on a single device that is not counted. -/
def State.faultFloats (s : State) : Bool := s.faultStart && s.floated

/-- Mute causes of Table 09.7 in launch tick `t`, numbered as trips (Table 09.8); 8 is the service mute, which holds on every output
from the moment a fault floats it (R270 step 3). -/
def muteCauses (s : State) (gi : Nat) (r : ThornRec) (part t : Nat) (dcs : Int) : List Nat :=
  (if r.dc ≠ 0 ∧ (r.dc : Int) < ((dcs / 2 ^ 32).natAbs : Int) then [3] else []) ++
  (if r.flags % 2 = 1 ∧ s.faultLoad then [4] else []) ++
  (if r.flags / 4 % 2 = 1 ∧ hotFor s gi t then [5] else []) ++
  (if partMuted s part t then [6] else []) ++
  (if twinMuted s r.kind r.port r.channel t then [7] else []) ++
  (if (s.normal = false ∧ r.flags / 2 % 2 = 0) ∨ s.faultFloats = true then [8] else [])

/-- Logs a trip (R228): the next of 16 entries, the overwrite flag, and the cause's bit. -/
def logTrip (s : State) (gi cause t : Nat) : State :=
  let i := s.fld Reg.THN_TRIP_WP_next
  let s := if s.fld (Reg.THN_TRIP_LOG1_valid i) = 1 then s.setFld Reg.THN_STAT_log_over 1 else s
  let s := s.setReg (Reg.THN_TRIP_LOG0 i) (BitVec.ofNat 32 t)
  let s := s.setReg (Reg.THN_TRIP_LOG1 i) (BitVec.ofNat 32 (2 ^ 31 + cause * 65536 + gi % 4096))
  let s := (s.setFld Reg.THN_TRIP_WP_next (i + 1)).setFld Reg.THN_TRIP_WP_count
    (min 16 (s.fld Reg.THN_TRIP_WP_count + 1))
  s.setFld ⟨Reg.THN_STAT, cause, 1⟩ 1

/-- The guard enters launch tick `t`: what was present in the tick before is kept (R228). -/
def Guard.enter (g : Guard) (t : Nat) : Guard :=
  if g.tick = t then g
  else { g with tick := t, prev := if g.tick + 1 = t then g.now else [], now := [], logged := [] }

/-- Notes the causes present on one sample of launch tick `t` and logs the trips among `may` (R228). The service mute (8) is
never logged. -/
def noteCauses (s : State) (gi : Nat) (g : Guard) (t : Nat) (cs may : List Nat) : State × Guard :=
  let g := g.enter t
  let trips := may.filter (fun c => decide (c ≤ 7) && !g.prev.contains c && !g.logged.contains c)
  (trips.foldl (fun s c => logTrip s gi c t) s,
   { g with now := g.now ++ cs.filter (fun c => !g.now.contains c), logged := g.logged ++ trips, last := cs })

/-- What one sample of a guard gives: the port word, the port word before any mute (R240), and whether it is muted. -/
structure ThornOut where
  st : State
  word : Word
  raw : Word
  muted : Bool

/-- The mutes on a word of launch tick `t`. In a Quickset frame that starts before the launch instant, `tm` is the launch tick before:
a mute that starts at launch tick `t` does not hold there yet, and one that has ended no longer does (R227). -/
def mutesOn (s : State) (gi : Nat) (r : ThornRec) (part t tm : Nat) (dcs : Int) : List Nat :=
  (muteCauses s gi r part t dcs).filter (fun c => (muteCauses s gi r part tm dcs).contains c)

/-- One sample of guard `gi` (R221 to R228): input `y`, launch tick `t` and sample `j` of the word, the launch tick `tm`
from which mutes count (`t`, but for a Quickset frame that starts before the launch instant, R227), rate factor, port word
length. A reduction or a clip is present whether or not a mute or the bypass of R222 hides it, and is a trip only where the
word is not muted, in normal service (R228; DEDUCED, log entry 125). Causes 9 and 10 (the knee and the ceiling have acted on
the word) are shown by THN_GSTAT alone. -/
def thornSample (s : State) (gi : Nat) (r : ThornRec) (part : Nat) (y : Word) (t tm j factor bits : Nat) : ThornOut :=
  let g := storeGet {} s.guards gi
  let dcs := g.dcs + (y.toInt * 2 ^ 32 - g.dcs) / 2 ^ kdc factor
  let ms := g.ms + roundHalfEven ((y.toInt * y.toInt - g.ms) * msCoeff s r.window factor) 32
  let g := { g with dcs := dcs, ms := ms }
  let q := isqrt ms.toNat
  let gain : Nat := if q ≤ r.rms then 2 ^ 27 else r.rms * 2 ^ 27 / q
  let z := roundHalfEven (y.toInt * gain) 27
  let l := thornLimit z r.knee r.peak
  let o := if s.normal then l else z
  let loud := (if l.natAbs = r.peak then [1] else []) ++ (if gain < 2 ^ 27 then [2] else [])
  let w := BitVec.ofInt 32 (toPort o bits (r.flags / 8 % 2 == 1) s.str.seed t gi j)
  let mutes := mutesOn s gi r part t tm dcs
  if mutes ≠ [] then
    let n := noteCauses s gi g t (mutes ++ loud) mutes
    ⟨{ n.1 with guards := storeSet {} n.1.guards gi n.2 }, 0, w, true⟩
  else
    let acted := if s.normal then (if l ≠ z then [9] else []) ++ (if l.natAbs = r.peak then [10] else []) else []
    let n := noteCauses s gi { g with gain := gain } t (loud ++ acted) (if s.normal then loud else [])
    ⟨{ n.1 with guards := storeSet {} n.1.guards gi n.2 }, w, w, false⟩

/-- The guard of an output: its number and its THORN record. -/
def guardOf (s : State) (kind port ch : Nat) : Option (Nat × ThornRec) :=
  (s.str.thorn.zipIdx.find? (fun r => r.1.kind == kind && r.1.port == port && r.1.channel == ch)).map
    (fun r => (r.2, r.1))

/-! ### The fault mute at the port (R224) -/

/-- Guard `gi` meets the fault mute on a word of launch tick `t` that it formed before the fault: the trip falls in that launch
tick (R224, R228). -/
def noteFault (s : State) (gi t : Nat) : State :=
  let g := storeGet {} s.guards gi
  if g.tick = t then
    let n := noteCauses s gi g t (if g.last.contains 4 then g.last else 4 :: g.last) [4]
    { n.1 with guards := storeSet {} n.1.guards gi n.2 }
  else if g.tick = t + 1 ∧ g.prev.contains 4 = false then
    let s := logTrip s gi 4 t
    { s with guards := storeSet {} s.guards gi { g with prev := 4 :: g.prev } }
  else s

/-- A self-detected fault mutes the output, whatever its guard formed before (R224). -/
def faultMuted (s : State) (kind port ch : Nat) : Bool :=
  s.faultLoad && (guardOf s kind port ch).any (fun g => g.2.flags % 2 == 1)

/-- The launch tick of the words that are leaving. -/
def State.launchTick (s : State) : Nat := s.io.launched - 1

/-- Sample `j` of an output channel as its port launches it: what its guard formed, or 0 under the fault mute (R224) or the service
mute of a fault that floats the outputs (R270). -/
def launchWord (s : State) (kind port ch j : Nat) : State × Word :=
  if s.faultFloats then (s, 0)
  else if faultMuted s kind port ch then
    ((guardOf s kind port ch).toList.foldl (fun s g => noteFault s g.1 s.launchTick) s, 0)
  else (s, storeGet 0 s.io.outNow (chanKey kind port ch j))

/-! ### Registers of the block -/

/-- THN_CTL.log_clr: clears every entry's valid bit and THN_TRIP_WP. -/
def clearTrips (s : State) : State :=
  ((List.range 16).foldl (fun s i => s.setFld (Reg.THN_TRIP_LOG1_valid i) 0) s).resetReg Reg.THN_TRIP_WP

/-- THN_LOG_CLR (R228). -/
def execThnLogClr (s : State) : Host.Outcome State Fault Refusal := .next (gated s Reg.THN_CTL (clearTrips s))

/-- JTAG_INSTRUCTION (R222): an instruction other than BYPASS or IDCODE is loaded, or one of these two replaces it. -/
def execJtagInstruction (test : Bool) (s : State) : Host.Outcome State Fault Refusal := .next { s with jtag := test }

/-- THN_LIMIT as read for the selected guard. -/
def thnLimit (s : State) (w : Nat) : Word :=
  match s.str.thorn[s.fld Reg.THN_SEL_guard]? with
  | none => 0
  | some r => BitVec.ofNat 32 (match w with
    | 0 => r.peak
    | 1 => r.knee
    | 2 => r.rms
    | 3 => r.dc
    | 4 => r.flags / 4 % 2 * 2 ^ 31 + r.flags / 2 % 2 * 2 ^ 30 + r.flags % 2 * 2 ^ 29 + r.amonHot / 2 ^ 15 % 2 * 2 ^ 28 +
        r.amonHot % 4096 * 65536 + r.window
    | _ => r.channel % 4096 * 2 ^ 20 + r.port * 4096 + r.kind * 1024 + 16 + r.flags / 8 % 2 * 8 + r.amon)

/-- THN_GSTAT as read for the selected guard. -/
def thnGstat (s : State) : Word :=
  let g := storeGet {} s.guards (s.fld Reg.THN_SEL_guard)
  let b (c p : Nat) : Nat := if g.last.contains c then 2 ^ p else 0
  let n (c p : Nat) : Nat := if g.now.contains c then 2 ^ p else 0
  BitVec.ofNat 32 (g.gain / 4096 * 65536 + n 10 7 + n 9 6 + b 7 5 + b 8 4 + b 6 3 + b 5 2 + b 4 1 + b 3 0)

/-- THN_SIL_CNT as read for the selected record. -/
def thnSilCnt (s : State) : Word :=
  let i := s.fld Reg.THN_SIL_SEL_record
  BitVec.ofNat 32 ((if storeGet false s.silent i then 2 ^ 31 else 0) + storeGet 0 s.silence i)

/-! ### Thermal links (R225) -/

/-- The linked input is hot now: the newest GOOD code meets the threshold, or the input is OPEN, not enabled, or has
produced no GOOD conversion since it was enabled. -/
def hotNow (s : State) (r : ThornRec) : Bool :=
  let code := s.fld (Reg.MON_AMON_DATA_code r.amon)
  let thr := r.amonHot % 4096
  s.fld (Reg.MON_AMON_CTL_en r.amon) == 0 || s.fld (Reg.MON_AMON_DATA_open r.amon) == 1 ||
    !storeGet false s.amonGood r.amon ||
    (if r.amonHot / 2 ^ 15 % 2 = 1 then decide (code ≤ thr) else decide (thr ≤ code))

/-- Every thermal link samples its input at the boundary (R225). A twin that followed in the tick that has ended has by now received the
owner's sample of the boundary before, which takes the place of its own; without it its own stands, with TWN_STAT.input_own set (R237). -/
def sampleLinks (s : State) : State :=
  s.str.thorn.zipIdx.foldl (fun s r =>
    if r.1.flags / 4 % 2 = 1 then
      let h := storeGet 0 s.hot r.2
      let past : Nat × Bool :=
        if s.twin.followed then
          match storeFind s.twin.ownerHot r.2 with
          | some o => (h / 2 * 2 + o % 2, false)
          | none => (h, true)
        else (h, false)
      let s := if past.2 then s.setFld Reg.TWN_STAT_input_own 1 else s
      { s with hot := storeSet 0 s.hot r.2 ((past.1 * 2 + (hotNow s r.1).toNat) % 16) }
    else s) s

/-! ### Silence (R229) -/

/-- T of Table 09.9. -/
def silenceThr (n : Nat) : Nat := match n with | 0 => 0 | 1 => 2 ^ 7 | 2 => 2 ^ 10 | _ => 2 ^ 13

/-- Sample `j` of an input channel as one record reads it: a TDM slot is kept as received and converted with the
record's word length (R144, R286); other ports keep samples converted. -/
def ioSample (s : State) (r : IoRec) (j : Nat) : Word :=
  let v := storeGet 0 s.io.inTick (chanKey r.kind r.port r.channel j)
  if r.kind = 1 then BitVec.ofInt 32 (convIn r.wordBits (v.toInt / 2 ^ (32 - r.wordBits))) else v

/-- Every sample of the channel in the last captured tick has |x| ≤ T. -/
def tickSilent (s : State) (r : IoRec) : Bool :=
  (List.range 16).all (fun j => decide ((ioSample s r j).toInt.natAbs ≤
    silenceThr (s.fld Reg.THN_SIL_CTL_thr)))

/-- The silence detectors at a boundary (R229). -/
def updateSilence (s : State) : State :=
  (s.str.io.filter (fun r => r.dir == 0)).foldl (fun s r =>
    let q := tickSilent s r
    let n := storeGet 0 s.silence r.num
    { s with silence := storeSet 0 s.silence r.num (if q then min (2 ^ 24 - 1) (n + 1) else 0),
             silent := storeSet false s.silent r.num q }) s

end Sys2Proof.Machine
end

