-- ==== Sys2Proof/Machine/Net.lean ====
section
/-!
DEFINITION. Machine/Net.lean: Ethernet ports, stream tables, receive and transmit streams, the media origin and the PTP
hardware clock (R298 to R310). RTP header fields lie as RFC 3550 has them (log entry 6).
-/
namespace Sys2Proof.Machine

/-- A big-endian number, as network headers and payloads hold it. -/
def beNat (b : List Byte) : Nat := b.foldl (fun n x => n * 256 + x.toNat) 0

/-- A little-endian number (R188). -/
def leNat (b : List Byte) : Nat := b.foldr (fun x n => x.toNat + 256 * n) 0

/-! ### Ports (R298, Table 13.2) -/

/-- The PORTCFG record of a port. -/
def State.portCfg (s : State) (kind port : Nat) : Option PortRec :=
  s.str.ports.find? (fun r => r.kind == kind && r.port == port)

/-- Byte `i` of the settings of a PORTCFG record; offset 0x04 is byte 0. -/
def PortRec.byte (r : PortRec) (i : Nat) : Nat := r.set.getD i 0

/-- A 4-byte field of the settings. -/
def PortRec.word (r : PortRec) (i : Nat) : Nat :=
  r.byte i + 256 * r.byte (i + 1) + 65536 * r.byte (i + 2) + 2 ^ 24 * r.byte (i + 3)

/-- The port's own IPv4 address: ip_b for role B, else ip_a (R299). -/
def ownIp (s : State) (port : Nat) : Nat :=
  match s.portCfg 0 port with
  | none => 0
  | some r => if s.twinMode ∧ s.fld Reg.TWN_STAT_role = 1 then r.word 8 else r.word 4

/-- NET_LINK_CHANGE (R298): the link of a port comes up in its current mode, or goes down. -/
def execNetLinkChange (port : Fin 4) (up : Bool) (s : State) : Host.Outcome State Fault Refusal :=
  let p := port.val
  if up then .next ({ s with net := { s.net with downMs := storeSet 0 s.net.downMs p 0 } }.setFld
    (Reg.NET_PORT_STAT_link p) 1)
  else if s.fld (Reg.NET_PORT_STAT_link p) = 1 then
    .next ((s.setFld (Reg.NET_PORT_STAT_link p) 0).setFld (Reg.NET_PORT_STAT_link_lost p) 1)
  else .next s

/-- NET_FALLBACK (R298): 2 s without a link, a port with fallback set runs 1000BASE-X instead of its configured
10GBASE-R or 25GBASE-R, or tries the configured mode again. -/
def execNetFallback (port : Fin 4) (s : State) : Host.Outcome State Fault Refusal :=
  let p := port.val
  match s.portCfg 0 p with
  | none => .next s
  | some r =>
    if r.byte 2 % 2 = 1 ∧ 2 ≤ r.byte 0 ∧ s.fld (Reg.NET_PORT_STAT_link p) = 0 ∧ 2000 ≤ storeGet 0 s.net.downMs p then
      let s : State := { s with net := { s.net with downMs := storeSet 0 s.net.downMs p 0 } }
      if s.fld (Reg.NET_PORT_STAT_fallback p) = 1 then
        .next ((s.setFld (Reg.NET_PORT_STAT_fallback p) 0).setFld (Reg.NET_PORT_STAT_mode p) (r.byte 0))
      else .next ((s.setFld (Reg.NET_PORT_STAT_fallback p) 1).setFld (Reg.NET_PORT_STAT_mode p) 1)
    else .next s

/-! ### Stream entries (Table 13.7) -/

/-- Bits a NET_STRW word keeps; the others are reserved. -/
def strMask (w : Nat) : Word :=
  match w with
  | 0 => 0xFF7E07FF
  | 5 => 0xF000007F
  | _ => 0xFFFFFFFF

/-- Word `w` of an entry. -/
def strW (e : List Word) (w : Nat) : Word := e.getD w 0

def strEn (e : List Word) : Bool := bitsOf (strW e 0) 31 1 == 1
def strEnc (e : List Word) : Nat := bitsOf (strW e 0) 29 2
def strRate (e : List Word) : Nat := bitsOf (strW e 0) 27 2
def strPtime (e : List Word) : Nat := bitsOf (strW e 0) 24 3
def strChans (e : List Word) : Nat := bitsOf (strW e 0) 17 6 + 1
def strFirst (e : List Word) : Nat := bitsOf (strW e 0) 0 11
def strDst (e : List Word) (leg : Nat) : Word := strW e (1 + leg)
def strUdp (e : List Word) (leg : Nat) : Nat := bitsOf (strW e 3) (16 - 16 * leg) 16
def strPort (e : List Word) (leg : Nat) : Nat := bitsOf (strW e 5) (30 - 2 * leg) 2
def strPt (e : List Word) : Nat := bitsOf (strW e 5) 0 7
def strDelay (e : List Word) : Nat := bitsOf (strW e 7) 0 16
def strSeqOfs (e : List Word) : Nat := bitsOf (strW e 7) 16 16

/-- Stream rate in Hz. -/
def rateHz (r : Nat) : Nat := match r with | 0 => 44100 | 1 => 48000 | 2 => 96000 | _ => 0

/-- k of R300: stream rate over base rate, 0 where Table 13.3 does not allow the rate. -/
def strK (s : State) (e : List Word) : Nat :=
  let b := s.baseRate
  match strRate e with
  | 0 => if b = 44100 then 1 else 0
  | 1 => if b = 48000 then 1 else 0
  | 2 => if b = 48000 then 2 else if b = 96000 then 1 else 0
  | _ => 0

/-- Samples per packet N (Table 13.4). -/
def strN (e : List Word) : Nat :=
  let m := if strRate e = 2 then 2 else 1
  match strPtime e, strRate e with
  | 0, _ => 6 * m
  | 1, 0 => 11
  | 1, _ => 12 * m
  | 2, 0 => 15
  | 2, _ => 16 * m
  | 3, 0 => 44
  | 3, _ => 48 * m
  | 4, 0 => 176
  | 4, _ => 192 * m
  | _, _ => 0

/-- Bytes of one sample on the wire. -/
def encBytes (enc : Nat) : Nat := match enc with | 0 => 2 | 1 => 3 | _ => 4

/-- Audio bits of an encoding (R301). -/
def encBits (enc : Nat) : Nat := if enc = 0 then 16 else 24

/-- Table key of an entry. -/
def strKey (tx : Bool) (i : Nat) : Nat := (if tx then 512 else 0) + i

/-- The entry in force. -/
def State.entry (s : State) (key : Nat) : List Word := storeGet [] s.net.entries key

/-- The entry as it will stand once every accepted write has taken effect. -/
def entryLater (s : State) (key : Nat) : List Word :=
  (s.net.writes.filter (fun w => w.2.1 == key)).foldl (fun _ w => w.2.2) (s.entry key)

/-- Buffer words an entry costs (R304). -/
def entryCost (s : State) (tx : Bool) (e : List Word) : Nat :=
  if strEn e then strChans e * ((if tx then 0 else strDelay e) + strN e + strK s e) else 0

/-- Every entry of one table as it will stand, by index. -/
def tableLater (s : State) (tx : Bool) : List (Nat × List Word) :=
  let keys := (s.net.entries.map (·.1) ++ s.net.writes.map (fun w => w.2.1)).eraseDups
  (keys.filter (fun k => decide (512 ≤ k) == tx)).map (fun k => (k, entryLater s k))

/-- Buffer words committed by one table. -/
def bufferUsed (s : State) (tx : Bool) : Nat := ((tableLater s tx).map (fun e => entryCost s tx e.2)).sum

/-- A field of an entry lies out of range (R300, R301). -/
def entryRange (s : State) (tx : Bool) (e : List Word) : Bool :=
  let k := strK s e
  let chansOk := (s.str.io.filter (fun r => r.kind == 0 && r.dir == tx.toNat && inRun (strFirst e) (strChans e) r.channel)).all
    (fun r => r.wordBits == encBits (strEnc e) && r.k == k)
  decide (strEnc e = 3 ∨ k = 0 ∨ strN e = 0 ∨ 2048 < strFirst e + strChans e ∨
    1440 < strChans e * strN e * encBytes (strEnc e)) || !chansOk ||
    (if tx then decide (strPt e < 96) else
      decide ((strPt e ≠ 0 ∧ strPt e < 96) ∨ strDelay e < k ∨ 16384 < strDelay e ∨ strDelay e % k ≠ 0))
where
  inRun (a n c : Nat) : Bool := decide (a ≤ c ∧ c < a + n)

/-- A receive entry overlaps an enabled receive entry's channels or legs, or an Audon endpoint, or its own legs are one (R301). -/
def entryDuplicate (s : State) (key : Nat) (e : List Word) : Bool :=
  let others := (tableLater s false).filter (fun o => o.1 != key && strEn o.2)
  let overlap := others.any (fun o => decide (strFirst e < strFirst o.2 + strChans o.2 ∧
    strFirst o.2 < strFirst e + strChans e))
  let legs := [0, 1].filter (fun l => strDst e l != 0)
  let sameLeg := legs.any (fun l => others.any (fun o => [0, 1].any (fun m => strDst o.2 m == strDst e l &&
    strUdp o.2 m == strUdp e l && strPort o.2 m == strPort e l)))
  let twice := legs == [0, 1] && strDst e 0 == strDst e 1 && strUdp e 0 == strUdp e 1 && strPort e 0 == strPort e 1
  let audon := legs.any (fun l => s.net.filt.any (fun f => bitsOf (strW f.2 0) 31 1 == 1 &&
    bitsOf (strW f.2 0) (24 + strPort e l) 1 == 1 && bitsOf (strW f.2 1) 0 16 == strUdp e l &&
    (strDst e l).toNat == ownIp s (strPort e l)))
  overlap || sameLeg || audon || twice

/-- The status of a stream-table write (R301, Table 13.5). -/
def entryStatus (s : State) (tx : Bool) (key : Nat) (e : List Word) : Nat :=
  if entryRange s tx e then 1
  else if strEn e ∧ tx = false ∧ entryDuplicate s key e then 2
  else if (if tx then 131072 else 262144) < bufferUsed s tx - entryCost s tx (entryLater s key) + entryCost s tx e then 3
  else if s.follows ∨ s.boot ≠ bootRun then 4
  else 0

/-- The table and index that NET_STR_SEL selects. -/
def selKey (s : State) : Nat := strKey (s.fld Reg.NET_STR_SEL_tx == 1) (s.fld Reg.NET_STR_SEL_index)

/-- NET_STR_CMD with go and op 0: the selected entry appears in NET_STRWw. -/
def streamRead (s : State) : State :=
  ((List.range 8).foldl (fun t w => t.setReg (Reg.NET_STRW w) (strW (s.entry (selKey s)) w)) s).setFld
    Reg.NET_STR_CMD_status 0

/-- Accepts a stream-table write for boundary `t`. -/
def addStreamWrite (s : State) (key t : Nat) (e : List Word) : State :=
  { s with net := { s.net with writes := s.net.writes ++ [(t, key, e)] } }

/-- NET_STR_CMD with go and op 1 (R301, R302). -/
def streamWrite (s : State) : State :=
  let tx := s.fld Reg.NET_STR_SEL_tx == 1
  let key := selKey s
  let e := (List.range 8).map (fun w => s.reg (Reg.NET_STRW w))
  let st := entryStatus s tx key e
  let s := s.setFld Reg.NET_STR_CMD_status st
  if st = 0 then
    let t := s.tick + 2 + s.pl
    let s := (addStreamWrite s key t e).setReg Reg.NET_STR_TICK (BitVec.ofNat 32 t)
    forward s (fun n => .stream n key t e)
  else s

/-- STREAM_ENTRY_READ (R301): NET_STR_CMD written with go and op 0. -/
def execStreamEntryRead (s : State) : Host.Outcome State Fault Refusal :=
  .next (gated s Reg.NET_STR_CMD (streamRead (s.setFld Reg.NET_STR_CMD_op 0)))

/-- STREAM_ENTRY_WRITE (R301): NET_STR_CMD written with go and op 1. -/
def execStreamEntryWrite (s : State) : Host.Outcome State Fault Refusal :=
  .next (gated s Reg.NET_STR_CMD (streamWrite (s.setFld Reg.NET_STR_CMD_op 1)))

/-- The key under which the packet in progress of transmit entry `key` ends: `key` plus the first multiple of 1,024 that no other
ending stream holds. -/
def endKey (n : Net) (key : Nat) : Nat :=
  (((List.range 16).map (fun i => key + 1024 * (i + 1))).find? (fun k => (storeFind n.txEnding k).isNone)).getD (key + 1024 * 17)

/-- One accepted write takes effect: a receive stream's buffer empties; a transmit stream that ran ends after the packet
in progress, under a key of its own, and the new one waits for its first packet boundary (R302). -/
def applyEntry (s : State) (key : Nat) (e : List Word) : State :=
  let n := s.net
  let k := endKey n key
  let n := if key < 512 then { n with rx := n.rx.filter (fun r => r.entry != key) }
    else if storeGet false n.txOn key then
      { n with txOn := storeSet false (storeSet false n.txOn key false) k true, txEnding := storeIns k (s.entry key) n.txEnding,
               tx := n.tx.map (fun t => if t.1 = key then (k, t.2) else t) }
    else n
  { s with net := { n with entries := storeSet [] n.entries key e } }

/-- The accepted writes that are due take effect (R302). -/
def applyStreams (s : State) : State :=
  let due := s.net.writes.filter (fun w => decide (w.1 ≤ s.tick))
  due.foldl (fun s w => applyEntry s w.2.1 w.2.2)
    { s with net := { s.net with writes := s.net.writes.filter (fun w => decide (s.tick < w.1)) } }

/-- STREAM_ENTRY_APPLY (R302). -/
def execStreamEntryApply (s : State) : Host.Outcome State Fault Refusal := .next (applyStreams s)

/-! ### Counters -/

/-- The counters of an entry. -/
def State.cnt (s : State) (key : Nat) : StreamCnt := storeGet {} s.net.counts key

/-- Stores the counters of an entry. -/
def State.setCnt (s : State) (key : Nat) (c : StreamCnt) : State :=
  { s with net := { s.net with counts := storeSet {} s.net.counts key c } }

/-- A packet counted on a leg, modulo 2^16. -/
def StreamCnt.leg (c : StreamCnt) (l : Nat) : StreamCnt :=
  if l = 0 then { c with leg0 := (c.leg0 + 1) % 65536 } else { c with leg1 := (c.leg1 + 1) % 65536 }

/-- NET_CTL.cnt_clr. -/
def clearNetCounts (s : State) : State :=
  (List.range 4).foldl (fun s p => (s.setFld (Reg.NET_PORT_STAT_rx_drop p) 0).setFld (Reg.NET_PORT_STAT_crc_err p) 0)
    { s with net := { s.net with counts := [] } }

/-- NET_CNT_CLR (R299). -/
def execNetCntClr (s : State) : Host.Outcome State Fault Refusal := .next (gated s Reg.NET_CTL (clearNetCounts s))

/-- A write of NET_CTL: the mode takes effect at the next boundary (R307). -/
def netCtlWrite (s : State) (v : Word) : State :=
  let s := s.setFld Reg.NET_CTL_tx_mode (bitsOf v 0 1)
  if bitsOf v 1 1 = 1 then clearNetCounts s else s

/-- NET_TX_MODE_WRITE (R307). -/
def execNetTxModeWrite (v : Word) (s : State) : Host.Outcome State Fault Refusal := .next (gated s Reg.NET_CTL (netCtlWrite s v))

/-! ### Receiving (R299, R303, R305) -/

/-- The RTP header of a payload: payload type, timestamp and samples; CSRCs and header extensions are skipped. -/
def rtpParse (p : List Byte) : Option (Nat × Nat × List Byte) :=
  let b0 := beNat (p.take 1)
  if p.length < 12 ∨ b0 / 64 ≠ 2 then none
  else
    let body := p.drop (12 + 4 * (b0 % 16))
    let body := if b0 / 16 % 2 = 1 then body.drop (4 + 4 * beNat ((body.drop 2).take 2)) else body
    let pad := if b0 / 32 % 2 = 1 then beNat (body.drop (body.length - 1)) else 0
    some (beNat ((p.drop 1).take 1) % 128, beNat ((p.drop 4).take 4), body.take (body.length - pad))

/-- The nearest value to `near` that is `x` mod 2^32 (R303). -/
def unwrap32 (x : Int) (near : Int) : Int :=
  let d := (x - near) % 2 ^ 32
  if d < 2 ^ 31 then near + d else near + d - 2 ^ 32

/-- Audio bits of one sample of an encoding (R305: AM824 uses its 24 audio bits). -/
def sampleBits (enc : Nat) (b : List Byte) : Int :=
  match enc with
  | 0 => (BitVec.ofNat 16 (beNat b)).toInt
  | 1 => (BitVec.ofNat 24 (beNat b)).toInt
  | _ => (BitVec.ofNat 24 (beNat (b.drop 1))).toInt

/-- The media origin. -/
def State.origin (s : State) : Nat := (s.reg Reg.NET_MEDIA_ORG0).toNat + 2 ^ 32 * (s.reg Reg.NET_MEDIA_ORG1).toNat

/-- An IPv4 multicast address. -/
def isMulticast (a : Word) : Bool := bitsOf a 28 4 == 14

/-- The leg of receive entry `e` that a datagram on `port` matches (R303): its destination is multicast or the port's own address. -/
def matchLeg (s : State) (port : Nat) (d : Udp) (pt : Nat) (e : List Word) : Option Nat :=
  if strEn e ∧ (isMulticast d.dst ∨ d.dst.toNat = ownIp s port) then
    [0, 1].find? (fun l => strDst e l != 0 && strDst e l == d.dst && strPort e l == port &&
      strUdp e l == d.dport.toNat && (strW e 4 == 0 || strW e 4 == d.src) && (strPt e == 0 || strPt e == pt))
  else none

/-- Adds one sample unless its tick has been captured or it is in the buffer already (R305). -/
def addSample (s : State) (k d : Nat) (r : RxSample) : State :=
  if (r.s + d) / k < s.net.captured then s
  else if s.net.rx.any (fun q => q.entry == r.entry && q.chan == r.chan && q.s == r.s) then s
  else { s with net := { s.net with rx := s.net.rx ++ [r] } }

/-- A packet on leg `leg` of receive entry `key` (R303, R305). -/
def streamPacket (s : State) (key leg ts : Nat) (body : List Byte) : State :=
  let e := s.entry key
  let k := strK s e
  let d := strDelay e
  let n := strChans e
  let w := encBytes (strEnc e)
  let count := body.length / (n * w)
  let s := s.setCnt key ((s.cnt key).leg leg)
  let s0 := unwrap32 ((ts : Int) - (strW e 6).toNat - k * s.origin) (k * s.tick)
  if count = 0 then s
  else if s0 + (count - 1) + d - k * s.tick > d + strN e then
    s.setCnt key { s.cnt key with early := min 65535 ((s.cnt key).early + 1) }
  else
    (List.range count).foldl (fun s (i : Nat) => (List.range n).foldl (fun s (c : Nat) =>
      addSample s k d ⟨key, c, s0 + (i : Int), BitVec.ofInt 32 (convIn (encBits (strEnc e))
        (sampleBits (strEnc e) ((body.drop ((i * n + c) * w)).take w)))⟩) s) s

/-- The session filter entry that a datagram matches: the lowest index, and whether others match too (R376). -/
def filterMatch (s : State) (port : Nat) (d : Udp) : Option (Nat × Bool) :=
  let ok (f : Nat × List Word) : Bool :=
    bitsOf (strW f.2 0) 31 1 == 1 && bitsOf (strW f.2 0) (24 + port) 1 == 1 &&
    bitsOf (strW f.2 1) 0 16 == d.dport.toNat &&
    (let sh := 32 - min 32 (bitsOf (strW f.2 0) 16 6)
     d.src.toNat / 2 ^ sh == (strW f.2 2).toNat / 2 ^ sh)
  match s.net.filt.filter ok with
  | [] => none
  | f :: r => some (bitsOf (strW f.2 0) 0 8, !r.isEmpty)

/-- Bytes waiting in the Audon input buffer. -/
def audonBytes (s : State) : Nat := (s.net.audonIn.map (fun a => a.2.2.length)).sum

/-- A datagram of the session engine (R376, R380). -/
def audonDatagram (s : State) (part : Nat) (more : Bool) (d : Udp) : State :=
  let s := if more then s.satInc Reg.SES_CNT1_overlap else s
  if 65536 < audonBytes s + d.payload.length then s.satInc Reg.SES_CNT0_rx_drop
  else { s with net := { s.net with
    audonIn := s.net.audonIn ++ [(part, d.src.toNat * 65536 + d.sport.toNat, d.payload)] } }

/-- Class 3 of R299: the receive entries whose legs match. -/
def streamMatch (s : State) (port : Nat) (d : Udp) : Option (Nat × Nat × Nat × List Byte) :=
  match rtpParse d.payload with
  | none => none
  | some (pt, ts, body) =>
    (s.net.entries.filter (fun e => decide (e.1 < 512))).findSome? (fun e =>
      (matchLeg s port d pt e.2).map (fun l => (e.1, l, ts, body)))

/-- Nanoseconds of the PHC since its epoch. -/
def phcNs (s : State) : Nat := s.net.sec * 10 ^ 9 + s.net.ns

/-- A frame is passed to the supervisor (R299). -/
def passSv (s : State) (f : SvFrame) : State := { s with net := { s.net with toSv := s.net.toSv ++ [f] } }

/-- The hardware timestamp of a message whose timestamp point lies `ns` after the boundary, in tenths of a nanosecond and in steps of
8 ns at 1000BASE-X, of 1.6 ns otherwise (Table 13.8). -/
def ptpStamp (s : State) (p ns : Nat) : Nat :=
  let t := 10 * (phcNs s + ns)
  let q := if s.fld (Reg.NET_PORT_STAT_mode p) = 1 then 80 else 16
  t / q * q

/-- A PTP message (R299, R309): timestamped on a port with ptp_en, unless the watchdog restarts the supervisor, and passed on. -/
def ptpMessage (s : State) (p ns : Nat) (d : Udp) : State :=
  if s.fld Reg.SV_STAT_state ≠ 2 ∧ (s.portCfg 0 p).any (fun r => r.byte 2 / 4 % 2 == 1) then
    raiseEvent (passSv s ⟨p, some (ptpStamp s p ns), .udp d⟩) 3
  else passSv s ⟨p, none, .udp d⟩

/-- Classification of an accepted frame (R299). -/
def classify (s : State) (p ns : Nat) : EthBody → State
  | .udp d =>
    if d.dport = 319 ∨ d.dport = 320 then ptpMessage s p ns d
    else
      match (if d.frag then none else if d.dst.toNat = ownIp s p then filterMatch s p d else none) with
      | some (part, more) =>
        if d.payload.length ≤ 1472 then audonDatagram s part more d else s.satInc (Reg.NET_PORT_STAT_rx_drop p)
      | none =>
        match (if d.frag then none else streamMatch s p d) with
        | some (key, leg, ts, body) => streamPacket s key leg ts body
        | none => s.satInc (Reg.NET_PORT_STAT_rx_drop p)
  | .arp => raiseEvent (passSv s ⟨p, none, .arp⟩) 4
  | .icmp => raiseEvent (passSv s ⟨p, none, .icmp⟩) 4
  | .igmp => raiseEvent (passSv s ⟨p, none, .igmp⟩) 4
  | .pause => s.satInc (Reg.NET_PORT_STAT_rx_drop p)
  | .other => s.satInc (Reg.NET_PORT_STAT_rx_drop p)

/-- The frame falls in one of classes 1 to 4 of R299. -/
def frameClassed (s : State) (p : Nat) : EthBody → Bool
  | .udp d => decide (d.dport = 319 ∨ d.dport = 320) ||
      (!d.frag && ((decide (d.dst.toNat = ownIp s p) && (filterMatch s p d).isSome) || (streamMatch s p d).isSome))
  | .arp => true
  | .icmp => true
  | .igmp => true
  | .pause => false
  | .other => false

/-- A frame on `port` is addressed to the port's MAC address, the device's base plus the port number, to broadcast, or to an IPv4
multicast MAC address, 01-00-5E and a 0 bit (R299; RFC 1112 gives the last, PRESUMED, log entry 140). -/
def macIsOurs (port : Nat) (mac : BitVec 48) : Bool :=
  mac == BitVec.allOnes 48 || mac >>> 23 == (0x01005E000000#48 >>> 23) || mac == Config.macAddr + BitVec.ofNat 48 port

/-- ETH_FRAME_RX (R299): nothing arrives on a port whose link is down. -/
def execEthFrameRx (f : EthFrame) (s : State) : Host.Outcome State Fault Refusal :=
  let p := f.port.val
  if s.domOn 11 = false ∨ s.fld (Reg.NET_PORT_STAT_link p) = 0 then .next s
  else if f.fcsOk = false then .next (s.satInc (Reg.NET_PORT_STAT_crc_err p))
  else if 1522 < f.len ∨ f.body = .pause then .next (s.satInc (Reg.NET_PORT_STAT_rx_drop p))
  else if macIsOurs p f.mac = false then .next s
  else .next (classify s p f.ns.toNat f.body)

/-- The receive channels of one entry at the capture instant of tick `t` (R305): samples found are delivered; a missing one plays as 0
on every channel and is counted once. -/
def captureEntry (s : State) (t key : Nat) : State :=
  let e := s.entry key
  let k := strK s e
  (List.range k).foldl (fun s j =>
    let i : Int := (k * t + j : Nat) - (strDelay e : Int)
    let here (c : Nat) : Option RxSample := s.net.rx.find? (fun r => r.entry == key && r.chan == c && r.s == i)
    let s := (List.range (strChans e)).foldl (fun s c =>
      match here c with
      | some r => { s with io := { s.io with inNow := storeSet 0 s.io.inNow (chanKey 0 0 (strFirst e + c) j) r.val } }
      | none => s) s
    if (List.range (strChans e)).all (fun c => (here c).isSome) then s
    else s.setCnt key { s.cnt key with missing := min 65535 ((s.cnt key).missing + 1) }) s

/-- The capture instant for network channels (R142, R305). -/
def captureNet (s : State) : State :=
  let keys := (s.net.entries.filter (fun e => decide (e.1 < 512) && strEn e.2)).map (·.1)
  let s := keys.foldl (fun s k => captureEntry s s.tick k) s
  { s with net := { s.net with
      captured := s.tick + 1
      rx := s.net.rx.filter (fun r => let e := s.entry r.entry
        decide (((s.tick + 1 : Nat) : Int) ≤ (r.s + strDelay e) / (strK s e : Int))) } }

/-! ### Feeding the transmit streams (R302, R306) -/

/-- The port words of one sample of a transmit stream, in channel order, as they are launched (R223, R224, R306). -/
def launchSample (s : State) (e : List Word) (j : Nat) : State × List Word :=
  (List.range (strChans e)).foldl (fun (x : State × List Word) c =>
    let v := launchWord x.1 0 0 (strFirst e + c) j
    (v.1, x.2 ++ [v.2])) (s, [])

/-- Adds one sample of a transmit stream under `key` (R306). -/
def feedSample (s : State) (key i j : Nat) (e : List Word) : State :=
  let v := launchSample s e j
  { v.1 with net := { v.1.net with tx := v.1.net.tx ++ [(key, i, v.2)] } }

/-- Adds the words of launch tick `m` to one transmit stream, from its first packet boundary on (R302, R306). -/
def feedTx (s : State) (m key : Nat) (e : List Word) : State :=
  let k := strK s e
  (List.range k).foldl (fun s j =>
    let i := k * m + j
    let s : State := if i % strN e = 0 then { s with net := { s.net with txOn := storeSet false s.net.txOn key true } } else s
    if storeGet false s.net.txOn key then feedSample s key i j e else s) s

/-- The same for a stream that ends after the packet in progress (R302): the next packet does not begin. -/
def feedEnding (s : State) (m key : Nat) (e : List Word) : State :=
  let k := strK s e
  (List.range k).foldl (fun s j =>
    let i := k * m + j
    let s : State := if i % strN e = 0 then { s with net := { s.net with txOn := storeSet false s.net.txOn key false } } else s
    if storeGet false s.net.txOn key then feedSample s key i j e else s) s

/-- Streams that have ended are forgotten once their last packet has gone. -/
def dropEnded (s : State) : State :=
  { s with net := { s.net with txEnding := s.net.txEnding.filter (fun e =>
      storeGet false s.net.txOn e.1 || s.net.tx.any (fun t => t.1 == e.1)) } }

/-- The launch instant for network channels. -/
def launchNet (s : State) : State :=
  let s := dropEnded (s.net.txEnding.foldl (fun s e => feedEnding s s.tick e.1 e.2) s)
  (s.net.entries.filter (fun e => decide (512 ≤ e.1) && strEn e.2)).foldl (fun s e => feedTx s s.tick e.1 e.2) s

/-! ### Sending (R306, R307) -/

/-- A fault keeps the device from sending (R243, R270): a faulted twin sends nothing, nor does a single device whose outputs a fault
floats (DEDUCED, log entry 158). -/
def sendsNothing (s : State) : Bool := s.faultStart && (s.twinMode || s.floated)

/-- This device sends leg `l` of a packet whose first sample belongs to launch tick `t` (R307, Table 13.6). A faulted twin sends nothing;
a single device sends always (R306), but not while a fault floats its outputs (R12, R270). In owner-only mode the new owner starts with
the first packet whose first sample belongs to its first owned launch tick, and the old owner of a planned handover ends with the last one before (R249, R251). -/
def sendsLeg (s : State) (l t : Nat) : Bool :=
  if sendsNothing s then false
  else if s.twinMode = false then true
  else if s.net.txMode = 0 then
    (if s.fld Reg.TWN_STAT_owner = 1 then decide (s.twin.pktFrom ≤ t) else decide (t < s.twin.ownUntil))
  else s.fld Reg.TWN_STAT_role == l && (s.fld Reg.TWN_STAT_ripe_state == 4 || s.fld Reg.TWN_STAT_ripe_state == 5)

/-- dscp_media or dscp_ptp of a port (Table 13.2). -/
def portDscp (s : State) (port : Nat) (ptp : Bool) : Nat := ((s.portCfg 0 port).map (fun r => r.byte (if ptp then 19 else 18))).getD 0

/-- VID and PCP of the tag that a port with vlan_en sends (Table 13.2). -/
def portVlan (s : State) (port : Nat) : Option (Nat × Nat) :=
  (s.portCfg 0 port).bind (fun r =>
    if r.byte 2 / 2 % 2 = 1 then some ((r.byte 16 + 256 * r.byte 17) % 4096, (r.byte 16 + 256 * r.byte 17) / 8192) else none)

/-- The packet of R306 for the samples of entry `e` from sample `first` on, as leg `leg` sends it: its source is the sending port's
address for the twin's role (R307). -/
def packetOf (s : State) (e : List Word) (leg first : Nat) (ws : List Word) : RtpPacket :=
  { port := strPort e leg, src := ownIp s (strPort e leg), dst := strDst e leg, udp := strUdp e leg, pt := strPt e, ssrc := strW e 4,
    dscp := portDscp s (strPort e leg) false, vlan := portVlan s (strPort e leg),
    seq := (first / strN e + strSeqOfs e) % 65536,
    ts := (strK s e * s.origin + first + (strW e 6).toNat) % 2 ^ 32, samples := ws }

/-- The first sample of the oldest packet of stream `key` whose N samples have all been launched. -/
def packetDue (s : State) (key n : Nat) : Option Nat :=
  let have' := (s.net.tx.filter (fun t => t.1 == key)).map (fun t => t.2.1)
  if n = 0 then none
  else (have'.find? (fun i => i % n == 0 && (List.range n).all (fun j => have'.contains (i + j))))

/-- Transmit streams by key, with their words: those that end first. -/
def txStreams (s : State) : List (Nat × List Word) :=
  s.net.txEnding ++ s.net.entries.filter (fun e => decide (512 ≤ e.1))

/-- The ports of the enabled legs of an entry. -/
def legPorts (e : List Word) : List Nat := ([0, 1].filter (fun l => strDst e l != 0)).map (strPort e)

/-- The due packets: key, words, first sample, and the launch tick of the last sample, whose instant they wait for. -/
def duePackets (s : State) : List (Nat × List Word × Nat × Nat) :=
  (txStreams s).filterMap (fun x => (packetDue s x.1 (strN x.2)).map (fun i =>
    (x.1, x.2, i, (i + strN x.2 - 1) / strK s x.2)))

/-- Packet `a` goes before packet `b` on a port that both leave by: it became due at an earlier launch instant, or at the same one with a
lower stream index, an ending stream before the new one of its index (R306). -/
def goesBefore (a b : Nat × List Word × Nat × Nat) : Bool :=
  (legPorts a.2.1).any (fun p => (legPorts b.2.1).contains p) &&
    (decide (a.2.2.2 < b.2.2.2) || (a.2.2.2 == b.2.2.2 &&
      (decide (a.1 % 1024 < b.1 % 1024) || (a.1 % 1024 == b.1 % 1024 && decide (b.1 < a.1)))))

/-- Sends a due packet on the legs this device sends. -/
def sendPacket (s : State) (x : Nat × List Word × Nat × Nat) : State :=
  let key := x.1
  let e := x.2.1
  let first := x.2.2.1
  let mine (t : Nat × Nat × List Word) : Bool := t.1 == key && decide (first ≤ t.2.1 ∧ t.2.1 < first + strN e)
  let ws := (s.net.tx.filter mine).flatMap (fun t => t.2.2)
  let s : State := dropEnded { s with net := { s.net with tx := s.net.tx.filter (fun t => !mine t) } }
  ([0, 1].filter (fun l => strDst e l != 0 && sendsLeg s l (first / strK s e))).foldl (fun s l =>
    (({ s with net := { s.net with sent := s.net.sent ++ [packetOf s e l first ws] } } : State).setCnt (key % 1024)
      ((s.cnt (key % 1024)).leg l))) s

/-- STREAM_PACKET_TX (R306): the packet of a transmit stream whose last sample's launch instant has passed leaves, once no other due
packet goes before it on one of its ports. -/
def execStreamPacketTx (index : Fin 512) (s : State) : Host.Outcome State Fault Refusal :=
  if s.domOn 11 = false then .next s else
  let due := duePackets s
  match due.find? (fun x => x.1 % 1024 == strKey true index && !due.any (fun y => goesBefore y x)) with
  | none => .next s
  | some x => .next (sendPacket s x)

/-! ### Precision time (R308, R310) -/

/-- The signed rate correction of NET_PTP_ADJ, clamped (R310). -/
def clampAdj (v : Word) : Int := max (-2147484) (min 2147484 v.toInt)

/-- Bytes put over those of a message from offset `n` on. -/
def spliceBytes (b : List Byte) (n : Nat) (new : List Byte) : List Byte := b.take n ++ new ++ b.drop (n + new.length)

/-- A number as `n` bytes, most significant first. -/
def toBe (n v : Nat) : List Byte := (List.range n).map (fun i => BitVec.ofNat 8 (v / 256 ^ (n - 1 - i)))

/-- The body of a PTP message with transmit timestamp `t`, in tenths of a nanosecond, as it leaves (R309). originTimestamp, 48 bits of
seconds and 32 of nanoseconds, lies at byte 34 of the message, and correctionField, in 2^-16 ns, at byte 8, where IEEE 1588 has them
(PRESUMED, log entry 156). -/
def ptpBody (b : List Byte) (t : Nat) : PtpStep → List Byte
  | .twoStep => b
  | .origin => spliceBytes b 34 (toBe 6 (t / 10 ^ 10) ++ toBe 4 (t / 10 % 10 ^ 9))
  | .residence since =>
    let c : Int := (BitVec.ofNat 64 (beNat ((b.drop 8).take 8))).toInt + rdiv (((t : Int) - since) * 65536) 10
    spliceBytes b 8 (toBe 8 (BitVec.ofInt 64 c).toNat)

/-- Firmware sends a PTP message on a port with ptp_en whose link is up (R309, Table 13.8); none while the watchdog restarts the
supervisor, and none that a fault holds back (R243). An event message is timestamped, and the timestamp is ready for the firmware
(PTP_TS; log entry 156). -/
def ptpSend (s : State) (m : PtpSend) : State :=
  let p := m.port.val
  if s.fld Reg.SV_STAT_state = 2 ∨ s.domOn 11 = false ∨ s.fld (Reg.NET_PORT_STAT_link p) = 0 ∨ sendsNothing s = true ∨
      (s.portCfg 0 p).any (fun r => r.byte 2 / 4 % 2 == 1) = false then s
  else
    let t := ptpStamp s p m.ns.toNat
    let f : PtpFrame := {
      port := p, src := ownIp s p, dst := m.dst, udp := if m.event then 319 else 320, dscp := portDscp s p true, vlan := portVlan s p,
      body := ptpBody m.body t m.step, noSum := m.step != .twoStep, stamp := if m.event then some t else none }
    let q : State := { s with net := { s.net with ptpOut := s.net.ptpOut ++ [f] } }
    if m.event then raiseEvent q 3 else q

/-- A write of NET_PTP_ADJ counts as a servo update (Table 02.4). -/
def ptpAdj (s : State) (v : Word) : State :=
  { (s.setReg Reg.NET_PTP_ADJ (BitVec.ofInt 32 (clampAdj v))) with clk := { s.clk with servoMs := 0 } }

/-- PTP_ADJ_WRITE (R310). -/
def execPtpAdjWrite (v : Word) (s : State) : Host.Outcome State Fault Refusal := .next (gated s Reg.NET_PTP_ADJ (ptpAdj s v))

/-- Sets the PHC to `t` nanoseconds since its epoch. -/
def setPhc (s : State) (t : Nat) : State :=
  { s with net := { s.net with sec := t / 10 ^ 9 % 2 ^ 48, ns := t % 10 ^ 9 } }

/-- A write of NET_PTP_STEP adds signed nanoseconds (R310). -/
def ptpStep (s : State) (v : Word) : State :=
  setPhc s (((phcNs s : Int) + v.toInt) % (2 ^ 48 * 10 ^ 9)).toNat

/-- PTP_STEP_WRITE (R310). -/
def execPtpStepWrite (v : Word) (s : State) : Host.Outcome State Fault Refusal := .next (gated s Reg.NET_PTP_STEP (ptpStep s v))

/-- PTP_VALID_WRITE (R310). -/
def execPtpValidWrite (v : Word) (s : State) : Host.Outcome State Fault Refusal :=
  .next (gated s Reg.NET_PTP_CTL (s.setFld Reg.NET_PTP_CTL_valid (bitsOf v 0 1)))

/-- What the PHC advances in one tick as PTP_DCO, in 2^-64 ns (R310): a tick is 98,304 / 2^mult root periods, the root is XTAL times
the ratio of R30 with the control word in force, and NET_PTP_ADJ corrects the rate from XTAL. -/
def dcoAdvance (s : State) : Nat :=
  let fx := if s.str.clock.xtal = 0 then 24576000 else 22579200
  let adj := ((2 ^ 32 : Int) + (s.reg Reg.NET_PTP_ADJ).toInt).toNat
  let dco := ((2 ^ 32 : Int) + (s.reg Reg.CLK_PLLA_DCO).toInt).toNat
  let frac := s.fld Reg.CLK_PLLB_FRAC_int_n * 2 ^ 24 + s.fld Reg.CLK_PLLB_FRAC_frac
  98304 * 10 ^ 9 * 2 ^ 24 * adj * 2 ^ 64 / (2 ^ s.fld Reg.TICK_RATE_mult * frac * dco * fx)

/-- The PHC over one tick (R310): with the media clock it advances by 1 / f s; as PTP_DCO it advances from XTAL at the rate that
NET_PTP_ADJ corrects (log entry 7). -/
def phcTick (s : State) : State :=
  if s.domOn 11 = false then s
  else if s.fld Reg.CLK_REFSEL_sel = 1 then
    let n := s.net.dcoFrac + dcoAdvance s
    let s := setPhc s (phcNs s + n / 2 ^ 64)
    { s with net := { s.net with dcoFrac := n % 2 ^ 64 } }
  else
    let f := s.baseRate
    let n := s.net.nsFrac + 10 ^ 9
    let s := setPhc s (phcNs s + n / f)
    { s with net := { s.net with nsFrac := n % f } }

/-- The media-clock grid point at or after the PHC's time, as a count of base-rate samples. -/
def nextGrid (s : State) : Nat := (phcNs s * s.baseRate + 10 ^ 9 - 1) / 10 ^ 9

/-- With PTP_DCO followed, valid and LOCKED the first tick is timed to the grid of the PTP timescale: the PHC has reached the next grid
point, to the nearest nanosecond, when the tick starts (R29, Table 11.3 L6). -/
def gridStart (s : State) : State :=
  if s.fld Reg.CLK_STAT_cur_src = 1 ∧ storeGet false s.clk.valid 1 = true ∧ s.fld Reg.CLK_STAT_plla_state = 2 then
    let s := setPhc s (rdiv ((nextGrid s : Int) * 10 ^ 9) s.baseRate).toNat
    { s with net := { s.net with dcoFrac := 0 } }
  else s

/-- The media origin takes the value `o`. -/
def putOrigin (s : State) (o : Nat) : State :=
  let s := (s.setReg Reg.NET_MEDIA_ORG0 (BitVec.ofNat 32 o)).setReg Reg.NET_MEDIA_ORG1 (BitVec.ofNat 32 (o / 2 ^ 32))
  { s with net := { s.net with orgSet := true } }

/-- The media origin at the first boundary after L6 (R308), on a single device or a twin that owns. -/
def setOrigin (s : State) : State :=
  if s.net.orgSet ∨ (s.twinMode ∧ s.fld Reg.TWN_STAT_owner = 0) then s
  else putOrigin s (rdiv ((phcNs s : Int) * s.baseRate) (10 ^ 9) - s.tick).toNat

/-- NET_MEDIA_ERR at a boundary (R308): PHC time less the time that the origin gives the boundary. -/
def showMediaErr (s : State) : State :=
  let e := (phcNs s : Int) - rdiv (((s.origin + s.tick : Nat) : Int) * 10 ^ 9) s.baseRate
  s.setReg Reg.NET_MEDIA_ERR (sat32 e)

/-- NET_STR_CNT0 and NET_STR_CNT1 as read for the selected entry. -/
def strCntRead (s : State) (n : Nat) : Word :=
  let c := s.cnt (selKey s)
  BitVec.ofNat 32 (if n = 0 then c.leg1 * 65536 + c.leg0 else c.missing * 65536 + c.early)

/-- NET_BUF as read (R304). -/
def netBufRead (s : State) : Word :=
  BitVec.ofNat 32 (bufferUsed s false / 4 % 2 ^ 18 * 2 ^ 14 + bufferUsed s true / 16 % 2 ^ 14)

end Sys2Proof.Machine
end

