-- ==== Sys2Proof/Machine/Exchange.lean ====
section
/-!
DEFINITION. Machine/Exchange.lean: the tick guard of a cluster and the two instants of the I/O side (R66 to R71, R119,
R134 to R143, R147, R177, R221 to R228). A cluster's guard runs once in a tick, when TICK_GUARD names the cluster; the
stagger of R37 is not kept, since no word depends on it (R38; log entry 13).
-/
namespace Sys2Proof.Machine

/-- Cluster `c`'s tick guard of the current tick has run, so its windows have swapped (R134). -/
def swapped (s : State) (c : Nat) : Bool := s.guarded.contains c

/-- Word `w` of engine `e`'s out window of the current tick, as transports and the I/O side read it (R134, R136): 0
where the engine does not run or its tick was cut short. -/
def tickOut (s : State) (e w : Nat) : Word :=
  if sourceRuns s e then
    storeGet 0 (if swapped s (e / 16) then (s.engine e).outBack else (s.engine e).outFront) w
  else 0

/-- Writes a word into the in buffer that engine `e` reads in the next tick (R134): the back one, in front once its cluster's
windows have swapped. -/
def putIn (s : State) (e w : Nat) (v : Word) : State :=
  let x := s.engine e
  s.setEngine e (if swapped s (e / 16) then { x with inFront := storeSet 0 x.inFront w v }
    else { x with inBack := storeSet 0 x.inBack w v })

/-- Writes consecutive words there. -/
def putInRun (s : State) (e w : Nat) (vs : List Word) : State :=
  vs.zipIdx.foldl (fun s v => putIn s e (w + v.2) v.1) s

/-! ### Tick hops (R135, R138, R139) -/

/-- A record of kind tick hop or service. -/
def isTickHop (r : ExchRec) : Bool := r.kind == 1 || r.kind == 3

/-- The tick hops of the tick that ends. -/
def landTickHops (s : State) : State :=
  (s.str.exch.filter isTickHop).foldl (fun s r =>
    putInRun s r.dstEngine r.dstWord ((List.range r.count).map (fun i => tickOut s r.srcEngine (r.srcWord + i)))) s

/-! ### Input words (R142, R143) -/

/-- The k samples of an input channel in the last captured tick. -/
def inputSamples (s : State) (r : IoRec) : List Word :=
  (List.range r.k).map (ioSample s r)

/-- Input words for the engines. Quickset samples never reach a window word (R201). -/
def landInputs (s : State) : State :=
  (s.str.io.filter (fun r => r.dir == 0 && r.kind != 3)).foldl
    (fun s r => putInRun s r.engine r.word (inputSamples s r)) s

/-! ### Rate bridges (R147) -/

/-- The IOROUTE record of number `n`. -/
def State.ioRec (s : State) (n : Nat) : Option IoRec := s.str.io.find? (fun r => r.num == n)

/-- The source words of a bridge in the tick that ends: words of an out window, samples of an input channel, or the Quickset
samples of a QS_DI lane. -/
def bridgeSource (s : State) (r : BridgeRec) : List Word :=
  if r.srcKind = 0 then
    (List.range (bridgeWords r.kind false)).map (fun i => tickOut s r.srcEngine (r.src + i))
  else ((s.ioRec r.src).map (fun q =>
    if r.kind = 5 then (List.range s.qsPerTick).map (ioSample s q) else inputSamples s q)).getD []

/-- The length of a bridge's filter in base samples: 139 taps at 2×; with 27 taps at 4× behind them; and, as 24 base samples
of group delay say of a symmetric one, 48 base samples and one tap for the Quickset filters (Table 06.4; DEDUCED, log entry
5). -/
def bridgeLength (kind : Nat) : Nat := if kind < 2 then 70 else if kind < 4 then 76 else 49

/-- Result `i` of a bridge from its source words of the last ticks: exactly 0 when they are silent for the filter's length, a
free value of those words otherwise, since the spec gives no coefficients (log entry 5). -/
def bridgeResult (kind mult : Nat) (hist : List (List Word)) (i : Nat) : Word :=
  if hist.all (fun ws => ws.all (fun w => w == 0)) then 0 else Config.bridgeFilter kind mult hist i

/-- Delivers a bridge's results: in-window words, a port's output channel, or a source of the Quickset mixer. -/
def bridgeDeliver (s : State) (r : BridgeRec) (vs : List Word) : State :=
  if r.kind = 4 then vs.zipIdx.foldl (fun s v => { s with io := { s.io with
    bqNow := storeSet 0 s.io.bqNow (16 * r.unit + v.2) v.1 } }) s
  else if r.dstKind = 0 then putInRun s r.dstEngine r.dst vs
  else match s.ioRec r.dst with
    | none => s
    | some q => vs.zipIdx.foldl (fun s v => { s with io := { s.io with
        bridgeOut := storeSet 0 s.io.bridgeOut (chanKey q.kind q.port q.channel v.2) v.1 } }) s

/-- Words that a bridge gives for a tick: a Quickset interpolator gives one for each Quickset sample. -/
def bridgeCount (s : State) (kind : Nat) : Nat := if kind = 4 then s.qsPerTick else bridgeWords kind true

/-- One bridge takes its source words of the tick that ends and gives its results for the next. -/
def runBridge (s : State) (r : BridgeRec) : State :=
  let hist := (bridgeSource s r :: storeGet [] s.io.bridgeHist (bridgeKey r)).take (bridgeLength r.kind)
  bridgeDeliver { s with io := { s.io with bridgeHist := storeSet [] s.io.bridgeHist (bridgeKey r) hist } } r
    ((List.range (bridgeCount s r.kind)).map (bridgeResult r.kind (s.fld Reg.TICK_RATE_mult) hist))

/-- Every bridge. -/
def runBridges (s : State) : State :=
  s.str.bridges.foldl runBridge { s with io := { s.io with bqPrev := s.io.bqNow, bqNow := [] } }

/-! ### Output words (R143, R221 to R228) -/

/-- The bridge that feeds an output channel, if one does. -/
def outBridge (s : State) (r : IoRec) : Option BridgeRec :=
  s.str.bridges.find? (fun b => b.kind != 4 && b.dstKind == 1 && b.dst == r.num)

/-- Sample `j` of an output channel before its guard. -/
def outSample (s : State) (r : IoRec) (j : Nat) : Word :=
  match outBridge s r with
  | some _ => storeGet 0 s.io.bridgeOut (chanKey r.kind r.port r.channel j)
  | none => tickOut s r.engine (r.word + j)

/-- The output channels that leave out windows. -/
def outputRecs (s : State) : List IoRec := s.str.io.filter (fun r => r.dir == 1 && r.kind != 3)

/-- The I/O side takes the output words of the tick that ends. -/
def takeOutputs (s : State) : State :=
  { s with io := { s.io with outSrc := (outputRecs s).foldl (fun m r => (List.range r.k).foldl (fun m j =>
    storeSet 0 m (chanKey r.kind r.port r.channel j) (outSample s r j)) m) [] } }

/-- What the transports of a tick and its guards bring, complete at the boundary that ends it (R134, R143, R147): they read the
tick's words in cycles after those in which the words were written, and no word of a tick cut short (R99). -/
def carryWords (s : State) : State := takeOutputs (runBridges (landInputs (landTickHops s)))

/-- One sample of an output channel passes its guard for the launch tick that begins. -/
def formOutput (s : State) (r : IoRec) (j : Nat) : State :=
  match guardOf s r.kind r.port r.channel with
  | none => s
  | some (gi, rec) =>
    let key := chanKey r.kind r.port r.channel j
    let o := thornSample s gi rec r.partition (storeGet 0 s.io.outSrc key) s.tick s.tick j (rateFactor s r.k false) r.wordBits
    { o.st with io := { o.st.io with
        raw := storeSet 0 o.st.io.raw key o.raw,
        outNext := storeSet 0 o.st.io.outNext key o.word,
        muteNext := if o.muted then o.st.io.muteNext ++ [key] else o.st.io.muteNext } }

/-- The guards form the words of the launch tick that begins, under the mutes that its boundary leaves (R143, Table 09.7). The
first output word is launched in tick 1 (R264). -/
def formOutputs (s : State) : State :=
  if s.tick = 0 then s
  else (outputRecs s).foldl (fun s r => (List.range r.k).foldl (fun s j => formOutput s r j) s)
    { s with io := { s.io with raw := [], outNext := [], muteNext := [] } }

/-! ### Flag log, gain cells -/

/-- Each engine's FLG is ORed into its log (R71). -/
def logFlags (s : State) (c : Nat) : State :=
  (List.range 16).foldl (fun s i =>
    s.setReg (Reg.ENG_FLAGS c i) (s.reg (Reg.ENG_FLAGS c i) ||| (s.engine (16 * c + i)).flg.setWidth 32)) s

/-- The gain cells that watch an engine of cluster `c` sample their words (R177). -/
def watchCells (s : State) (c : Nat) : State :=
  (s.str.cells.filter (fun r => r.watchEngine / 16 == c)).foldl
    (fun s r => s.setCell r.cell ((s.cell r.cell).watch (tickOut s r.watchEngine r.watchWord))) s

/-! ### Scrubbing (R67, R119) -/

/-- One visit of a scrubber reaches address `a` of `size` words, from pointer `p` on. -/
def scrubReach (p n size a : Nat) : Bool := decide ((a + size - p % size) % size < n)

/-- A delay bank is ON and not CLEARING (R119). -/
def bankScrubbed (s : State) (b : Nat) : Bool :=
  s.fld (Reg.MEM_BANK_PWR_state b) == 0 && s.fld (Reg.MEM_BANK_OWNER_state b) != 1

/-- A finding lies where this guard's scrub or transports look. Queued addresses are served beside the 64 visits that go
on along the memory, so that a pass takes 1,024 ticks (R67; log entry 14). -/
def findingSeen (s : State) (c : Nat) (f : Finding) : Bool :=
  match f.place with
  | .data e a => let x := s.engine (16 * c + e.val); x.wbq.contains a.toNat || scrubReach x.scrubData 64 65536 a.toNat
  | .prog e a _ => scrubReach (s.engine (16 * c + e.val)).scrubProg 64 24576 a.val
  | .delay b a => bankScrubbed s (48 * c + b.val) &&
      scrubReach (storeGet 0 s.scrubRow c) 64 16384 (a.toNat / 4)
  | .window _ _ => true

/-- What a finding does (R66 to R68, R119, R140). -/
def applyFinding (s : State) (c : Nat) (f : Finding) : State :=
  if findingSeen s c f then
    match f.place, f.corrected with
    | .data e _, true => correctedError s (16 * c + e.val) true
    | .prog e _ _, true => correctedError s (16 * c + e.val) false
    | .delay _ _, true => s.satInc (Reg.MEM_DLY_ECC_ce c)
    | .window _ _, true => s
    | .data e a, false => clusterFault s c 2 e.val a.toNat f.cycle.toNat false
    | .prog e a u, false => clusterFault s c 3 e.val (2 * a.val + u.toNat) f.cycle.toNat false
    | .delay b a, false => clusterFault s c 4 b.val a.toNat f.cycle.toNat false
    | .window e a, false => clusterFault s c 5 e.val a.val f.cycle.toNat false
  else s

/-- An engine's scrubber moves on by 64 words of each memory; its queue has been served. -/
def Engine.scrub (x : Engine) : Engine :=
  { x with wbq := [], scrubData := (x.scrubData + 64) % 65536, scrubProg := (x.scrubProg + 64) % 24576 }

/-- The scrubbers of cluster `c` (R67, R119). -/
def scrubCluster (s : State) (c : Nat) (finds : List Finding) : State :=
  let s := finds.foldl (fun s f => applyFinding s c f) s
  let s := (List.range 16).foldl (fun s i => s.setEngine (16 * c + i) (s.engine (16 * c + i)).scrub) s
  let x := s.engine (16 * c)
  let s := if x.scrubData = 0 then s.wrapInc (Reg.ENG_SCRUB_data_pass c) else s
  let s := if x.scrubProg = 0 then s.wrapInc (Reg.ENG_SCRUB_prog_pass c) else s
  let row := (storeGet 0 s.scrubRow c + 64) % 16384
  let s := { s with scrubRow := storeSet 0 s.scrubRow c row }
  if row = 0 then s.wrapInc (Reg.MEM_DLY_ECC_pass c) else s

/-! ### The guard -/

/-- The swap of an engine's windows (R134): the front buffers become the back buffers. -/
def Engine.swap (x : Engine) : Engine :=
  { x with outFront := x.outBack, outBack := x.outFront, inFront := x.inBack, inBack := x.inFront }

/-- The program window of cluster `c`'s engines is over, and what is in flight completes (R79, R101). -/
def endWindows (s : State) (c : Nat) : State :=
  (List.range 16).foldl (fun s i =>
    s.setEngine (16 * c + i) { (s.engine (16 * c + i)).drain with win := false, used := [] }) s

/-- The windows of cluster `c` swap. -/
def swapCluster (s : State) (c : Nat) : State :=
  let s := (List.range 16).foldl (fun s i => s.setEngine (16 * c + i) (s.engine (16 * c + i)).swap) s
  { s with guarded := s.guarded ++ [c] }

/-- The tick guard of cluster `c` (R143). What its transports, bridges and Thorn guards bring is complete at the boundary that
ends the tick (carryWords, formOutputs). -/
def guardCluster (s : State) (c : Nat) (finds : List Finding) : State :=
  let s := watchCells (logFlags (endWindows s c) c) c
  swapCluster (scrubCluster s c finds) c

/-- TICK_GUARD (R143): once per cluster and tick. `finds` names the errors that the checks of this guard find. -/
def execTickGuard (c : ClNo) (finds : List Finding) (s : State) : Host.Outcome State Fault Refusal :=
  .next (if s.tickOn = false ∨ swapped s c then s else guardCluster s c finds)

/-! ### The two instants -/

/-- The ASRC samples of receiver `n` for the tick being captured (R148, R149): made from the received samples and the phase
word in force by coefficients the spec does not give, so free values of both (log entry 5); 0 while the AES domain is not ON (R350). -/
def captureAsrc (s : State) (n : Nat) : State :=
  if storeGet false s.io.asrcOn n ∧ s.domOn 16 = true then
    let word (c : Nat) : Word := Config.asrcFilter (storeGet [] s.io.asrcRx (2 * n + c)) (storeGet 0 s.io.asrcPhase n)
    { s with io := { s.io with
      inNow := storeSet 0 (storeSet 0 s.io.inNow (chanKey 2 n 0 0) (word 0)) (chanKey 2 n 1 0) (word 1) } }
  else s

/-- The network words among some words. -/
def networkWords (m : Store Word) : Store Word := m.filter (fun e => decide (e.1 < chanKey 1 0 0 0))

/-- The words of the other ports. -/
def serialWords (m : Store Word) : Store Word := m.filter (fun e => decide (chanKey 1 0 0 0 ≤ e.1))

/-- The words of the tick that has ended come from the owner: for a twin that followed in it, and a joiner that has them already (R237,
R252). -/
def usesOwner (s : State) : Bool := s.twin.followed || (s.fld Reg.TWN_STAT_ripe_state == 1 && s.twin.ownerNet.isSome)

/-- In twin mode network words are delivered one tick later, the follower using the owner's (R237). -/
def closeInputs (s : State) : State :=
  let now := s.io.inNow
  if s.twinMode then
    let own := s.io.netHeld
    let v : Store Word × Bool :=
      if usesOwner s then (match s.twin.ownerNet with | some m => (m, false) | none => (own, true)) else (own, false)
    let s : State := { s with twin := { s.twin with ownerNet := none }, io := { s.io with
      inTick := v.1 ++ serialWords now, netHeld := networkWords now, inNow := [] } }
    if v.2 then s.setFld Reg.TWN_STAT_input_own 1 else s
  else { s with io := { s.io with inTick := now, inNow := [] } }

/-- The input words of the tick are closed at its capture instant (R142). -/
def captureInputs (s : State) : State := closeInputs ((List.range 8).foldl captureAsrc (captureNet s))

/-- LAUNCH_INSTANT (R141): the output words that the guards formed begin to leave. -/
def execLaunchInstant (s : State) : Host.Outcome State Fault Refusal :=
  .next (if s.tickOn then launchNet { s with io := { s.io with
    outNow := s.io.outNext, muteNow := s.io.muteNext, outNext := [], muteNext := [], launched := s.tick + 1 } } else s)

end Sys2Proof.Machine
end

