-- ==== Sys2Proof/Machine/Banks.lean ====
section
/-!
DEFINITION. Machine/Banks.lean: tier-1 banks (ownership, handover, power) and the upkeep of the DRAM (R117, R126, R128
to R131).
-/
namespace Sys2Proof.Machine

/-- Ownership states of MEM_BANK_OWNERb (Table 05.12). -/
def bankOwnedSt : Nat := 0
def bankClearing : Nat := 1
def bankUnowned : Nat := 2

/-- A running line lies in bank `b` (R128, R130). -/
def bankHasLine (s : State) (b : Nat) : Bool :=
  s.str.lines.any (fun r => r.tier == 1 && 48 * r.cluster + lineBank r == b)

/-- A DMA window lies in bank `b`: its base is a byte address of Table 15.1. -/
def bankHasWindow (s : State) (b : Nat) : Bool :=
  s.str.wins.any (fun w => w.space == 1 && w.base / 0x40000 == b)

/-- A line or window of partition `p` lies in bank `b`. -/
def bankHeldBy (s : State) (b p : Nat) : Bool :=
  s.str.lines.any (fun r => r.tier == 1 && 48 * r.cluster + lineBank r == b && r.partition == p) ||
    s.str.wins.any (fun w => w.space == 1 && w.base / 0x40000 == b && w.partition == p)

/-- The source of a handover as the bank transfer table names it: the owner, or 0x100 for UNOWNED. -/
def bankFrom (s : State) (b : Nat) : Nat :=
  if s.fld (Reg.MEM_BANK_OWNER_state b) = bankOwnedSt then s.fld (Reg.MEM_BANK_OWNER_owner b) else 0x100

/-- The conditions of R128 for a handover of bank `b` to partition `p`. -/
def handoverOk (s : State) (b p : Nat) : Bool :=
  let f := bankFrom s b
  s.str.xfers.any (fun x => x.bank == b && x.fromP == f && x.toP == p) && !(f != 0x100 && bankHeldBy s b f) &&
    s.fld (Reg.MEM_BANK_OWNER_state b) != bankClearing && s.fld (Reg.MEM_BANK_PWR_state b) == 0

/-- The cluster sleeps (PWR_SIL_STAT, R357). -/
def asleep (s : State) (c : Nat) : Bool := s.fld ⟨Reg.PWR_SIL_STAT, 8 + c, 1⟩ == 1

/-- The running structure notes bank `b`'s owner after a handover (R129). -/
def handBank (s : State) (b owner : Nat) : State :=
  { s with str := { s.str with handed := (b, owner) :: s.str.handed.filter (fun h => h.1 != b) } }

/-- A supervisor write of MEM_BANK_OWNERb (R128): on acceptance the bank clears and belongs to no partition (R129); a refused
request changes nothing but the refused bit. -/
def bankOwnerWrite (s : State) (b : Nat) (v : Word) : State :=
  let s := if bitsOf v 31 1 = 1 then s.setFld (Reg.MEM_BANK_OWNER_refused b) 0 else s
  let p := bitsOf v 16 8
  if bitsOf v 24 1 = 0 then s.setFld (Reg.MEM_BANK_OWNER_req b) p
  else if handoverOk s b p then
    let t := (s.setFld (Reg.MEM_BANK_OWNER_req b) p).setFld (Reg.MEM_BANK_OWNER_state b) bankClearing
    handBank (t.setFld (Reg.MEM_BANK_OWNER_owner b) p) b 0x100
  else s.setFld (Reg.MEM_BANK_OWNER_refused b) 1

/-- BANK_HANDOVER_REQUEST (R128): writes from PCIe or the local bus change nothing. -/
def execBankHandoverRequest (path : Path) (b : Fin 384) (v : Word) (s : State) : Host.Outcome State Fault Refusal :=
  .next (gatedBy s path (Reg.MEM_BANK_OWNER b) (match path with
    | .sv0 => bankOwnerWrite s b v
    | .sv1 => bankOwnerWrite s b v
    | .pcie => s
    | .lb => s))

/-- Every word of bank `b` is 0. -/
def zeroBank (s : State) (b : Nat) : State :=
  { s with delay := s.delay.filter (fun e => e.1 / 65536 != b) }

/-- BANK_CLEAR_DONE (R129): all 65,536 words are 0; the new owner takes the bank at the next boundary. -/
def execBankClearDone (b : Fin 384) (s : State) : Host.Outcome State Fault Refusal :=
  if s.fld (Reg.MEM_BANK_OWNER_state b) = bankClearing ∧ !s.bankOwned.contains b.val then
    let t := zeroBank s b
    .next { t with bankOwned := t.bankOwned ++ [b.val] }
  else .next s

/-- A write of MEM_BANK_PWRb (R130). A bank that is OFF stays OFF when RETENTION is requested, since it holds no word to
keep (log entry 17). A refused request leaves req as it was (DESIGN CHOICE, log entry 150). -/
def bankPwrWrite (s : State) (b : Nat) (v : Word) : State :=
  let s := if bitsOf v 8 1 = 1 then s.setFld (Reg.MEM_BANK_PWR_refused b) 0 else s
  let r := bitsOf v 0 2
  let st := s.fld (Reg.MEM_BANK_PWR_state b)
  if r = 3 then s
  else if r ≠ 0 ∧ (bankHasLine s b || bankHasWindow s b) then s.setFld (Reg.MEM_BANK_PWR_refused b) 1
  else
    let s := s.setFld (Reg.MEM_BANK_PWR_req b) r
    if r = 0 then
      if st = 1 ∧ !s.bankOn.contains b then { s with bankOn := s.bankOn ++ [b] }
      else if st = 2 ∧ !s.bankFill.contains b then { s with bankFill := s.bankFill ++ [b] }
      else s
    else
      let s : State := { s with bankOn := s.bankOn.filter (· != b), bankFill := s.bankFill.filter (· != b) }
      if r = 1 then (if st = 0 then s.setFld (Reg.MEM_BANK_PWR_state b) 1 else s)
      else (zeroBank s b).setFld (Reg.MEM_BANK_PWR_state b) 2

/-- BANK_POWER_REQUEST (R130). -/
def execBankPowerRequest (b : Fin 384) (v : Word) (s : State) : Host.Outcome State Fault Refusal :=
  .next (gated s (Reg.MEM_BANK_PWR b) (bankPwrWrite s b v))

/-- BANK_ZERO_FILL_DONE (R130): the bank is ON from the next boundary (Table 05.8). -/
def execBankZeroFillDone (b : Fin 384) (s : State) : Host.Outcome State Fault Refusal :=
  if s.bankFill.contains b.val then
    let t := zeroBank s b
    .next { t with bankFill := t.bankFill.filter (· != b.val), bankOn := t.bankOn ++ [b.val] }
  else .next s

/-- Bank `b`'s new owner takes it (R129). -/
def takeBank (s : State) (b : Nat) : State :=
  handBank (s.setFld (Reg.MEM_BANK_OWNER_state b) bankOwnedSt) b (s.fld (Reg.MEM_BANK_OWNER_owner b))

/-- The banks at a boundary: new owners take cleared banks, and powered banks are ON (R129, R130), but in RETENTION while their
cluster sleeps (R131). -/
def applyBanks (s : State) : State :=
  let s := s.bankOwned.foldl takeBank s
  let s := s.bankOn.foldl (fun s b => s.setFld (Reg.MEM_BANK_PWR_state b) (asleep s (b / 48)).toNat) s
  { s with bankOwned := [], bankOn := [] }

/-- The ticks between two retrainings (R126). -/
def retrainPeriod (s : State) : Nat := (if s.fld Reg.TICK_RATE_family = 0 then 96 else 88) * 2 ^ s.fld Reg.TICK_RATE_mult

/-- Retention of a cluster's ON banks as it falls asleep, and their return as it wakes (R131). -/
def retainBanks (s : State) (c : Nat) (sleep : Bool) : State :=
  (List.range 48).foldl (fun s i =>
    let b := 48 * c + i
    if s.fld (Reg.MEM_BANK_PWR_req b) = 0 ∧ s.fld (Reg.MEM_BANK_PWR_state b) ≠ 2 then
      s.setFld (Reg.MEM_BANK_PWR_state b) sleep.toNat else s) s

/-- MEM_CTL.cnt_clr. -/
def clearMemCounts (s : State) : State :=
  let s := (List.range 8).foldl (fun s c =>
    (s.resetReg (Reg.MEM_CONFLICT c)).setFld (Reg.MEM_DLY_ECC_ce c) 0) s
  ((s.setFld Reg.MEM_DRAM_STAT_link_ce 0).setFld Reg.MEM_DRAM_STAT_retry 0).resetReg Reg.MEM_DRAM_CONFLICT

/-- MEM_CNT_CLR (R117). -/
def execMemCntClr (s : State) : Host.Outcome State Fault Refusal := .next (gated s Reg.MEM_CTL (clearMemCounts s))

/-- Channel `ch` has been retrained (R126); the next channel is due a period later. -/
def retrain (s : State) (ch : Nat) (warn : Bool) : State :=
  let t := s.wrapInc Reg.MEM_DRAM_STAT_retrain
  let t := t.setFld ⟨Reg.DRAM_MARGIN_WARN, ch, 1⟩ warn.toNat
  let t := if warn then t.setFld ⟨Reg.DRAM_MARGIN_WARN, 16 + ch, 1⟩ 1 else t
  { t with retrainCh := (ch + 1) % 16, retrainDue := s.tick + retrainPeriod s }

/-- DRAM_RETRAIN (R126): after LOAD, one channel at a time in ascending order, one in every 96 or 88 ticks (log entry 120).
`warn`: the channel's margin is below 20 % of that measured at LOAD. -/
def execDramRetrain (ch : Fin 16) (warn : Bool) (s : State) : Host.Outcome State Fault Refusal :=
  .next (if s.tickOn ∧ s.fld Reg.MEM_DRAM_STAT_train = 2 ∧ ch.val = s.retrainCh ∧ s.retrainDue ≤ s.tick then
      retrain s ch.val warn
    else s)

/-- DRAM_REFRESH (R126): refresh takes reserved slots only; it changes no word, delays no burst and no line. -/
def execDramRefresh (s : State) : Host.Outcome State Fault Refusal := .next s

end Sys2Proof.Machine
end

