-- ==== Sys2Proof/Machine/Image.lean ====
section
/-!
DEFINITION. Machine/Image.lean: the bytes of a bundle and of an Espalier image, their headers, sections and records (R188 to
R203), and steps 1 to 12 of the verifier (Table 08.15).
-/
namespace Sys2Proof.Machine

/-- The bytes that a verification reads. -/
abbrev Img := Array Byte

/-- Little-endian fields of 1, 2, 4 and 8 bytes (R188). -/
def u8 (b : Img) (o : Nat) : Nat := (b.getD o 0).toNat
def u16 (b : Img) (o : Nat) : Nat := u8 b o + 256 * u8 b (o + 1)
def u32 (b : Img) (o : Nat) : Nat := u16 b o + 65536 * u16 b (o + 2)
def u64 (b : Img) (o : Nat) : Nat := u32 b o + 2 ^ 32 * u32 b (o + 4)

/-- `n` bytes from offset `o`. -/
def slice (b : Img) (o n : Nat) : List Byte := (b.extract o (o + n)).toList

/-- A run of bytes is 0. -/
def zeroRun (b : Img) (o n : Nat) : Bool := (slice b o n).all (fun x => x == 0)

/-- Runs of bytes, relative to `o`, are 0. -/
def zeros (b : Img) (o : Nat) (rs : List (Nat × Nat)) : Bool := rs.all (fun r => zeroRun b (o + r.1) r.2)

/-! ### Errors -/

/-- Error codes (Table 08.16). -/
def eSig : Nat := 1
def eCrc : Nat := 2
def eTrunc : Nat := 3
def eVersion : Nat := 4
def eStruct : Nat := 5
def eOverlap : Nat := 6
def eCycle : Nat := 7
def eBw : Nat := 8
def ePower : Nat := 9
def eOwner : Nat := 10

/-- What a failing verification reports (ESP_ERR, ESP_ERR_REC). -/
structure VErr where
  step : Nat
  code : Nat
  part : Nat
  sect : Nat := 0x3FF
  record : Nat := 0xFFFFFFFF
deriving DecidableEq, Repr

/-- A check that passes, or the error with which it fails. -/
abbrev Vfy (α : Type) := Except VErr α

/-- A condition, or the error that its breach reports. -/
def need (c : Bool) (e : VErr) : Vfy Unit := if c then .ok () else .error e

/-- The error of a record: a running record has neither section nor record number in the image under check. -/
def VErr.ofLoc (step code part : Nat) (l : Loc) : VErr :=
  if l.sec = 0x3FF then ⟨step, code, part, 0x3FF, 0xFFFFFFFF⟩ else ⟨step, code, part, l.sec, l.idx⟩

/-! ### Section table (R194, R195) -/

/-- An entry of the section table. -/
structure Sect where
  idx : Nat
  ty : Nat
  inst : Nat
  off : Nat
  len : Nat
  count : Nat
  size : Nat
  crc : Nat
deriving DecidableEq, Repr

/-- What Table 08.5 says of a section type: instances, record size (0 = variable), permitted in a graft image. -/
structure SectKind where
  ty : Nat
  insts : Nat
  size : Nat
  graft : Bool

/-- Table 08.5. -/
def sectKinds : List SectKind := [
  ⟨0x01, 1, 32, false⟩, ⟨0x02, 1, 32, false⟩, ⟨0x03, 1, 40, false⟩, ⟨0x10, 128, 0, true⟩,
  ⟨0x20, 1, 16, false⟩, ⟨0x21, 1, 16, false⟩, ⟨0x22, 8, 32, true⟩, ⟨0x23, 8, 8, true⟩,
  ⟨0x24, 1, 8, false⟩, ⟨0x25, 8, 0, true⟩, ⟨0x26, 1, 16, false⟩, ⟨0x30, 1, 24, true⟩,
  ⟨0x31, 8, 16, false⟩, ⟨0x40, 1, 16, true⟩, ⟨0x41, 1, 32, false⟩, ⟨0x42, 1, 16, true⟩,
  ⟨0x43, 1, 8, false⟩, ⟨0x50, 1, 0, true⟩, ⟨0x51, 1, 16, true⟩, ⟨0x60, 1, 32, false⟩, ⟨0x61, 1, 8, false⟩]

/-- The kind of a section type. -/
def sectKind (ty : Nat) : Option SectKind := sectKinds.find? (fun k => k.ty == ty)

/-- The section table of an image, as its header counts it. -/
def sectTable (b : Img) : List Sect :=
  (List.range (u16 b 0x0C)).map (fun i =>
    let o := 0x80 + 32 * i
    { idx := i, ty := u16 b o, inst := u16 b (o + 4), off := u32 b (o + 8), len := u32 b (o + 12),
      count := u32 b (o + 16), size := u16 b (o + 20), crc := u32 b (o + 24) })

/-- The sections of a type, in table order. -/
def sectsOf (t : List Sect) (ty : Nat) : List Sect := t.filter (fun s => s.ty == ty)

/-! ### Records -/

/-- A byte as a signed number. -/
def s8 (b : Img) (o : Nat) : Int := (b.getD o 0).toInt

/-- BOARD (Table 08.6). -/
def readBoard (b : Img) (o : Nat) (l : Loc) : BoardRec :=
  { loc := l, budgetMw := u32 b o, declaredMw := u32 b (o + 4), twinMode := u8 b (o + 8), pcieEn := u8 b (o + 9) % 2,
    strapMask := u16 b (o + 10), strapValue := u16 b (o + 12), graftBursts := u16 b (o + 14),
    graftRegion := u16 b (o + 16), silThr := u8 b (o + 18) }

/-- CLOCK (Table 08.7). -/
def readClock (b : Img) (o : Nat) (l : Loc) : ClockRec :=
  { loc := l, family := u8 b o, mult := u8 b (o + 1), xtal := u8 b (o + 2), refsel := u32 b (o + 4),
    pllaCtl := u32 b (o + 8), pllbFrac := u32 b (o + 12), pllbSeed := u32 b (o + 16), tjMin := s8 b (o + 20),
    tjMax := s8 b (o + 21) }

/-- PARTITION (Table 08.8). -/
def readPart (b : Img) (o : Nat) (l : Loc) : PartRec :=
  { loc := l, id := u8 b o, graftable := u8 b (o + 1) % 2 == 1, maxSessions := u8 b (o + 2), queueM1 := u8 b (o + 3),
    share := u16 b (o + 4), leaseQuota := u16 b (o + 6),
    windows := (List.range 8).map (fun i => (u16 b (o + 8 + 4 * i), u16 b (o + 10 + 4 * i))) }

/-- PROGRAM (R197) of engine `e`; a handle is (line, tap). -/
def readProg (b : Img) (o e : Nat) (l : Loc) : ProgRec :=
  let n := u16 b (o + 2)
  let c := u16 b (o + 12)
  { loc := l, engine := e, partition := u8 b o, sleepable := u8 b (o + 1) % 2 == 1,
    words := (List.range n).map (fun i => BitVec.ofNat 64 (u64 b (o + 16 + 8 * i))), execCycles := u32 b (o + 4),
    mCount := u32 b (o + 8),
    carried := (List.range c).map (fun i => BitVec.ofNat 32 (u32 b (o + 16 + 8 * n + 4 * i))),
    handles := (List.range (u8 b (o + 14))).map (fun i =>
      let q := o + 16 + 8 * n + 4 * c + 4 * i
      (u16 b q, u8 b (q + 2))) }

/-- BANKMAP (Table 08.10). -/
def readBank (b : Img) (o : Nat) (l : Loc) : BankRec :=
  { loc := l, bank := u16 b o, state := u8 b (o + 2), owner := u8 b (o + 3), periodLog2 := u8 b (o + 4),
    readers := u16 b (o + 6), slots := u64 b (o + 8) }

/-- DRAMREG. -/
def readDram (b : Img) (o : Nat) (l : Loc) : DramRec :=
  { loc := l, partition := u8 b o, graftBuf := u8 b (o + 1) % 2 == 1, base := u32 b (o + 4), length := u32 b (o + 8) }

/-- TAPS. -/
def readTap (b : Img) (o : Nat) : TapRec :=
  { disp := u32 b o, frac := u16 b (o + 4), mode := u8 b (o + 6), halfW := u8 b (o + 7) }

/-- LINES of cluster `c`, with the taps that it indexes in a TAPS section. -/
def readLine (b : Img) (o c : Nat) (taps : List TapRec) (l : Loc) : LineRec :=
  { loc := l, cluster := c, line := u16 b o, tier := u8 b (o + 2), partition := u8 b (o + 3), writer := u8 b (o + 4),
    preload := u8 b (o + 5), srcWord := u16 b (o + 6), base := u64 b (o + 8), lenM1 := u32 b (o + 16),
    taps := (taps.drop (u16 b (o + 20))).take (u8 b (o + 22)) }

/-- BANKXFER. -/
def readXfer (b : Img) (o : Nat) (l : Loc) : XferRec :=
  { loc := l, bank := u16 b o, fromP := u16 b (o + 2), toP := u16 b (o + 4) }

/-- DMAWIN. -/
def readWin (b : Img) (o : Nat) (l : Loc) : WinRec :=
  { loc := l, channel := u8 b o, partition := u8 b (o + 1), space := u8 b (o + 2), access := u8 b (o + 3),
    length := u32 b (o + 4), base := u64 b (o + 8) }

/-- EXCHANGE (Table 08.12). -/
def readExch (b : Img) (o : Nat) (l : Loc) : ExchRec :=
  { loc := l, kind := u8 b o, count := u8 b (o + 1), srcEngine := u8 b (o + 2), dstEngine := u8 b (o + 3),
    srcWord := u16 b (o + 4), dstWord := u16 b (o + 6), path := u8 b (o + 8), links := u8 b (o + 9),
    slots := (List.range 4).map (fun i => u16 b (o + 10 + 2 * i)) }

/-- IOROUTE (Table 08.13) with its number. -/
def readIo (b : Img) (o n : Nat) (l : Loc) : IoRec :=
  { loc := l, num := n, dir := u8 b o, kind := u8 b (o + 1), port := u8 b (o + 2), k := u8 b (o + 3),
    channel := u16 b (o + 4), partition := u8 b (o + 6), wordBits := u8 b (o + 7), engine := u8 b (o + 8),
    word := u16 b (o + 10) }

/-- PORTCFG. -/
def readPort (b : Img) (o : Nat) (l : Loc) : PortRec :=
  { loc := l, kind := u8 b o, port := u8 b (o + 1), set := (List.range 28).map (fun i => u8 b (o + 4 + i)) }

/-- BRIDGE. -/
def readBridge (b : Img) (o : Nat) (l : Loc) : BridgeRec :=
  { loc := l, kind := u8 b o, partition := u8 b (o + 1), unit := u8 b (o + 2), cluster := u8 b (o + 3),
    srcKind := u8 b (o + 4), srcEngine := u8 b (o + 5), src := u16 b (o + 6), dstKind := u8 b (o + 8),
    dstEngine := u8 b (o + 9), dst := u16 b (o + 10) }

/-- QSMIX. -/
def readQsMix (b : Img) (o : Nat) (l : Loc) : QsMixRec :=
  { loc := l, output := u8 b o, partition := u8 b (o + 1), pblock := u8 b (o + 2), di := u16 b (o + 4), bq := u16 b (o + 6) }

/-- Bytes of the PBLOCK record at `o` (R202). -/
def blockLen (b : Img) (o : Nat) : Nat := 8 + 4 * u8 b (o + 4) + 256

/-- PBLOCK (R202); an engine's p is its local address. -/
def readBlock (b : Img) (o : Nat) (l : Loc) : BlockRec :=
  let n := u8 b (o + 4)
  { loc := l, block := u16 b o, partition := u8 b (o + 2), holders := u8 b (o + 3),
    engines := (List.range n).map (fun i => (u8 b (o + 8 + 4 * i), 128 * u16 b (o + 10 + 4 * i))),
    init := (List.range 64).map (fun i => BitVec.ofNat 32 (u32 b (o + 8 + 4 * n + 4 * i))) }

/-- GAINCELL (R202). -/
def readCell (b : Img) (o : Nat) (l : Loc) : CellRec :=
  { loc := l, cell := u16 b o, partition := u8 b (o + 2), tgtBlock := u16 b (o + 4), tgtWord := u8 b (o + 6),
    watchEngine := u8 b (o + 7), watchWord := u16 b (o + 8), timeoutMs := u16 b (o + 10) }

/-- THORN (Table 08.14). -/
def readThorn (b : Img) (o : Nat) (l : Loc) : ThornRec :=
  { loc := l, kind := u8 b o, port := u8 b (o + 1), channel := u16 b (o + 2), flags := u8 b (o + 4), amon := u8 b (o + 5),
    window := u16 b (o + 6), peak := u32 b (o + 8), knee := u32 b (o + 12), rms := u32 b (o + 16), dc := u32 b (o + 20),
    amonHot := u16 b (o + 24) }

/-- TWIN (Table 08.14). -/
def readTwin (b : Img) (o : Nat) (l : Loc) : TwinRec :=
  { loc := l, group := u16 b o, kind := u8 b (o + 2), port := u8 b (o + 3), channel := u16 b (o + 4), diverge := u8 b (o + 6),
    unripe := u8 b (o + 7) }

/-- The records of every section of a fixed-size type: (offset, instance, location), in table order. -/
def fixedRecs (t : List Sect) (ty : Nat) : List (Nat × Nat × Loc) :=
  (sectsOf t ty).flatMap (fun s => (List.range s.count).map (fun i => (s.off + i * s.size, s.inst, ⟨s.idx, i⟩)))

/-- Offsets of up to `n` DAUSCHED records from `o`; each is 4 bytes and its items (R199). -/
def dauOffs (b : Img) : Nat → Nat → List Nat
  | 0, _ => []
  | n + 1, o => o :: dauOffs b n (o + 4 + 4 * u16 b o)

/-- Offsets of `n` PBLOCK records from `o`. -/
def blockOffs (b : Img) : Nat → Nat → List Nat
  | 0, _ => []
  | n + 1, o => o :: blockOffs b n (o + blockLen b o)

/-- Offsets of the records of a section; the last element is the offset after them. -/
def recOffs (b : Img) (s : Sect) : List Nat :=
  if s.ty = 0x25 then dauOffs b (s.count + 1) s.off
  else if s.ty = 0x50 then blockOffs b (s.count + 1) s.off
  else if s.ty = 0x10 then
    [s.off, s.off + 16 + 8 * u16 b (s.off + 2) + 4 * u16 b (s.off + 12) + 4 * u8 b (s.off + 14)]
  else (List.range (s.count + 1)).map (fun i => s.off + i * s.size)

/-- The records of every section of a variable-size type. -/
def varRecs (b : Img) (t : List Sect) (ty : Nat) : List (Nat × Nat × Loc) :=
  (sectsOf t ty).flatMap (fun s => ((recOffs b s).take s.count).zipIdx.map (fun r => (r.1, s.inst, ⟨s.idx, r.2⟩)))

/-- The TAPS section of cluster `c`. -/
def tapsOf (b : Img) (t : List Sect) (c : Nat) : List TapRec :=
  ((fixedRecs t 0x23).filter (fun r => r.2.1 == c)).map (fun r => readTap b r.1)

/-- The records of an image. -/
def readImage (b : Img) (t : List Sect) : Structure :=
  let first {α : Type} (ty : Nat) (f : Img → Nat → Loc → α) (d : α) : α :=
    ((fixedRecs t ty).head?.map (fun r => f b r.1 r.2.2)).getD d
  let all {α : Type} (ty : Nat) (f : Img → Nat → Loc → α) : List α := (fixedRecs t ty).map (fun r => f b r.1 r.2.2)
  { seed := BitVec.ofNat 64 (u64 b 0x20), schema := u32 b 0x14, settingsRequired := u32 b 0x18 % 2 == 1,
    minFw := u32 b 0x1C, board := first 0x01 readBoard {}, clock := first 0x02 readClock {}, parts := all 0x03 readPart,
    progs := (varRecs b t 0x10).map (fun r => readProg b r.1 r.2.1 r.2.2), banks := all 0x20 readBank,
    drams := all 0x21 readDram,
    lines := (fixedRecs t 0x22).map (fun r => readLine b r.1 r.2.1 (tapsOf b t r.2.1) r.2.2), xfers := all 0x24 readXfer,
    dau := (varRecs b t 0x25).map (fun r =>
      { loc := r.2.2, cluster := r.2.1, k := r.2.2.idx,
        items := (List.range (u16 b r.1)).map (fun i => u32 b (r.1 + 4 + 4 * i)) }),
    wins := all 0x26 readWin, exch := all 0x30 readExch,
    phases := (fixedRecs t 0x31).map (fun r =>
      (r.2.1, ((List.range 7).map (fun i => u16 b (r.1 + 2 * i))).filter (fun c => c != 0))),
    io := (fixedRecs t 0x40).map (fun r => readIo b r.1 r.2.2.idx r.2.2), ports := all 0x41 readPort,
    bridges := all 0x42 readBridge, qsmix := all 0x43 readQsMix,
    blocks := (varRecs b t 0x50).map (fun r => readBlock b r.1 r.2.2), cells := all 0x51 readCell,
    thorn := all 0x60 readThorn, twin := all 0x61 readTwin, ioNext := (fixedRecs t 0x40).length }

/-! ### Steps 1 to 6: bundle and firmware -/

/-- What a bundle holds, once its header has passed. -/
structure Bundle where
  fwOff : Nat
  fwLen : Nat
  espOff : Nat
  espLen : Nat
deriving DecidableEq, Repr

/-- Steps 1 to 3 (R190). -/
def checkBundle (b : Img) : Vfy Bundle :=
  let e (s c : Nat) : VErr := ⟨s, c, 0, 0x3FF, 0xFFFFFFFF⟩
  let len := u32 b 0x08
  let q : Bundle := ⟨u32 b 0x0C, u32 b 0x10, u32 b 0x14, u32 b 0x18⟩
  do
    need (slice b 0 4 == [0x4E, 0x42, 0x44, 0x4C] && u16 b 4 == 1) (e 1 eVersion)
    need ((crc32c (slice b 0 0x1C)).toNat == u32 b 0x1C) (e 2 eCrc)
    need (decide (64 ≤ len ∧ len ≤ 50331648)) (e 3 eTrunc)
    need (decide (q.fwOff % 64 = 0 ∧ q.espOff % 64 = 0 ∧ 64 ≤ q.fwOff ∧ 64 ≤ q.espOff ∧ q.fwOff + q.fwLen ≤ len ∧
      q.espOff + q.espLen ≤ len ∧ (q.fwOff + q.fwLen ≤ q.espOff ∨ q.espOff + q.espLen ≤ q.fwOff))) (e 3 eTrunc)
    need (zeros b 0 [(6, 2), (0x20, 32)]) (e 3 eStruct)
    return q

/-- A trailer's key hash and signature over the bytes before r (R191, R193): the trailer begins at `tr`, the range at `o`. -/
def signedBy (b : Img) (o tr : Nat) (accept : BitVec 256 → Bool) : Bool :=
  accept (sha256 (slice b tr 64)) &&
    ecdsaOk (sha256 (slice b o (tr + 64 - o))).toNat (beNum (slice b tr 32)) (beNum (slice b (tr + 32) 32))
      (beNum (slice b (tr + 64) 32)) (beNum (slice b (tr + 96) 32))

/-- Steps 4 to 6 (R191): the firmware container at `q.fwOff`, against the security minimum of OTP. Answers fw_version. -/
def checkFirmware (b : Img) (q : Bundle) (minSec : Nat) : Vfy Nat :=
  let e (s c : Nat) : VErr := ⟨s, c, 1, 0x3FF, 0xFFFFFFFF⟩
  let o := q.fwOff
  do
    need (slice b o 4 == [0x4E, 0x46, 0x57, 0x4D] && u16 b (o + 4) == 1) (e 4 eVersion)
    need (decide (u32 b (o + 8) = q.fwLen ∧ 192 ≤ q.fwLen)) (e 4 eTrunc)
    need (zeros b o [(6, 2), (0x12, 46)]) (e 4 eStruct)
    need (signedBy b o (o + q.fwLen - 128) (fun h => h == Config.vendorKeyHash)) (e 5 eSig)
    need (decide (minSec ≤ u16 b (o + 0x10))) (e 6 eVersion)
    return u32 b (o + 0x0C)

/-! ### Steps 7 to 12: the image -/

/-- What the image header is checked against: the part of ESP_ERR, the kind, the length of the container, the owner key
hashes that count, DEV_ID, the firmware version, the straps, and the hash and BOARD record of the running image (a graft). -/
structure ImgCtx where
  part : Nat
  graft : Bool
  room : Nat
  keys : List (BitVec 256)
  devId : Word
  fwVer : Nat
  strap : Nat
  hash : BitVec 256
  board : BoardRec

/-- Steps 7 to 9. An image shorter than a header and a trailer, 256 bytes, is refused with TRUNC; a container's firmware is read the
same way (DESIGN CHOICE, log entry 153). -/
def checkHeader (cx : ImgCtx) (b : Img) : Vfy Unit :=
  let e (s c : Nat) : VErr := ⟨s, c, cx.part, 0x3FF, 0xFFFFFFFF⟩
  let len := u32 b 0x08
  do
    need (slice b 0 4 == [0x4E, 0x45, 0x53, 0x50] && u8 b 4 == 1 && u8 b 6 == cx.graft.toNat) (e 7 eVersion)
    need (decide (len ≤ cx.room ∧ 256 ≤ len)) (e 7 eTrunc)
    need (signedBy b 0 (len - 128) (fun h => cx.keys.contains h)) (e 8 eSig)
    need ((crc32c (slice b 0 0x7C ++ slice b 0x80 (32 * u16 b 0x0C))).toNat == u32 b 0x7C) (e 9 eCrc)

/-- Step 10: device, firmware, straps and the base of a graft. -/
def checkDevice (cx : ImgCtx) (b : Img) : Vfy Unit :=
  let e : VErr := ⟨10, eVersion, cx.part, 0x3FF, 0xFFFFFFFF⟩
  let brd : Option BoardRec := if cx.graft then some cx.board else
    ((sectsOf (sectTable b) 1).head?.map (fun s => readBoard b s.off ⟨s.idx, 0⟩))
  let var := bitsOf cx.devId 12 4
  do
    need (u16 b 0x10 == bitsOf cx.devId 16 16) e
    need (decide (u8 b 0x12 ≤ 16 * bitsOf cx.devId 8 4 + bitsOf cx.devId 4 4)) e
    need (u8 b 0x13 == 0 || u8 b 0x13 == var) e
    need (decide (u32 b 0x1C ≤ cx.fwVer)) e
    match brd with
    | none => pure ()
    | some r => need (decide (cx.strap &&& r.strapMask = r.strapValue &&& r.strapMask)) e
    need (!cx.graft || BitVec.ofNat 256 (beNum (slice b 0x40 32)) == cx.hash) e

/-- One entry of step 11: what it holds by itself and against its forerunner. -/
def checkSect (cx : ImgCtx) (b : Img) (t : List Sect) (s : Sect) : Vfy Unit :=
  let e (c : Nat) : VErr := ⟨11, c, cx.part, s.idx, 0xFFFFFFFF⟩
  let o := 0x80 + 32 * s.idx
  let lo := 0x80 + 32 * t.length
  let hi := u32 b 0x08 - 128
  match sectKind s.ty with
  | none => .error (e eVersion)
  | some k => do
    need (decide (lo ≤ s.off ∧ s.off + s.len ≤ hi)) (e eTrunc)
    need (zeros b o [(2, 2), (6, 2), (0x16, 2), (0x1C, 4)]) (e eStruct)
    need (decide (s.inst < k.insts ∧ s.off % 64 = 0 ∧ s.size = k.size)) (e eStruct)
    need (if k.size = 0 then (recOffs b s).getLastD s.off == s.off + s.len else s.len == s.count * k.size) (e eStruct)
    need (decide (s.idx = 0) || t.any (fun q => decide (q.idx + 1 = s.idx ∧ (q.ty < s.ty ∨ q.ty = s.ty ∧ q.inst < s.inst))))
      (e eStruct)
    need (!t.any (fun q => decide (q.idx < s.idx ∧ q.off < s.off + s.len ∧ s.off < q.off + q.len))) (e eStruct)

/-- The padding that begins at `o`, up to the next section or the trailer at `hi`, is 0 (R188). -/
def padZero (b : Img) (t : List Sect) (hi o : Nat) : Bool :=
  let next := (t.map (·.off)).foldl (fun m x => if o ≤ x ∧ x < m then x else m) hi
  zeroRun b o (next - o)

/-- Steps 11 and 12. Answers the section table. Padding that is not 0 is reported once every table entry has passed, against no section
(DESIGN CHOICE, log entry 154). -/
def checkTable (cx : ImgCtx) (b : Img) : Vfy (List Sect) :=
  let e (c : Nat) : VErr := ⟨11, c, cx.part, 0x3FF, 0xFFFFFFFF⟩
  let t := sectTable b
  let gp := u8 b 7
  do
    need (zeros b 0 [(0x0E, 2), (0x28, 24), (0x60, 28)] && decide (u32 b 0x18 < 2)) (e eStruct)
    need (if cx.graft then gp != 0 else gp == 0 && zeroRun b 0x40 32) (e eStruct)
    need (decide (1 ≤ t.length ∧ t.length ≤ 1023)) (e eStruct)
    need (decide (0x80 + 32 * t.length ≤ u32 b 0x08 - 128)) (e eTrunc)
    t.forM (checkSect cx b t)
    need (((0x80 + 32 * t.length) :: t.map (fun s => s.off + s.len)).all (padZero b t (u32 b 0x08 - 128))) (e eStruct)
    t.forM (fun s => need ((crc32c (slice b s.off s.len)).toNat == s.crc) ⟨12, eCrc, cx.part, s.idx, 0xFFFFFFFF⟩)
    return t

end Sys2Proof.Machine
end

