-- ==== Sys2Proof/Machine/SvLoad.lean ====
section
/-!
DEFINITION. Machine/SvLoad.lean: firmware images and their placement (R325, R326), the watchdog restart (R327, R328), and
the flash port and flash service (R330, R331).
-/
namespace Sys2Proof.Machine

/-! ### Flash as the verifier reads it -/

/-- First byte of a slot (R330): slot A at 0, slot B at 0x0400_0000. -/
def slotBase (slot : Nat) : Nat := slot * 0x4000000

/-- A byte of a flash device; an erased byte reads 0xFF (R190, R330). -/
def flashByte (m : Store Byte) (a : Nat) : Byte := storeGet 0xFF m a

/-- Bytes of a slot as an array. -/
def flashBytes (m : Store Byte) (slot n : Nat) : Img :=
  ((List.range n).map (fun i => flashByte m (slotBase slot + i))).toArray

/-- The bundle in a slot: its header, and the whole of it where the header gives a length that R190 permits. -/
def slotImg (m : Store Byte) (slot : Nat) : Img :=
  let len := u32 (flashBytes m slot 64) 8
  flashBytes m slot (if 64 ≤ len ∧ len ≤ 50331648 then len else 64)

/-- The flash from which bundles are read: OTP boot_src (Table 11.8). -/
def State.bootFlash (s : State) : Store Byte := if s.otp.bootSrc.getD 0 = 1 then s.qspi else s.flash

/-- The owner key hashes that a verification accepts (R193): programmed and not revoked. -/
def State.ownerKeys (s : State) : List (BitVec 256) :=
  (s.otp.keyProg.filter (fun k => !s.otp.revoked.contains k)).map (fun k => storeGet 0 s.otp.keyHash k)

/-! ### Firmware images (R325, R326) -/

/-- A core image: its entry, and its code and initial data words. -/
structure CoreImage where
  entry : Nat
  words : List Half
deriving DecidableEq, Repr, Inhabited

/-- The next multiple of 16. -/
def up16 (n : Nat) : Nat := (n + 15) / 16 * 16

/-- The core image whose head lies at `o`, and where the next image or the payload's end follows; none where R326 fails
it. -/
def coreImage (b : Img) (o : Nat) : Option (CoreImage × Nat) :=
  let entry := u32 b (o + 4)
  let code := u32 b (o + 8)
  let n := code + u32 b (o + 12)
  if code ≤ entry ∨ 0x60000 < n then none
  else some (⟨entry, (List.range n).map (fun i => BitVec.ofNat 16 (u16 b (o + 16 + 2 * i)))⟩, up16 (o + 16 + 2 * n))

/-- The two images of a container at `q.fwOff` (R325). -/
def coreImages (b : Img) (q : Bundle) : Option (CoreImage × CoreImage) :=
  match coreImage b (q.fwOff + 64) with
  | none => none
  | some (x, o) =>
    match coreImage b o with
    | none => none
    | some (y, o') => if o' = q.fwOff + q.fwLen - 128 then some (x, y) else none

/-- Words from word 0 on as a memory. -/
def wordStore (ws : List Half) : Store Half := storeFill 0 [] 0 ws.length (fun i => ws.getD i 0)

/-- A core with Table 14.1 set and its image placed: words 0 to code_words + init_words − 1 are protected, the rest is 0
(R326). -/
def CoreImage.core (x : CoreImage) : SvCore :=
  { pc := BitVec.ofNat 24 x.entry, entry := x.entry, protWords := x.words.length, mem := wordStore x.words }

/-- Places both images and starts the cores (R326). -/
def placeImages (s : State) (x y : CoreImage) : State :=
  ((s.setCore 0 x.core).setCore 1 y.core).setFld Reg.SV_STAT_state 1

/-- The firmware of the bundle in a slot. -/
def slotFirmware (s : State) (slot : Nat) : Option (CoreImage × CoreImage) :=
  let b := slotImg s.bootFlash slot
  match checkBundle b with
  | .ok q => coreImages b q
  | .error _ => none

/-- The firmware of a slot, its signature checked again (R328). -/
def signedFirmware (s : State) (slot : Nat) : Option (CoreImage × CoreImage) :=
  let b := slotImg s.bootFlash slot
  match checkBundle b with
  | .ok q =>
    if signedBy b q.fwOff (q.fwOff + q.fwLen - 128) (fun h => h == Config.vendorKeyHash) then coreImages b q else none
  | .error _ => none

/-! ### Watchdog and restart (R327, R328) -/

/-- Mailbox RAM word `w` of 16 bits. -/
def State.mbxAt (s : State) (w : Nat) : Half := storeGet 0 s.mbx w

/-- Writes mailbox RAM word `w`. -/
def State.setMbx (s : State) (w : Nat) (v : Half) : State := { s with mbx := storeSet 0 s.mbx w v }

/-- A flash-service request is answered: status, then busy is cleared (R331, Table 14.16). -/
def answerService (s : State) (status : Nat) : State :=
  (s.setMbx 0x1F006 (BitVec.ofNat 16 status)).setMbx 0x1F000 (s.mbxAt 0x1F000 &&& 0x7FFF)

/-- A flash-service request is waiting or in progress. -/
def serviceBusy (s : State) : Bool := (s.mbxAt 0x1F000).msb

/-- A core stopped for a restart: its window buffers are dropped (R328 steps 1 and 3). -/
def SvCore.stop (x : SvCore) : SvCore := { x with on := false, waiting := false, wbuf := 0, hold := 0, fly := [], slot := none }

/-- A new watchdog period begins (R327). -/
def newPeriod (s : State) : State := { s with kick := false, wdtWarned := false }

/-- The restart of both cores (R328, Table 14.14): SV_WDT_STAT shows the cause and the core, and counts; the request that
the flash service was serving ends ABORTED. From L3 to L6 it fails the start. -/
def wdtRestart (s : State) (core cause : Nat) (reload : Bool) : State :=
  let s := (s.wrapInc Reg.SV_WDT_STAT_restarts).setFld Reg.SV_WDT_STAT_reload reload.toNat
  let s := (s.setFld Reg.SV_WDT_STAT_core core).setFld Reg.SV_WDT_STAT_cause cause
  let s := newPeriod { s with svStop := none }
  let s := (s.setCore 0 (s.core 0).stop).setCore 1 (s.core 1).stop
  let s := if serviceBusy s then answerService s 4 else s
  let s := s.setFld Reg.SV_STAT_state 2
  if s.boot = bootLoad ∧ s.phases.contains 2 then countedFailure s 6 0 else s

/-- The watchdog watches (R327): while the SV domain is on, in ROM states too, and no restart is in progress. -/
def wdtOn (s : State) : Bool := s.domOn 1 && s.fld Reg.SV_STAT_state != 2

/-- WATCHDOG_RESTART (R328): after a core stop, at once; otherwise on timeout, which ends a period. -/
def execWatchdogRestart (s : State) : Host.Outcome State Fault Refusal :=
  match s.svStop with
  | some (c, k, p) => .next (wdtRestart s c k (k == 6 && p))
  | none => .next (if wdtOn s then wdtRestart s 0 1 false else s)

/-- Core `c` stops, running firmware or the ROM, with a cause of SV_WDT_STAT; `prot`: the word with an uncorrectable error is a
protected one. -/
def coreStop (s : State) (c cause : Nat) (prot : Bool) : State :=
  if s.fld Reg.SV_STAT_state ≠ 2 ∧ (s.core c).on ∧ 2 ≤ cause ∧ cause ≤ 6 ∧ s.svStop = none then
    let t : State := s.setCore c { s.core c with on := false }
    { t with svStop := some (c, cause, prot) }
  else s

/-- A core at its entry: unprotected memory is 0 and Table 14.1 is set (R328 steps 4 and 5). -/
def SvCore.again (x : SvCore) : SvCore :=
  { pc := BitVec.ofNat 24 x.entry, entry := x.entry, protWords := x.protWords,
    mem := x.mem.filter (fun e => decide (e.1 < x.protWords)) }

/-- SV_STAT.state once the cores have started again: FIRMWARE where images are placed, else ROM. -/
def svStateNow (s : State) : Nat := if (s.core 0).protWords = 0 ∧ (s.core 1).protWords = 0 then 0 else 1

/-- A reload whose signature check fails restarts the device with cause FW_START, which counts (R328, Table 11.6; log entry 26). -/
def reloadFailed (s : State) : State := restart (if s.nv.pend.isSome then s else countFailure s 6 0) none

/-- FIRMWARE_ENTRY (R328): both cores start at their entries, after a reload if the restart needs one. -/
def execFirmwareEntry (s : State) : Host.Outcome State Fault Refusal :=
  if s.fld Reg.SV_STAT_state ≠ 2 then .next s
  else if s.fld Reg.SV_WDT_STAT_reload = 1 then
    match signedFirmware s s.nv.slotActive with
    | some (x, y) => .next (newPeriod (placeImages s x y))
    | none => .next (reloadFailed s)
  else
    let t := (s.setCore 0 (s.core 0).again).setCore 1 (s.core 1).again
    .next (newPeriod (t.setFld Reg.SV_STAT_state (svStateNow t)))

/-- WDT_WARN (R327): half the timeout has passed in this period. -/
def execWdtWarn (s : State) : Host.Outcome State Fault Refusal :=
  .next (if wdtOn s = true ∧ s.wdtWarned = false then raiseEvent { s with wdtWarned := true } 13 else s)

/-- A supervisor write of SV_WDT_KICK (R327). -/
def kickWrite (s : State) (v : Word) : State :=
  if v = 0xA5C3 then { s with kick := true }
  else if v = 0x3C5A ∧ s.kick then newPeriod s
  else { s with kick := false }

/-- WDT_KICK (R327): the valid sequence of two writes starts a new period. -/
def execWdtKick (s : State) : Host.Outcome State Fault Refusal := .next (gated s Reg.SV_WDT_KICK (kickWrite (kickWrite s 0xA5C3) 0x3C5A))

/-! ### The flash port (R330) -/

/-- The slot that holds flash byte `a`; 2 = none. -/
def slotOf (a : Nat) : Nat := min 2 (a / 0x4000000)

/-- A VERIFY_SLOT in progress reads the slot (R209). -/
def slotRead (s : State) (slot : Nat) : Bool := s.espOp.any (fun o => o.op == 0 && o.slot == slot)

/-- Why the port refuses a command on bytes `a` to `a + n - 1` (SV_FLASH_STAT.status); 0 = it takes it. Where several grounds hold, R330
gives no order: the first of this list (DESIGN CHOICE, log entry 163). -/
def flashRefusal (s : State) (a n : Nat) (srcOk : Bool) : Nat :=
  if s.flashOp.isSome then 3
  else if slotOf a = 2 ∨ a % n ≠ 0 ∨ srcOk = false then 2
  else if slotOf a = s.nv.slotLkg then 1
  else if slotRead s (slotOf a) then 3
  else 0

/-- A page of 128 words at supervisor address `src` of core `c`, low byte first: from own local memory or the mailbox. -/
def pageSource (s : State) (c src : Nat) : Option (List Byte) :=
  let word (rd : Nat → Half) (i : Nat) : List Byte := [(rd i).setWidth 8, ((rd i) >>> 8).setWidth 8]
  if src + 128 ≤ 0x80000 then
    some ((List.range 128).flatMap (fun i => word (fun i => storeGet 0 (s.core c).mem (src + i)) i))
  else if 0x200000 ≤ src ∧ src + 128 ≤ 0x220000 then
    some ((List.range 128).flatMap (fun i => word (fun i => s.mbxAt (src - 0x200000 + i)) i))
  else none

/-- SV_FLASH_SRC names own local memory or the mailbox. -/
def sourceNamed (src : Nat) : Bool := decide (src < 0x80000) || decide (0x200000 ≤ src ∧ src < 0x220000)

/-- A go in SV_FLASH_CMD by core `c`: op 1 programs a page, 2 erases a block. -/
def flashGo (s : State) (c op : Nat) : State :=
  let a := (s.reg Reg.SV_FLASH_ADDR).toNat
  let page := pageSource s c (s.fld Reg.SV_FLASH_SRC_src)
  let n := if op = 1 then 256 else 65536
  let r := flashRefusal s a n (if op = 1 then page.isSome else sourceNamed (s.fld Reg.SV_FLASH_SRC_src))
  if op ≠ 1 ∧ op ≠ 2 then s
  else if r = 0 then
    let t : State := { s with flashOp := some (op, a, page.getD []) }
    t.setFld Reg.SV_FLASH_STAT_busy 1
  else s.setFld Reg.SV_FLASH_STAT_status r

/-- A programmed byte: data into an erased byte; over a byte that is not erased the spec states no result, so it is free
(log entry 27). -/
def programmed (old data : Byte) (k : Nat) : Byte := if old = 0xFF then data else (Config.freeValue k).setWidth 8

/-- A flash command ends: what it changes, status and event FLASH. On a flash error its bytes are free (log entry 27). -/
def flashDone (s : State) (err : Bool) : State :=
  match s.flashOp with
  | none => s
  | some (op, a, page) =>
    let n := if op = 1 then 256 else 65536
    let f (i : Nat) : Byte :=
      if err then (Config.freeValue (s.freeCtr + i)).setWidth 8
      else if op = 1 then programmed (flashByte s.flash (a + i)) (page.getD i 0xFF) (s.freeCtr + i)
      else 0xFF
    let t : State := { s with flash := storeFill 0xFF s.flash a n f, freeCtr := s.freeCtr + n, flashOp := none }
    raiseEvent ((t.setFld Reg.SV_FLASH_STAT_busy 0).setFld Reg.SV_FLASH_STAT_status (if err then 4 else 0)) 7

/-- FLASH_PROGRAM_PAGE (R330), by core `c`. -/
def execFlashProgramPage (c : Fin 2) (s : State) : Host.Outcome State Fault Refusal :=
  .next (gated s Reg.SV_FLASH_CMD (flashGo (s.setFld Reg.SV_FLASH_CMD_op 1) c 1))

/-- FLASH_ERASE_BLOCK (R330), by core `c`. -/
def execFlashEraseBlock (c : Fin 2) (s : State) : Host.Outcome State Fault Refusal :=
  .next (gated s Reg.SV_FLASH_CMD (flashGo (s.setFld Reg.SV_FLASH_CMD_op 2) c 2))

/-- FLASH_CMD_DONE (R330). -/
def execFlashCmdDone (err : Bool) (s : State) : Host.Outcome State Fault Refusal := .next (flashDone s err)

/-! ### The flash service (R331) -/

/-- The service is served: by running firmware, or by the ROM in WAIT_HOST and COPPICE. -/
def serviceOn (s : State) : Bool :=
  s.fld Reg.SV_STAT_state == 1 || s.boot == bootWaitHost || s.boot == bootCoppice

/-- op, offset, length and slot of the request. -/
def serviceOp (s : State) : Nat := (s.mbxAt 0x1F000).toNat % 4
def serviceOff (s : State) : Nat := (s.mbxAt 0x1F002).toNat + 65536 * (s.mbxAt 0x1F003).toNat
def serviceLen (s : State) : Nat := (s.mbxAt 0x1F004).toNat
def serviceSlot (s : State) : Nat := (s.mbxAt 0x1F005).toNat % 2

/-- The status of a request before it touches flash: REFUSED_LKG, REFUSED_RANGE, or FLASH_ERR where the port refuses. -/
def serviceRefusal (s : State) (write : Bool) : Nat :=
  if serviceSlot s = s.nv.slotLkg then 1
  else if write = true ∧ (serviceOff s % 256 ≠ 0 ∨ serviceLen s % 256 ≠ 0 ∨ serviceLen s = 0 ∨ 7680 < serviceLen s ∨
      0x4000000 < serviceOff s + serviceLen s) then 2
  else if s.flashOp.isSome ∨ slotRead s (serviceSlot s) then 3
  else 0

/-- Byte `i` of the service area's data. -/
def serviceByte (s : State) (i : Nat) : Byte := BitVec.ofNat 8 ((s.mbxAt (0x1F100 + i / 2)).toNat / 256 ^ (i % 2))

/-- A service request is carried out whole (log entry 28); `err`: a flash command of it fails. -/
def serviceRun (s : State) (write err : Bool) : State :=
  let op := if write then 2 else 1
  if serviceOn s = false ∨ serviceBusy s = false ∨ serviceOp s ≠ op then s
  else
    let r := serviceRefusal s write
    if r ≠ 0 then answerService s r
    else
      let lo := slotBase (serviceSlot s) + (if write then serviceOff s else 0)
      let n := if write then serviceLen s else 0x4000000
      let f (i : Nat) : Byte :=
        if err then (Config.freeValue (s.freeCtr + i)).setWidth 8
        else if write then programmed (flashByte s.flash (lo + i)) (serviceByte s i) (s.freeCtr + i)
        else 0xFF
      let m := if write = false ∧ err = false then s.flash.filter (fun e => decide (e.1 < lo ∨ lo + n ≤ e.1))
        else storeFill 0xFF s.flash lo n f
      answerService { s with flash := m, freeCtr := s.freeCtr + n } (if err then 3 else 0)

/-- FLASH_SERVICE_ERASE (R331). -/
def execFlashServiceErase (err : Bool) (s : State) : Host.Outcome State Fault Refusal := .next (serviceRun s false err)

/-- FLASH_SERVICE_WRITE (R331). -/
def execFlashServiceWrite (err : Bool) (s : State) : Host.Outcome State Fault Refusal := .next (serviceRun s true err)

end Sys2Proof.Machine
end

