-- ==== Sys2Proof/Machine/Clock.lean ====
section
/-!
DEFINITION. Machine/Clock.lean: PLL-A, PLL-B, the clock outputs and TICK_COUNT (R20 to R40). The loop filter of PLL-A is
not in the spec: its control word is a free value within the limits of R23 and R28 (log entry 8).
-/
namespace Sys2Proof.Machine

/-- CLK_STAT.plla_state values (Table 02.8). -/
def pllaFree : Nat := 0
def pllaAcquire : Nat := 1
def pllaLocked : Nat := 2
def pllaHoldover : Nat := 3

/-- PLL-A's state. -/
def State.plla (s : State) : Nat := s.fld Reg.CLK_STAT_plla_state

/-- Sets PLL-A's state. -/
def State.setPlla (s : State) (v : Nat) : State := s.setFld Reg.CLK_STAT_plla_state v

/-- The control word is clamped to ±858,993 units (R23). -/
def clampDco (v : Int) : Int := max (-858993) (min 858993 v)

/-- The control word. -/
def State.dco (s : State) : Int := (s.reg Reg.CLK_PLLA_DCO).toInt

/-- Writes the control word. -/
def State.setDco (s : State) (v : Int) : State := s.setReg Reg.CLK_PLLA_DCO (BitVec.ofInt 32 (clampDco v))

/-- A source is valid; XTAL always is (Table 02.4). -/
def srcValid (s : State) (n : Nat) : Bool := n == 0 || storeGet false s.clk.valid n

/-- Shows ref_valid and alt_valid. -/
def showValid (s : State) : State :=
  (s.setFld Reg.CLK_STAT_ref_valid (srcValid s (s.fld Reg.CLK_REFSEL_sel)).toNat).setFld Reg.CLK_STAT_alt_valid
    (srcValid s (s.fld Reg.CLK_REFSEL_alt_sel)).toNat

/-- Marks a source valid or lost. -/
def markSource (s : State) (n : Nat) (v : Bool) : State :=
  showValid { s with clk := { s.clk with valid := storeSet false s.clk.valid n v,
                                          validMs := storeSet 0 s.clk.validMs n 0 } }

/-- The mean of the control word over the 64 ms that end 16 ms before now (R26). Its rounding is a free choice between
the two nearest words. DESIGN CHOICE (log entry 8): where fewer than 80 ms of words exist, the mean is taken over those
that lie beyond the last 16, and with none of these the word freezes as it stands. -/
def holdoverMean (s : State) : Int :=
  let w := (s.clk.hist.drop 16).take 64
  if w = [] then s.dco
  else w.sum / w.length + (if w.sum % w.length = 0 then 0 else ((Config.freeValue s.freeCtr).toNat % 2 : Nat))

/-- PLL-A enters HOLDOVER (R26) and freezes the mean; from ACQUIRE on a source that has not reached LOCKED the word it froze
first stands (R27). -/
def enterHoldover (s : State) : State :=
  let w := if s.plla = pllaAcquire ∧ s.clk.hadLock = false then s.clk.frozen
    else if s.plla = pllaHoldover then s.dco else holdoverMean s
  let s : State := { s with clk := { s.clk with frozen := w, inBandMs := 0, slewAcc := 0 }, freeCtr := s.freeCtr + 1 }
  ((s.setDco w).setPlla pllaHoldover).setFld Reg.CLK_STAT_holdover_entered 1

/-- PLL-A acquires source `n`, or waits in HOLDOVER until it is valid. Time in band and lock start anew (R24, R27). -/
def acquire (s : State) (n : Nat) : State :=
  let s : State := { s with clk := { s.clk with inBandMs := 0, hadLock := false } }
  let s := s.setFld Reg.CLK_STAT_cur_src n
  if srcValid s n ∧ s.fld Reg.CLK_PLLA_CTL_freeze = 0 then s.setPlla pllaAcquire else s

/-- Every change of source passes through HOLDOVER and then ACQUIRE (R27). -/
def changeSource (s : State) (n : Nat) : State := acquire (enterHoldover s) n

/-- PTP_DCO meets the criteria that the device can tell from its own state: it is not marked invalid, its servo has updated it
within 2 s, and it is steered within ±200 ppm (Table 02.4, R23). -/
def ptpDcoOk (s : State) : Bool :=
  decide (s.clk.servoMs < 2000) && s.fld Reg.NET_PTP_CTL_valid == 1 && decide ((s.reg Reg.NET_PTP_ADJ).toInt.natAbs ≤ 858993)

/-- REF_LOSS (R25, R26): source `src` meets its loss criterion. PTP_DCO does so by the device's own state alone (Table 02.4,
R23); XTAL is not detected by PLL-A. -/
def execRefLoss (src : Fin 5) (s : State) : Host.Outcome State Fault Refusal :=
  let n := src.val
  if n = 0 ∨ (n = 1 ∧ ptpDcoOk s = true) then .next s
  else
    let cur := s.fld Reg.CLK_STAT_cur_src
    let t := markSource s n false
    let t := if n = cur ∨ n = s.fld Reg.CLK_REFSEL_sel then t.setFld Reg.CLK_STAT_ref_lost 1 else t
    .next (if n = cur ∧ (s.plla = pllaAcquire ∨ s.plla = pllaLocked) then enterHoldover t else t)

/-- No loss criterion of Table 02.4 that the device's own state shows stands against source `n`: PTP_DCO's, the lock of the AES3
receiver that CLK_REFSEL.aes_rx names, the lane alignment of the Pleach link. -/
def srcFit (s : State) (n : Nat) : Bool :=
  match n with
  | 1 => ptpDcoOk s
  | 3 => s.fld (Reg.AES_RX_STAT_lock (s.fld Reg.CLK_REFSEL_aes_rx)) == 1
  | 4 => s.fld Reg.TWN_LINK_aligned == 1
  | _ => true

/-- SOURCE_VALID_AGAIN (R25): a lost source has met its criteria for 1 s; a PLL-A that holds over for it acquires it. -/
def execSourceValidAgain (src : Fin 5) (s : State) : Host.Outcome State Fault Refusal :=
  let n := src.val
  if srcValid s n ∨ srcFit s n = false then .next s
  else
    let t := markSource s n true
    .next (if n = s.fld Reg.CLK_STAT_cur_src ∧ s.plla = pllaHoldover then acquire t n else t)

/-- ALT_FALLBACK (R27): in holdover, the alternate source has been valid for 1 s. -/
def execAltFallback (s : State) : Host.Outcome State Fault Refusal :=
  let a := s.fld Reg.CLK_REFSEL_alt_sel
  if s.plla = pllaHoldover ∧ s.fld Reg.CLK_REFSEL_alt_en = 1 ∧ s.fld Reg.CLK_PLLA_CTL_freeze = 0 ∧
      s.fld Reg.CLK_STAT_cur_src ≠ a ∧ srcValid s a ∧ (a = 0 ∨ 1000 ≤ storeGet 0 s.clk.validMs a) then
    .next ((acquire s a).setFld Reg.CLK_STAT_fallback 1)
  else .next s

/-- REF_REVERT (R27): with revert set, the primary source has been valid for 10 s. -/
def execRefRevert (s : State) : Host.Outcome State Fault Refusal :=
  let p := s.fld Reg.CLK_REFSEL_sel
  if s.fld Reg.CLK_REFSEL_revert = 1 ∧ s.fld Reg.CLK_STAT_cur_src ≠ p ∧ srcValid s p ∧
      (p = 0 ∨ 10000 ≤ storeGet 0 s.clk.validMs p) then .next (changeSource s p)
  else .next s

/-- Slew limit of R28 in control-word units × 10^10 per 1 ms update: 100, 10, 1 or 0.1 ppm/s of 2^32 units. -/
def slewUnits (slew : Nat) : Nat := 2 ^ 32 * 10 ^ (4 - slew)

/-- The most the control word may change in this update, and the budget left; `none` without a limit. -/
def slewBudget (s : State) : Option (Nat × Nat) :=
  let l := s.fld Reg.CLK_PLLA_CTL_slew
  if l = 0 then none
  else let a := s.clk.slewAcc + slewUnits l; some (a / 10 ^ 10, a % 10 ^ 10)

/-- A change limited by the slew budget. -/
def limitStep (b : Option (Nat × Nat)) (d : Int) : Int :=
  match b with
  | none => d
  | some (n, _) => max (-(n : Int)) (min n d)

/-- The control word's update in ACQUIRE and LOCKED. For XTAL the word returns to 0, and FREE follows. -/
def stepWord (s : State) : State :=
  let b := slewBudget s
  let f : Int := (Config.freeValue s.freeCtr).toInt
  let d : Int := if s.fld Reg.CLK_STAT_cur_src = 0 then -s.dco else f
  if s.plla = pllaAcquire then
    let t : State := { (s.setDco (s.dco + limitStep b d)) with
      freeCtr := s.freeCtr + 1, clk := { s.clk with slewAcc := (b.map (·.2)).getD 0 } }
    if s.fld Reg.CLK_STAT_cur_src = 0 ∧ t.dco = 0 then t.setPlla pllaFree else t
  else if s.plla = pllaLocked then { (s.setDco (s.dco + f)) with freeCtr := s.freeCtr + 1 }
  else s

/-- The phase error of an update, in ns. Following PTP_DCO while the tick runs, PLL-A steers the boundaries onto the times that the
media origin gives them, so that its error is the one that NET_MEDIA_ERR shows (R29, R308); any other is what PLL-A has
measured, `errNs` (DEDUCED, log entry 144). -/
def phaseErr (s : State) (errNs : Int) : Int :=
  if s.fld Reg.CLK_STAT_cur_src = 1 ∧ s.tickOn ∧ s.net.orgSet then (s.reg Reg.NET_MEDIA_ERR).toInt else errNs

/-- PLLA_UPDATE (R24, R26, R28): the 1 ms update with the measured phase error. A phase error beyond ±50 ns ends
LOCKED. -/
def execPllaUpdate (measured : Int) (s : State) : Host.Outcome State Fault Refusal :=
  let errNs := phaseErr s measured
  let c := s.clk
  let t : State := { s with clk := { c with
    validMs := c.valid.foldl (fun m v => storeSet 0 m v.1 (storeGet 0 m v.1 + 1)) c.validMs,
    servoMs := c.servoMs + 1, bw := s.fld Reg.CLK_PLLA_CTL_bw,
    inBandMs := if errNs.natAbs ≤ 50 ∧ (s.plla = pllaAcquire ∨ s.plla = pllaLocked) then c.inBandMs + 1 else 0 } }
  let t := stepWord t
  let t : State := { t with clk := { t.clk with hist := (t.dco :: t.clk.hist).take 80 } }
  .next (if t.plla = pllaLocked ∧ 50 < errNs.natAbs then t.setPlla pllaAcquire else t)

/-- max(1 s, 10 / bandwidth) in ms, for the bandwidth codes of CLK_PLLA_CTL.bw (R24). -/
def lockMs (bw : Nat) : Nat := match bw with | 0 => 100000 | 1 => 33334 | 2 => 10000 | 3 => 3334 | _ => 1000

/-- PLLA_LOCK (R24). -/
def execPllaLock (s : State) : Host.Outcome State Fault Refusal :=
  let bw := if s.fld Reg.CLK_PLLA_CTL_acq_fast = 1 then 6 else s.clk.bw
  if s.plla = pllaAcquire ∧ s.fld Reg.CLK_STAT_cur_src ≠ 0 ∧ lockMs bw ≤ s.clk.inBandMs then
    .next { (s.setPlla pllaLocked) with clk := { s.clk with hadLock := true } }
  else .next s

/-- A field keeps its value when the code written is not assigned (R8). -/
def codeOr (s : State) (f : Fld) (v limit : Nat) : State := if v < limit then s.setFld f v else s

/-- A write of CLK_REFSEL by the supervisor (R17, R27). DESIGN CHOICE (log entry 113): another receiver or another multiple
is another source under the same number. It counts as not valid until it has met its criteria, and if PLL-A follows that
number the write is a change of source; a new alt_sel alone is none. -/
def refselWrite (s : State) (v : Word) : State :=
  let old := (s.fld Reg.CLK_REFSEL_sel, s.fld Reg.CLK_REFSEL_aes_rx, s.fld Reg.CLK_REFSEL_wclk_mult)
  let cur := s.fld Reg.CLK_STAT_cur_src
  let t := codeOr (codeOr s Reg.CLK_REFSEL_sel (bitsOf v 0 3) 5) Reg.CLK_REFSEL_alt_sel (bitsOf v 8 3) 5
  let t := (t.setFld Reg.CLK_REFSEL_aes_rx (bitsOf v 4 3)).setFld Reg.CLK_REFSEL_alt_en (bitsOf v 12 1)
  let t := codeOr (t.setFld Reg.CLK_REFSEL_revert (bitsOf v 13 1)) Reg.CLK_REFSEL_wclk_mult (bitsOf v 16 2) 3
  let sel := t.fld Reg.CLK_REFSEL_sel
  let newAes := t.fld Reg.CLK_REFSEL_aes_rx ≠ old.2.1
  let newWclk := t.fld Reg.CLK_REFSEL_wclk_mult ≠ old.2.2
  let t := if newAes then markSource t 3 false else t
  let t := if newWclk then markSource t 2 false else t
  showValid (if sel ≠ old.1 then changeSource t sel
    else if (cur = 3 ∧ newAes) ∨ (cur = 2 ∧ newWclk) then changeSource t cur else t)

/-- CLK_REFSEL_WRITE (R27). -/
def execClkRefselWrite (v : Word) (s : State) : Host.Outcome State Fault Refusal := .next (gated s Reg.CLK_REFSEL (refselWrite s v))

/-- A write of CLK_PLLA_CTL (R24): the bandwidth acts from the next update; freeze enters HOLDOVER as on loss, and its
release leaves it through ACQUIRE. -/
def pllaCtl (s : State) (v : Word) : State :=
  let old := s.fld Reg.CLK_PLLA_CTL_freeze
  let t := codeOr (codeOr s Reg.CLK_PLLA_CTL_bw (bitsOf v 0 3) 7) Reg.CLK_PLLA_CTL_slew (bitsOf v 4 3) 5
  let t := (t.setFld Reg.CLK_PLLA_CTL_freeze (bitsOf v 8 1)).setFld Reg.CLK_PLLA_CTL_acq_fast (bitsOf v 9 1)
  let new := t.fld Reg.CLK_PLLA_CTL_freeze
  if old = 0 ∧ new = 1 then enterHoldover t
  else if old = 1 ∧ new = 0 then acquire t (t.fld Reg.CLK_STAT_cur_src)
  else t

/-- PLLA_CTL_WRITE (R24). -/
def execPllaCtlWrite (v : Word) (s : State) : Host.Outcome State Fault Refusal := .next (gated s Reg.CLK_PLLA_CTL (pllaCtl s v))

/-- VTUNE_WARN (R32): the tuning voltage comes near a band edge, or leaves it. -/
def execVtuneWarn (near : Bool) (s : State) : Host.Outcome State Fault Refusal :=
  let t := s.setFld Reg.CLK_STAT_vtune_warn near.toNat
  .next (if near then t.setFld Reg.CLK_STAT_vtune_seen 1 else t)

/-- PLL-B loses lock, or XTAL is lost: every root-domain clock stops, and it is a self-detected fault (R33). After an earlier fault of
the start it is shown and causes nothing more (R243). -/
def pllbLost (s : State) (xtal : Bool) : State :=
  let t := s.setFld Reg.CLK_STAT_pllb_lock 0
  if t.faultStart then t else raiseFault { t with tickOn := false } 9 xtal.toNat

/-- PLLB_UNLOCK (R33). -/
def execPllbUnlock (xtal : Bool) (s : State) : Host.Outcome State Fault Refusal := .next (pllbLost s xtal)

/-- A write of CLK_OUTn_CTL or CLK_OUTn_DIV; a written divisor 0 counts as 1. -/
def clkOutWrite (s : State) (n : Nat) (div : Bool) (v : Word) : State :=
  if div then s.setFld (Reg.CLK_OUT_DIV_div_m1 n) (if bitsOf v 0 16 = 0 then 1 else bitsOf v 0 16)
  else
    let s := (s.setFld (Reg.CLK_OUT_CTL_en n) (bitsOf v 0 1)).setFld (Reg.CLK_OUT_CTL_inv n) (bitsOf v 1 1)
    (s.setFld (Reg.CLK_OUT_CTL_dly_fine n) (bitsOf v 4 4)).setFld (Reg.CLK_OUT_CTL_dly_coarse n) (bitsOf v 8 12)

/-- CLK_OUT_CONFIG (R34): the enable and the divisor act from the next boundary. -/
def execClkOutConfig (n : Fin 8) (div : Bool) (v : Word) (s : State) : Host.Outcome State Fault Refusal :=
  .next (gated s (Reg.CLK_OUT_CTL n) (clkOutWrite s n div v))

/-- A write of CLK_WCLK_CTL (R35). -/
def wclkWrite (s : State) (v : Word) : State :=
  (s.setFld Reg.CLK_WCLK_CTL_en (bitsOf v 0 1)).setFld Reg.CLK_WCLK_CTL_dly (bitsOf v 16 16)

/-- CLK_WCLK_CONFIG (R35). -/
def execClkWclkConfig (v : Word) (s : State) : Host.Outcome State Fault Refusal := .next (gated s Reg.CLK_WCLK_CTL (wclkWrite s v))

/-- IOCLK cycles per tick (Table 06.2). -/
def State.ioclks (s : State) : Nat := 4096 / 2 ^ s.fld Reg.TICK_RATE_mult

/-- The high phase of a period of `d` + 1 IOCLK periods; an odd divisor makes it one longer (CLK_OUTn_DIV). -/
def highPart (d : Nat) : Nat := (d + 2) / 2

/-- A divider `n` IOCLK periods on: the period in progress ends with its own divisor, those after it have the divisor in
force. DESIGN CHOICE (log entry 144): R34 does not say with which divisor a period ends that is in progress when a
free-running output's divisor changes. -/
def ClkOut.pass (o : ClkOut) (n : Nat) : ClkOut :=
  if o.en = false then { o with high := o.high - n }
  else if o.phase + n < o.curM1 + 1 then { o with phase := o.phase + n }
  else { o with phase := (o.phase + n - (o.curM1 + 1)) % (o.divM1 + 1), curM1 := o.divM1, held := false }

/-- The part of the high phase that is left. -/
def ClkOut.highLeft (o : ClkOut) : Nat :=
  if o.en = false then o.high else if o.held ∨ o.phase = 0 then 0 else highPart o.curM1 - o.phase

/-- One clock output at a boundary (R34): enable and divisor take effect; the delay at a reload or an enable. A disabled
output completes its high phase. A divider that a reload restarts within a low phase keeps the output low for one period, since
no pulse may be shorter than half a period (log entry 144). -/
def clkOutBoundary (s : State) (n : Nat) : State :=
  let o := (storeGet {} s.clk.outs n : ClkOut).pass s.ioclks
  let en := s.fld (Reg.CLK_OUT_CTL_en n) == 1
  let d := s.fld (Reg.CLK_OUT_DIV_div_m1 n)
  let reload := s.ioclks % (d + 1) = 0 ∨ (en = true ∧ o.en = false)
  let o' : ClkOut := {
    en := en, divM1 := d,
    phase := if reload then 0 else o.phase,
    curM1 := if reload ∨ o.phase = 0 then d else o.curM1,
    held := decide (en = true ∧ o.en = true ∧ reload ∧ highPart o.curM1 ≤ o.phase) || (o.held && !decide reload),
    high := if en then 0 else o.highLeft,
    dly := if reload then 16 * s.fld (Reg.CLK_OUT_CTL_dly_coarse n) + s.fld (Reg.CLK_OUT_CTL_dly_fine n) else o.dly }
  { s with clk := { s.clk with outs := storeSet {} s.clk.outs n o' } }

/-- The level of the undelayed, uninverted output `n` IOCLK periods after the boundary (R34, R35). -/
def ClkOut.level (o : ClkOut) (n : Nat) : Bool :=
  if o.en then
    let p := o.pass n
    !p.held && decide (p.phase < highPart p.curM1)
  else decide (n < o.high)

/-- A ball of power domain `d`: it floats (`none`) while the domain is OFF (R361, Table 16.6). -/
def ballOf (s : State) (d : Nat) (level : Bool) : Option Bool := if s.fld (Reg.PWR_DOM_CTL_state d) = 2 then none else some level

/-- CLK_OUTn at `k` sixteenths of an IOCLK period after the boundary plus its delay; low until RUN or COPPICE is first reached
(R34, R35). DESIGN CHOICE (log entry 144): the inversion takes the level of a disabled output too, so that with inv = 1 it
rests high. -/
def clkOutPin (s : State) (n k : Nat) : Option Bool :=
  ballOf s 14 (s.clk.driven && ((storeGet {} s.clk.outs n : ClkOut).level (k / 16) != (s.fld (Reg.CLK_OUT_CTL_inv n) == 1)))

/-- WCLK_OUT at `k` sixteenths of an IOCLK period after the boundary plus its delay: high for the first half of the tick
(R35). -/
def wclkPin (s : State) (k : Nat) : Option Bool :=
  ballOf s 14 (s.clk.driven && s.clk.wclkEn && decide (k % (16 * s.ioclks) < 8 * s.ioclks))

/-- The clock outputs at a boundary (R34, R35). DESIGN CHOICE (log entry 144): R35 does not say whether clearing CLK_WCLK_CTL.en
in the first half of a tick cuts its high phase; the model takes the enable at boundaries. -/
def clkBoundary (s : State) : State :=
  let s := (List.range 8).foldl clkOutBoundary s
  { s with clk := { s.clk with wclkEn := s.fld Reg.CLK_WCLK_CTL_en == 1 } }

/-- The number of a path in `State.readData`. -/
def pathNum : Path → Nat
  | .sv0 => 0 | .sv1 => 1 | .pcie => 2 | .lb => 3

/-- The number of a path's holding register: the supervisor has one (R40). -/
def holdNum : Path → Nat
  | .sv0 => 0 | .sv1 => 0 | .pcie => 1 | .lb => 2

/-- A read of TICK_COUNT bits 31:0 latches bits 63:32 (R40). DESIGN CHOICE (log entry 114): past 2^64 − 1, where R39 defines
no wrapping, `State.tick` counts on and the register shows it modulo 2^64. -/
def latchTick (s : State) (p : Path) : State :=
  { s with tickHold := storeSet 0 s.tickHold (holdNum p) (BitVec.ofNat 32 (s.tick / 2 ^ 32)) }

/-- TICK_COUNT_READ (R40): the low word is returned and the high word latched. -/
def execTickCountRead (path : Path) (s : State) : Host.Outcome State Fault Refusal :=
  .next (gatedBy s path Reg.TICK_COUNT0 (let t := latchTick s path
    { t with readData := storeSet 0 t.readData (pathNum path) (BitVec.ofNat 32 s.tick) }))

end Sys2Proof.Machine
end

