-- ==== Sys2Proof/Machine/Dma.lean ====
section
/-!
DEFINITION. Machine/Dma.lean: the 32 stream DMA channels (15_dma.md). A command DMA_BEAT grants one beat: the read of a
descriptor, one 32-byte read, or one write of at most 32 bytes. Reads of host memory are answered by DMA_READ_DATA.
-/
namespace Sys2Proof.Machine

/-- Channel states (Table 15.5). -/
def dmaIdle : Nat := 0
def dmaRun : Nat := 1
def dmaEmpty : Nat := 2
def dmaWait : Nat := 3
def dmaStopped : Nat := 4
def dmaFault : Nat := 5

/-- Channel `n`. -/
def State.chan (s : State) (n : Nat) : Chan := storeGet {} s.dma.chans n

/-- Stores channel `n`. -/
def State.setChan (s : State) (n : Nat) (c : Chan) : State :=
  { s with dma := { s.dma with chans := storeSet {} s.dma.chans n c } }

/-- State of channel `n`. -/
def State.chanSt (s : State) (n : Nat) : Nat := s.fld (Reg.DMA_CH_STAT_state n)

/-- DMA_GSTAT.stopped shows whether a channel is STOPPED. -/
def showStopped (s : State) : State :=
  s.setFld Reg.DMA_GSTAT_stopped ((List.range 32).any (fun n => s.chanSt n == dmaStopped)).toNat

/-- Sets the state of channel `n`. -/
def State.setChanSt (s : State) (n v : Nat) : State := showStopped (s.setFld (Reg.DMA_CH_STAT_state n) v)

/-- The block operates from the end of L2 in LOAD, RIPENING and RUN (R332). -/
def dmaOn (s : State) : Bool :=
  s.phases.contains 2 && (s.boot == bootLoad || s.boot == bootRipening || s.boot == bootRun)

/-- An event of channel `n` (R344); `always`: a FAULT or STOPPED entry signals the supervisor whatever irq_sv holds. -/
def dmaEvent (s : State) (n : Nat) (always : Bool) : State :=
  let s := s.setFld ⟨Reg.DMA_IRQ_STAT, n, 1⟩ 1
  let s := if always ∨ s.fld (Reg.DMA_CH_CFG_irq_sv n) = 1 then raiseEvent s 6 else s
  if s.fld (Reg.DMA_CH_CFG_irq_host n) = 1 then sendMsix s (s.fld (Reg.DMA_CH_CFG_vec n)) else s

/-! ### Windows (R334, R335) -/

/-- The windows of channel `n` that hold the rounded range of a beat, in `space` from 32-byte unit `u` for `k` units. -/
def winsHold (s : State) (n space u k : Nat) : List WinRec :=
  s.str.wins.filter (fun w => w.channel == n && w.space == space && decide (w.base ≤ 32 * u) &&
    decide (32 * (u + k) ≤ w.base + w.length))

/-- The window that decides: the one of the highest priority. -/
def topWin : List WinRec → Option WinRec
  | [] => none
  | w :: r => match topWin r with
    | none => some w
    | some v => if v.access / 16 ≤ w.access / 16 then some w else some v

/-- A word of a started line (R118): its writer runs or sleeps. -/
def startedLineWord (s : State) (space a : Nat) : Bool :=
  s.str.lines.any (fun r =>
    r.tier == space && decide (lineAddr r 0 ≤ a / 4 ∧ a / 4 < lineAddr r 0 + r.length) &&
    (s.engState (16 * r.cluster + r.writer) == engRun || s.engState (16 * r.cluster + r.writer) == engAsleep))

/-- The bytes of the graft buffer region (BOARD.graft_region), if the image names one. -/
def graftRegion (s : State) : Option (Nat × Nat) :=
  (s.str.drams[s.str.board.graftRegion]?).bind (fun d =>
    if d.graftBuf then some (512 * d.base, 512 * d.length) else none)

/-- The beat on bytes `a` to `a + len - 1` of `space` is permitted (R335). -/
def beatOk (s : State) (n space a len : Nat) (write : Bool) : Bool :=
  let u := a / 32
  let k := (a + len + 31) / 32 - u
  match topWin (winsHold s n space u k) with
  | none => false
  | some w =>
    space != 3 && w.access / (if write then 2 else 1) % 2 == 1 &&
    (space != 1 || (s.fld (Reg.MEM_BANK_PWR_state (a / 0x40000)) == 0 &&
      s.fld (Reg.MEM_BANK_OWNER_state (a / 0x40000)) == bankOwnedSt &&
      s.fld (Reg.MEM_BANK_OWNER_owner (a / 0x40000)) == w.partition)) &&
    (space != 2 || decide (32 * (u + k) ≤ 2 ^ (if Config.dram32 then 35 else 34))) &&
    !(write && (List.range len).any (fun i => startedLineWord s space (a + i))) &&
    !(write && space == 2 && s.fld Reg.ESP_STAT_state != 0 &&
      (graftRegion s).any (fun g => decide (a < g.1 + g.2 ∧ g.1 < a + len)))

/-! ### Memory as the channels see it -/

/-- A byte of on-chip memory. -/
def onchipByte (s : State) (space a : Nat) : Byte :=
  let w : Word := storeGet 0 (if space = 1 then s.delay else s.dram) (a / 4)
  BitVec.ofNat 8 (w.toNat / 256 ^ (a % 4))

/-- Writes a byte of on-chip memory; the other bytes of its word stay (R338). -/
def putOnchipByte (s : State) (space a : Nat) (b : Byte) : State :=
  let m := if space = 1 then s.delay else s.dram
  let w : Word := putBits (storeGet 0 m (a / 4)) (8 * (a % 4)) 8 b.toNat
  if space = 1 then { s with delay := storeSet 0 s.delay (a / 4) w } else { s with dram := storeSet 0 s.dram (a / 4) w }

/-- The findings (log entry 165) of an access of `words` words, or of one burst, of on-chip memory at byte `a` are counted: of a tier-1 bank in
MEM_DLY_ECC.ce of its cluster (R66), of the DRAM in MEM_DRAM_STAT, where a repeated burst counts too (R127). -/
def meetFind (s : State) (space a words : Nat) (f : MemFind) : State :=
  match space with
  | 1 => s.satAdd (Reg.MEM_DLY_ECC_ce (a / 0x40000 / 48)) (min f.ce.val words)
  | 2 =>
    let t := if f.ce = 0 then s else s.satInc Reg.MEM_DRAM_STAT_link_ce
    if f.repeated then t.satInc Reg.MEM_DRAM_STAT_retry else t
  | _ => s

/-- 32-bit words that a write of `len` bytes at `a` covers in part, and so reads first (R338). -/
def partWords (a len : Nat) : Nat :=
  (((List.range len).map (fun i => (a + i) / 4)).eraseDups.filter (fun w => !(decide (a ≤ 4 * w ∧ 4 * w + 4 ≤ a + len)))).length

/-- What the read half of a partial write finds (R338): of each part word of a tier-1 bank, of a DRAM burst that is not written
whole. -/
def meetWrite (s : State) (space a len : Nat) (f : MemFind) : State :=
  if space = 2 ∧ a % 32 = 0 ∧ len = 32 then s else meetFind s space a (partWords a len) f

/-- A write beat, with byte enables. -/
def putBytes (s : State) (space a : Nat) (bs : List Byte) : State :=
  if space = 0 then { s with dma := { s.dma with host := s.dma.host ++ [(a, bs)] } }
  else bs.zipIdx.foldl (fun s b => putOnchipByte s space (a + b.2) b.1) s

/-! ### Descriptors (Table 15.2, R336, R337) -/

/-- Ring base of channel `n`, and the address of the descriptor at HEAD. -/
def ringAt (s : State) (n : Nat) : Nat :=
  (s.reg (Reg.DMA_CH_RING0 n)).toNat + 2 ^ 32 * (s.reg (Reg.DMA_CH_RING1 n)).toNat + 32 * s.fld (Reg.DMA_CH_HEAD_head n)

/-- The space of channel `n`'s ring. -/
def ringSpace (s : State) (n : Nat) : Nat := s.fld (Reg.DMA_CH_RING_SIZE_space n)

/-- Word `i` of a descriptor. -/
def dW (d : List Word) (i : Nat) : Word := d.getD i 0
def dOwn (d : List Word) : Bool := bitsOf (dW d 0) 31 1 == 1
def dBarrier (d : List Word) : Bool := bitsOf (dW d 0) 30 1 == 1
def dIntHalf (d : List Word) : Bool := bitsOf (dW d 0) 29 1 == 1
def dIntFull (d : List Word) : Bool := bitsOf (dW d 0) 28 1 == 1
def dKeep (d : List Word) : Bool := bitsOf (dW d 0) 27 1 == 1
def dSwap (d : List Word) : Nat := bitsOf (dW d 0) 25 2
def dSrcFixed (d : List Word) : Bool := bitsOf (dW d 0) 24 1 == 1
def dDstFixed (d : List Word) : Bool := bitsOf (dW d 0) 23 1 == 1
def dSrcSpace (d : List Word) : Nat := bitsOf (dW d 0) 21 2
def dDstSpace (d : List Word) : Nat := bitsOf (dW d 0) 19 2
def dLen (d : List Word) : Nat := bitsOf (dW d 1) 0 24
def dSrc (d : List Word) : Nat := (dW d 2).toNat + 2 ^ 32 * (dW d 3).toNat
def dDst (d : List Word) : Nat := (dW d 4).toNat + 2 ^ 32 * (dW d 5).toNat

/-- Bytes of a swap unit. -/
def swapUnit (k : Nat) : Nat := match k with | 0 => 1 | 1 => 2 | _ => 4

/-- The byte of the source stream that byte `i` of the destination stream takes (R336, R338). -/
def swapIdx (k i : Nat) : Nat :=
  match k with
  | 0 => i
  | 1 => i / 2 * 2 + (1 - i % 2)
  | 2 => i / 4 * 4 + (3 - i % 4)
  | _ => i / 4 * 4 + (i % 4 + 2) % 4

/-- A descriptor with own = 1 is malformed (R337). -/
def dMalformed (d : List Word) : Bool :=
  bitsOf (dW d 0) 0 19 != 0 || bitsOf (dW d 1) 24 8 != 0 || dLen d == 0 || dSrcSpace d == 3 || dDstSpace d == 3 ||
    ((dSrcFixed d || dDstFixed d) && (dLen d % 4 != 0 || (dSrcFixed d && dSrc d % 4 != 0) ||
      (dDstFixed d && dDst d % 4 != 0))) || dLen d % swapUnit (dSwap d) != 0

/-- Bytes of the current descriptor whose writes were issued. -/
def State.done (s : State) (n : Nat) : Nat := s.fld (Reg.DMA_CH_DONE_done n)

/-- The status word is written where R335 permits. -/
def writeStatus (s : State) (n result : Nat) (f : MemFind := {}) : State :=
  if beatOk s n (ringSpace s n) (ringAt s n + 24) 4 true then
    putBytes (meetWrite s (ringSpace s n) (ringAt s n + 24) 4 f) (ringSpace s n) (ringAt s n + 24)
      (wordBytes (BitVec.ofNat 32 (result * 2 ^ 28 + s.done n)))
  else s

/-- Channel `n` enters FAULT (R335, R337): a window violation also writes its cause into the status of the descriptor at HEAD. -/
def dmaFail (s : State) (n cause : Nat) (f : MemFind := {}) : State :=
  let s := if cause = 1 then writeStatus s n 1 f else s
  let s := (s.setFld (Reg.DMA_CH_STAT_cause n) cause).setChanSt n dmaFault
  dmaEvent (s.setChan n { s.chan n with asked := false, buf := [] }) n true

/-! ### Pacing (R340 to R342) -/

def paceOf (s : State) (n : Nat) : Nat := s.fld (Reg.DMA_CH_CFG_pace n)

/-- The fill rule after a change of the count (R342). -/
def fillRule (s : State) (n : Nat) : State :=
  let f := s.fld (Reg.DMA_CH_FILL_fill n)
  if f ≤ 256 * s.fld (Reg.DMA_CH_MARKS_lo n) then s.setFld (Reg.DMA_CH_FILL_enabled n) 1
  else if 256 * s.fld (Reg.DMA_CH_MARKS_hi n) ≤ f then s.setFld (Reg.DMA_CH_FILL_enabled n) 0
  else s

/-- A disabled or enabled channel in fill pacing shows WAIT or RUN. -/
def fillState (s : State) (n : Nat) : State :=
  if paceOf s n = 2 ∧ (s.chanSt n = dmaRun ∨ s.chanSt n = dmaWait) then
    s.setChanSt n (if s.fld (Reg.DMA_CH_FILL_enabled n) = 1 then dmaRun else dmaWait)
  else s

/-- Subtracts bytes from a fill count; it saturates at 0. -/
def fillSub (s : State) (n k : Nat) : State :=
  fillState (fillRule (s.setFld (Reg.DMA_CH_FILL_fill n) (s.fld (Reg.DMA_CH_FILL_fill n) - k)) n) n

/-- Bytes written by channel `n` (R342): they add to its own fill count and subtract from the counts it drains. -/
def fillWritten (s : State) (n k : Nat) : State :=
  let s := if paceOf s n = 2 then fillState (fillRule (s.satAdd (Reg.DMA_CH_FILL_fill n) k) n) n else s
  (List.range 32).foldl (fun s m =>
    if s.fld (Reg.DMA_CH_CFG_drain_en m) = 1 ∧ s.fld (Reg.DMA_CH_CFG_drain_ch m) = n then fillSub s m k else s) s

/-- A request for a channel in request pacing (R341): at most 3 are held; an EMPTY channel reads its descriptor again. -/
def dmaRequest (s : State) (n : Nat) : State :=
  let st := s.chanSt n
  if paceOf s n ≠ 1 ∨ st = dmaIdle ∨ st = dmaFault then s
  else
    let p := s.fld (Reg.DMA_CH_STAT_pending n)
    let s := if p < 3 then s.setFld (Reg.DMA_CH_STAT_pending n) (p + 1) else s.satInc (Reg.DMA_CH_STAT_req_over n)
    if st = dmaWait then s.setChanSt n dmaRun
    else if st = dmaEmpty then (s.setChan n { s.chan n with phase := .fetch, asked := false }).setChanSt n dmaRun
    else s

/-! ### Commands of a channel -/

/-- The first tick whose TICK request channel `n` takes after a go in the current tick (R341). -/
def dmaFrom (s : State) (n : Nat) : Nat :=
  if s.fld (Reg.DMA_CH_CFG_start_en n) = 1 then
    let d := ((s.reg (Reg.DMA_CH_START n)).toNat + 2 ^ 32 - s.tick % 2 ^ 32) % 2 ^ 32
    if d < 2 ^ 31 then s.tick + d else s.tick + 1
  else s.tick + 1

/-- A go (R347): in IDLE or FAULT the descriptor at HEAD is read. A channel without a window faults at once (R334). -/
def dmaStart (s : State) (n : Nat) : State :=
  if dmaOn s = false ∨ (s.chanSt n ≠ dmaIdle ∧ s.chanSt n ≠ dmaFault) then s
  else
    let s := s.setChan n { fromTick := dmaFrom s n }
    let s := (s.setFld (Reg.DMA_CH_STAT_pending n) 0).setFld (Reg.DMA_CH_DONE_done n) 0
    if s.str.wins.all (fun w => w.channel != n) then dmaFail s n 1
    else if paceOf s n = 2 ∧ s.fld (Reg.DMA_CH_MARKS_hi n) ≤ s.fld (Reg.DMA_CH_MARKS_lo n) then dmaFail s n 2
    else fillState (fillRule (s.setChanSt n dmaRun) n) n

/-- DMA_GO (R347). -/
def execDmaGo (n : Fin 32) (s : State) : Host.Outcome State Fault Refusal := .next (gated s (Reg.DMA_CH_CTL n) (dmaStart s n))

/-- An abort (R347): in any state but IDLE, result ABORTED, or BUS from STOPPED, goes with done into the status of the descriptor at
HEAD where R335 permits; own and HEAD stay. -/
def dmaStop (s : State) (n : Nat) (f : MemFind := {}) : State :=
  if s.chanSt n = dmaIdle then s
  else
    let r := if s.chanSt n = dmaStopped then 3 else 4
    (((writeStatus s n r f).setFld (Reg.DMA_CH_STAT_cause n) r).setChan n {}).setChanSt n dmaIdle

/-- DMA_ABORT (R347), with what the read of a DRAM burst for the status write finds. -/
def execDmaAbort (n : Fin 32 × MemFind) (s : State) : Host.Outcome State Fault Refusal :=
  .next (gated s (Reg.DMA_CH_CTL n.1) (dmaStop s n.1 n.2))

/-- A doorbell (R337): an EMPTY channel reads the descriptor at HEAD again. -/
def dmaBell (s : State) (n : Nat) : State :=
  if s.chanSt n = dmaEmpty then
    (s.setChan n { s.chan n with phase := .fetch, asked := false }).setChanSt n dmaRun
  else s

/-- DMA_DOORBELL (R337). -/
def execDmaDoorbell (n : Fin 32) (s : State) : Host.Outcome State Fault Refusal := .next (gated s (Reg.DMA_CH_CTL n) (dmaBell s n))

/-- A software request (R341). -/
def dmaSoft (s : State) (n : Nat) : State := if s.fld (Reg.DMA_CH_CFG_req_sel n) = 1 then dmaRequest s n else s

/-- DMA_SOFT_REQUEST (R341). -/
def execDmaSoftRequest (n : Fin 32) (s : State) : Host.Outcome State Fault Refusal := .next (gated s (Reg.DMA_CH_CTL n) (dmaSoft s n))

/-- DMA_TICK_REQUEST (R341): device cycle 384 of the tick. -/
def execDmaTickRequest (s : State) : Host.Outcome State Fault Refusal :=
  .next (if s.tickOn then (List.range 32).foldl (fun s n =>
      if s.fld (Reg.DMA_CH_CFG_req_sel n) = 0 ∧ (s.chan n).fromTick ≤ s.tick then dmaRequest s n else s) s
    else s)

/-- A write of DMA_CHn_CTL: an abort, a go, a doorbell, a request. The abort of a plain write meets no finding (log entry 165). -/
def dmaCtl (s : State) (n : Nat) (v : Word) : State :=
  let s := if bitsOf v 30 1 = 1 then dmaStop s n else s
  let s := if bitsOf v 31 1 = 1 then dmaStart s n else s
  let s := if bitsOf v 29 1 = 1 then dmaBell s n else s
  if bitsOf v 28 1 = 1 then dmaSoft s n else s

/-- DMA_FILL_DEC (R342). -/
def execDmaFillDec (n : Fin 32) (v : Word) (s : State) : Host.Outcome State Fault Refusal :=
  .next (gated s (Reg.DMA_CH_FILL_DEC n) (fillSub s n (bitsOf v 0 24)))

/-! ### Completion (R337, R339) -/

/-- A descriptor completes: status, then own, then HEAD; the full event; the next descriptor is read. Each of the two writes is checked
before it is issued (R335): where the own write is a violation, the status shows WINDOW and HEAD stays. -/
def dmaComplete (s : State) (n : Nat) (d : List Word) (fs fo : MemFind := {}) : State :=
  let sp := ringSpace s n
  let a := ringAt s n
  if beatOk s n sp (a + 24) 4 true = false then dmaFail s n 1
  else if dKeep d = false ∧ beatOk s n sp a 4 true = false then dmaFail (writeStatus s n 0 fs) n 1 fo
  else
    let s := writeStatus s n 0 fs
    let s := if dKeep d then s else putBytes (meetWrite s sp a 4 fo) sp a (wordBytes (dW d 0 &&& 0x7FFFFFFF))
    let s := s.setFld (Reg.DMA_CH_HEAD_head n)
      ((s.fld (Reg.DMA_CH_HEAD_head n) + 1) % (s.fld (Reg.DMA_CH_RING_SIZE_size_m1 n) + 1))
    let s := if dIntFull d then dmaEvent s n false else s
    (s.setChan n { fromTick := (s.chan n).fromTick }).setFld (Reg.DMA_CH_DONE_done n) 0

/-- A barrier of channel `n` is confirmed (R339): the completion writes follow. A STOPPED channel issues nothing (R345): there they
follow with its first beat after the restart (DEDUCED, log entry 165). -/
def barrierDone (s : State) (n : Nat) (fs fo : MemFind) : State :=
  match (s.chan n).phase, (s.chan n).desc with
  | .barrier, some d =>
    if s.chanSt n = dmaStopped then s.setChan n { s.chan n with phase := .arrived } else dmaComplete s n d fs fo
  | _, _ => s

/-- DMA_BARRIER_DONE (R339), with what the reads of a DRAM burst for the status and the own write find. -/
def execDmaBarrierDone (n : Fin 32 × MemFind × MemFind) (s : State) : Host.Outcome State Fault Refusal :=
  .next (barrierDone s n.1 n.2.1 n.2.2)

/-- What the read of the descriptor at HEAD finds (R337). -/
def dmaDescriptor (s : State) (n : Nat) (d : List Word) : State :=
  if dOwn d = false then (s.setChan n { s.chan n with asked := false }).setChanSt n dmaEmpty
  else if dMalformed d then dmaFail s n 2
  else
    let s := s.setFld (Reg.DMA_CH_DONE_done n) 0
    let s := s.setChan n { fromTick := (s.chan n).fromTick, phase := .move, desc := some d }
    if paceOf s n = 1 ∧ s.fld (Reg.DMA_CH_STAT_pending n) = 0 then s.setChanSt n dmaWait else fillState s n

/-- Little-endian words of some bytes. -/
def bytesWords (bs : List Byte) : List Word :=
  (List.range (bs.length / 4)).map (fun i => BitVec.ofNat 32 (leNat ((bs.drop (4 * i)).take 4)))

/-! ### Beats (R338, R343) -/

/-- The next byte of the descriptor that has not been read. -/
def Chan.readPos (c : Chan) : Nat := c.bufAt + c.buf.length

/-- The end of the bytes that the channel may move now: the burst's end in request pacing, else the descriptor's. -/
def moveEnd (s : State) (n : Nat) (d : List Word) : Nat :=
  if paceOf s n = 1 then min (dLen d) (s.done n + (s.chan n).burst) else dLen d

/-- Bytes of the next write beat: to the end of the destination's 32-byte unit, or one 32-bit unit at a fixed address. -/
def writeLen (d : List Word) (done stop : Nat) : Nat :=
  if dDstFixed d then min 4 (stop - done) else min (32 - (dDst d + done) % 32) (stop - done)

/-- The source bytes of the next write beat have been read: whole swap units (R338). -/
def canWrite (s : State) (n : Nat) (d : List Word) : Bool :=
  let k := writeLen d (s.done n) (moveEnd s n d)
  let u := swapUnit (dSwap d)
  k != 0 && decide ((s.done n + k + u - 1) / u * u ≤ (s.chan n).readPos)

/-- The next write beat. -/
def dmaWriteBeat (s : State) (n : Nat) (d : List Word) (m : BeatMeet) : State :=
  let c := s.chan n
  let at' := s.done n
  let k := writeLen d at' (moveEnd s n d)
  let a := if dDstFixed d then dDst d else dDst d + at'
  if beatOk s n (dDstSpace d) a k true = false then dmaFail s n 1 m.status
  else
    let s := meetWrite s (dDstSpace d) a k m.data
    let bs := (List.range k).map (fun i => c.buf.getD (swapIdx (dSwap d) (at' + i) - c.bufAt) 0)
    let s := fillWritten ((putBytes s (dDstSpace d) a bs).setFld (Reg.DMA_CH_DONE_done n) (at' + k)) n k
    let keep := (at' + k) / 4 * 4
    let hf := 2 * (at' + k) ≥ dLen d
    let s := if hf ∧ c.half = false ∧ dIntHalf d then dmaEvent s n false else s
    let s := s.setChan n { c with
      buf := c.buf.drop (keep - c.bufAt), bufAt := max c.bufAt keep, burst := c.burst - k, share := c.share - k,
      half := c.half || hf }
    if at' + k = dLen d then
      if dBarrier d then s.setChan n { s.chan n with phase := .barrier } else dmaComplete s n d m.status m.own
    else if paceOf s n = 1 ∧ (s.chan n).burst = 0 ∧ s.fld (Reg.DMA_CH_STAT_pending n) = 0 then s.setChanSt n dmaWait
    else s

/-- Address and useful bytes of the next read beat from byte `p` on: the rest of the source's 32-byte unit, as far as the bytes
before `stop` need whole swap units, or one unit of a fixed address. What lies beyond, a later burst reads again (R338, the chapter's
example). -/
def nextRead (d : List Word) (p stop : Nat) : Nat × Nat :=
  let u := swapUnit (dSwap d)
  if dSrcFixed d then (dSrc d, 4) else (dSrc d + p, min (32 - (dSrc d + p) % 32) ((stop + u - 1) / u * u - p))

/-- Data read for byte `p` on comes into the channel buffer. -/
def takeData (s : State) (n : Nat) (bs : List Byte) : State :=
  let c := s.chan n
  s.setChan n { c with buf := c.buf ++ bs, asked := false }

/-- The next read beat; a read of on-chip memory takes the whole 32-byte units that its range touches (R338), and what it finds in
them is counted. -/
def dmaReadBeat (s : State) (n : Nat) (d : List Word) (m : BeatMeet) : State :=
  let c := s.chan n
  let r := nextRead d c.readPos (moveEnd s n d)
  if beatOk s n (dSrcSpace d) r.1 r.2 false = false then dmaFail s n 1 m.status
  else if dSrcSpace d = 0 then s.setChan n { c with asked := true }
  else takeData (meetFind s (dSrcSpace d) r.1 8 m.data) n ((List.range r.2).map (fun i => onchipByte s (dSrcSpace d) (r.1 + i)))

/-- A burst of request pacing begins: a pending request is served (R340). -/
def startBurst (s : State) (n : Nat) (d : List Word) : State :=
  let p := s.fld (Reg.DMA_CH_STAT_pending n)
  if paceOf s n = 1 ∧ (s.chan n).burst = 0 ∧ p ≠ 0 then
    (s.setFld (Reg.DMA_CH_STAT_pending n) (p - 1)).setChan n { s.chan n with
      burst := min (4 * (s.fld (Reg.DMA_CH_CFG_burst_m1 n) + 1)) (dLen d - s.done n) }
  else s

/-- The beat of channel `n`. -/
def dmaBeatOf (s : State) (n : Nat) (m : BeatMeet) : State :=
  let c := s.chan n
  match c.phase, c.desc with
  | .move, some d =>
    let s := startBurst s n d
    if canWrite s n d then dmaWriteBeat s n d m else dmaReadBeat s n d m
  | .arrived, some d => fillState (dmaComplete s n d m.status m.own) n
  | _, _ =>
    if beatOk s n (ringSpace s n) (ringAt s n) 32 false = false then dmaFail s n 1 m.status
    else if ringSpace s n = 0 then s.setChan n { c with asked := true }
    else
      dmaDescriptor (meetFind s (ringSpace s n) (ringAt s n) 8 m.data) n
        (bytesWords ((List.range 32).map (fun i => onchipByte s (ringSpace s n) (ringAt s n + i))))

/-- The space and address of channel `n`'s next beat. -/
def nextBeat (s : State) (n : Nat) : Nat × Nat :=
  match (s.chan n).phase, (s.chan n).desc with
  | .move, some d =>
    if canWrite (startBurst s n d) n d then (dDstSpace d, if dDstFixed d then dDst d else dDst d + s.done n)
    else (dSrcSpace d, (nextRead d (s.chan n).readPos (moveEnd (startBurst s n d) n d)).1)
  | .arrived, some _ => (ringSpace s n, ringAt s n + 24)
  | _, _ => (ringSpace s n, ringAt s n)

/-- The channel has a beat to issue: it runs, waits for no read and no barrier, and the space's domain is ON. -/
def hasBeat (s : State) (n : Nat) : Bool :=
  s.chanSt n == dmaRun && !(s.chan n).asked && (s.chan n).phase != .barrier &&
    (match (nextBeat s n).1 with | 0 => s.domOn 12 | 2 => s.domOn 10 | _ => true)

/-- A beat that waits for a bank cycle or a burst slot counts a conflict (R117, R125). -/
def countWait (s : State) (n : Nat) : State :=
  if hasBeat s n = false then s
  else match nextBeat s n with
    | (1, a) => s.satInc (Reg.MEM_CONFLICT_dma (a / 0x40000 / 48))
    | (2, _) => s.satInc Reg.MEM_DRAM_CONFLICT_dma
    | _ => s

/-- The channel that gets the beat (R343): the highest priority; among equals the one whose share still runs, else the
next in turn. -/
def dmaPick (s : State) (ready : List Nat) : Option Nat :=
  let pr (n : Nat) : Nat := s.fld (Reg.DMA_CH_CFG_prio n)
  match (ready.map pr).max? with
  | none => none
  | some p =>
    let cs := ready.filter (fun n => pr n == p)
    let l := storeGet 0 s.dma.last p
    if cs.contains l ∧ (s.chan l).share ≠ 0 then some l
    else match cs.find? (fun n => decide (l < n)) with
      | some n => some n
      | none => cs.head?

/-- A channel that starts a new share gets its length: its burst, or 1,024 bytes (R343). -/
def newShare (s : State) (n : Nat) : State :=
  let c := s.chan n
  if c.share ≠ 0 then s
  else s.setChan n { c with share := if paceOf s n = 1 then 4 * (s.fld (Reg.DMA_CH_CFG_burst_m1 n) + 1) else 1024 }

/-- DMA_BEAT (R343): one beat, to the channel that arbitration names; a channel whose next beat waits for a bank cycle or a burst slot
(`meet.waiting`) is not ready. -/
def execDmaBeat (meet : BeatMeet) (s : State) : Host.Outcome State Fault Refusal :=
  if dmaOn s = false then .next s
  else
    let ws := meet.waiting.map (·.val)
    let ready := (List.range 32).filter (fun n => hasBeat s n && !ws.contains n)
    let t := ws.eraseDups.foldl countWait s
    match dmaPick s ready with
    | none => .next t
    | some n =>
      let t : State := { t with dma := { t.dma with last := storeSet 0 t.dma.last (s.fld (Reg.DMA_CH_CFG_prio n)) n } }
      .next (dmaBeatOf (newShare t n) n meet)

/-- DMA_READ_DATA (R338): the data of the host read that channel `n` has outstanding; a stopped channel discards it
(R345). -/
def execDmaReadData (n : Fin 32) (bytes : List Byte) (s : State) : Host.Outcome State Fault Refusal :=
  let c := s.chan n
  if c.asked = false ∨ s.chanSt n = dmaStopped then .next s
  else match c.phase, c.desc with
    | .move, some d => .next (takeData s n (bytes.take (nextRead d c.readPos (moveEnd s n d)).2))
    | _, _ => .next (dmaDescriptor (s.setChan n { c with asked := false }) n (bytesWords (bytes.take 32)))

/-! ### Stops (R345 to R347) -/

/-- One channel stops: its position is its first byte whose write was not issued. -/
def stopChan (s : State) (n : Nat) : State :=
  if s.chanSt n = dmaRun ∨ s.chanSt n = dmaEmpty ∨ s.chanSt n = dmaWait then
    let c := s.chan n
    dmaEvent ((s.setChan n { c with asked := false, buf := [], bufAt := s.done n / 4 * 4 }).setChanSt n dmaStopped) n true
  else s

/-- DMA_ERR.kind of a bus error. -/
def busErrorCode : BusError → Nat
  | .urOrCa => 1
  | .timeout => 2
  | .poisoned => 3
  | .tier1 => 4
  | .dram _ => 5
  | .buffer => 6

/-- DMA_BUS_ERROR (R345): the error, the channel if it is known, and the address of the failing beat. An uncorrectable tier-1 read is
a self-detected fault too, in cycle `cycle` of the cluster's tick; a repeat of an uncorrectable DRAM read, where a repeat slot was left,
is counted (R127). -/
def execDmaBusError (kind : BusError) (ch : Option (Fin 32)) (space : Fin 3) (addr : BitVec 64) (cycle : BitVec 15) (s : State) :
    Host.Outcome State Fault Refusal :=
  if dmaOn s = false then .next s
  else
    let t := s.satInc Reg.DMA_GSTAT_stops
    let t := if t.fld Reg.DMA_ERR_valid = 1 then t
      else
        let w := 2 ^ 31 + (match ch with | some n => n.val | none => 0x3F) * 256 + space.val * 16 + busErrorCode kind
        ((t.setReg Reg.DMA_ERR (BitVec.ofNat 32 w)).setReg Reg.DMA_ERR_ADDR0 (addr.setWidth 32)).setReg
          Reg.DMA_ERR_ADDR1 ((addr >>> 32).setWidth 32)
    let t := (List.range 32).foldl stopChan t
    .next (match kind with
      | .tier1 =>
        let b := addr.toNat / 0x40000
        clusterFault t (b / 48) 4 (b % 48) (addr.toNat % 0x40000 / 4) cycle.toNat false
      | .dram true => t.satInc Reg.MEM_DRAM_STAT_retry
      | _ => t)

/-- The channel waits for a request: in request pacing, with a descriptor, between bursts, and none pending (Table 15.5). -/
def waitsRequest (s : State) (n : Nat) : Bool :=
  paceOf s n == 1 && (s.chan n).phase == .move && (s.chan n).desc.isSome && (s.chan n).burst == 0 &&
    s.fld (Reg.DMA_CH_STAT_pending n) == 0

/-- A stopped channel resumes (R346): it reads again what it had not yet written. -/
def resumeChan (s : State) (n : Nat) : State :=
  if s.chanSt n = dmaStopped then
    let s := if (s.chan n).desc.isSome then s else s.setChan n { s.chan n with phase := .fetch }
    if (s.chan n).phase = .arrived then s.setChanSt n dmaRun
    else if waitsRequest s n then s.setChanSt n dmaWait else fillState (s.setChanSt n dmaRun) n
  else s

/-- DMA_RESTART (R346, R347): the supervisor resumes the masked channels; a restart in the cycle of a stop is lost. -/
def execDmaRestart (path : Path) (mask : Word) (withStop : Bool) (s : State) : Host.Outcome State Fault Refusal :=
  if path = .pcie ∨ path = .lb then .next s
  else if withStop then .next (gated s Reg.DMA_RESTART (s.setFld Reg.DMA_GSTAT_restart_lost 1))
  else .next (gated s Reg.DMA_RESTART ((List.range 32).foldl (fun s n => if bitsOf mask n 1 = 1 then resumeChan s n else s) s))

/-- DMA_CTL.cnt_clr. -/
def clearDmaCounts (s : State) : State :=
  (List.range 32).foldl (fun s n => s.setFld (Reg.DMA_CH_STAT_req_over n) 0) (s.setFld Reg.DMA_GSTAT_stops 0)

/-- DMA_CNT_CLR (R341). -/
def execDmaCntClr (s : State) : Host.Outcome State Fault Refusal := .next (gated s Reg.DMA_CTL (clearDmaCounts s))

end Sys2Proof.Machine
end

