-- ==== Sys2Proof/Machine/Ports.lean ====
section
/-!
DEFINITION. Machine/Ports.lean: the TDM, AES3 and Quickset ports, the ASRC states and the Quickset mixer (R144, R148 to
R152, R221 to R228, R249, R284 to R297). A command carries what arrives at the pins: a received word, the measured
place of a frame sync, a lost clock.
-/
namespace Sys2Proof.Machine

/-- A field of the port settings of a PORTCFG record, one byte at record offset 0x04 + `i`. -/
def cfgByte (s : State) (kind port i : Nat) : Nat := ((s.portCfg kind port).map (fun r => r.byte i)).getD 0

/-- In twin mode this twin drives what starts with a word of launch tick `t` (R244, R249, R251): as owner from the launch tick
that it took over, with drivers armed by a fault at once, and as the owner before a planned handover until launch tick H. -/
def ownsLaunch (s : State) (t : Nat) : Bool :=
  if s.fld Reg.TWN_STAT_owner = 1 then decide (s.twin.ownFrom ≤ t) else s.twin.armed || decide (t < s.twin.ownUntil)

/-- The output drivers of a channel are on for a frame whose first word belongs to launch tick `t` (R249, R265, R270). -/
def drives (s : State) (kind port ch t : Nat) : Bool :=
  !s.floated && (!s.twinMode || ownsLaunch s t) && !keptFloated s kind port ch

/-- OUT_OWN (R231): high while this twin drives at least one output group, from the arming of its drivers on. -/
def outOwnPin (s : State) : Bool :=
  s.twinMode && !s.floated && (s.fld Reg.TWN_STAT_owner == 1 || s.twin.armed) &&
    s.str.twin.any (fun r => !s.twin.kept.contains r.group)

/-- PL_TICK_OUT `n` IOCLK periods after a device tick boundary (R231); it floats while the PLEACH domain is OFF (Table 16.6). -/
def tickOutPin (s : State) (n : Nat) : Option Bool :=
  if s.fld (Reg.PWR_DOM_CTL_state 13) = 2 then none else some (s.tickOn && decide (n < 8))

/-- A frame sync within ±8 IOCLK periods of nominal (R288, R295). -/
def fsGoodAt (fs : Option (BitVec 8)) : Bool :=
  match fs with
  | some d => decide (d.toInt.natAbs ≤ 8)
  | none => false

/-- Power-domain numbers of the port kinds (Table 16.1). -/
def domTdm : Nat := 14
def domQs : Nat := 15
def domAes : Nat := 16

/-! ### TDM (R284 to R289) -/

/-- The frame-sync check of a group at the first word of a frame (R288). The key 4 stands for the Quickset port. -/
def fsCheck (s : State) (key : Nat) (locked good : Bool) : State :=
  let n := storeGet 0 s.io.fsBad key
  if locked then { s with io := { s.io with fsBad := storeSet 0 s.io.fsBad key (if good then 0 else n + 1) } }
  else { s with io := { s.io with
    fsGood := storeSet 0 s.io.fsGood key (if good then storeGet 0 s.io.fsGood key + 1 else 0) } }

/-- The counts of good and bad frames of a port group start again, as its state changes (R288). -/
def clearFs (s : State) (key : Nat) : State :=
  { s with io := { s.io with fsGood := storeSet 0 s.io.fsGood key 0, fsBad := storeSet 0 s.io.fsBad key 0 } }

/-- What a clock or frame-sync ball of a port does. -/
inductive ClkPin where
  | floats | low | runs
deriving DecidableEq, Repr

/-- TDM_BCLKg and TDM_FSg (R288): a master drives both, low until the tick generator starts; a slave's are inputs; the balls of a
domain that is off float (R297). -/
def tdmClkPins (s : State) (g : Nat) : ClkPin :=
  if s.fld (Reg.TDM_GCFG_master g) = 0 ∨ s.domOn domTdm = false then .floats else if s.tickOn then .runs else .low

/-- QS_CLK and QS_FS (R296): a master drives both from the start of the tick generator on. -/
def qsClkPins (s : State) : ClkPin :=
  if s.fld Reg.QS_CFG_master = 0 ∨ s.domOn domQs = false ∨ s.tickOn = false then .floats else .runs

/-- Shows the measured deviation of a frame start. -/
def showPhase (s : State) (f : Fld) (fs : Option (BitVec 8)) : State :=
  match fs with
  | some d => s.setFld f d.toNat
  | none => s

/-- TDM_SLOT_INPUT (R286 to R288): slot `slot` of frame `j` of the tick on TDM_DI `port`; `first` marks the first word of
the group's frame, with the frame sync measured in `fs`. In SEARCH and in a frame with an FS error the word is 0. -/
def execTdmSlotInput (port : Fin 32) (slot : Fin 16) (j : Fin 4) (raw : Word) (fs : Option (BitVec 8)) (first : Bool)
    (s : State) : Host.Outcome State Fault Refusal :=
  let g := port.val / 8
  if s.fld (Reg.TDM_GSTAT_state g) = 0 ∨ s.domOn domTdm = false then .next s
  else
    let locked := s.fld (Reg.TDM_GSTAT_state g) == 2
    let t := if first ∧ s.fld (Reg.TDM_GCFG_master g) = 0 then
        let t := showPhase s (Reg.TDM_GSTAT_phase_dev g) fs
        fsCheck (if locked ∧ fsGoodAt fs = false then t.satInc (Reg.TDM_GSTAT_fs_err g) else t) g locked (fsGoodAt fs)
      else s
    let v : Word := if locked ∧ storeGet 0 t.io.fsBad g = 0 then raw else 0
    .next { t with io := { t.io with inNow := storeSet 0 t.io.inNow (chanKey 1 port.val slot.val j.val) v } }

/-- The IOROUTE output record of a channel. -/
def outRec (s : State) (kind port ch : Nat) : Option IoRec :=
  s.str.io.find? (fun r => r.dir == 1 && r.kind == kind && r.port == port && r.channel == ch)

/-- A frame of TDM_DO `port` starts: which slots this twin drives in it is settled (R244, R249, R251). -/
def tdmFrameStart (s : State) (port : Nat) : State :=
  { s with io := { s.io with tdmDrives := (List.range 16).foldl (fun m i =>
    storeSet false m (16 * port + i) (drives s 1 port i s.launchTick)) s.io.tdmDrives } }

/-- TDM_DO `port` floats in a slot (R286, R288, R249). Drivers that a fault floats float at once; in twin mode they start with a
frame. -/
def tdmFloats (s : State) (port slot : Nat) : Bool :=
  s.fld (Reg.TDM_GSTAT_state (port / 8)) != 2 || !s.domOn domTdm || s.floated ||
    (s.twinMode && !storeGet false s.io.tdmDrives (16 * port + slot)) ||
    s.str.io.all (fun r => !(r.dir == 1 && r.kind == 1 && r.port == port))

/-- What TDM_DO `port` carries in slot `slot` of frame `j` (R224, R286, R249); `none` = the ball floats. -/
def tdmWord (s : State) (port slot j : Nat) : State × Option Word :=
  if tdmFloats s port slot then (s, none)
  else
    let v : State × Word := match outRec s 1 port slot with
      | none => (s, 0)
      | some r => ((launchWord s 1 port slot j).1, (launchWord s 1 port slot j).2 <<< (32 - r.wordBits))
    let last := s.twinMode && slot + 1 == 2 ^ s.fld (Reg.TDM_GCFG_slots_log2 (port / 8))
    (v.1, some (if last then v.2 &&& 0xFFFFFFFE else v.2))

/-- TDM_SLOT_OUTPUT (R286). -/
def execTdmSlotOutput (port : Fin 32) (slot : Fin 16) (j : Fin 4) (s : State) : Host.Outcome State Fault Refusal :=
  let v := tdmWord (if slot.val = 0 then tdmFrameStart s port.val else s) port.val slot.val j.val
  .next { v.1 with io := { v.1.io with tdmOut := storeSet none v.1.io.tdmOut (16 * port.val + slot.val) v.2 } }

/-- TDM_LOCK (R288): after 16 consecutive good frames. -/
def execTdmLock (g : Fin 4) (s : State) : Host.Outcome State Fault Refusal :=
  if s.fld (Reg.TDM_GSTAT_state g) = 1 ∧ 16 ≤ storeGet 0 s.io.fsGood g.val then
    .next (clearFs (s.setFld (Reg.TDM_GSTAT_state g) 2) g.val)
  else .next s

/-- TDM_UNLOCK (R288): four consecutive FS errors, or no bit clock for 64 IOCLK periods. -/
def execTdmUnlock (g : Fin 4) (clkLost : Bool) (s : State) : Host.Outcome State Fault Refusal :=
  if s.fld (Reg.TDM_GSTAT_state g) = 2 ∧ s.fld (Reg.TDM_GCFG_master g) = 0 ∧
      (clkLost = true ∨ 4 ≤ storeGet 0 s.io.fsBad g.val) then
    let t := (s.setFld (Reg.TDM_GSTAT_state g) 1).setFld (Reg.TDM_GSTAT_unlock_seen g) 1
    let t := if clkLost then t.setFld (Reg.TDM_GSTAT_clk_lost g) 1 else t
    .next (clearFs t g.val)
  else .next s

/-- TDM_CTL.cnt_clr. -/
def clearTdmCounts (s : State) : State := (List.range 4).foldl (fun s g => s.setFld (Reg.TDM_GSTAT_fs_err g) 0) s

/-- TDM_CNT_CLR (R288). -/
def execTdmCntClr (s : State) : Host.Outcome State Fault Refusal := .next (gated s Reg.TDM_CTL (clearTdmCounts s))

/-! ### AES3 receivers and their ASRCs (R148, R149, R290, R291) -/

/-- Received samples that an ASRC's filter looks back on: no fewer than 64 received and 32 base periods at a ratio of 4, twice
the group delay of Table 06.5 (log entry 5). -/
def asrcLength : Nat := 192

/-- A receiver delivers a sample of a channel to its ASRC (R290). -/
def asrcTake (s : State) (n : Nat) (chB : Bool) (v : Word) : State :=
  let k := 2 * n + chB.toNat
  { s with io := { s.io with aesPrev := storeSet 0 s.io.aesPrev k v,
                             asrcRx := storeSet [] s.io.asrcRx k ((v :: storeGet [] s.io.asrcRx k).take asrcLength) } }

/-- AES_RX_SUBFRAME (R290): a subframe of a locked receiver. A parity error repeats the previous good sample; a frame
with a biphase violation or a missing preamble counts as two parity errors, at its subframe A. -/
def execAesRxSubframe (n : Fin 8) (chB : Bool) (audio : BitVec 24) (v parityBad bpBad : Bool) (s : State) :
    Host.Outcome State Fault Refusal :=
  if s.fld (Reg.AES_RX_STAT_lock n) = 0 ∨ s.domOn domAes = false then .next s
  else
    let t := if v then s.setFld (Reg.AES_RX_STAT_v_seen n) 1 else s
    let old := storeGet 0 t.io.aesPrev (2 * n.val + chB.toNat)
    if bpBad then
      .next (asrcTake (if chB then t else (t.satAdd (Reg.AES_RX_STAT_par_err n) 2).satInc (Reg.AES_RX_STAT_bp_err n)) n chB old)
    else if parityBad then .next (asrcTake (t.satInc (Reg.AES_RX_STAT_par_err n)) n chB old)
    else .next (asrcTake t n chB (BitVec.ofInt 32 (convIn 24 audio.toInt)))

/-- AES_RX_LOCK (R290): a receiver with rx_en = 1 locks; its ASRC acquires. -/
def execAesRxLock (n : Fin 8) (s : State) : Host.Outcome State Fault Refusal :=
  if cfgByte s 2 n 0 = 1 ∧ s.fld (Reg.AES_RX_STAT_lock n) = 0 ∧ s.domOn domAes then
    let t := (s.setFld (Reg.AES_RX_STAT_lock n) 1).setFld (Reg.AES_ASRC_STAT_state n) 1
    .next { t with io := { t.io with
      asrcLoop := storeSet 0 t.io.asrcLoop n.val 0,
      asrcRx := storeSet [] (storeSet [] t.io.asrcRx (2 * n.val) []) (2 * n.val + 1) [] } }
  else .next s

/-- ASRC_UNLOCK (R148): the receiver has lost lock, or the ratio has left 0.25 to 4.0. The ASRC delivers 0 from the next tick. -/
def execAsrcUnlock (n : Fin 8) (lost oor : Bool) (s : State) : Host.Outcome State Fault Refusal :=
  let isLost := lost && s.fld (Reg.AES_RX_STAT_lock n) == 1
  let isOor := oor && s.fld (Reg.AES_ASRC_STAT_state n) != 0
  if isLost || isOor then
    let t := s.setFld (Reg.AES_ASRC_STAT_state n) 0
    let t := if isLost then ((t.setFld (Reg.AES_RX_STAT_lock n) 0).setFld (Reg.AES_RX_STAT_lock_lost n) 1).setFld
      (Reg.AES_ASRC_STAT_unlock n) 1 else t
    let t := if isOor then t.setFld (Reg.AES_ASRC_STAT_oor n) 1 else t
    .next { t with io := { t.io with asrcTicks := storeSet 0 t.io.asrcTicks n.val 0 } }
  else .next s

/-- ASRC_LOCK (R148): acquisition of a locked receiver's signal ends with a ratio within range; `ratio` is in Q3.13,
`rate` a code of Table 06.8. Converted samples follow after one tick in LOCKED. An ASRC that a ratio out of range has put in
UNLOCKED while its receiver stays locked goes to LOCKED without passing ACQUIRE, and shows its last ratio and rate meanwhile:
the spec names no event that would take it there (DEDUCED, log entry 126). -/
def execAsrcLock (n : Fin 8) (ratio : Half) (rate : Fin 9) (s : State) : Host.Outcome State Fault Refusal :=
  if s.fld (Reg.AES_RX_STAT_lock n) = 1 ∧ s.fld (Reg.AES_ASRC_STAT_state n) ≠ 2 ∧ 2048 ≤ ratio.toNat ∧
      ratio.toNat ≤ 32768 ∧ rate ≠ 0 then
    let t := ((s.setFld (Reg.AES_ASRC_STAT_state n) 2).setFld (Reg.AES_ASRC_STAT_ratio n) ratio.toNat).setFld
      (Reg.AES_ASRC_STAT_rate n) rate.val
    .next { t with io := { t.io with asrcTicks := storeSet 0 t.io.asrcTicks n.val 0 } }
  else .next s

/-- One tick boundary of an ASRC (R148, R149): it delivers samples in the tick that begins if it has stayed LOCKED for a whole
tick; the phase word made in the tick that ended comes into force; and the measurement of that tick makes the next one. -/
def stepAsrc (s : State) (n : Nat) : State :=
  let locked := s.fld (Reg.AES_ASRC_STAT_state n) == 2
  let ticks := storeGet 0 s.io.asrcTicks n
  let phase := storeGet 0 s.io.asrcPhaseNext n
  let loop := Config.ratioStep (storeGet 0 s.io.asrcLoop n) (storeGet 0 s.io.asrcMeas n)
  let t : State := { s with io := { s.io with
    asrcOn := storeSet false s.io.asrcOn n (locked && ticks != 0),
    asrcTicks := storeSet 0 s.io.asrcTicks n (if locked then 1 else 0),
    asrcPhase := storeSet 0 s.io.asrcPhase n phase,
    asrcLoop := storeSet 0 s.io.asrcLoop n loop,
    asrcPhaseNext := storeSet 0 s.io.asrcPhaseNext n (Config.ratioPhase loop) } }
  if locked then t.setFld (Reg.AES_ASRC_STAT_ratio n) (Config.phaseRatio phase).toNat else t

/-- Bytes 4w to 4w + 3 of a channel-status block, byte 4w in bits 7:0. -/
def csWord (bytes : List Byte) (w : Nat) : Word := BitVec.ofNat 32 (leNat ((bytes.drop (4 * w)).take 4))

/-- One bit of the CRCC of AES3-2009: x^8 + x^4 + x^3 + x^2 + 1, least significant bit first (R291). -/
def crccBit (r : Byte) (b : Bool) : Byte :=
  if (r.toNat % 2 == 1) != b then (r >>> 1) ^^^ 0xB8 else r >>> 1

/-- The CRCC over bytes 0 to 22 of a channel-status block, from all ones on (R291; PRESUMED, log entry 15). -/
def aesCrcc (bytes : List Byte) : Byte :=
  bytes.foldl (fun r b => (List.range 8).foldl (fun r i => crccBit r (b.toNat / 2 ^ i % 2 == 1)) r) 0xFF

/-- AES_CS_BLOCK (R291): a block of 24 bytes of channel A or B. -/
def execAesCsBlock (n : Fin 8) (chB : Bool) (bytes : List Byte) (s : State) : Host.Outcome State Fault Refusal :=
  if bytes.length ≠ 24 ∨ s.fld (Reg.AES_RX_STAT_lock n) = 0 then .next s
  else if bytes.getD 23 0 ≠ aesCrcc (bytes.take 23) then .next (s.setFld (Reg.AES_RX_STAT_cs_crc n) 1)
  else if chB then .next s
  else
    let same := (List.range 6).all (fun w => s.reg (Reg.AES_RX_CS n w) == csWord bytes w)
    let t := (List.range 6).foldl (fun s w => s.setReg (Reg.AES_RX_CS n w) (csWord bytes w)) s
    let t := t.setFld (Reg.AES_RX_STAT_pro n) ((bytes.getD 0 0).toNat % 2)
    .next (if same then t else t.setFld (Reg.AES_RX_STAT_cs_new n) 1)

/-- AES_CTL.cnt_clr. -/
def clearAesCounts (s : State) : State :=
  (List.range 8).foldl (fun s n => (s.setFld (Reg.AES_RX_STAT_par_err n) 0).setFld (Reg.AES_RX_STAT_bp_err n) 0) s

/-- AES_CNT_CLR (R290). -/
def execAesCntClr (s : State) : Host.Outcome State Fault Refusal := .next (gated s Reg.AES_CTL (clearAesCounts s))

/-! ### AES3 transmitters (R292, R293) -/

/-- q of a transmitter; 0 = unused. -/
def txQ (s : State) (n : Nat) : Nat := if cfgByte s 2 n 2 = 1 then cfgByte s 2 n 1 else 0

/-- Transmitter `n` is driven in the frame that starts (R293, R249). -/
def txDrives (s : State) (n : Nat) : Bool :=
  txQ s n != 0 && s.str.io.any (fun r => r.dir == 1 && r.kind == 2 && r.port == n) && s.domOn domAes &&
    drives s 2 n 0 s.launchTick && drives s 2 n 1 s.launchTick

/-- Byte 0 of the transmitted status (Table 12.4), coded as AES3-2009 has it: professional, linear PCM, no emphasis, locked; 48 or
44.1 kHz, otherwise not indicated (PRESUMED, log entry 15). -/
def aesByte0 (rate : Nat) : Byte := if rate = 48000 then 0x85 else if rate = 44100 then 0x45 else 0x05

/-- Byte 4 (Table 12.4): the sampling frequency of the higher rates (PRESUMED, log entry 15). -/
def aesByte4 (rate : Nat) : Byte :=
  if rate = 96000 then 0x10 else if rate = 192000 then 0x18 else if rate = 88200 then 0x50 else if rate = 176400 then 0x58 else 0

/-- Byte `i` of the channel status that transmitter `n` sends (Table 12.4); `addr` is the local sample address code of
the block's first frame. -/
def txStatusByte (s : State) (n addr i : Nat) : Byte :=
  let rate := txQ s n * s.baseRate
  if i = 0 then aesByte0 rate
  else if i = 1 then 0x08
  else if i = 2 then 0x2C
  else if i = 4 then aesByte4 rate
  else if 6 ≤ i ∧ i ≤ 9 then BitVec.ofNat 8 (cfgByte s 2 n (4 + (i - 6)))
  else if 10 ≤ i ∧ i ≤ 13 then BitVec.ofNat 8 (cfgByte s 2 n (8 + (i - 10)))
  else if 14 ≤ i ∧ i ≤ 17 then BitVec.ofNat 8 (addr / 256 ^ (i - 14))
  else 0

/-- The 24 bytes of the channel status. -/
def txStatus (s : State) (n addr : Nat) : List Byte :=
  let b := (List.range 23).map (txStatusByte s n addr)
  b ++ [aesCrcc b]

/-- Bit `i` of a channel-status block, LSB of byte 0 first. -/
def csBit (bytes : List Byte) (i : Nat) : Bool := (bytes.getD (i / 8) 0).toNat / 2 ^ (i % 8) % 2 == 1

/-- The parity bit of a subframe (R292): time slots 4 to 31 hold an even number of ones; U is 0. -/
def AesFrame.parity (f : AesFrame) (chB : Bool) : Bool :=
  let w := if chB then f.wordB else f.wordA
  let v := if chB then f.vB else f.vA
  let ones := ((List.range 24).filter (fun i => w.toNat / 2 ^ i % 2 == 1)).length + v.toNat + f.cs.toNat
  ones % 2 == 1

/-- AES_TX_FRAME (R292, R293): frame `i` of the launch tick. A transmitter that is not driven floats and will start a new
block. -/
def execAesTxFrame (n : Fin 8) (i : Fin 4) (s : State) : Host.Outcome State Fault Refusal :=
  let k := n.val
  let on := txDrives s k
  let t := s.setFld (Reg.AES_TX_STAT_drive k) on.toNat
  if on = false then
    .next { t with io := { t.io with aesOut := storeSet none t.io.aesOut k none, aesBlock := storeSet 0 t.io.aesBlock k 0 } }
  else if txQ s k ≤ i.val then .next t
  else
    let a := launchWord t 2 k 0 i.val
    let b := launchWord a.1 2 k 1 i.val
    let muted (c : Nat) : Bool := t.io.muteNow.contains (chanKey 2 k c i.val) || faultMuted t 2 k c
    let t := b.1
    let pos := (storeGet 0 t.io.aesBlock k) % 192
    let addr := if pos = 0 then (txQ s k * s.tick + i.val) % 2 ^ 32 else storeGet 0 t.io.aesAddr k
    let f : AesFrame := {
      wordA := a.2, wordB := b.2, vA := muted 0, vB := muted 1,
      z := pos == 0, cs := csBit (txStatus s k addr) pos }
    .next { t with io := { t.io with
      aesOut := storeSet none t.io.aesOut k (some f), aesBlock := storeSet 0 t.io.aesBlock k (pos + 1),
      aesAddr := storeSet 0 t.io.aesAddr k addr } }

/-! ### Quickset (R150 to R152, R294 to R296) -/

/-- Number of ones among bits 31:1 of a word whose bit 31 is bit 0 of Table 12.6. -/
def qsOnes (w : Word) : Nat := ((List.range 31).filter (fun i => w.toNat / 2 ^ (i + 1) % 2 == 1)).length

/-- A Quickset word has the right sync, even parity and stop bit 0 (R295). -/
def qsWordGood (w : Word) : Bool := bitsOf w 5 3 == 5 && qsOnes w % 2 == 0 && bitsOf w 0 1 == 0

/-- The seq check of a word without a framing error (R295). -/
def qsSeqCheck (s : State) (lane seq : Nat) : State :=
  let p := storeGet 0 s.io.qsSeq lane
  let s := if p ≠ 0 ∧ seq ≠ p % 4 then s.satInc (Reg.QS_LANE_STAT_seq_err lane) else s
  { s with io := { s.io with qsSeq := storeSet 0 s.io.qsSeq lane (seq + 1) } }

/-- The value a lane's word supplies, with its checks. -/
def qsReceive (s : State) (lane : Nat) (raw : Word) : State × Word :=
  if s.fld Reg.QS_STAT_state ≠ 2 ∨ storeGet 0 s.io.fsBad 4 ≠ 0 ∨ qsWordGood raw = false then
    ((s.satInc (Reg.QS_LANE_STAT_frame_err lane)).setFld (Reg.QS_LANE_STAT_err lane) 1, 0)
  else
    let s := qsSeqCheck s lane (bitsOf raw 2 2)
    if bitsOf raw 4 1 = 0 then (s.setFld (Reg.QS_LANE_STAT_inval lane) 1, 0)
    else (s, BitVec.ofInt 32 (convIn 24 (raw.toInt / 2 ^ 8)))

/-- QS_INPUT_WORD (R295): sample `j` of the tick on QS_DI `lane`; `first` marks the frame's first lane, with QS_FS measured
in `fs`. Every absent or misplaced edge counts in fs_err. -/
def execQsInputWord (lane j : Fin 16) (raw : Word) (fs : Option (BitVec 8)) (first : Bool) (s : State) :
    Host.Outcome State Fault Refusal :=
  if s.fld Reg.QS_STAT_state = 0 ∨ s.domOn domQs = false then .next s
  else
    let t := if first ∧ s.fld Reg.QS_CFG_master = 0 then
        let t := showPhase s Reg.QS_STAT_phase_dev fs
        fsCheck (if fsGoodAt fs then t else t.satInc Reg.QS_STAT_fs_err) 4 (s.fld Reg.QS_STAT_state == 2) (fsGoodAt fs)
      else s
    let v := qsReceive t lane raw
    .next { v.1 with io := { v.1.io with
      qsIn := storeSet 0 v.1.io.qsIn lane.val v.2,
      inNow := storeSet 0 v.1.io.inNow (chanKey 3 0 lane.val j.val) v.2 } }

/-- IOCLK periods from the boundary to the QS_FS frame in which output word `j` of a tick starts (R294, R296; DEDUCED, log entry
127): its input words came in the frame before. -/
def qsFrameAt (s : State) (j : Nat) : Nat := s.fld Reg.QS_CFG_fs_phase + 256 * j

/-- The input frame of output word `j` did not start after the boundary of the current tick (R151). -/
def qsBefore (s : State) (j : Nat) : Bool := decide (qsFrameAt s j ≤ 256)

/-- The launch tick whose mutes and owner apply to output word `j` of the current tick: its own from the first frame that starts
after the launch instant on (R227). -/
def qsLaunch (s : State) (j : Nat) : Nat := if 64 < qsFrameAt s j then s.tick else s.tick - 1

/-- The current gain of word `w` of block `b` in the mixer for output word `j` of the tick (R151). -/
def qsGain (s : State) (j b w : Nat) : Word :=
  if qsBefore s j ∧ s.io.qsFlipped.contains b then storeGet 0 s.io.qsOld (64 * b + w)
  else storeGet 0 (if s.flip b = 0 then s.qsA else s.qsB) (64 * b + w)

/-- The sample of BQ source `u` for output word `j` of the tick: that of the input frame (R151; DEDUCED, log entry 127). -/
def bqSample (s : State) (u j : Nat) : Word :=
  if j = 0 then storeGet 0 s.io.bqPrev (16 * u + (s.qsPerTick - 1)) else storeGet 0 s.io.bqNow (16 * u + (j - 1))

/-- The sources listed for an output in order: QS_DI lanes ascending, then BQ units ascending (R150, R201). -/
def qsSources (s : State) (r : QsMixRec) (j : Nat) : List Word :=
  ((List.range 16).filter (fun i => r.di / 2 ^ i % 2 == 1)).map (fun i => storeGet 0 s.io.qsIn i) ++
  ((List.range 16).filter (fun i => r.bq / 2 ^ i % 2 == 1)).map (fun i => bqSample s i j)

/-- The mixer's exact sum over the listed sources, at most 8, for output word `j` of the tick (R150); in Coppice mode over the
stub entries (R280). -/
def qsSum (s : State) (r : QsMixRec) (j : Nat) : Int :=
  if s.boot = bootCoppice then
    ((stubEntries s.otp r.output).map (fun e =>
      (storeGet 0 s.io.qsIn e.1).toInt * (BitVec.ofNat 32 (65536 * e.2.1)).toInt)).sum
  else
  let b := (s.partBlocks r.partition).getD r.pblock 0
  ((qsSources s r j).take 8).zipIdx.foldl
    (fun acc v => acc + v.1.toInt * (qsGain s j b (8 * (r.output % 8) + v.2)).toInt) 0

/-- One Quickset sample of an output before its guard; the sum rounds and saturates, and sat marks a clamp (R150). -/
def qsMix (s : State) (r : QsMixRec) (j : Nat) : State × Word :=
  let y := roundHalfEven (qsSum s r j) 27
  (if outside32 y then s.setFld ⟨Reg.QS_MIX_STAT, r.output, 1⟩ 1 else s, sat32 y)

/-- The Quickset word of a 24-bit sample (Table 12.6), bit 0 in bit 31. -/
def qsWordOf (d : Word) (valid : Bool) (seq : Nat) : Word :=
  let w : Word := BitVec.ofNat 32 (bitsOf d 0 24 * 256 + 5 * 32 + valid.toNat * 16 + seq % 4 * 4)
  if qsOnes w % 2 = 0 then w else w ||| 2

/-- What QS_DO `lane` sends for sample `j` of the tick (R152, R227, R296). -/
def qsOutput (s : State) (lane j : Nat) : State × Option Word :=
  match s.str.qsmix.find? (fun r => r.output == lane) with
  | none => (s, none)
  | some r =>
    let m := qsMix s r j
    match guardOf m.1 3 0 lane with
    | none => (m.1, none)
    | some (gi, rec) =>
      let o := thornSample m.1 gi rec r.partition m.2 s.tick (qsLaunch s j) j (rateFactor s 1 true) 24
      let w := qsWordOf o.word (!o.muted) (s.tick * s.qsPerTick + j)
      ({ o.st with io := { o.st.io with rawQs := storeSet 0 o.st.io.rawQs (chanKey 3 0 lane j) o.raw } },
       if s.fld Reg.QS_STAT_state = 2 ∧ drives s 3 0 lane (qsLaunch s j) then some w else none)

/-! ### The output CRCs (R240) -/

/-- Words per launch tick of a TWIN record's output. -/
def recSamples (s : State) (r : TwinRec) : Nat :=
  if r.kind = 3 then s.qsPerTick
  else ((s.str.io.find? (fun q => q.dir == 1 && q.kind == r.kind && q.port == r.port && q.channel == r.channel)).map
    (·.k)).getD 0

/-- The CRC-32C over a group's port words of one launch tick in record order, each word as its four bytes, low byte first (R240; log
entry 18). The words of Quickset lanes are formed in the course of the launch tick. -/
def groupCrc (s : State) (g : Nat) : Word :=
  crc32c ((s.str.twin.filter (fun r => r.group == g)).flatMap (fun r => (List.range (recSamples s r)).flatMap (fun j =>
    wordBytes (storeGet 0 (if r.kind = 3 then s.io.rawQs else s.io.raw) (chanKey r.kind r.port r.channel j)))))

/-- Group `g` holds a Quickset lane. -/
def hasLane (s : State) (g : Nat) : Bool := s.str.twin.any (fun r => r.group == g && r.kind == 3)

/-- A frame with the CRC of group `g`. -/
def LinkSent.withCrc (x : LinkSent) (g : Nat) (c : Word) : LinkSent :=
  { x with frame := { x.frame with crcs := storeIns g c x.frame.crcs } }

/-- A Quickset word of `lane` has been formed: the CRC of its group over the words formed so far, which joins the link frame of the
launch tick (R240; log entry 128). -/
def laneCrc (s : State) (lane : Nat) : State :=
  match twinGroup s 3 0 lane with
  | none => s
  | some r =>
    let c := groupCrc s r.group
    { s with twin := { s.twin with ownCrc := storeIns r.group c s.twin.ownCrc, sent := s.twin.sent.map (fun x => x.withCrc r.group c) } }

/-- The word that QS_DO `lane` carries; none = the ball floats. -/
def putLane (s : State) (lane : Nat) (w : Option Word) : State :=
  { s with io := { s.io with qsOut := storeSet none s.io.qsOut lane w } }

/-- QS_OUTPUT_WORD (R152): the balls of a domain that is off float (R297, R361). -/
def execQsOutputWord (lane j : Fin 16) (s : State) : Host.Outcome State Fault Refusal :=
  if s.qsPerTick ≤ j.val then .next s
  else if s.domOn domQs = false then .next (putLane s lane.val none)
  else
    let o := qsOutput s lane.val j.val
    .next (putLane (laneCrc o.1 lane.val) lane.val o.2)

/-- QS_LOCK (R296): the port enters LOCKED after 16 good frames, or returns to SEARCH after four bad ones or a missing
clock, by the rules of R288. -/
def execQsLock (clkLost : Bool) (s : State) : Host.Outcome State Fault Refusal :=
  if s.fld Reg.QS_CFG_master = 1 then .next s
  else if s.fld Reg.QS_STAT_state = 1 ∧ 16 ≤ storeGet 0 s.io.fsGood 4 then
    let t := clearFs (s.setFld Reg.QS_STAT_state 2) 4
    .next { t with io := { t.io with qsSeq := [] } }
  else if s.fld Reg.QS_STAT_state = 2 ∧ (clkLost = true ∨ 4 ≤ storeGet 0 s.io.fsBad 4) then
    let t := s.setFld Reg.QS_STAT_state 1
    let t := if clkLost then t.setFld Reg.QS_STAT_clk_lost 1 else t
    .next (clearFs t 4)
  else .next s

/-- QS_CTL.cnt_clr. -/
def clearQsCounts (s : State) : State :=
  (List.range 16).foldl (fun s n => (s.setFld (Reg.QS_LANE_STAT_frame_err n) 0).setFld (Reg.QS_LANE_STAT_seq_err n) 0)
    (s.setFld Reg.QS_STAT_fs_err 0)

/-- QS_CNT_CLR (R295). -/
def execQsCntClr (s : State) : Host.Outcome State Fault Refusal := .next (gated s Reg.QS_CTL (clearQsCounts s))

/-- The TDM groups start (R288): a master group is LOCKED, a slave one searches. -/
def startTdm (s : State) : State :=
  (List.range 4).foldl (fun s g =>
    if s.fld (Reg.TDM_GCFG_slots_log2 g) = 0 then s
    else clearFs (s.setFld (Reg.TDM_GSTAT_state g) (if s.fld (Reg.TDM_GCFG_master g) = 1 then 2 else 1)) g) s

/-- The Quickset port starts (R296). -/
def startQs (s : State) : State :=
  if (s.portCfg 3 0).isNone then s
  else
    let t := clearFs (s.setFld Reg.QS_STAT_state (if s.fld Reg.QS_CFG_master = 1 then 2 else 1)) 4
    { t with io := { t.io with qsSeq := [] } }

/-- The ports at the start of the tick generator. -/
def startPorts (s : State) : State := startQs (startTdm s)

end Sys2Proof.Machine
end

