-- ==== Sys2Proof/Machine/Power.lean ====
section
/-!
DEFINITION. Machine/Power.lean: power domains, cluster sleep, temperatures, supplies and monitor inputs (R349 to R368).
-/
namespace Sys2Proof.Machine

/-- Domain `d` is one of the clusters. -/
def isClusterDom (d : Nat) : Bool := decide (2 ≤ d ∧ d ≤ 9)

/-- A clock output or WCLK_OUT is enabled. -/
def clockOutOn (s : State) : Bool :=
  s.fld Reg.CLK_WCLK_CTL_en == 1 || (List.range 8).any (fun n => s.fld (Reg.CLK_OUT_CTL_en n) == 1)

/-- A routed output of port kind `k`. -/
def routedOut (s : State) (k : Nat) : Bool := s.str.io.any (fun r => r.dir == 1 && r.kind == k)

/-- The condition of the last column of Table 16.1. -/
def pinCondition (s : State) (d : Nat) : Bool :=
  match d with
  | 0 => true
  | 1 => true
  | 10 => s.str.lines.any (fun r => r.tier == 2) || s.str.wins.any (fun w => w.space == 2)
  | 13 => s.twinMode
  | 14 => routedOut s 1 || (List.range 4).any (fun g => cfgByte s 1 g 1 == 1) || clockOutOn s || s.twinMode
  | 15 => !s.str.qsmix.isEmpty || cfgByte s 3 0 0 == 1 || s.twinMode
  | 16 => routedOut s 2 || s.twinMode
  | _ => false

/-- PCIE is kept ON from the end of C1 through LOAD, and in WAIT_HOST and COPPICE (Table 16.1, R369). -/
def pcieKept (s : State) : Bool := c1Done s && s.boot != bootRipening && s.boot != bootRun

/-- A domain is pinned (R349). AON is pinned always. -/
def domPinned (s : State) (d : Nat) : Bool :=
  d == 0 || d == 1 || (d == 12 && pcieKept s) ||
    ((s.boot == bootLoad || s.boot == bootRipening || s.boot == bootRun) && pinCondition s d)

/-- The loaded structure needs the domain (R349): what it does not need Espalier load keeps OFF. -/
def domNeeded (s : State) (d : Nat) : Bool :=
  pinCondition s d ||
  (if isClusterDom d then s.str.progs.any (fun p => p.engine / 16 == d - 2)
   else match d with
    | 10 => !s.str.drams.isEmpty
    | 11 => s.str.ports.any (fun p => p.kind == 0)
    | 12 => s.str.board.pcieEn == 1 || !(s.boot == bootRipening || s.boot == bootRun)
    | 14 => s.str.ports.any (fun p => p.kind == 1)
    | 15 => s.str.ports.any (fun p => p.kind == 3)
    | 16 => s.str.ports.any (fun p => p.kind == 2)
    | _ => false)

/-- Nothing wakes domain `d`: in the hold after THERMAL_CRIT every domain but AON is off, in WAIT_HOST every one but AON, SV and PCIE
(R270), and in Coppice mode the ROM alone starts the Quickset domain (R279, R280). -/
def domBarred (s : State) (d : Nat) : Bool :=
  s.hold == some 11 || ((s.boot == bootWaitHost || s.boot == bootCoppice) && d != 12)

/-- A class-L wake of a domain other than a cluster, with its source (Table 16.3, Table 16.11): latched while the domain
is ENTERING, nothing while it is ON or WAKING (R353), nor where nothing wakes it. -/
def wakeDom (s : State) (d src : Nat) : State :=
  let st := s.domSt d
  if isClusterDom d ∨ domNeeded s d = false ∨ st = domStOn ∨ st = domStWaking ∨ domBarred s d then s
  else if st = domStEntering then s.setDom d { s.dom d with latched := some src }
  else ((s.setDom d { s.dom d with left := st, ready := 0 }).setFld (Reg.PWR_WAKE_SRC_src d) src).setDomSt d domStWaking

/-- Shows which domains are pinned; one that is pinned while it is not ON wakes (R353). -/
def showPinned (s : State) : State :=
  (List.range 17).foldl (fun s d =>
    let p := domPinned s d
    let s := s.setFld (Reg.PWR_DOM_CTL_pinned d) p.toNat
    if p then wakeDom s d 6 else s) s

/-- The states that Table 16.1 lists for a domain admit the target. -/
def targetOk (d t : Nat) : Bool := t == 2 || (t == 1 && d != 13)

/-- A DMA channel that runs or waits acts on DRAM: its ring lies there, or a window of its own does. -/
def dmaOnDram (s : State) : Bool :=
  (List.range 32).any (fun n => (s.chanSt n == dmaRun || s.chanSt n == dmaWait) &&
    (s.fld (Reg.DMA_CH_RING_SIZE_space n) == 2 || s.str.wins.any (fun w => w.channel == n && w.space == 2)))

/-- An input of port kind `k` is routed from a port that passes `on`. -/
def routedIn (s : State) (k : Nat) (on : Nat → Bool) : Bool := s.str.io.any (fun r => r.dir == 0 && r.kind == k && on r.port)

/-- The model's own part of an idle condition (Table 16.1): no DMA channel runs on DRAM; NET has no enabled stream entry and no UDP
session; no routed input of TDM, QS or AES is locked to a signal (DEDUCED, log entry 147). -/
def domIdle (s : State) (d : Nat) : Bool :=
  match d with
  | 10 => !dmaOnDram s
  | 11 => !s.net.entries.any (fun e => strEn e.2) && !s.sessions.any (fun e => !e.2.bell)
  | 14 => !routedIn s 1 (fun p => s.fld (Reg.TDM_GSTAT_state (p / 8)) == 2)
  | 15 => !(routedIn s 3 (fun _ => true) && s.fld Reg.QS_STAT_state == 2)
  | 16 => !routedIn s 2 (fun p => s.fld (Reg.AES_RX_STAT_lock p) == 1)
  | _ => true

/-- A domain that is ON, not pinned, no cluster and idle enters its target (R350); `quiet`: what is outside the model of
its idle condition holds; `withWake`: a wake event in the same AON cycle leaves it ON (R353). -/
def sleepDom (s : State) (d : Nat) (quiet withWake : Bool) : State :=
  let t := s.fld (Reg.PWR_DOM_CTL_idle_target d)
  if isClusterDom d = false ∧ domPinned s d = false ∧ s.domSt d = domStOn ∧ targetOk d t ∧ quiet ∧ domIdle s d ∧
      withWake = false then
    (s.setDom d { target := t }).setDomSt d domStEntering
  else s

/-- DOMAIN_SLEEP (R350). -/
def execDomainSleep (d : Fin 17) (quiet withWake : Bool) (s : State) : Host.Outcome State Fault Refusal :=
  .next (gated s (Reg.PWR_DOM_CTL d) (sleepDom s d quiet withWake))

/-- IDLE_TIMER_EXPIRY (R350): the idle condition has held for PWR_IDLE_TMRd ms; 0 = never. -/
def execIdleTimerExpiry (d : Fin 17) (quiet withWake : Bool) (s : State) : Host.Outcome State Fault Refusal :=
  .next (if s.fld (Reg.PWR_IDLE_TMR_idle d) = 0 then s else sleepDom s d quiet withWake)

/-- Registers from `lo` up to `hi` take their values after a cold start. -/
def resetRange (s : State) (lo hi : Nat) : State :=
  { s with regs := s.regs.filter (fun r => decide (r.1 < lo ∨ hi ≤ r.1)) }

/-- The fields of the TDM, AES and QS blocks that Espalier load sets (R297, R150). -/
def loadPortRegs (s : State) : State :=
  let s := (s.str.ports.filter (fun p => p.kind == 1)).foldl (fun s p =>
    let q := if p.byte 2 = 4 then 2 else p.byte 2 - 1
    s.setReg (Reg.TDM_GCFG p.port) (BitVec.ofNat 32 ((p.byte 4 + 256 * p.byte 5) * 65536 + p.byte 7 * 4096 +
      p.byte 6 * 2048 + p.byte 1 * 1024 + p.byte 0 * 256 + q * 16 + Nat.log2 (p.byte 3)))) s
  let s := (List.range 8).foldl (fun s n =>
    let used := cfgByte s 2 n 2 == 1 && s.str.io.any (fun r => r.dir == 1 && r.kind == 2 && r.port == n)
    let q := if used then cfgByte s 2 n 1 else 0
    s.setFld (Reg.AES_TX_STAT_q n) (match q with | 1 => 0 | 2 => 1 | 4 => 2 | _ => 3)) s
  let s := (s.str.ports.filter (fun p => p.kind == 3)).foldl (fun s p =>
    s.setReg Reg.QS_CFG (BitVec.ofNat 32 (p.byte 2 * 256 + p.byte 0))) s
  s.str.qsmix.foldl (fun s r =>
    (s.setReg (Reg.QS_MIX_SRC r.output) (BitVec.ofNat 32 (r.bq * 65536 + r.di))).setReg (Reg.QS_MIX_GAIN r.output)
      (BitVec.ofNat 32 r.pblock)) s

/-- NET_PORT_STATn.mode as Espalier load sets it: the configured mode (R298). -/
def loadNetRegs (s : State) : State :=
  (s.str.ports.filter (fun p => p.kind == 0)).foldl (fun s p => s.setFld (Reg.NET_PORT_STAT_mode p.port) (p.byte 0)) s

/-- What a domain that goes OFF loses: its memories and registers, but for the fields that Espalier load sets (R350), and the media
origin, which never changes until the next start (R308; DEDUCED, log entry 141). -/
def loseDomain (s : State) (d : Nat) : State :=
  match d with
  | 10 => resetRange { s with dram := [] } Reg.MEM_DRAM_STAT (Reg.MEM_DRAM_CONFLICT + 4)
  | 11 =>
    let t := loadNetRegs (resetRange { s with net := { filt := s.net.filt, orgSet := s.net.orgSet } } 0xE0000 0xF0000)
    (t.setReg Reg.NET_MEDIA_ORG0 (s.reg Reg.NET_MEDIA_ORG0)).setReg Reg.NET_MEDIA_ORG1 (s.reg Reg.NET_MEDIA_ORG1)
  | 12 => { s with msix := { sent := s.msix.sent }, pages := [], bellOut := [] }
  | 14 =>
    let s := loadPortRegs (resetRange (resetRange s 0xB0000 0xC0000) Reg.CLK_WCLK_CTL (Reg.CLK_WCLK_CTL + 4))
    let s := resetRange s (Reg.CLK_OUT_CTL 0) (Reg.CLK_OUT_CTL 8)
    { s with io := { s.io with tdmOut := [], tdmDrives := [] } }
  | 15 => loadPortRegs (resetRange { s with io := { s.io with qsOut := [], qsIn := [], qsSeq := [] } } 0xD0000 0xE0000)
  | 16 =>
    let t : State := { s with io := { s.io with aesOut := [], aesPrev := [], asrcTicks := [], asrcOn := [], asrcRx := [], aesBlock := [] } }
    loadPortRegs (resetRange t 0xC0000 0xD0000)
  | _ => s

/-- A domain that wakes: the DRAM channels have been retrained (Table 16.2), so that the next retraining is a period away (R126), and a
port searches for its framing again (R288, R296). -/
def restartPorts (s : State) (d : Nat) : State :=
  if d = 10 then ({ s with retrainDue := s.tick + retrainPeriod s } : State).setFld Reg.MEM_DRAM_STAT_train 2
  else if s.tickOn = false then s else if d = 14 then startTdm s else if d = 15 then startQs s else s

/-- The wake sources of class W (Table 16.3): activity on a routed input. PWR_WAKE_SRCd.replayed is for class L alone. -/
def classW (src : Nat) : Bool := decide (8 ≤ src ∧ src ≤ 10)

/-- DOMAIN_ENTRY_DONE (R351): entry ends; a latched class-L wake is replayed; `level`: level-type activity is present
(Table 16.3). -/
def execDomainEntryDone (d : Fin 17) (level : Bool) (s : State) : Host.Outcome State Fault Refusal :=
  let n := d.val
  if s.domSt n ≠ domStEntering then .next s
  else
    let x := s.dom n
    let t := s.setDomSt n x.target
    let t := if x.target = 2 then loseDomain t n else t
    let t := t.setDom n {}
    match x.latched with
    | some src => .next (wakeDom (if classW src then t else t.setFld (Reg.PWR_WAKE_SRC_replayed n) 1) n src)
    | none =>
      .next (if level ∧ 14 ≤ n ∧ t.fld (Reg.PWR_DOM_CTL_det_level n) = 1 then
          wakeDom t n (match n with | 14 => 8 | 15 => 10 | _ => 9) else t)

/-- DOMAIN_PART_READY (R351): supply, clock, memories, logic, in this order; with logic ready the domain is ON. -/
def execDomainPartReady (d : Fin 17) (s : State) : Host.Outcome State Fault Refusal :=
  let n := d.val
  if s.domSt n ≠ domStWaking then .next s
  else
    let x := s.dom n
    if x.ready + 1 < 4 then .next (s.setDom n { x with ready := x.ready + 1 })
    else .next (restartPorts ((s.setDom n {}).setDomSt n domStOn) n)

/-- DRAM_ACCESS_WAKE (R352). -/
def execDramAccessWake (s : State) : Host.Outcome State Fault Refusal := .next (wakeDom s 10 2)

/-- NET_FRAME_WAKE (R352): a frame of classes 1 to 4 wakes NET and is discarded. -/
def execNetFrameWake (f : EthFrame) (s : State) : Host.Outcome State Fault Refusal :=
  .next (if f.fcsOk ∧ macIsOurs f.port f.mac ∧ frameClassed s f.port f.body then wakeDom s 11 3 else s)

/-- PCIE_LINK_WAKE (R352). -/
def execPcieLinkWake (s : State) : Host.Outcome State Fault Refusal := .next (wakeDom s 12 4)

/-- PLEACH_SIGNAL_WAKE (R352). -/
def execPleachSignalWake (s : State) : Host.Outcome State Fault Refusal := .next (wakeDom s 13 5)

/-- The domain and wake source of a port kind: TDM, AES3, Quickset. -/
def activityDom (k : Nat) : Nat × Nat × Nat := match k with | 0 => (14, 8, 1) | 1 => (16, 9, 2) | _ => (15, 10, 3)

/-- INPUT_ACTIVITY_WAKE (R352): an edge or a level on a routed input, by det_level. In the last 8 IOCLK periods of an
entry an edge is lost, and a level is seen when the entry completes. -/
def execInputActivityWake (k : Fin 3) (level lastPeriods : Bool) (s : State) : Host.Outcome State Fault Refusal :=
  let a := activityDom k
  if s.str.io.any (fun r => r.dir == 0 && r.kind == a.2.2) = false ∨
      level.toNat ≠ s.fld (Reg.PWR_DOM_CTL_det_level a.1) ∨ (lastPeriods = true ∧ s.domSt a.1 = domStEntering) then .next s
  else .next (wakeDom s a.1 a.2.1)

/-! ### Cluster sleep (R355 to R359) -/

/-- Cluster `c`'s idle timer in ticks; 1 to 15 read as 16. -/
def sleepTicks (s : State) (c : Nat) : Nat := s.fld (Reg.PWR_IDLE_TMR_idle (c + 2))

/-- The enabled wake-map entries that hold input record `num`. -/
def mapHolding (s : State) (num : Nat) : List Nat :=
  (List.range 64).filter (fun i => s.fld (Reg.PWR_SIL_MAP_en i) == 1 && decide (s.fld (Reg.PWR_SIL_MAP_first i) ≤ num ∧
    num ≤ s.fld (Reg.PWR_SIL_MAP_first i) + s.fld (Reg.PWR_SIL_MAP_count_m1 i)))

/-- The cluster to which the wake map assigns an input record: that of the lowest entry (R356). -/
def mapCluster (s : State) (num : Nat) : Option Nat := (mapHolding s num).head?.map (fun i => s.fld (Reg.PWR_SIL_MAP_cluster i))

/-- Input records. -/
def inputRecs (s : State) : List IoRec := s.str.io.filter (fun r => r.dir == 0)

/-- A cluster is sleep-capable (R355). -/
def sleepCapable (s : State) (c : Nat) : Bool :=
  let ps := s.str.progs.filter (fun p => p.engine / 16 == c)
  !ps.isEmpty && ps.all (fun p => p.sleepable) && s.fld (Reg.PWR_DOM_CTL_idle_target (c + 2)) == 1 &&
    sleepTicks s c != 0 &&
    (List.range 64).any (fun i => s.fld (Reg.PWR_SIL_MAP_en i) == 1 && s.fld (Reg.PWR_SIL_MAP_cluster i) == c)

/-- A reset or graft of a partition that owns an engine of the cluster is pending or in progress (R358). -/
def clusterBusy (s : State) (c : Nat) : Bool :=
  s.str.progs.any (fun p => p.engine / 16 == c && (s.partOp p.partition).isSome)

/-- A cluster is quiet (R357, R358). -/
def clusterQuiet (s : State) (c : Nat) : Bool :=
  sleepCapable s c && !clusterBusy s c &&
    (inputRecs s).all (fun r => mapCluster s r.num != some c || decide (sleepTicks s c ≤ storeGet 0 s.silence r.num))

/-- Every running engine of the cluster takes a state. -/
def clusterEngines (s : State) (c fromSt toSt : Nat) : State :=
  (List.range 16).foldl (fun s i =>
    if s.engState (16 * c + i) = fromSt then s.setEngState (16 * c + i) toSt else s) s

/-- A cluster falls asleep at step 5 of the boundary: this tick's window is its first skipped one. -/
def sleepCluster (s : State) (c : Nat) : State :=
  let s := (s.setFld ⟨Reg.PWR_SIL_STAT, 8 + c, 1⟩ 1).setDom (c + 2) { target := 1 }
  clusterEngines (retainBanks (s.setDomSt (c + 2) domStEntering) c true) c engRun engAsleep

/-- A sleeping cluster's wake is decided at boundary y: its first window is that of boundary y + 3. -/
def wakeCluster (s : State) (c src : Nat) : State :=
  let s := s.setDom (c + 2) { left := 1 }
  let s := (s.setFld (Reg.PWR_WAKE_SRC_src (c + 2)) src).setDomSt (c + 2) domStWaking
  { s with wakeAt := storeSet 0 s.wakeAt c (s.tick + 4) }

/-- A woken cluster whose boundary has come runs again; its lines restart silent (R131, R357). R107 starts the age of a
preloaded line at its length whenever it starts, leaving retention among the starts; R131 says that every line restarts
silent: age 0 for all (DEDUCED, log entry 119). -/
def resumeCluster (s : State) (c : Nat) : State :=
  let w := storeGet 0 s.wakeAt c
  if w ≠ 0 ∧ w ≤ s.tick + 1 then
    let s : State := { s with wakeAt := storeSet 0 s.wakeAt c 0 }
    let s := (s.setFld ⟨Reg.PWR_SIL_STAT, 8 + c, 1⟩ 0).setDomSt (c + 2) domStOn
    let s := clusterEngines (retainBanks s c false) c engAsleep engRun
    (s.str.lines.filter (fun r => r.cluster == c)).foldl (fun s r => s.setAge r 0) s
  else s

/-- The power controller's evaluation of one cluster at a boundary (R357). -/
def evalCluster (s : State) (c : Nat) : State :=
  let q := clusterQuiet s c
  let s := s.setFld ⟨Reg.PWR_SIL_STAT, c, 1⟩ q.toNat
  if asleep s c then
    if q = false ∧ storeGet 0 s.wakeAt c = 0 then wakeCluster s c (if clusterBusy s c then 12 else 11) else s
  else if q then sleepCluster s c else s

/-- CLUSTER_RESUME (R357). -/
def execClusterResume (c : ClNo) (s : State) : Host.Outcome State Fault Refusal := .next (resumeCluster s c)

/-- Record `num` lies in more than one enabled entry (R356). -/
def overlapped (s : State) (num : Nat) : Bool := decide (1 < (mapHolding s num).length)

/-- Each record that lies in more than one enabled entry is counted once: at the boundary at which the entries take effect, that is
where it did not lie in more than one in the map of `old` (R356). -/
def countOverlap (old s : State) : State :=
  s.satAdd Reg.PWR_SIL_STAT_overlap ((inputRecs s).filter (fun r => overlapped s r.num && !overlapped old r.num)).length

/-- The address is that of a cluster control: PWR_DOM_CTLd or PWR_IDLE_TMRd of a cluster, or a wake-map entry. -/
def clusterControl (a : Nat) : Bool :=
  decide ((Reg.PWR_DOM_CTL 2 ≤ a ∧ a ≤ Reg.PWR_DOM_CTL 9) ∨ (Reg.PWR_IDLE_TMR 2 ≤ a ∧ a ≤ Reg.PWR_IDLE_TMR 9) ∨
    (Reg.PWR_SIL_MAP 0 ≤ a ∧ a ≤ Reg.PWR_SIL_MAP 63)) && a % 4 == 0

/-- A cluster-control write is accepted for boundary x + 2 + pl, or refused (R359). -/
def clusterWrite (s : State) (a : Nat) (v : Word) : State :=
  if s.boot ≠ bootRun ∨ (s.twinMode = true ∧ s.fld Reg.TWN_STAT_owner = 0) then s.setFld Reg.PWR_PAIR_refused 1
  else
    let t := s.tick + 2 + s.pl
    let s : State := { s with cluWrites := s.cluWrites ++ [(t, a, v)] }
    let s := s.setReg Reg.PWR_PAIR_TICK (BitVec.ofNat 32 t)
    forward s (fun n => .cluster n t a v)

/-- CLUSTER_CONTROL_WRITE (R359). -/
def execClusterControlWrite (a v : Word) (s : State) : Host.Outcome State Fault Refusal :=
  .next (gated s a.toNat (if clusterControl a.toNat then clusterWrite s a.toNat v else s))

/-- DOMAIN_WAKE (R352): a register write; for a cluster it is a cluster-control write that keeps idle_target (R359). -/
def execDomainWake (d : Fin 17) (s : State) : Host.Outcome State Fault Refusal :=
  .next (gated s (Reg.PWR_DOM_CTL d)
    (if isClusterDom d then
      clusterWrite s (Reg.PWR_DOM_CTL d) (BitVec.ofNat 32 (2 + 256 * s.fld (Reg.PWR_DOM_CTL_idle_target d)))
    else wakeDom s d 1))

/-- One accepted write takes effect. OFF is ignored for a cluster with an assigned engine; a wake bit wakes a sleeping
cluster. -/
def applyCluster (s : State) (a : Nat) (v : Word) : State :=
  if a < Reg.PWR_IDLE_TMR 0 then
    let d := (a - Reg.PWR_DOM_CTL 0) / 4
    let t := bitsOf v 8 2
    let s := if t = 3 ∨ (t = 2 ∧ domNeeded s d) then s else s.setFld (Reg.PWR_DOM_CTL_idle_target d) t
    if bitsOf v 1 1 = 1 ∧ asleep s (d - 2) ∧ storeGet 0 s.wakeAt (d - 2) = 0 then wakeCluster s (d - 2) 1 else s
  else if a < Reg.PWR_SIL_MAP 0 then
    let n := bitsOf v 0 24
    s.setReg a (BitVec.ofNat 32 (if n ≠ 0 ∧ n < 16 then 16 else n))
  else s.setReg a (v &&& 0xFFFF0FFF)

/-- The accepted writes that are due (R356, R359). -/
def applyClusters (s : State) : State :=
  let due := s.cluWrites.filter (fun w => decide (w.1 ≤ s.tick))
  countOverlap s (due.foldl (fun s w => applyCluster s w.2.1 w.2.2)
    { s with cluWrites := s.cluWrites.filter (fun w => decide (s.tick < w.1)) })

/-- CLUSTER_CONTROL_APPLY (R359). -/
def execClusterControlApply (s : State) : Host.Outcome State Fault Refusal := .next (applyClusters s)

/-! ### Registers of the PWR block -/

/-- A write of PWR_DOM_CTLd of a domain other than a cluster. Whether what lies outside the model of the idle condition holds is free
(R350; log entry 147). -/
def domCtlWrite (s : State) (d : Nat) (v : Word) : State :=
  let s := if 14 ≤ d then s.setFld (Reg.PWR_DOM_CTL_det_level d) (bitsOf v 10 1) else s
  let s := codeOr s (Reg.PWR_DOM_CTL_idle_target d) (bitsOf v 8 2) 3
  let s : State := if bitsOf v 0 1 = 1 then
      sleepDom { s with freeCtr := s.freeCtr + 1 } d ((Config.freeValue s.freeCtr).getLsbD 0) (bitsOf v 1 1 == 1)
    else s
  if bitsOf v 1 1 = 1 then wakeDom s d 1 else s

/-- PWR_CTL.cnt_clr. -/
def clearPwrCounts (s : State) : State :=
  ((List.range 17).foldl (fun s d => (List.range 3).foldl (fun s k => s.resetReg (Reg.PWR_RESID d k)) s) s).setFld
    Reg.PWR_SIL_STAT_overlap 0

/-- PWR_CNT_CLR (R354). -/
def execPwrCntClr (s : State) : Host.Outcome State Fault Refusal := .next (gated s Reg.PWR_CTL (clearPwrCounts s))

/-- `ms` milliseconds pass for the residency counters. -/
def residency (s : State) (ms : Nat) : State :=
  if ms = 0 then s
  else (List.range 17).foldl (fun s d => s.satAdd (Reg.PWR_RESID_ms d (residState s d)) ms) s

/-! ### Temperature and supplies (R362 to R365) -/

/-- A signed temperature in units of 0.125 °C. -/
def tempOf (s : State) (n : Nat) : Int := (BitVec.ofNat 16 (s.fld (Reg.MON_TEMP_temp n))).toInt

/-- The hottest valid sensor, the lowest number among equals. -/
def hottest (s : State) : Option Nat :=
  (List.range 16).foldl (fun b n =>
    if s.fld (Reg.MON_TEMP_valid n) = 1 then
      match b with
      | none => some n
      | some m => if tempOf s m < tempOf s n then some n else b
    else b) none

/-- The response of Table 16.7 and of user_alarm to the hottest reading; `was`: the hottest reading before. -/
def thermal (s : State) (was : Option Int) : State :=
  match hottest s with
  | none => s
  | some n =>
    let t := tempOf s n
    let s := s.setFld Reg.MON_THERM_CTL_hottest n
    let s := if (BitVec.ofNat 16 (s.fld Reg.MON_TJ_MAX_temp)).toInt < t then
        s.setFld Reg.MON_TJ_MAX_temp (BitVec.ofInt 16 t).toNat else s
    let s := if 880 ≤ t ∧ s.fld Reg.MON_THERM_CTL_thermal_warn = 0 then
        raiseEvent ((s.setFld Reg.MON_THERM_CTL_thermal_warn 1).setFld Reg.MON_THERM_CTL_warn_seen 1) 10
      else if t ≤ 840 then s.setFld Reg.MON_THERM_CTL_thermal_warn 0 else s
    let u : Int := (BitVec.ofNat 8 (s.fld Reg.MON_THERM_CTL_user_alarm)).toInt
    if u ≠ 127 ∧ 8 * u ≤ t ∧ was.all (fun w => decide (w < 8 * u)) then
      raiseEvent (s.setFld Reg.MON_THERM_CTL_user_seen 1) 10
    else s

/-- TEMP_CONVERSION (R362, R363): `temp` in units of 0.125 °C; sensors 1 to 15 are read while SV is on. Two conversions of
one sensor at 125 °C or more are THERMAL_CRIT. -/
def execTempConversion (n : Fin 16) (temp : Half) (s : State) : Host.Outcome State Fault Refusal :=
  if n ≠ 0 ∧ s.domOn 1 = false then .next s
  else
    let was := (hottest s).map (tempOf s)
    let t := (s.setFld (Reg.MON_TEMP_temp n) temp.toNat).setFld (Reg.MON_TEMP_valid n) 1
    let t := thermal t was
    let k := if 1000 ≤ temp.toInt then storeGet 0 t.hotRun n.val + 1 else 0
    let t : State := { t with hotRun := storeSet 0 t.hotRun n.val k }
    .next (if 2 ≤ k then raiseFault t 11 n.val else t)

/-- MON_THERM_CTL.peak_clr. -/
def clearPeak (s : State) : State := s.resetReg Reg.MON_TJ_MAX

/-- MON_PEAK_CLR (R363). -/
def execMonPeakClr (s : State) : Host.Outcome State Fault Refusal := .next (gated s Reg.MON_THERM_CTL (clearPeak s))

/-- The domain that a rail of Table 16.8 feeds, as far as one domain alone does: VDDIO_AES, and the three DRAM rails. -/
def railDom (k : Nat) : Nat := match k with | 5 => 16 | 6 => 10 | 7 => 10 | 8 => 10 | _ => 1

/-- The rail is watched (R365): a rail other than VAON needs the core supplies. -/
def railWatched (s : State) (k : Nat) : Bool := s.boot != bootCold && s.domOn (railDom k) && !s.coreOut

/-- MON_SUPPLY as read: bit k where rail k is watched and in range (R365). -/
def supplyShow (s : State) : Word :=
  BitVec.ofNat 32 ((List.range 9).map (fun k => if railWatched s k && !s.railsOut.contains k then 2 ^ k else 0)).sum

/-- A watched rail leaves its range (R365); it is out of range until the supplies are in range again. -/
def supplyFault (s : State) (k : Nat) : State :=
  if railWatched s k then
    raiseFault { s with railsOut := if s.railsOut.contains k then s.railsOut else s.railsOut ++ [k] } 10 k
  else s

/-- SUPPLY_FAULT (R365). -/
def execSupplyFault (rail : Fin 9) (s : State) : Host.Outcome State Fault Refusal := .next (supplyFault s rail.val)

/-- CORE_SUPPLY_LOSS (R349, R360): while the core supplies are out of range the SV domain is OFF, and the AON LDO is in low-power mode
with lp_en. -/
def execCoreSupplyLoss (s : State) : Host.Outcome State Fault Refusal :=
  .next (({ s with coreOut := true } : State).setDomSt 1 domStOff |>.setFld Reg.PWR_AON_LDO_lp_active (s.fld Reg.PWR_AON_LDO_lp_en))

/-! ### Monitor inputs (R366 to R368) -/

/-- The comparator wakes the domain in wake_dom (R367). A sleeping cluster's wake is decided at the next boundary (Table 16.3;
DESIGN CHOICE, log entry 59). -/
def comparatorWake (s : State) (d : Nat) : State :=
  if isClusterDom d = false then wakeDom s d 7
  else if asleep s (d - 2) ∧ storeGet 0 s.wakeAt (d - 2) = 0 then
    let t := wakeCluster s (d - 2) 7
    { t with wakeAt := storeSet 0 t.wakeAt (d - 2) (s.tick + 5) }
  else s

/-- AMON_COMPARATOR (R367): the comparator's output changes; in the direction of cmp_dir it fires. -/
def execAmonComparator (n : Fin 8) (above : Bool) (s : State) : Host.Outcome State Fault Refusal :=
  if s.fld (Reg.MON_AMON_CTL_cmp_en n) = 0 then .next s
  else
    let t := s.setFld (Reg.MON_AMON_DATA_cmp n) above.toNat
    if above.toNat ≠ s.fld (Reg.MON_AMON_CTL_cmp_dir n) ∨ above.toNat = s.fld (Reg.MON_AMON_DATA_cmp n) then .next t
    else
      let t := raiseEvent (t.setFld (Reg.MON_AMON_DATA_cmp_seen n) 1) 10
      let d := t.fld (Reg.MON_AMON_CTL_wake_dom n)
      .next (if 1 ≤ d ∧ d ≤ 16 then comparatorWake t d else t)

/-- A GOOD conversion. -/
def amonGoodCode (s : State) (n code : Nat) : State :=
  let s := (s.setFld (Reg.MON_AMON_DATA_status n) 1).setFld (Reg.MON_AMON_DATA_code n) code
  { s with amonGood := storeSet false s.amonGood n true }

/-- A test conversion after the plain code `p` (R368); `sus`: the plain conversion was SUSPECT. -/
def amonTest (s : State) (n p : Nat) (sus : Bool) (code : Nat) (moved : Bool) : State :=
  let s : State := { s with amonPlain := storeSet 0 s.amonPlain n 0 }
  if moved then s.setFld (Reg.MON_AMON_DATA_status n) 2
  else if code ≤ p + 0x200 then
    let s := s.setFld (Reg.MON_AMON_DATA_open n) 0
    if sus then s.setFld (Reg.MON_AMON_DATA_status n) 2 else amonGoodCode s n p
  else
    ((s.setFld (Reg.MON_AMON_DATA_status n) 2).setFld (Reg.MON_AMON_DATA_open n) 1).setFld
      (Reg.MON_AMON_DATA_open_seen n) 1

/-- AMON_CONVERSION (R366, R368): a code of an enabled input; `moved`: the input moved by more than 64 codes between its
sample points. With open-wire detection plain and test conversions alternate. -/
def execAmonConversion (n : Fin 8) (code : BitVec 12) (moved : Bool) (s : State) : Host.Outcome State Fault Refusal :=
  let k := n.val
  if s.fld (Reg.MON_AMON_CTL_en k) = 0 then .next s
  else if s.fld (Reg.MON_AMON_CTL_owire_en k) = 0 then
    .next (if moved then s.setFld (Reg.MON_AMON_DATA_status k) 2 else amonGoodCode s k code.toNat)
  else
    let p := storeGet 0 s.amonPlain k
    if p = 0 then
      let t : State := { s with amonPlain := storeSet 0 s.amonPlain k (1 + code.toNat + (if moved then 4096 else 0)) }
      .next (t.setFld (Reg.MON_AMON_DATA_status k) (if moved then 2 else 3))
    else .next (amonTest s k ((p - 1) % 4096) (decide (4096 ≤ p - 1)) code.toNat moved)

/-- A write of MON_AMON_CTLn. An input that is enabled anew has made no conversion; it stays OPEN until a test passes (R368). -/
def amonCtlWrite (s : State) (n : Nat) (v : Word) : State :=
  let old := s.fld (Reg.MON_AMON_CTL_en n)
  let s := (s.setFld (Reg.MON_AMON_CTL_en n) (bitsOf v 31 1)).setFld (Reg.MON_AMON_CTL_owire_en n) (bitsOf v 30 1)
  let s := codeOr s (Reg.MON_AMON_CTL_period n) (bitsOf v 26 4) 14
  let s := (s.setFld (Reg.MON_AMON_CTL_cmp_en n) (bitsOf v 25 1)).setFld (Reg.MON_AMON_CTL_cmp_dir n) (bitsOf v 24 1)
  let s := codeOr (s.setFld (Reg.MON_AMON_CTL_cmp_thr n) (bitsOf v 16 8)) (Reg.MON_AMON_CTL_wake_dom n) (bitsOf v 11 5) 17
  if old = 0 ∧ bitsOf v 31 1 = 1 then
    let s := s.setFld (Reg.MON_AMON_DATA_status n) 0
    { s with amonGood := storeSet false s.amonGood n false, amonPlain := storeSet 0 s.amonPlain n 0 }
  else if bitsOf v 30 1 = 0 then { s with amonPlain := storeSet 0 s.amonPlain n 0 }
  else s

end Sys2Proof.Machine
end

