-- ==== Sys2Proof/Machine/Twin.lean ====
section
/-!
DEFINITION. Machine/Twin.lean: the state of a pleached pair: pairing, ownership, output checks, copy sets and ripeness
(R230 to R260).
-/
namespace Sys2Proof.Machine

/-- Ripeness states (Table 10.9). -/
def ripeDetached : Nat := 0
def ripeJoining : Nat := 1
def ripeCopying : Nat := 2
def ripeConverging : Nat := 3
def ripeRipe : Nat := 4
def ripeSole : Nat := 5

/-- TWN_STAT.ripe_state. -/
def State.ripe (s : State) : Nat := s.fld Reg.TWN_STAT_ripe_state

/-- Sets TWN_STAT.ripe_state. -/
def State.setRipe (s : State) (v : Nat) : State := s.setFld Reg.TWN_STAT_ripe_state v

/-- TWN_STAT.owner: output owner and control leader (R236). -/
def State.owns (s : State) : Bool := s.fld Reg.TWN_STAT_owner == 1

/-- The tick runs and this twin computes: RIPENING or RUN. -/
def State.serving (s : State) : Bool := s.boot == bootRipening || s.boot == bootRun

/-- A session as the partner names it. -/
def peerOf (w : SessId) : SessId := { w with peer := !w.peer }

/-- PL_ALIVE_OUT as R231 states: high in RIPENING and RUN while no self-detected fault has occurred since the start. -/
def showAlive (s : State) : State := s.setFld Reg.TWN_STAT_alive (s.serving && !s.faultStart).toNat

/-- Changes TWN_STAT in `f` and signals a change (Table 14.8). -/
def twnChange (f : State → State) (s : State) : State := twnEvent s (f s)

/-! ### Engines start (R45) -/

/-- Every engine of the image starts (R45), and with it its lines; those of a cluster that sleeps wait asleep (R252). -/
def startEngines (s : State) : State :=
  s.str.progs.foldl (fun s p =>
    let t := startEngine s p.engine
    if asleep t (p.engine / 16) then t.setEngState p.engine engAsleep else t) s

/-! ### Leaving and owning -/

/-- The twin is paired no longer: nothing is forwarded, relayed or compared; an owner is SOLE, another DETACHED (R247,
R248, Table 10.9). -/
def leavePair (s : State) : State :=
  let s : State := { s with twin := { s.twin with paired := false, joinTick := none, hoPend := none, partCrc := [], eqFrom := [],
                                                  bulkDone := [], bulkAt := 0, copyFrom := none, copyNow := [], params := [], paramNext := 0 } }
  s.setRipe (if s.owns then ripeSole else ripeDetached)

/-- A forwarded item that was taken is discarded (R248): a lease entry stands as before; a reset, graft or write that has not
taken effect never does. -/
def undoItem (s : State) : Undo → State
  | .lease i (some l) => { s with leases := storeIns i l s.leases }
  | .lease i none => { s with leases := storeDel s.leases i }
  | .reset p => { s with partOps := s.partOps.filter (fun o => !(o.part == p && !o.graft && o.done.isNone)) }
  | .graft p =>
    if s.partOps.any (fun o => o.part == p && o.graft && o.done.isNone) then
      ({ s with partOps := s.partOps.filter (fun o => o.part != p), graftNew := none } : State).setFld Reg.ESP_STAT_state 0
    else s
  | .stream key t => { s with net := { s.net with writes := s.net.writes.filter (fun w => !(w.1 == t && w.2.1 == key)) } }
  | .cluster t a => { s with cluWrites := s.cluWrites.filter (fun w => !(w.1 == t && w.2.1 == a)) }

/-- The follower forgets what it was sent after item `n` (R248): groups that have neither flipped nor staged a word, and
everything else that was forwarded, the latest first. -/
def dropUnconfirmed (s : State) (n : Nat) : State :=
  let t := (s.twin.taken.filter (fun t => decide (n < t.1))).foldr (fun t s => undoItem s t.2) s
  { t with groups := t.groups.filter (fun g => decide (g.ctl ≤ n)),
           twin := { t.twin with taken := t.twin.taken.filter (fun t => decide (t.1 ≤ n)) } }

/-- Ownership and control leadership come to this twin at step 1 of a boundary (R236, R244): a twin in RIPENING enters
RUN (Table 11.2), and one that has not joined yet starts its engines (R258); `sole`: without a paired partner. It drives
frames from the one that starts after its drivers were armed, or in a planned handover from launch tick H on (R251), and
packets from its first owned launch tick on (R249). A twin that has faulted takes nothing (R260). -/
def takeOwnership (s : State) (sole : Bool) : State :=
  if s.owns = true ∨ s.faultStart = true then s
  else
    let s := (s.setFld Reg.TWN_STAT_owner 1).wrapInc Reg.TWN_STAT_handovers
    let s : State := { s with twin := { s.twin with armed := false, ownFrom := if sole then 0 else s.tick, pktFrom := s.tick } }
    let s := if s.boot = bootRipening ∧ (s.ripe = ripeDetached ∨ s.ripe = ripeJoining) then startEngines s else s
    let s := if s.boot = bootRipening then s.setBoot bootRun else s
    if sole then leavePair { s with twin := { s.twin with soleAt := s.tick } } else s

/-- Both roles leave this twin at step 1 of a boundary (R236). It drives the frames whose first word belongs to a launch tick before
`upto` (R251); where that is 0 its outputs float at once (R246). -/
def giveUpOwnership (s : State) (upto : Nat) : State :=
  if s.owns then
    let t := (s.setFld Reg.TWN_STAT_owner 0).wrapInc Reg.TWN_STAT_handovers
    { t with twin := { t.twin with ownUntil := upto }, io := { t.io with tdmDrives := if upto = 0 then [] else t.io.tdmDrives } }
  else s

/-- The partner stopped, or the link is down: what its heartbeats showed of its image is void, and the control stream begins anew
(log entry 134). -/
def newStream (s : State) : State :=
  { s with ctlOut := [], twin := { s.twin with image := 3, hashParts := [], hashRun := 0, acked := 0, rxSeq := 0, sentTo := 0 } }

/-! ### TWIN groups and their output checks (R240, R241) -/

/-- The numbers of the TWIN groups. -/
def twinGroups (s : State) : List Nat := (s.str.twin.map (·.group)).eraseDups

/-- One group's comparison at the boundary: a match counts; a mismatch sets its bit in TWN_DIVERGE and, under the policy
mute, mutes the group from the next launch tick on (R240, R241). -/
def compareGroup (s : State) (g : Nat) : State :=
  match storeFind s.twin.partCrc g, storeFind s.twin.ownCrc g with
  | none, _ => s
  | some _, none => s
  | some c, some o =>
    if c = o then
      { s with twin := { s.twin with matched := storeSet 0 s.twin.matched g (storeGet 0 s.twin.matched g + 1) } }
    else
      let s := s.setFld ⟨Reg.TWN_DIVERGE (g / 32), g % 32, 1⟩ 1
      let t : State := { s with twin := { s.twin with matched := storeSet 0 s.twin.matched g 0 } }
      if s.str.twin.any (fun r => r.group == g && r.diverge == 1) ∧
          (storeGet 0 s.twin.muteFrom g = 0 ∨ storeGet 0 s.twin.muteTo g ≠ 0) then
        { t with twin := { t.twin with muteFrom := storeSet 0 t.twin.muteFrom g (s.tick + 2),
                                       muteTo := storeSet 0 t.twin.muteTo g 0 } }
      else t

/-- The output checks at a boundary (R240): of paired twins with equal images, over the launch tick that has ended. -/
def compareCrcs (s : State) : State :=
  let s := if s.twin.paired ∧ s.fld Reg.TWN_STAT_mixed = 0 then (twinGroups s).foldl compareGroup s else s
  { s with twin := { s.twin with partCrc := [] } }

/-- The CRCs of the launch tick that begins, for this tick's link frame and the comparison at its end (R240); the groups that hold
Quickset lanes follow in the course of the tick. -/
def makeCrcs (s : State) : State :=
  let own := ((twinGroups s).filter (fun g => !hasLane s g)).foldl (fun m g => storeIns g (groupCrc s g) m) ([] : Store Word)
  { s with twin := { s.twin with ownCrc := own }, io := { s.io with rawQs := [] } }

/-- A divergence mute of group `g` ends with launch tick `t`, if one holds or is to come. -/
def endMute (s : State) (g t : Nat) : State :=
  if storeGet 0 s.twin.muteFrom g ≠ 0 ∧ storeGet 0 s.twin.muteTo g = 0 then
    { s with twin := { s.twin with muteTo := storeSet 0 s.twin.muteTo g (t + 1) } }
  else s

/-- A divergence mute ends at the first launch tick after 1,024 compared ticks in a row have matched (R241). -/
def endDiverge (s : State) (g : Nat) : State :=
  if 1024 ≤ storeGet 0 s.twin.matched g then endMute s g s.tick else s

/-- DIVERGE_MUTE_END (R241). -/
def execDivergeMuteEnd (g : Fin 256) (s : State) : Host.Outcome State Fault Refusal := .next (endDiverge s g)

/-- TWN_CTL.div_clr: every divergence mute ends at the next launch tick, and the match counts are cleared (R241). -/
def clearDiverge (s : State) : State :=
  let t := (s.twin.muteFrom.map (·.1)).foldl (fun t g => endMute t g s.io.launched) s
  { t with twin := { t.twin with matched := [] } }

/-- DIV_CLR (R241). -/
def execDivClr (s : State) : Host.Outcome State Fault Refusal := .next (gated s Reg.TWN_CTL (clearDiverge s))

/-! ### Link supervision (R235, R239) -/

/-- Two whole ticks without a valid heartbeat while PL_ALIVE_IN is high: link_down; a follower becomes a detached twin and
ownership does not change (R239). -/
def linkDown (s : State) : State :=
  if 2 ≤ s.twin.silent ∧ s.fld Reg.TWN_STAT_partner_alive = 1 ∧ s.fld Reg.TWN_STAT_link_down = 0 then
    let t := newStream (s.setFld Reg.TWN_STAT_link_down 1)
    twnEvent s (if s.twin.paired ∨ s.ripe = ripeJoining ∨ s.ripe = ripeCopying ∨ s.ripe = ripeConverging then leavePair t
      else t)
  else s

/-- LINK_DOWN (R239). -/
def execLinkDown (s : State) : Host.Outcome State Fault Refusal := .next (linkDown s)

/-- The skew exceeds 20 ns: in sixteenths of an IOCLK period (R235). -/
def skewHigh (s : State) : Bool :=
  let f := 4096 * (if s.fld Reg.TICK_RATE_family = 0 then 48000 else 44100)
  decide (320 * f < (BitVec.ofNat 16 (s.fld Reg.TWN_SKEW_skew)).toInt.natAbs * 10 ^ 9)

/-- This twin follows the other's tick (R235): role B, or role A while role B owns. -/
def tickFollower (s : State) : Bool :=
  s.fld Reg.TWN_STAT_role == 1 && !s.owns || s.fld Reg.TWN_STAT_role == 0 && !s.owns && s.twin.partnerOwner

/-- Skew above 20 ns for 16 consecutive ticks: the twin that follows leaves the pair (R235). -/
def skewError (s : State) : State :=
  if 16 ≤ s.twin.skewTicks ∧ s.twin.paired ∧ tickFollower s then
    twnEvent s (leavePair (s.setFld Reg.TWN_STAT_skew_err 1)) else s

/-- SKEW_ERROR (R235). -/
def execSkewError (s : State) : Host.Outcome State Fault Refusal := .next (skewError s)

/-! ### Handover (R244 to R252) -/

/-- The groups that stay floated in an unripe survivor (Table 10.10). -/
def unripeMuted (s : State) : List Nat := ((s.str.twin.filter (fun r => r.unripe == 1)).map (·.group)).eraseDups

/-- The link still shows the partner alive and owning (R246). -/
def partnerShown (s : State) : Bool :=
  s.fld Reg.TWN_STAT_link_down == 0 && decide (s.twin.silent < 2) && s.twin.partnerOwner && !s.twin.partnerFault &&
    (s.twin.partnerBoot == bootRipening || s.twin.partnerBoot == bootRun)

/-- PL_ALIVE_IN falls (R244, R246, R247, R258, R260). A follower, ripe or not, arms its drivers and becomes owner and
leader at step 1 of the next boundary; groups with the policy mute stay floated in a twin that is not ripe. An owner
goes on alone. A twin that has faulted does nothing. -/
def partnerFell (s : State) : State :=
  let s := s.setFld Reg.TWN_STAT_partner_alive 0
  if s.twinMode = false ∨ s.serving = false ∨ s.faultStart = true then s
  else if s.owns then newStream (leavePair { s with twin := { s.twin with peerGone := s.twin.paired } })
  else
    let kept := if s.ripe = ripeRipe then [] else unripeMuted s
    let t := if partnerShown s then sendCtl s .takeover else newStream s
    { t with twin := { t.twin with armed := true, ownNext := some true, peerGone := true, kept := kept } }

/-- PL_ALIVE_FALL (R244). -/
def execPlAliveFall (s : State) : Host.Outcome State Fault Refusal :=
  .next (if s.fld Reg.TWN_STAT_partner_alive = 1 then twnChange partnerFell s else s)

/-- A takeover notice reaches an owner (R246): it floats its outputs and gives up both roles at step 1 of the next
boundary. -/
def takeoverNotice (s : State) : State :=
  if s.owns then { s with twin := { s.twin with ownNext := some false } } else s

/-- TAKEOVER_NOTICE (R246). -/
def execTakeoverNotice (s : State) : Host.Outcome State Fault Refusal := .next (takeoverNotice s)

/-- A follower leaves the pair at step 1 of its next boundary, keeping the items up to `n` (R248). -/
def detachAfter (s : State) (n : Nat) : State :=
  if s.follows then { s with twin := { s.twin with detach := some n } } else s

/-- DETACH_NOTICE (R248): `last` is the last item that the follower confirmed. -/
def execDetachNotice (last : Word) (s : State) : Host.Outcome State Fault Refusal := .next (detachAfter s last.toNat)

/-- FOLLOWER_DETACH (R248): an item has waited a whole tick for its confirmation to be sent. -/
def execFollowerDetach (last : Word) (s : State) : Host.Outcome State Fault Refusal := .next (detachAfter s last.toNat)

/-- The distance of boundary `h` (bits 31:0) from the current tick; beyond 2^31 it lies in the past, or too far ahead. -/
def aheadOf (s : State) (h : Word) : Nat := (h - BitVec.ofNat 32 s.tick).toNat

/-- A handover at boundary `h` is accepted: it comes neither too soon nor more than 2^31 ticks ahead, the partner is ripe and the
link is up (R251). -/
def handoverAccepted (s : State) (h : Word) : Bool :=
  decide (4 ≤ aheadOf s h ∧ aheadOf s h ≤ 2 ^ 31) && s.twin.paired && s.twin.partnerRipe == ripeRipe && s.fld Reg.TWN_STAT_link_down == 0

/-- A planned handover at boundary `h` (R251). -/
def requestHandover (s : State) (h : Word) : State :=
  if handoverAccepted s h then
    let t := s.tick + aheadOf s h
    sendCtl { s with twin := { s.twin with hoPend := some t } } (.handover t)
  else s.setFld Reg.TWN_STAT_ho_refused 1

/-- TWN_CTL.ho_go: of the owner only (R251; log entry 19). -/
def handoverGo (s : State) : State :=
  if s.owns then twnChange (fun s => requestHandover s (s.reg Reg.TWN_HO_TICK)) s else s

/-- HO_GO (R251). -/
def execHoGo (s : State) : Host.Outcome State Fault Refusal := .next (gated s Reg.TWN_CTL (handoverGo s))

/-- At boundary H both roles pass to the partner (R251). -/
def plannedHandover (s : State) : State :=
  match s.twin.hoPend with
  | none => s
  | some h =>
    if h ≤ s.tick then
      let t : State := { s with twin := { s.twin with hoPend := none } }
      if s.owns then giveUpOwnership t h
      else if s.twin.paired then takeOwnership t false
      else t
    else s

/-- PLANNED_HANDOVER (R251). -/
def execPlannedHandover (s : State) : Host.Outcome State Fault Refusal := .next (twnChange plannedHandover s)

/-- TWN_CTL.leave: refused while owner of a paired partner. -/
def twinLeave (s : State) : State :=
  if s.owns ∧ s.twin.paired then s else twnChange (fun s => (leavePair s).setRipe ripeDetached) s

/-- TWIN_LEAVE (R247). -/
def execTwinLeave (s : State) : Host.Outcome State Fault Refusal := .next (gated s Reg.TWN_CTL (twinLeave s))

/-- LATE_LINK_ALIGN (R267): two twins that both own find each other; role B floats its outputs, gives up ownership at step
1 of its next boundary and then restarts. -/
def execLateLinkAlign (s : State) : Host.Outcome State Fault Refusal :=
  .next (if s.twinMode ∧ s.owns ∧ s.twin.partnerOwner ∧ s.fld Reg.TWN_STAT_role = 1 then
    { s with twin := { s.twin with ownNext := some false, yield := true } } else s)

/-! ### Joining (R252, R259) -/

/-- The link carries a join (R252): it is up and aligned, the twins' ticks lie within 20 ns, their roles differ, and their images are
known to be equal or compatible (R234). -/
def canJoin (s : State) : Bool :=
  s.twinMode && s.fld Reg.TWN_STAT_link_down == 0 && s.fld Reg.TWN_LINK_aligned == 1 && !skewHigh s &&
    decide (s.twin.image < 2) && s.fld Reg.TWN_LINK_role_clash == 0 && !s.twin.paired

/-- What the joiner held of groups, leases, resets and writes is dropped: it receives the partner's (R252, log entry 131). -/
def dropPromises (s : State) : State :=
  { s with groups := [], leases := [], partOps := [], held := [], cluWrites := [], net := { s.net with writes := [] },
           twin := { s.twin with taken := [], params := [] } }

/-- JOIN_REQUEST (R252): a joiner in RIPENING, or a twin that a lost link has detached (R247), enters JOINING; the owner names a
joining tick `j` no earlier than 8 ticks away (log entry 20). -/
def joinRequest (s : State) (j : Nat) : State :=
  if canJoin s = false then s
  else if s.owns then
    if s.boot = bootRun ∧ s.twin.joinTick = none ∧ s.tick + 8 ≤ j then
      sendCtl { s with twin := { s.twin with joinTick := some j } } (.joinTick j)
    else s
  else if s.boot = bootRipening ∨ (s.boot = bootRun ∧ s.ripe = ripeDetached ∧ s.faultStart = false) then
    dropPromises (s.setRipe ripeJoining)
  else s

/-- JOIN_REQUEST (R252). -/
def execJoinRequest (j : BitVec 64) (s : State) : Host.Outcome State Fault Refusal :=
  .next (twnChange (fun s => joinRequest s j.toNat) s)

/-! ### Routes between engines and copy sets (R254) -/

/-- The engines that read line `r`: those of its cluster with a handle naming it (R104). -/
def lineReaders (s : State) (r : LineRec) : List Nat :=
  (s.str.progs.filter (fun p => p.engine / 16 == r.cluster && p.handles.any (fun h => h.1 == r.line))).map (·.engine)

/-- Routes from engine to engine by tick hop, phase hop, delay line or bridge (R254). -/
def engineRoutes (s : State) : List (Nat × Nat) :=
  (s.str.exch.filter (fun r => r.kind != 3)).map (fun r => (r.srcEngine, r.dstEngine)) ++
  s.str.lines.flatMap (fun r => (lineReaders s r).map (fun e => (16 * r.cluster + r.writer, e))) ++
  (s.str.bridges.filter (fun b => b.srcKind == 0 && b.dstKind == 0 && b.kind != 4)).map (fun b => (b.srcEngine, b.dstEngine))

/-- The engines reached from a set by at most `n` routes. -/
def reachFrom (routes : List (Nat × Nat)) : Nat → List Nat → List Nat
  | 0, es => es
  | n + 1, es => reachFrom routes n ((es ++ (routes.filter (fun r => es.contains r.1)).map (·.2)).eraseDups)

/-- The engines from which a set can be reached, itself included. -/
def upstream (s : State) (es : List Nat) : List Nat :=
  reachFrom ((engineRoutes s).map (fun r => (r.2, r.1))) 128 es

/-- The copy set of engine `e`: the engines that it reaches and that reach it (R254). -/
def copySet (s : State) (e : Nat) : List Nat :=
  let up := upstream s [e]
  (reachFrom (engineRoutes s) 128 [e]).filter (fun x => up.contains x)

/-- Words that a carried-state entry names (R197). -/
def carriedWords (w : Word) : Nat := if bitsOf w 30 2 = 1 then bitsOf w 16 14 + 1 else 1

/-- The engine whose words an output channel carries, directly or through a bridge; none where an input feeds it. -/
def outEngine (s : State) (q : IoRec) : Option Nat :=
  match outBridge s q with
  | some b => if b.srcKind = 0 then some b.srcEngine else none
  | none => some q.engine

/-- A guard's output is fed by an engine of the set. -/
def guardIn (s : State) (es : List Nat) (r : ThornRec) : Bool :=
  s.str.io.any (fun q => q.dir == 1 && q.kind == r.kind && q.port == r.port && q.channel == r.channel &&
    (outEngine s q).any (fun e => es.contains e))

/-- The words of a set's recursive state (R254): carried state, four words for each guard and gain cell that joins the
set, and the in-flight words of tick hops within it. -/
def setWords (s : State) (es : List Nat) : Nat :=
  ((s.str.progs.filter (fun p => es.contains p.engine)).map (fun p => (p.carried.map carriedWords).sum)).sum +
  4 * (s.str.thorn.filter (guardIn s es)).length +
  4 * (s.str.cells.filter (fun c => es.contains c.watchEngine)).length +
  ((s.str.exch.filter (fun r => r.kind == 1 && es.contains r.srcEngine && es.contains r.dstEngine)).map (·.count)).sum

/-- The set contains a delay line whose writer and a reader both lie in it. -/
def setHasLine (s : State) (es : List Nat) : Bool :=
  s.str.lines.any (fun r => es.contains (16 * r.cluster + r.writer) && (lineReaders s r).any (fun e => es.contains e))

/-- An oversize set is never copied (R254). -/
def oversize (s : State) (es : List Nat) : Bool := decide (256 < setWords s es) || setHasLine s es

/-- Espalier load divides the engines into copy sets and shows an oversize one (R254). -/
def showOversize (s : State) : State :=
  s.setFld Reg.TWN_STAT_oversize (s.twinMode && s.str.progs.any (fun p => oversize s (copySet s p.engine))).toNat

/-! ### Convergence (R255 to R257) -/

/-- Engine `e` has been equal since a boundary: that boundary plus one, 0 = not yet. -/
def State.eqSince (s : State) (e : Nat) : Nat := storeGet 0 s.twin.eqFrom e

/-- The joining tick from which the copy proceeds. -/
def State.joinAt (s : State) : Nat := s.twin.copyFrom.getD 0

/-- A line is equal (R256). A twin with a compatible image copies nothing: its lines have converged once they are full. -/
def lineEqual (s : State) (r : LineRec) : Bool :=
  let e := s.eqSince (16 * r.cluster + r.writer)
  s.twin.bulkDone.contains (1024 * r.cluster + r.line) ||
    (decide (r.length ≤ s.lineAge r) && (s.twin.image == 1 || (e != 0 && decide (e - 1 + r.length ≤ s.tick))))

/-- The tick in which ASRCs are equal (R256): 64 ticks after the joiner first applies the partner's phase word, which is in J + 1,
since it shares the measurements of J − 1 (R149, R252; log entry 137). -/
def asrcTick (s : State) : Nat := s.joinAt + 65

/-- A bridge takes its samples from an AES3 receiver, that is from an ASRC. -/
def asrcFed (s : State) (b : BridgeRec) : Bool := b.srcKind != 0 && (s.ioRec b.src).any (fun q => q.kind == 2)

/-- The tick in which the source of a bridge that an input feeds is equal: the joining tick, or that of the ASRCs (R256). -/
def inputTick (s : State) (b : BridgeRec) : Nat := if asrcFed s b then asrcTick s else s.joinAt

/-- A bridge is equal 80 ticks after its source (R256). -/
def bridgeEqual (s : State) (b : BridgeRec) : Bool :=
  if b.srcKind = 0 ∧ s.twin.image ≠ 1 then s.eqSince b.srcEngine != 0 && decide (s.eqSince b.srcEngine + 79 ≤ s.tick)
  else decide (inputTick s b + 80 ≤ s.tick)

/-- An ASRC is equal. -/
def asrcEqual (s : State) : Bool := decide (asrcTick s ≤ s.tick)

/-- Inputs from AES3 receivers are routed. -/
def usesAsrc (s : State) : Bool := s.str.io.any (fun r => r.dir == 0 && r.kind == 2)

/-- Every line, bridge and ASRC is equal (R257). -/
def allEqual (s : State) : Bool :=
  s.str.lines.all (lineEqual s) && s.str.bridges.all (bridgeEqual s) && (!usesAsrc s || asrcEqual s)

/-- Everything that feeds a set from outside is equal (R255). -/
def feedsEqual (s : State) (es : List Nat) : Bool :=
  s.str.exch.all (fun r => !es.contains r.dstEngine || es.contains r.srcEngine || r.kind == 3 || s.eqSince r.srcEngine != 0) &&
  s.str.lines.all (fun r => !(lineReaders s r).any (fun e => es.contains e) || lineEqual s r) &&
  s.str.bridges.all (fun b => !(b.dstKind == 0 && b.kind != 4 && es.contains b.dstEngine) || bridgeEqual s b) &&
  s.str.io.all (fun r => !(r.dir == 0 && r.kind == 2 && es.contains r.engine) || asrcEqual s)

/-- The engines `es` are equal from the current boundary on. -/
def markEqual (s : State) (es : List Nat) : State :=
  { s with twin := { s.twin with eqFrom := es.foldl (fun m e => storeSet 0 m e (s.tick + 1)) s.twin.eqFrom } }

/-- The engines whose words reach an output group. -/
def groupEngines (s : State) (g : Nat) : List Nat :=
  upstream s ((s.str.twin.filter (fun r => r.group == g)).flatMap (fun t =>
    (s.str.io.filter (fun q => q.dir == 1 && q.kind == t.kind && q.port == t.port && q.channel == t.channel)).filterMap
      (outEngine s)))

/-- The outputs that an oversize set feeds have come to match (R257): every TWIN group that its words reach, and there is one, has
matched for 16 compared ticks (DEDUCED, log entry 159). -/
def oversizeMatches (s : State) (es : List Nat) : Bool :=
  let gs := (twinGroups s).filter (fun g => (groupEngines s g).any (fun e => es.contains e))
  !gs.isEmpty && gs.all (fun g => decide (16 ≤ storeGet 0 s.twin.matched g))

/-- An engine whose set has no recursive state is equal from the boundary at which everything that feeds it is (R255), one of an
oversize set once what it feeds has come to match (R257). -/
def equalize (s : State) : State :=
  s.str.progs.foldl (fun s p =>
    let es := copySet s p.engine
    if s.eqSince p.engine = 0 ∧ ((setWords s es = 0 ∧ setHasLine s es = false ∧ feedsEqual s es) ∨
        (oversize s es = true ∧ oversizeMatches s es)) then markEqual s [p.engine]
    else s) s

/-- The share of one engine in the words of its set (R255): what the set's recursive state holds of it, and of the guards and cells
that its words feed. -/
def engineShare (s : State) (es : List Nat) (e : Nat) : Nat :=
  ((s.str.progs.filter (fun p => p.engine == e)).map (fun p => (p.carried.map carriedWords).sum)).sum +
  4 * (s.str.thorn.filter (guardIn s [e])).length + 4 * (s.str.cells.filter (fun c => c.watchEngine == e)).length +
  ((s.str.exch.filter (fun r => r.kind == 1 && es.contains r.srcEngine && r.dstEngine == e)).map (·.count)).sum

/-- Commit-window words of an engine of partition `p` that the bookings of the current tick leave free (R64, R164). -/
def freeWords (s : State) (p : Nat) : Nat := 512 - booked s p s.tick

/-- The set of engine `e` can be copied in the current tick (R255). -/
def copyReady (s : State) (e : Nat) : Bool :=
  let es := copySet s e
  s.eqSince e == 0 && !oversize s es && setWords s es != 0 && feedsEqual s es &&
    (s.str.progs.filter (fun p => es.contains p.engine)).all (fun p =>
      decide (engineShare s es p.engine ≤ freeWords s p.partition))

/-- The set that is copied in the current tick, as both twins know it (R255): the ready set with the lowest engine; at most one
set per tick. Nothing is copied for a compatible image (R259). -/
def chooseCopy (s : State) : State :=
  let es := (s.str.progs.map (·.engine)).mergeSort (fun a b => decide (a ≤ b))
  let now := if s.twin.image = 0 ∧ s.twin.copyFrom.isSome then
    ((es.find? (copyReady s)).map (copySet s)).getD [] else []
  { s with twin := { s.twin with copyNow := now } }

/-- Every set that can be copied has been copied, or has nothing to copy. -/
def setsCopied (s : State) : Bool :=
  s.twin.image == 1 || s.str.progs.all (fun p =>
    let es := copySet s p.engine
    oversize s es || setWords s es == 0 || s.eqSince p.engine != 0)

/-! ### The plan of R257 -/

/-- The tick from which a line is equal, with the engines' ticks plus one in `m`; none while it depends on an oversize set. -/
def planLine (s : State) (m : Store Nat) (r : LineRec) : Option Nat :=
  if s.twin.bulkDone.contains (1024 * r.cluster + r.line) then some s.tick
  else
    let full := s.tick + r.length - s.lineAge r
    if s.twin.image = 1 then some full
    else match storeGet 0 m (16 * r.cluster + r.writer) with
      | 0 => none
      | e + 1 => some (max full (e + r.length))

/-- The tick from which a bridge is equal. -/
def planBridge (s : State) (m : Store Nat) (b : BridgeRec) : Option Nat :=
  if b.srcKind = 0 ∧ s.twin.image ≠ 1 then
    match storeGet 0 m b.srcEngine with
    | 0 => none
    | e + 1 => some (e + 80)
  else some (inputTick s b + 80)

/-- The latest of some ticks, where all are known. -/
def latest (ts : List (Option Nat)) (n : Nat) : Option Nat :=
  ts.foldl (fun m t => m.bind (fun a => t.map (max a))) (some n)

/-- The tick from which everything that feeds a set from outside is equal. -/
def planFeeds (s : State) (m : Store Nat) (es : List Nat) : Option Nat :=
  latest (((s.str.exch.filter (fun r => es.contains r.dstEngine && !es.contains r.srcEngine && r.kind != 3)).map (fun r =>
      match storeGet 0 m r.srcEngine with
      | 0 => none
      | e + 1 => some e)) ++
    (s.str.lines.filter (fun r => (lineReaders s r).any (fun e => es.contains e))).map (planLine s m) ++
    (s.str.bridges.filter (fun b => b.dstKind == 0 && b.kind != 4 && es.contains b.dstEngine)).map (planBridge s m) ++
    (if s.str.io.any (fun r => r.dir == 0 && r.kind == 2 && es.contains r.engine) then [some (asrcTick s)] else [])) s.tick

/-- One engine joins the plan once its feeds are known: a set with nothing to copy with its feeds, another in a tick of its own from
the next one on. -/
def planEngine (s : State) (m : Store Nat) (e : Nat) : Store Nat :=
  let es := copySet s e
  if storeGet 0 m e ≠ 0 ∨ oversize s es = true then m
  else match planFeeds s m es with
    | none => m
    | some t =>
      let k := if setWords s es = 0 then t else (m.map (·.2)).foldl max (max t (s.tick + 1))
      es.foldl (fun m x => storeSet 0 m x (k + 1)) m

/-- The plan after `n` rounds over the engines: the tick plus one from which each is equal. -/
def planRounds (s : State) : Nat → Store Nat → Store Nat
  | 0, m => m
  | n + 1, m => planRounds s n ((s.str.progs.map (·.engine)).foldl (planEngine s) m)

/-- TWN_RIPE_ETA (R257): the tick from which every line, bridge and ASRC will be equal by the plan of R255 and R256; 0xFFFF_FFFF while
it depends on an oversize set. The plan takes every booking to leave room (log entry 138). -/
def ripeEta (s : State) : Word :=
  let m := if s.twin.image = 1 then [] else planRounds s s.str.progs.length s.twin.eqFrom
  match latest (s.str.lines.map (planLine s m) ++ s.str.bridges.map (planBridge s m) ++
      (if usesAsrc s then [some (asrcTick s)] else [])) s.joinAt with
  | some t => BitVec.ofNat 32 t
  | none => 0xFFFFFFFF

/-- The two conditions of R257, or those of R259 for a compatible image. -/
def ripeNow (s : State) : Bool :=
  s.ripe == ripeConverging && allEqual s &&
    (if s.twin.image = 1 then decide (s.joinAt + s.fld Reg.TWN_CTL_settle ≤ s.tick)
     else (twinGroups s).all (fun g => decide (16 ≤ storeGet 0 s.twin.matched g)))

/-- The joiner becomes RIPE and enters RUN (R257, Table 11.2). -/
def becomeRipe (s : State) : State :=
  if ripeNow s then
    let s := s.setRipe ripeRipe
    let s : State := { s with twin := { s.twin with copyFrom := none, copyNow := [] } }
    if s.boot = bootRipening then s.setBoot bootRun else s
  else s

/-- BECOME_RIPE (R257). -/
def execBecomeRipe (s : State) : Host.Outcome State Fault Refusal := .next (twnChange becomeRipe s)

/-- The bookkeeping of a join at a boundary: equality and the set that is copied, on both twins alike (R255); at the joiner CONVERGING
once every set has been copied, the expected tick, and RIPE. The owner's ends when the partner is ripe. -/
def joinProgress (s : State) : State :=
  if s.ripe = ripeCopying ∨ s.ripe = ripeConverging then
    let s := chooseCopy (equalize s)
    let s := if s.ripe = ripeCopying ∧ setsCopied s then s.setRipe ripeConverging else s
    becomeRipe (s.setReg Reg.TWN_RIPE_ETA (ripeEta s))
  else if s.twin.copyFrom.isNone then s
  else if s.twin.partnerRipe = ripeRipe then { s with twin := { s.twin with copyFrom := none, copyNow := [], eqFrom := [] } }
  else chooseCopy (equalize s)

/-! ### The words of a copied set (R197, R254, R255) -/

/-- The words of one carried-state entry of engine `e` (R197). -/
def carriedCopy (s : State) (e : Nat) (w : Word) : List CopyWord :=
  let x := s.engine e
  let n := bitsOf w 0 8
  let d : EngNo := Fin.ofNat 128 e
  if bitsOf w 30 2 = 1 then
    (List.range (bitsOf w 16 14 + 1)).map (fun i =>
      let a := (bitsOf w 0 16 + i) % 65536
      .mem d (BitVec.ofNat 16 a) (storeGet 0 x.mem a))
  else if n < 64 then [.v d (Fin.ofNat 64 n) (storeGet 0 x.v n)]
  else if n < 68 then [.acc d (Fin.ofNat 4 (n - 64)) (storeGet 0 x.accM (n - 64))]
  else if n < 84 then [.k d (Fin.ofNat 16 (n - 68)) (storeGet 0 x.k (n - 68))]
  else if n < 100 then [.m d (Fin.ofNat 16 (n - 84)) (storeGet 0 x.m (n - 84))]
  else if n = 100 then [.bx d x.bx] else [.flg d x.flg]

/-- The recursive state of a set, as the commit engine reads it (R254, R255): carried state, guards, gain cells, and the in-flight
words of tick hops within it. -/
def readSet (s : State) (es : List Nat) : List CopyWord :=
  (s.str.progs.filter (fun p => es.contains p.engine)).flatMap (fun p => p.carried.flatMap (carriedCopy s p.engine)) ++
  (s.str.thorn.zipIdx.filter (fun r => guardIn s es r.1)).map (fun r =>
    .guard r.2 (storeGet {} s.guards r.2).dcs (storeGet {} s.guards r.2).ms) ++
  (s.str.cells.filter (fun c => es.contains c.watchEngine)).map (fun c =>
    let x := s.cell c.cell
    .cell (Fin.ofNat 4096 c.cell) x.current x.target x.pending x.crossed x.deadline x.last) ++
  (s.str.exch.filter (fun r => r.kind == 1 && es.contains r.srcEngine && es.contains r.dstEngine)).flatMap (fun r =>
    (List.range r.count).map (fun i => .inWord (Fin.ofNat 128 r.dstEngine) (Fin.ofNat 1024 (r.dstWord + i))
      (storeGet 0 (s.engine r.dstEngine).inFront (r.dstWord + i))))

/-- A copied word without its value: what it names. -/
def copyName : CopyWord → CopyWord
  | .v e n _ => .v e n 0
  | .acc e n _ => .acc e n 0
  | .k e n _ => .k e n 0
  | .m e n _ => .m e n 0
  | .bx e _ => .bx e 0
  | .flg e _ => .flg e 0
  | .mem e a _ => .mem e a 0
  | .inWord e a _ => .inWord e a 0
  | .guard n _ _ => .guard n 0 0
  | .cell n _ _ _ _ _ _ => .cell n 0 0 false false 0 0

/-- One word of a copied set is written (R255). -/
def writeCopyWord (s : State) (w : CopyWord) : State :=
  match w with
  | .v e n x => let q := s.engine e; s.setEngine e { q with v := storeSet 0 q.v n x }
  | .acc e n x => let q := s.engine e; s.setEngine e { q with accM := storeSet 0 q.accM n x, accA := storeSet 0 q.accA n x }
  | .k e n x => let q := s.engine e; s.setEngine e { q with k := storeSet 0 q.k n x }
  | .m e n x => let q := s.engine e; s.setEngine e { q with m := storeSet 0 q.m n x }
  | .bx e x => s.setEngine e { s.engine e with bx := x }
  | .flg e x => s.setEngine e { s.engine e with flg := x }
  | .mem e a x => let q := s.engine e; s.setEngine e { q with mem := storeSet 0 q.mem a.toNat x }
  | .inWord e a x => let q := s.engine e; s.setEngine e { q with inFront := storeSet 0 q.inFront a x }
  | .guard n d m => { s with guards := storeSet {} s.guards n { storeGet {} s.guards n with dcs := d, ms := m } }
  | .cell n c t p x d l => s.setCell n { current := c, target := t, pending := p, deadline := d, crossed := x, last := l }

/-- COPY_SET_TRANSFER (R255): in tick k the joiner writes the words of the set that holds engine `e`, where it is the set that both
twins have chosen for this tick and the words are the set's. -/
def execCopySetTransfer (e : EngNo) (words : List CopyWord) (s : State) : Host.Outcome State Fault Refusal :=
  let es := s.twin.copyNow
  if s.ripe ≠ ripeCopying ∨ es.contains e.val = false ∨ s.eqSince e ≠ 0 ∨
      words.map copyName ≠ (readSet s es).map copyName then .next s
  else .next (markEqual (words.foldl writeCopyWord s) es)

/-- BULK_LINE_COPY (R256): the copy of a tier-2 line has passed every word; its age becomes its length. -/
def execBulkLineCopy (c : ClNo) (line : Fin 1024) (words : List Word) (s : State) : Host.Outcome State Fault Refusal :=
  match s.line c line with
  | none => .next s
  | some r =>
    if r.tier ≠ 2 ∨ (s.ripe ≠ ripeCopying ∧ s.ripe ≠ ripeConverging) ∨ s.eqSince (16 * c.val + r.writer) = 0 then .next s
    else
      let m := (words.take r.length).zipIdx.foldl (fun m w => storeSet 0 m (r.base + w.2) w.1) s.dram
      .next (({ s with dram := m, twin := { s.twin with bulkDone := s.twin.bulkDone ++ [1024 * c.val + line.val] } } :
        State).setAge r r.length)

/-! ### The heartbeat (R234, R236, R239) -/

/-- The outputs of each partition: those of IOROUTE records, and the Quickset lanes of QSMIX records (R201). -/
def outputKeys (x : Structure) : List Nat :=
  let key (p k n c : Nat) : Nat := ((p * 4 + k) * 256 + n) * 65536 + c
  (x.io.filter (fun r => r.dir == 1)).map (fun r => key r.partition r.kind r.port r.channel) ++
    x.qsmix.map (fun r => key r.partition 3 0 r.output)

/-- What R259 compares of two images: the CLOCK and BOARD records, the PARTITION records, the set of blocks, gain cells and outputs
of each partition, and the TWIN records. -/
def compatRecords (x : Structure) : List Nat :=
  let sorted (l : List Nat) : List Nat := l.mergeSort (fun a b => decide (a ≤ b))
  let c := x.clock
  let b := x.board
  [c.family, c.mult, c.xtal, c.refsel, c.pllaCtl, c.pllbFrac, c.pllbSeed, (c.tjMin + 128).toNat, (c.tjMax + 128).toNat] ++
  [b.budgetMw, b.declaredMw, b.twinMode, b.pcieEn, b.strapMask, b.strapValue, b.graftBursts, b.graftRegion, b.silThr] ++
  x.parts.length :: x.parts.flatMap (fun p => [p.id, p.graftable.toNat, p.maxSessions, p.queueM1, p.share, p.leaseQuota,
    p.windows.length] ++ p.windows.flatMap (fun w => [w.1, w.2])) ++
  x.blocks.length :: sorted (x.blocks.map (fun r => r.partition * 2 ^ 16 + r.block)) ++
  x.cells.length :: sorted (x.cells.map (fun r => r.partition * 2 ^ 16 + r.cell)) ++
  sorted (outputKeys x) ++
  x.twin.flatMap (fun r => [r.group, r.kind, r.port, r.channel, r.diverge, r.unripe])

/-- The heartbeat of frame `t` (R239): what every link frame carries, with one eighth of the image hash (log entry 129). -/
def heartbeatOf (s : State) (t : Nat) : LinkFrame :=
  { crcOk := true, roleB := s.fld Reg.TWN_STAT_role == 1, tick := BitVec.ofNat 32 t, boot := Fin.ofNat 8 s.boot,
    ripe := Fin.ofNat 8 s.ripe, owner := s.owns, fault := s.faultStart, seq := s.twin.acked + 1,
    hashPart := s.reg (Reg.ESP_IMG_HASH (t % 8)), compat := compatRecords s.str, acked := s.twin.rxSeq,
    crcs := [], asrc := [], hot := [], net := [], items := [] }

/-- A twin in LOAD whose PLEACH domain is on sends heartbeats before its tick runs, so that the images are known when it starts cold as
a pair (R234, R236): one when the link comes on, and one for each that it receives (DEDUCED, log entry 157). -/
def loadFrame (s : State) : State :=
  if s.twinMode ∧ s.boot = bootLoad ∧ s.tickOn = false ∧ s.domOn 13 then
    { s with twin := { s.twin with sent := some { frame := heartbeatOf s s.twin.loadFrames, copy := [], bulk := [] },
                                   loadFrames := s.twin.loadFrames + 1 } }
  else s

/-! ### Groups kept floated in an unripe survivor (Table 10.10) -/

/-- A bridge feeds the group: it delivers to an engine whose words reach it, or to one of its outputs. -/
def bridgeFeeds (s : State) (g : Nat) (es : List Nat) (b : BridgeRec) : Bool :=
  b.kind != 4 && (if b.dstKind = 0 then es.contains b.dstEngine
    else (s.ioRec b.dst).any (fun q => (twinGroup s q.kind q.port q.channel).any (fun t => t.group == g)))

/-- The boundary from which the source of a bridge has converged from the survivor's own inputs: an ASRC has after 64 ticks (R256). -/
def soleInput (s : State) (b : BridgeRec) : Nat := s.twin.soleAt + if asrcFed s b then 64 else 0

/-- Every line, bridge and ASRC that feeds the group has converged from the survivor's own inputs: a line that is full, a bridge 80
ticks after its source, an ASRC after 64 (R256). -/
def groupConverged (s : State) (g : Nat) : Bool :=
  let es := groupEngines s g
  s.str.lines.all (fun r => !(lineReaders s r).any (fun e => es.contains e) || decide (r.length ≤ s.lineAge r)) &&
    s.str.bridges.all (fun b => !bridgeFeeds s g es b || decide (soleInput s b + 80 ≤ s.tick)) &&
    (!s.str.io.any (fun r => r.dir == 0 && r.kind == 2 && es.contains r.engine) || decide (s.twin.soleAt + 64 ≤ s.tick))

/-- Groups that have converged are driven. -/
def releaseKept (s : State) : State :=
  if s.twin.kept = [] ∨ s.owns = false then s
  else { s with twin := { s.twin with kept := s.twin.kept.filter (fun g => !groupConverged s g) } }

end Sys2Proof.Machine
end

