-- ==== Sys2Proof/Machine/ProgCheck.lean ====
section
/-!
DEFINITION. Machine/ProgCheck.lean: what the verifier finds out about one program image: the conditions of Table 04.13 (R76,
R96, R97, R100, R101), its executed cycles (R101), the registers that carry state (R46, R81) and the cycles of its
exchange accesses (R137, R139).
-/
namespace Sys2Proof.Machine

/-- Bits `lo` to `lo + n − 1` of an instruction word. -/
def wf (w : BitVec 64) (lo n : Nat) : Nat := w.toNat / 2 ^ lo % 2 ^ n

/-- The X slot holds the control code `n` of Table 04.11. -/
def xIs (w : BitVec 64) (n : Nat) : Bool := wf w 0 7 == n

/-- LOOP, REP, END, PHASE. -/
def isLoop (w : BitVec 64) : Bool := xIs w 3
def isRep (w : BitVec 64) : Bool := xIs w 4
def isEnd (w : BitVec 64) : Bool := xIs w 5
def isPhase (w : BitVec 64) : Bool := xIs w 2

/-- The word holds a long X form (R75). -/
def longX (w : BitVec 64) : Bool := isLoop w || isRep w

/-- The word holds a long A form (R75, Table 04.7). -/
def longA (w : BitVec 64) : Bool := !longX w && wf w 45 1 == 0 && wf w 41 4 == 0 && wf w 29 6 == 0x3F

/-- The payload of a long A form (R86). -/
def payload (w : BitVec 64) : Nat := wf w 35 6 * 2 ^ 22 + wf w 7 22

/-- Body length and iterations of a LOOP word (Table 04.12); repetitions of a REP word (R97). -/
def loopLen (w : BitVec 64) : Nat := wf w 39 6 + 1
def loopCnt (w : BitVec 64) : Nat := wf w 29 10 + 1
def repCnt (w : BitVec 64) : Nat := wf w 29 15 + 1

/-! ### Reserved codes and unused bits (R76) -/

/-- The payload of a long A form is one of Table 04.8: its unused bits are 0. The range of LDA's shift is a rule of its own. -/
def longAOk (p : Nat) : Bool :=
  match p / 2 ^ 24 with
  | 0 | 1 | 2 | 3 | 4 | 5 => true
  | 6 => p / 2 ^ 14 % 16 == 0
  | 7 => p % 1024 == 0
  | 8 | 9 => p % 8192 == 0
  | _ => false

/-- The unary group (Table 04.7): sub-op and d field. -/
def unaryOk (sub d : Nat) : Bool :=
  if sub = 0 ∨ sub = 7 ∨ (0x1C ≤ sub ∧ sub ≤ 0x1F) then d == 0
  else if (0x09 ≤ sub ∧ sub ≤ 0x0F) ∨ sub = 0x3D ∨ sub = 0x3E then false
  else if sub = 0x2F then decide (d < 32)
  else true

/-- The A field of a word. -/
def aOk (w : BitVec 64) : Bool :=
  if isLoop w then true
  else if isRep w then wf w 44 2 == 0
  else if longA w then longAOk (payload w)
  else if wf w 45 1 = 1 ∨ wf w 41 4 ≠ 0 then true
  else unaryOk (wf w 29 6) (wf w 35 6)

/-- An L field: with opm 0 the others are 0 (R87). -/
def lOk (f : Nat) : Bool := decide (256 ≤ f) || f == 0

/-- The word holds no reserved code and no 1 in an unused field bit. -/
def wordOk (w : BitVec 64) : Bool :=
  (wf w 62 2 != 0 || wf w 46 16 == 0) && aOk w && (longA w || (lOk (wf w 18 11) && lOk (wf w 7 11))) &&
    (wf w 5 2 != 0 || decide (wf w 0 5 ≤ 5))

/-- A shift of LDA is at most 48 (Table 04.13). -/
def ldaOk (w : BitVec 64) : Bool := !longA w || payload w / 2 ^ 24 != 7 || decide (payload w / 2 ^ 10 % 64 ≤ 48)

/-! ### Structure and cycle counts (R96, R97, R100, R101) -/

/-- The scan of a program up to END: open bodies as (last word, iterations), innermost first; the repetitions of the next
word when REP has just issued; the cycles so far; counted M words and REQs; the cluster cycles of PHASE words. -/
structure Scan where
  ok : Bool := true
  ended : Bool := false
  stack : List (Nat × Nat) := []
  rep : Nat := 0
  cycles : Nat := 0
  mCount : Nat := 0
  reqs : Nat := 0
  phases : List Nat := []
deriving DecidableEq, Repr

/-- One word of the scan, at index `i`. -/
def scanWord (warden : Bool) (s : Scan) (i : Nat) (w : BitVec 64) : Scan :=
  if s.ended then s
  else
    let st := s.stack.filter (fun l => decide (i ≤ l.1))
    let outer := (st.map (·.2)).foldl (· * ·) 1
    let n := if s.rep = 0 then outer else s.rep
    let ctl := longX w || isEnd w || isPhase w
    let bad := (s.rep != 0 && ctl) || (st != [] && (isEnd w || isPhase w || isRep w)) || (isRep w && !warden) ||
      (isLoop w && (decide (3 ≤ st.length) || st.any (fun l => decide (l.1 ≤ i + loopLen w))))
    { ok := s.ok && !bad, ended := isEnd w, stack := if isLoop w then (i + loopLen w, loopCnt w) :: st else st,
      rep := if isRep w then repCnt w else 0, cycles := s.cycles + n,
      mCount := s.mCount + (if wf w 62 2 = 0 then 0 else n), reqs := s.reqs + (if wf w 5 2 = 3 then n else 0),
      phases := if isPhase w then s.phases ++ [256 + s.cycles] else s.phases }

/-- The scan of a whole image. -/
def scanProg (warden : Bool) (ws : List (BitVec 64)) : Scan :=
  ws.zipIdx.foldl (fun s x => scanWord warden s x.2 x.1) {}

/-- The structural conditions of Table 04.13 but those on the PHASES record. REP stands in warden images alone, in the words
after END too (R73); of the rules of chapter 04, words after END meet R76 alone (R101). -/
def progOk (warden : Bool) (ws : List (BitVec 64)) : Bool :=
  let s := scanProg warden ws
  decide (1 ≤ ws.length ∧ ws.length ≤ 24576) && ws.all wordOk && (ws.takeWhile (fun w => !isEnd w)).all ldaOk &&
    (warden || !ws.any isRep) && (ws.filter isEnd).length == 1 && s.ok && s.ended &&
    decide (s.phases.length ≤ 7)

/-! ### Carried state and exchange accesses (R46, R81, R137) -/

/-- A traced program window: registers are named by the codes of R197, the A-slot view of ACCk by 300 + k. `written` are
those whose first write is visible; K14, K15 and RRB are known as far as the words alone fix them (log entry 22). -/
structure Trace where
  cyc : Nat := 0
  rrb : Option Nat := some 0
  k14 : Option Nat := some 0
  k15 : Option Nat := some 0
  written : List Nat := []
  carried : List Nat := []
  /-- writes on their way: the cycle from which they are visible, and the register -/
  pend : List (Nat × Nat) := []
  /-- values of RRB (0), K14 (1) and K15 (2) on their way -/
  vals : List (Nat × Nat × Option Nat) := []
  pc : Nat := 0
  /-- open loops: first, last, iterations left, rotation -/
  loops : List (Nat × Nat × Nat × Bool) := []
  rep : Nat := 0
  done : Bool := false
  /-- cluster cycle of the last XW by word, and those of every XR; word 1024 where K14 is not known -/
  xw : Store Nat := []
  /-- cluster cycle of the last XW whose K15 is not known: it may write any word -/
  xwAny : Nat := 0
  xr : List (Nat × Nat) := []
deriving DecidableEq, Repr

/-- A read of register `c`. -/
def Trace.rd (t : Trace) (c : Nat) : Trace :=
  let n := if 300 ≤ c then c - 236 else c
  if t.written.contains c ∨ t.carried.contains n then t else { t with carried := n :: t.carried }

/-- A write of register `c` that is visible `d + 1` cycles on (R77). -/
def Trace.wr (t : Trace) (d c : Nat) : Trace := { t with pend := (t.cyc + d + 1, c) :: t.pend }

/-- A read of V`n` through the rotating map (R49): where RRB is not known, of every rotating register. -/
def Trace.rdV (t : Trace) (n : Nat) : Trace :=
  if n < 32 then t.rd n
  else match t.rrb with
    | some r => t.rd (32 + (n - 32 + r) % 32)
    | none => (List.range 32).foldl (fun t i => t.rd (32 + i)) t

/-- A write of V`n`; where RRB is not known, no register counts as written. -/
def Trace.wrV (t : Trace) (d n : Nat) : Trace :=
  if n < 32 then t.wr d n
  else match t.rrb with
    | some r => t.wr d (32 + (n - 32 + r) % 32)
    | none => t

/-- A value of RRB (0), K14 (1) or K15 (2) on its way. -/
def Trace.val (t : Trace) (d which : Nat) (v : Option Nat) : Trace :=
  { t with vals := t.vals ++ [(t.cyc + d + 1, which, v)] }

/-- A-slot write of an accumulator: both views, distance 1. -/
def Trace.wrAcc (t : Trace) (k : Nat) : Trace := (t.wr 1 (64 + k)).wr 1 (300 + k)

/-- The M slot of a word (R80, R81). -/
def traceM (t : Trace) (w : BitVec 64) : Trace :=
  let op := wf w 62 2
  if op = 0 then t
  else
    let dst := wf w 46 3
    let lanes := if dst = 0 then [0, 1, 2, 3] else if dst = 1 then [0, 1] else if dst = 2 then [2, 3]
      else if dst = 3 then [0] else [0, 1, 2, 3]
    let accs := if dst < 4 then lanes else [dst - 4]
    let t := lanes.foldl (fun t i => t.rdV (4 * wf w 49 4 + i)) (t.rdV (wf w 53 6))
    let t := if op = 1 then t else accs.foldl (fun t k => t.rd (64 + k)) t
    accs.foldl (fun t k => (t.wr 0 (64 + k)).wr 4 (300 + k)) t

/-- A long A form (Table 04.8). -/
def traceLong (t : Trace) (p : Nat) : Trace :=
  let n := p / 2 ^ 20 % 16
  let imm := p % 2 ^ 20
  let sx := if imm < 2 ^ 19 then imm else imm + 2 ^ 24 - 2 ^ 20
  let mn := p / 2 ^ 19 % 16
  let vd := p / 2 ^ 18 % 64
  match p / 2 ^ 24 with
  | 0 => let t := t.wr 2 (68 + n); if n = 14 then t.val 2 1 (some imm) else if n = 15 then t.val 2 2 (some imm) else t
  | 1 => t.wr 2 (84 + n)
  | 2 =>
    let t := (t.rd (68 + n)).wr 2 (68 + n)
    if n = 14 then t.val 2 1 (t.k14.map (fun k => (k + sx) % 2 ^ 24))
    else if n = 15 then t.val 2 2 (t.k15.map (fun k => (k + sx) % 2 ^ 24)) else t
  | 3 => (t.rd (84 + n)).wr 2 (84 + n)
  | 4 | 5 => t.wrV 1 vd
  | 6 => (t.rdV vd).wrV 1 vd
  | 7 => (t.rdV (p / 2 ^ 16 % 64)).wrAcc (p / 2 ^ 22 % 4)
  | 8 =>
    let t := t.rdV (p / 2 ^ 13 % 64)
    if p / 2 ^ 23 % 2 = 1 then t.wr 2 (84 + mn)
    else
      let t := t.wr 2 (68 + mn)
      if mn = 14 then t.val 2 1 none else if mn = 15 then t.val 2 2 none else t
  | _ => ((t.rd ((if p / 2 ^ 23 % 2 = 1 then 84 else 68) + mn)).wrV 1 (p / 2 ^ 13 % 64))

/-- The unary group (Table 04.7). A part write of an accumulator counts as a write of it and not as a read: R46 settles
partial writes for FLG alone (DESIGN CHOICE, log entry 122). -/
def traceUnary (t : Trace) (sub d : Nat) : Trace :=
  if sub = 0 then t
  else if sub ≤ 5 then (t.rdV d).wrV 1 d
  else if sub = 6 then ((t.rdV d).rd 100).wr 1 100
  else if sub = 7 then t.wr 1 100
  else if sub = 8 then (t.rd 100).wrV 1 d
  else if sub ≤ 0x17 then ((t.rdV d).rd 100).wrV 1 d
  else if sub ≤ 0x1B then (t.rd (300 + sub % 4)).wrV 1 d
  else if sub ≤ 0x1F then t.wrAcc (sub % 4)
  else if sub ≤ 0x2B then (t.rd (300 + sub % 4)).wrV 1 d
  else if sub = 0x2C then (t.rd 101).wrV 1 d
  else if sub = 0x2D then if d = 63 then t.wr 1 101 else t
  else if sub = 0x2E then t.wrV 1 d
  else if sub = 0x2F then t.val 1 0 (some d)
  else if sub ≤ 0x3B then (t.rdV d).wrAcc (sub % 4)
  else if sub = 0x3C then (t.rdV d).val 1 0 none
  else t

/-- The A slot of a word (Tables 04.5 to 04.7). -/
def traceA (t : Trace) (w : BitVec 64) : Trace :=
  let opc := wf w 41 4
  let vd := wf w 35 6
  if longX w then t
  else if wf w 45 1 = 1 then
    let t := (t.rd (300 + wf w 43 2)).wrV 1 (wf w 37 6)
    if wf w 29 1 = 1 then (t.rd 100).wr 1 100 else t
  else if opc = 0 then if longA w then traceLong t (payload w) else traceUnary t (wf w 29 6) vd
  else if opc = 5 then (t.rdV (wf w 29 6)).wrV 1 vd
  else if 14 ≤ opc then (t.rdV vd).wrV 1 vd
  else
    let t := (t.rdV vd).rdV (wf w 29 6)
    (if opc = 11 then t.rdV 0 else t).wrV 1 vd

/-- An L slot with field `f` whose registers begin at `base` (0 for L0, 4 for L1; Tables 04.9 and 04.10). -/
def traceL (t : Trace) (f base : Nat) : Trace :=
  let opm := f / 256
  let vt := f / 4 % 64
  let ka := base + f % 4
  let mc := 8 + base + f % 4
  if opm = 0 then t
  else
    let t := t.rd (68 + ka)
    let t := if opm = 1 ∨ opm = 5 then t else t.rd (84 + ka)
    let t := if opm = 3 ∨ opm = 7 then t.rd (84 + mc) else t
    let t := if opm ≤ 4 then t.wrV 3 vt else t.rdV vt
    if opm = 2 ∨ opm = 3 ∨ opm = 6 ∨ opm = 7 then t.wr 0 (68 + ka) else t

/-- The X slot of a word (Table 04.11). A REQ counts as a write of its register from the next cycle on: until its result
arrives, the register holds the word that the REQ has read (R46). -/
def traceX (t : Trace) (w : BitVec 64) : Trace :=
  let n := 32 + wf w 0 5
  match wf w 5 2 with
  | 1 =>
    let t := { t with xr := ((t.k14.map (fun k => k % 1024)).getD 1024, 256 + t.cyc) :: t.xr }
    ((((t.rd 82).wr 0 82).val 0 1 (t.k14.map (fun k => (k + 1) % 2 ^ 24)))).wrV 3 n
  | 2 =>
    let t := match t.k15 with
      | some k => { t with xw := storeIns (k % 1024) (256 + t.cyc) t.xw }
      | none => { t with xwAny := 256 + t.cyc }
    ((((t.rdV n).rd 83).wr 0 83).val 0 2 (t.k15.map (fun k => (k + 1) % 2 ^ 24)))
  | 3 => (t.rdV n).wrV 0 n
  | _ => t

/-- RRB falls by one (R49). -/
def Trace.rot (t : Trace) : Trace := { t with rrb := t.rrb.map (fun r => (r + 31) % 32) }

/-- Where the word after this one is (R94, R97, R101). -/
def traceSeq (t : Trace) (w : BitVec 64) : Trace :=
  let t := if xIs w 1 then t.rot else t
  if 1 < t.rep then { t with rep := t.rep - 1 }
  else
    let t := { t with rep := 0 }
    if isEnd w then { t with done := true }
    else if isLoop w then
      { t with loops := (t.pc + 1, t.pc + loopLen w, loopCnt w, wf w 45 1 == 1) :: t.loops, pc := t.pc + 1 }
    else if isRep w then { t with rep := repCnt w, pc := t.pc + 1 }
    else match t.loops with
      | (f, l, c, r) :: rest =>
        if t.pc = l then
          let t := if r then t.rot else t
          if c = 1 then { t with loops := rest, pc := t.pc + 1 }
          else { t with loops := (f, l, c - 1, r) :: rest, pc := f }
        else { t with pc := t.pc + 1 }
      | [] => { t with pc := t.pc + 1 }

/-- A value comes in. -/
def Trace.take (t : Trace) (v : Nat × Nat × Option Nat) : Trace :=
  if v.2.1 = 0 then { t with rrb := v.2.2 } else if v.2.1 = 1 then { t with k14 := v.2.2 } else { t with k15 := v.2.2 }

/-- The start of a cycle: writes become visible; a long A form wins over an increment, and RRBSET over a rotation (R79). -/
def traceTick (t : Trace) : Trace :=
  let c := t.cyc + 1
  let due := t.vals.filter (fun v => decide (v.1 ≤ c))
  let t := { t with cyc := c, written := ((t.pend.filter (fun p => decide (p.1 ≤ c))).map (·.2)).foldl
                      (fun ws x => if ws.contains x then ws else x :: ws) t.written,
                    pend := t.pend.filter (fun p => decide (c < p.1)), vals := t.vals.filter (fun v => decide (c < v.1)) }
  -- increments were put on their way one cycle ago, long forms earlier: the earlier ones come in last
  due.reverse.foldl Trace.take t

/-- One cycle. -/
def traceStep (ws : Array (BitVec 64)) (t : Trace) : Trace :=
  if t.done then t
  else
    let w := ws.getD t.pc 0
    let u := traceA (traceM t w) w
    let u := if longA w then u else traceL (traceL u (wf w 18 11) 0) (wf w 7 11) 4
    traceTick (traceSeq (traceX u w) w)

/-- `n` cycles. -/
def traceRun (ws : Array (BitVec 64)) : Nat → Trace → Trace
  | 0, t => t
  | n + 1, t => if t.done then t else traceRun ws n (traceStep ws t)

/-- K14 and K15 as far as they name a window word. -/
def Trace.keys (t : Trace) : Option Nat × Option Nat := (t.k14.map (fun k => k % 1024), t.k15.map (fun k => k % 1024))

/-- What two program windows have in common: the words that both write, each with the later last write, and all reads. -/
def Trace.meet (t u : Trace) : Trace :=
  { t with xw := t.xw.filterMap (fun w => (storeFind u.xw w.1).map (fun c => (w.1, max w.2 c))),
           xwAny := max t.xwAny u.xwAny, xr := t.xr ++ u.xr }

/-- The program windows of an engine from its start on: K14 and K15 are kept from window to window (Table 03.1), so windows
are traced until one begins as an earlier one did (`seen`), and what holds in every tick is kept (R137). -/
def windowsFrom (ws : Array (BitVec 64)) (cycles : Nat) : Nat → List (Option Nat × Option Nat) → Trace → Trace → Trace
  | 0, _, _, acc => acc
  | n + 1, seen, last, acc =>
    let drained := (List.range 4).foldl (fun t _ => traceTick t) last
    if seen.contains drained.keys then acc
    else
      let u := traceRun ws cycles { k14 := drained.k14, k15 := drained.k15 }
      windowsFrom ws cycles n (drained.keys :: seen) u (acc.meet u)

/-- What the verifier knows of one program. -/
structure Facts where
  engine : Nat
  scan : Scan
  trace : Trace
deriving DecidableEq, Repr

/-- The facts of a program that has passed `progOk`, for device engine `e`. -/
def progFacts (e : Nat) (ws : List (BitVec 64)) : Facts :=
  let s := scanProg (e % 16 == 15) ws
  let t := traceRun ws.toArray s.cycles {}
  { engine := e, scan := s, trace := windowsFrom ws.toArray s.cycles 2048 [(some 0, some 0)] t t }

/-- The registers that a carried-state declaration names (R197). -/
def declared (cs : List Word) : List Nat :=
  (cs.filter (fun c => bitsOf c 30 2 == 0)).map (fun c => bitsOf c 0 8)

/-- A carried-state entry is one of the two forms of R197. -/
def carriedOk (c : Word) : Bool :=
  bitsOf c 30 2 == 1 || (bitsOf c 30 2 == 0 && bitsOf c 8 22 == 0 && decide (bitsOf c 0 8 ≤ 101))

end Sys2Proof.Machine
end

