-- ==== Sys2Proof/Machine/Verify.lean ====
section
/-!
DEFINITION. Machine/Verify.lean: the composite structure of a graft (R208, R401) and steps 13 to 28 of the verifier (Table
08.15). Within a step, sections are taken in section-table order and records in record order; the order of the checks
of one record is the model's (log entry 23).
-/
namespace Sys2Proof.Machine

/-- What steps 13 to 28 work on: the image, its table, whether it is a graft and of which partition, the partition that the
request names, the structure under check, the running one, and what the device is. -/
structure Cx where
  part : Nat
  img : Img
  tbl : List Sect
  graft : Bool
  gp : Nat
  asked : Nat
  str : Structure
  run : Structure
  dram32 : Bool
  /-- banks that are CLEARING (R129) -/
  clearing : List Nat

/-! ### The composite structure -/

/-- The image brings a section of a type and instance. -/
def brings (t : List Sect) (ty inst : Nat) : Bool := t.any (fun s => s.ty == ty && s.inst == inst)

/-- The partition of an engine in a structure. -/
def engPart (r : Structure) (e : Nat) : Option Nat := (r.progs.find? (fun p => p.engine == e)).map (·.partition)

/-- The same four names. -/
def sameIo (a b : IoRec) : Bool := a.dir == b.dir && a.kind == b.kind && a.port == b.port && a.channel == b.channel

/-- A graft's IOROUTE records with their numbers in the composite (R401), and the next free number. -/
def numberIo (mine : List IoRec) : List IoRec → Nat → List IoRec × Nat
  | [], n => ([], n)
  | r :: rs, n =>
    match mine.find? (fun q => sameIo q r) with
    | some q => let x := numberIo mine rs n; ({ r with num := q.num } :: x.1, x.2)
    | none => let x := numberIo mine rs (n + 1); ({ r with num := n } :: x.1, x.2)

/-- The IOROUTE records of the composite, and those of the graft in the order of its section. -/
def compositeIo (run new : Structure) (t : List Sect) (gp : Nat) : List IoRec × List IoRec × Nat :=
  if brings t 0x40 0 then
    let x := numberIo (run.io.filter (fun r => r.partition == gp)) new.io run.ioNext
    ((run.io.filter (fun r => r.partition != gp)) ++ x.1, x.1, x.2)
  else (run.io, [], run.ioNext)

/-- The partition of the line that a DAUSCHED item names. -/
def itemPart (r : Structure) (c item : Nat) : Option Nat :=
  (r.lines.find? (fun l => l.cluster == c && l.line == item / 2 ^ 17 % 1024)).map (·.partition)

/-- The schedule of cluster `c`: the graft's items take the place of those of its partition (R208). -/
def compositeDau (run new : Structure) (t : List Sect) (gp c : Nat) : List DauRec :=
  let old := run.dau.filter (fun d => d.cluster == c)
  if brings t 0x25 c then
    (new.dau.filter (fun d => d.cluster == c)).map (fun d =>
      { d with items := ((old.filter (fun o => o.k == d.k)).flatMap (·.items)).filter (fun i => itemPart run c i != some gp)
                          ++ d.items })
  else old

/-- The structure that results from a graft (R208). -/
def composite (run new : Structure) (t : List Sect) (gp : Nat) : Structure :=
  let io := compositeIo run new t gp
  let num (n : Nat) : Nat := (io.2.1[n]?.map (·.num)).getD 65536
  { run with
    progs := run.progs.map (fun p => (new.progs.find? (fun q => q.engine == p.engine)).getD p) ++
      new.progs.filter (fun q => !run.progs.any (fun p => p.engine == q.engine)),
    lines := run.lines.filter (fun l => !(brings t 0x22 l.cluster && l.partition == gp)) ++ new.lines,
    dau := (List.range 8).flatMap (compositeDau run new t gp),
    exch := if brings t 0x30 0 then run.exch.filter (fun r => engPart run r.srcEngine != some gp) ++ new.exch else run.exch,
    io := io.1, ioNext := io.2.2,
    bridges := if brings t 0x42 0 then run.bridges.filter (fun r => r.partition != gp) ++ new.bridges.map (fun b =>
        { b with src := if b.srcKind = 1 then num b.src else b.src, dst := if b.dstKind = 1 then num b.dst else b.dst })
      else run.bridges,
    blocks := if brings t 0x50 0 then run.blocks.filter (fun r => r.partition != gp) ++ new.blocks else run.blocks,
    cells := if brings t 0x51 0 then run.cells.filter (fun r => r.partition != gp) ++ new.cells else run.cells }

/-- The location of every record of a structure that runs (R204). -/
def runLoc : Loc := ⟨0x3FF, 0⟩

/-- A structure whose image is no longer under check. -/
def settled (r : Structure) : Structure :=
  { r with
    board := { r.board with loc := runLoc }, clock := { r.clock with loc := runLoc },
    parts := r.parts.map (fun x => { x with loc := runLoc }), progs := r.progs.map (fun x => { x with loc := runLoc }),
    banks := r.banks.map (fun x => { x with loc := runLoc }), drams := r.drams.map (fun x => { x with loc := runLoc }),
    lines := r.lines.map (fun x => { x with loc := runLoc }), xfers := r.xfers.map (fun x => { x with loc := runLoc }),
    dau := r.dau.map (fun x => { x with loc := runLoc }), wins := r.wins.map (fun x => { x with loc := runLoc }),
    exch := r.exch.map (fun x => { x with loc := runLoc }), io := r.io.map (fun x => { x with loc := runLoc }),
    ports := r.ports.map (fun x => { x with loc := runLoc }), bridges := r.bridges.map (fun x => { x with loc := runLoc }),
    qsmix := r.qsmix.map (fun x => { x with loc := runLoc }), blocks := r.blocks.map (fun x => { x with loc := runLoc }),
    cells := r.cells.map (fun x => { x with loc := runLoc }), thorn := r.thorn.map (fun x => { x with loc := runLoc }),
    twin := r.twin.map (fun x => { x with loc := runLoc }) }

/-! ### Helpers -/

/-- The error of a record. -/
def Cx.err (x : Cx) (step code : Nat) (l : Loc) : VErr := .ofLoc step code x.part l

/-- The error of no record. -/
def Cx.none' (x : Cx) (step code : Nat) : VErr := ⟨step, code, x.part, 0x3FF, 0xFFFFFFFF⟩

/-- Where a record's bytes begin, if it lies in the image under check. -/
def Cx.off (x : Cx) (l : Loc) : Option Nat :=
  if l.sec = 0x3FF then none else (x.tbl[l.sec]?).map (fun s => (recOffs x.img s).getD l.idx 0)

/-- The reserved bytes of a record are 0 (R188). -/
def Cx.rsv (x : Cx) (l : Loc) (rs : List (Nat × Nat)) : Bool :=
  match x.off l with
  | some o => zeros x.img o rs
  | none => true

/-- Byte `i` of a record; 0 of one that is not in the image. -/
def Cx.byte (x : Cx) (l : Loc) (i : Nat) : Nat := ((x.off l).map (fun o => u8 x.img (o + i))).getD 0

/-- Runs a check over a list, each element with those before it. -/
def forEach {α : Type} (f : List α → α → Vfy Unit) : List α → List α → Vfy Unit
  | _, [] => .ok ()
  | b, a :: r => do
    f b a
    forEach f (a :: b) r

/-- The PARTITION section declares `p`. -/
def Cx.declares (x : Cx) (p : Nat) : Bool := x.str.parts.any (fun r => r.id == p)

/-- Cycles of a tick, of its program window, and IOCLK periods of a tick (Table 02.5, Table 06.2). -/
def Cx.tickLen (x : Cx) : Nat := 24576 / 2 ^ x.str.clock.mult
def Cx.window (x : Cx) : Nat := x.tickLen - 384
def Cx.ioTick (x : Cx) : Nat := 4096 / 2 ^ x.str.clock.mult

/-- Two lists hold the same elements. -/
def sameSet {α : Type} [BEq α] (a b : List α) : Bool := a.all (fun x => b.contains x) && b.all (fun x => a.contains x)

/-! ### Step 13: required sections and record counts (R195, R208) -/

/-- A section holds as many records as R195 allows. -/
def countOk (s : Sect) : Bool :=
  if s.ty = 0x01 ∨ s.ty = 0x02 ∨ s.ty = 0x31 ∨ s.ty = 0x10 then s.count == 1
  else if s.ty = 0x25 then s.count == 128
  else if s.ty = 0x21 then decide (s.count ≤ 1024) else true

/-- The outputs of a structure, by (kind, port, channel). -/
def outputsOf (r : Structure) : List (Nat × Nat × Nat) :=
  (r.io.filter (fun q => q.dir == 1)).map (fun q => (q.kind, q.port, q.channel)) ++
    r.qsmix.map (fun q => (3, 0, q.output))

/-- Clusters with a tier-2 line. -/
def tier2Clusters (r : Structure) : List Nat := ((r.lines.filter (fun l => l.tier == 2)).map (·.cluster)).eraseDups

/-- Step 13 for a full image. -/
def step13Full (x : Cx) : Vfy Unit := do
  x.tbl.forM (fun s => need (countOk s) ⟨13, eStruct, x.part, s.idx, 0xFFFFFFFF⟩)
  let e := x.none' 13 eStruct
  need (brings x.tbl 1 0 && brings x.tbl 2 0 && brings x.tbl 3 0) e
  need ((tier2Clusters x.str).all (fun c => brings x.tbl 0x25 c)) e
  need (outputsOf x.str == [] || brings x.tbl 0x60 0) e
  need (x.str.board.twinMode != 1 || brings x.tbl 0x61 0) e

/-- The records of a graft's section that are not of its partition: their indices. -/
def strangers (x : Cx) (s : Sect) : List Nat :=
  let new := readImage x.img x.tbl
  let pick (l : List (Loc × Bool)) : List Nat :=
    (l.filter (fun r => r.1.sec == s.idx && !r.2)).map (fun r => r.1.idx)
  match s.ty with
  | 0x10 => pick (new.progs.map (fun r => (r.loc, r.partition == x.gp)))
  | 0x22 => pick (new.lines.map (fun r => (r.loc, r.partition == x.gp)))
  | 0x23 => (List.range s.count).filter (fun i => !(fixedRecs x.tbl 0x22).any (fun r =>
      r.2.1 == s.inst && decide (u16 x.img (r.1 + 20) ≤ i ∧ i < u16 x.img (r.1 + 20) + u8 x.img (r.1 + 22))))
  | 0x25 => pick (new.dau.map (fun r => (r.loc, r.items.all (fun i => itemPart x.str s.inst i == some x.gp))))
  | 0x30 => pick (new.exch.map (fun r => (r.loc, engPart x.run r.srcEngine == some x.gp)))
  | 0x40 => pick (new.io.map (fun r => (r.loc, r.partition == x.gp)))
  | 0x42 => pick (new.bridges.map (fun r => (r.loc, r.partition == x.gp)))
  | 0x50 => pick (new.blocks.map (fun r => (r.loc, r.partition == x.gp)))
  | _ => pick (new.cells.map (fun r => (r.loc, r.partition == x.gp)))

/-- The records of a graft's section by which its partition would gain an engine, a block or a gain cell (R208): their indices. -/
def newcomers (x : Cx) (s : Sect) : List Nat :=
  let new := readImage x.img x.tbl
  let pick (l : List (Loc × Bool)) : List Nat := (l.filter (fun r => r.1.sec == s.idx && r.2)).map (fun r => r.1.idx)
  match s.ty with
  | 0x10 => pick (new.progs.map (fun r => (r.loc, r.partition == x.gp && engPart x.run r.engine != some x.gp)))
  | 0x50 => pick (new.blocks.map (fun r => (r.loc, r.partition == x.gp &&
      !x.run.blocks.any (fun q => q.partition == x.gp && q.block == r.block))))
  | 0x51 => pick (new.cells.map (fun r => (r.loc, r.partition == x.gp &&
      !x.run.cells.any (fun q => q.partition == x.gp && q.cell == r.cell))))
  | _ => []

/-- The first record of a graft's section that step 13 refuses, with its error (R204, R208). -/
def graftRefusal (x : Cx) (s : Sect) : Option (Nat × Nat) :=
  (((strangers x s).map (fun i => (i, eOwner)) ++ (newcomers x s).map (fun i => (i, eStruct))).mergeSort
    (fun a b => decide (a.1 ≤ b.1))).head?

/-- Step 13 for a graft, section by section in section-table order (R204), then for the graft as a whole. -/
def step13Graft (x : Cx) : Vfy Unit := do
  x.tbl.forM (fun s => do
    need (((sectKind s.ty).map (·.graft)).getD false && countOk s) ⟨13, eStruct, x.part, s.idx, 0xFFFFFFFF⟩
    need (s.ty != 0x22 || s.count == 0 || brings x.tbl 0x23 s.inst) ⟨13, eStruct, x.part, s.idx, 0xFFFFFFFF⟩
    match graftRefusal x s with
    | none => pure ()
    | some r => .error ⟨13, r.2, x.part, s.idx, r.1⟩)
  need (x.gp == x.asked) (x.none' 13 eOwner)
  need (x.run.parts.any (fun p => p.id == x.gp && p.graftable)) (x.none' 13 eOwner)
  need (x.run.board.graftBursts != 0) (x.none' 13 eStruct)
  let own (l : List (Nat × Nat)) : List Nat := (l.filter (fun r => r.1 == x.gp)).map (·.2)
  let blocks (r : Structure) := own (r.blocks.map (fun b => (b.partition, b.block)))
  let cells (r : Structure) := own (r.cells.map (fun b => (b.partition, b.cell)))
  need (sameSet (blocks x.run) (blocks x.str) && sameSet (cells x.run) (cells x.str)) (x.none' 13 eStruct)

/-! ### Steps 14 and 15: BOARD, CLOCK, PARTITION -/

/-- The root of Table 02.1 in Hz. -/
def rootHz (family : Nat) : Nat := if family = 0 then 4718592000 else 4335206400

/-- The ratio gives the root to within 0.001 ppm, and int_n lies in 160 to 223 (R30). -/
def clockPlanOk (c : ClockRec) : Bool :=
  let x := if c.xtal = 0 then 24576000 else 22579200
  let a := c.pllbFrac * x
  let b := rootHz c.family * 2 ^ 24
  decide (160 ≤ c.pllbFrac / 2 ^ 24 ∧ c.pllbFrac / 2 ^ 24 ≤ 223) && decide ((max a b - min a b) * 10 ^ 9 ≤ b)

/-- The fields of the initial CLK_REFSEL and CLK_PLLA_CTL lie in their ranges. -/
def clockRegsOk (c : ClockRec) : Bool :=
  let r := BitVec.ofNat 32 c.refsel
  let p := BitVec.ofNat 32 c.pllaCtl
  r &&& 0xFFFCC888 == 0 && decide (bitsOf r 0 3 ≤ 5 ∧ bitsOf r 8 3 ≤ 5 ∧ bitsOf r 16 2 ≤ 2) &&
    p &&& 0xFFFFFC88 == 0 && decide (bitsOf p 0 3 ≤ 6 ∧ bitsOf p 4 3 ≤ 4)

/-- Step 14. -/
def step14 (x : Cx) : Vfy Unit :=
  let b := x.str.board
  let c := x.str.clock
  let e := x.err 14 eStruct
  do
    need (x.rsv b.loc [(0x13, 13)] && decide (x.byte b.loc 9 < 2)) (e b.loc)
    need (decide (1000 ≤ b.budgetMw ∧ b.budgetMw ≤ 28000 ∧ b.twinMode < 2 ∧ b.silThr < 4)) (e b.loc)
    need (x.rsv c.loc [(3, 1), (0x16, 10)]) (e c.loc)
    need (decide (c.family < 2 ∧ c.mult < 3 ∧ c.xtal < 2) && clockRegsOk c && clockPlanOk c) (e c.loc)

/-- Step 15. -/
def step15 (x : Cx) : Vfy Unit := do
  forEach (fun b r => do
    let all := r :: b
    need (decide (x.byte r.loc 1 < 2) && !b.any (fun q => q.id == r.id)) (x.err 15 eStruct r.loc)
    need (decide (r.maxSessions ≤ 64 ∧ 1 ≤ r.share ∧ r.share ≤ 512 ∧ r.leaseQuota ≤ 1024)) (x.err 15 eStruct r.loc)
    need (decide ((all.map (·.maxSessions)).sum ≤ 4096 ∧ (all.map (·.leaseQuota)).sum ≤ 16384 ∧
      (all.map (fun q => 256 * (q.queueM1 + 1))).sum ≤ 516096)) (x.err 15 eStruct r.loc)) [] x.str.parts
  need (x.declares 0) (x.none' 15 eStruct)

/-! ### Step 16: programs -/

/-- The engines that send or receive a phase hop (R100). -/
def hopEngines (r : Structure) : List Nat :=
  ((r.exch.filter (fun q => q.kind == 2)).flatMap (fun q => [q.srcEngine, q.dstEngine])).eraseDups

/-- The phase-boundary cycles of a cluster (R200). -/
def phasesOf (r : Structure) (c : Nat) : List Nat := ((r.phases.find? (fun p => p.1 == c)).map (·.2)).getD []

/-- One PROGRAM section. Answers what it found. -/
def checkProg (x : Cx) (r : ProgRec) : Vfy Facts :=
  let e := x.err 16
  let f := progFacts r.engine r.words
  let hops := r.handles.length
  let o := 16 + 8 * r.words.length + 4 * r.carried.length
  do
    need (x.rsv r.loc ([(0x0F, 1)] ++ (List.range hops).map (fun i => (o + 4 * i + 3, 1))) && decide (x.byte r.loc 1 < 2))
      (e eStruct r.loc)
    need (decide (hops ≤ 128) && x.declares r.partition) (e eStruct r.loc)
    need (r.engine % 16 != 15 || r.partition == 0) (e eOwner r.loc)
    need (progOk (r.engine % 16 == 15) r.words) (e eStruct r.loc)
    need (!(hopEngines x.str).contains r.engine || f.scan.phases == phasesOf x.str (r.engine / 16)) (e eStruct r.loc)
    need (r.carried.all carriedOk && f.trace.carried.all (fun c => (declared r.carried).contains c)) (e eStruct r.loc)
    need (r.execCycles == f.scan.cycles && r.mCount == f.scan.mCount) (e eStruct r.loc)
    return f

/-- Step 16. Answers the facts of every program. -/
def step16 (x : Cx) : Vfy (List Facts) := do
  let fs ← x.str.progs.mapM (checkProg x)
  (List.range 8).forM (fun c => need (x.str.progs.any (fun p => p.engine == 16 * c + 15))
    ⟨16, eOwner, x.part, 0x3FF, 16 * c + 15⟩)
  return fs

/-! ### Steps 17 and 18: memory -/

/-- Words of the fitted DRAM (R2). -/
def Cx.dramWords (x : Cx) : Nat := if x.dram32 then 2 ^ 33 else 2 ^ 32

/-- The owner of a tier-1 bank: what the last handover left it (R129), or the memory map's. -/
def bankOwner (r : Structure) (b : Nat) : Option Nat :=
  match r.handed.find? (fun h => h.1 == b) with
  | some h => if h.2 < 0x100 then some h.2 else none
  | none => (r.banks.find? (fun q => q.bank == b && q.state == 0)).map (·.owner)

/-- Two windows name a common byte. -/
def winOverlap (a b : WinRec) : Bool :=
  a.space == b.space && decide (a.base < b.base + b.length ∧ b.base < a.base + a.length)

/-- One BANKMAP record. -/
def checkBank (x : Cx) (b : List BankRec) (r : BankRec) : Vfy Unit := do
  need (x.rsv r.loc [(5, 1)] && decide (r.bank < 384 ∧ (r.state = 0 ∨ r.state = 2) ∧ r.periodLog2 ≤ 4))
    (x.err 17 eStruct r.loc)
  need (r.state == 2 || x.declares r.owner) (x.err 17 eStruct r.loc)
  need ((List.range 16).all (fun e => r.readers / 2 ^ e % 2 == 0 || decide (r.slots / 16 ^ e % 16 < 2 ^ r.periodLog2)))
    (x.err 17 eStruct r.loc)
  need (!b.any (fun q => q.bank == r.bank)) (x.err 17 eOverlap r.loc)

/-- One DRAMREG record; `i` is its index. -/
def checkDram (x : Cx) (b : List DramRec) (r : DramRec) : Vfy Unit := do
  need (x.rsv r.loc [(2, 2), (12, 4)] && decide (x.byte r.loc 1 < 2) && x.declares r.partition) (x.err 17 eStruct r.loc)
  need (decide (1 ≤ r.length ∧ (r.base + r.length) * 128 ≤ x.dramWords)) (x.err 17 eStruct r.loc)
  need (!b.any (fun q => decide (q.base < r.base + r.length ∧ r.base < q.base + q.length))) (x.err 17 eOverlap r.loc)

/-- One DMAWIN record (R333, R334). -/
def checkWin (x : Cx) (b : List WinRec) (r : WinRec) : Vfy Unit := do
  need (decide (r.channel < 32 ∧ r.space ≤ 2 ∧ r.access / 4 % 4 = 0) && x.declares r.partition) (x.err 17 eStruct r.loc)
  need (decide (0 < r.length ∧ r.length % 32 = 0 ∧ r.base % 32 = 0)) (x.err 17 eStruct r.loc)
  need (decide (r.space ≠ 0 ∨ r.base + r.length ≤ 2 ^ 64) && decide (r.space ≠ 2 ∨ r.base + r.length ≤ 4 * x.dramWords) &&
    decide (r.space ≠ 1 ∨ (r.base < 0x6000000 ∧ r.base % 0x40000 + r.length ≤ 0x40000))) (x.err 17 eStruct r.loc)
  need (decide (r.space ≠ 1) || bankOwner x.str (r.base / 0x40000) == some r.partition) (x.err 17 eOwner r.loc)
  need (!b.any (fun q => q.channel == r.channel && q.partition != r.partition)) (x.err 17 eOwner r.loc)
  need (!b.any (fun q => winOverlap q r && (q.partition != r.partition || (q.channel == r.channel &&
    q.access / 16 == r.access / 16)))) (x.err 17 eOverlap r.loc)

/-- Step 17. BOARD.graft_region and the graft-buffer flags agree (R198). -/
def step17 (x : Cx) : Vfy Unit := do
  let g := x.str.board.graftRegion
  need ((g == 0xFFFF || decide (g < x.str.drams.length)) && x.str.drams.zipIdx.all (fun d => d.1.graftBuf == (d.2 == g)))
    (x.err 17 eStruct x.str.board.loc)
  forEach (checkBank x) [] x.str.banks
  forEach (checkDram x) [] x.str.drams
  x.str.lines.forM (fun l => need (!(x.graft && l.loc.sec != 0x3FF && l.tier == 1 &&
    x.clearing.contains (48 * l.cluster + lineBank l))) (x.err 17 eOwner l.loc))
  x.str.xfers.forM (fun r => need (x.rsv r.loc [(6, 2)] && decide (r.bank < 384 ∧ r.fromP ≤ 0x100) &&
    (r.fromP == 0x100 || x.declares r.fromP) && x.declares r.toP) (x.err 17 eStruct r.loc))
  forEach (checkWin x) [] x.str.wins

/-- Step 18: no two engines share a reader slot of a bank (R116). -/
def step18 (x : Cx) : Vfy Unit :=
  x.str.banks.forM (fun r =>
    let es := (List.range 16).filter (fun e => r.readers / 2 ^ e % 2 == 1)
    need (es.all (fun e => es.all (fun f => e == f || r.slots / 16 ^ e % 16 != r.slots / 16 ^ f % 16)))
      (x.err 18 eOverlap r.loc))

/-! ### Step 19: lines -/

/-- The facts of an engine. -/
def factsOf (fs : List Facts) (e : Nat) : Option Facts := fs.find? (fun f => f.engine == e)

/-- The cluster cycle of the last XW that may write an out-window word, if some XW is known to write it. -/
def lastWrite (fs : List Facts) (e w : Nat) : Option Nat :=
  (factsOf fs e).bind (fun f => (storeFind f.trace.xw w).map (fun c => max c f.trace.xwAny))

/-- Every word of a run is written in every tick (R137). -/
def written (fs : List Facts) (e w n : Nat) : Bool := (List.range n).all (fun i => (lastWrite fs e (w + i)).isSome)

/-- Smallest and largest displacement of the points that a tap can touch (R108). -/
def tapLow (t : TapRec) : Int := (t.disp : Int) - t.halfW - (if t.mode = 2 then 1 else 0)
def tapHigh (t : TapRec) : Int := (t.disp : Int) + t.halfW + t.mode

/-- A tap has a displacement and a mode, and mode none neither fraction nor modulation (R104, R108). -/
def tapForm (t : TapRec) : Bool :=
  decide (1 ≤ t.disp ∧ t.mode ≤ 2) && (t.mode != 0 || (t.frac == 0 && t.halfW == 0))

/-- A tap of a line of the tier and length is legal (R104, R108). -/
def tapOk (r : LineRec) (t : TapRec) : Bool :=
  tapForm t && decide (t.halfW ≤ (if r.tier = 1 then 127 else 64) ∧ (if r.tier = 1 then 1 else 2) ≤ tapLow t ∧
      tapHigh t ≤ (r.length : Int) - 1)

/-- Staging bursts of a tap (Table 05.6). -/
def tapCost (t : TapRec) : Nat := (((tapHigh t - tapLow t + 1).toNat + 7 + 7) / 8) + 1

/-- The line that a handle of an engine names. -/
def handleLine (r : Structure) (e : Nat) (h : Nat × Nat) : Option LineRec :=
  r.lines.find? (fun l => l.cluster == e / 16 && l.line == h.1)

/-- The distinct tier-2 taps of an engine's handles: cluster line, tap number and tap. -/
def tier2Taps (r : Structure) (p : ProgRec) : List (LineRec × Nat × TapRec) :=
  (p.handles.eraseDups).filterMap (fun h => (handleLine r p.engine h).bind (fun l =>
    if l.tier = 2 then (l.taps[h.2]?).map (fun t => (l, h.2, t)) else none))

/-- The handles and the tap staging of a program. -/
def checkHandles (x : Cx) (p : ProgRec) : Vfy Unit := do
  p.handles.forM (fun h =>
    match handleLine x.str p.engine h with
    | none => .error (x.err 19 eStruct p.loc)
    | some l => do
      need (decide (h.2 < l.taps.length)) (x.err 19 eStruct p.loc)
      need (l.partition == p.partition) (x.err 19 eOwner p.loc))
  need (decide (((tier2Taps x.str p).map (fun t => tapCost t.2.2)).sum ≤ 512)) (x.err 19 eStruct p.loc)

/-- Where a tier-2 line lies: wholly in one region of its partition, partly in another's region, or neither. -/
def checkRegion (x : Cx) (r : LineRec) : Vfy Unit :=
  let lo := r.base
  let hi := r.base + r.length
  if x.str.drams.any (fun d => d.partition == r.partition && decide (128 * d.base ≤ lo ∧ hi ≤ 128 * (d.base + d.length))) then
    .ok ()
  else if x.str.drams.any (fun d => d.partition != r.partition &&
      decide (128 * d.base < hi ∧ lo < 128 * (d.base + d.length))) then .error (x.err 19 eOwner r.loc)
  else .error (x.err 19 eStruct r.loc)

/-- One LINES record (R103, R104, R114, R123, R137). -/
def checkLine (x : Cx) (b : List LineRec) (r : LineRec) : Vfy Unit :=
  let e := x.err 19
  let same := r :: b.filter (fun q => q.cluster == r.cluster)
  do
    need (x.rsv r.loc [(0x17, 9)]) (e eStruct r.loc)
    need (decide (r.line < 1024 ∧ (r.tier = 1 ∨ r.tier = 2) ∧ 1 ≤ r.partition ∧ r.writer < 16 ∧ r.preload < 2 ∧
      r.srcWord < 1024) && x.declares r.partition) (e eStruct r.loc)
    need (!b.any (fun q => q.cluster == r.cluster && q.line == r.line)) (e eStruct r.loc)
    need (decide (1 ≤ r.taps.length) && (r.loc.sec == 0x3FF || r.taps.length == x.byte r.loc 22)) (e eStruct r.loc)
    need (decide (r.taps.length ≤ 64)) (e eStruct r.loc)
    need (if r.tier = 1 then decide (r.base < 2 ^ 22 ∧ lineBank r < 48 ∧ 2 ≤ r.length ∧ r.base % 65536 + r.length ≤ 65536)
      else decide (r.base % 8 = 0 ∧ 128 ≤ r.length ∧ r.length % 128 = 0)) (e eStruct r.loc)
    need (decide (same.length ≤ 1024 ∧ (same.filter (fun q => q.tier == 2)).length ≤ 256) && (r.tier == 2 ||
      decide ((same.filter (fun q => q.tier == 1 && lineBank q == lineBank r)).length ≤ 256))) (e eStruct r.loc)
    need (engPart x.str (16 * r.cluster + r.writer) == some r.partition) (e eOwner r.loc)
    if r.tier = 1 then need (bankOwner x.str (48 * r.cluster + lineBank r) == some r.partition) (e eOwner r.loc)
    else checkRegion x r

/-- The TAPS records of the image: each is a legal tap of every line that indexes it. -/
def checkTaps (x : Cx) (s : Sect) : Vfy Unit :=
  (List.range s.count).forM (fun i =>
    let t := readTap x.img (s.off + 8 * i)
    let users := x.str.lines.filter (fun l => l.loc.sec != 0x3FF && l.cluster == s.inst &&
      decide (x.byte l.loc 20 + 256 * x.byte l.loc 21 ≤ i ∧ i < x.byte l.loc 20 + 256 * x.byte l.loc 21 + l.taps.length))
    need (tapForm t && users.all (fun l => tapOk l t)) ⟨19, eStruct, x.part, s.idx, i⟩)

/-- Step 19. -/
def step19 (x : Cx) : Vfy Unit := do
  x.str.progs.forM (checkHandles x)
  forEach (checkLine x) [] x.str.lines
  (sectsOf x.tbl 0x23).forM (checkTaps x)

/-! ### Step 20: parameters (R150, R154, R156, R170, R176) -/

/-- The blocks of a partition in ascending number. -/
def blocksOf (r : Structure) (p : Nat) : List BlockRec :=
  (r.blocks.filter (fun b => b.partition == p)).mergeSort (fun a b => decide (a.block ≤ b.block))

/-- The words on the H side of a route or bridge, as (engine, word, in the out window). -/
def bridgeK (kind : Nat) : Nat := if kind = 1 ∨ kind = 3 then 4 else 2

/-- Words of a bridge's source and of its destination (R146, R147). -/
def bridgeSrcK (r : BridgeRec) : Nat := if r.kind = 2 ∨ r.kind = 3 then bridgeK r.kind else 1
def bridgeDstK (r : BridgeRec) : Nat := if r.kind = 0 ∨ r.kind = 1 then bridgeK r.kind else 1

/-- An out-window word is in the H domain (R145). -/
def outWordHigh (r : Structure) (e w : Nat) : Bool :=
  r.io.any (fun q => q.dir == 1 && decide (q.kind < 3 ∧ 1 < q.k) && q.engine == e && decide (q.word ≤ w ∧ w < q.word + q.k)) ||
  r.bridges.any (fun q => decide (1 < bridgeSrcK q) && q.srcKind == 0 && q.srcEngine == e &&
    decide (q.src ≤ w ∧ w < q.src + bridgeSrcK q))

/-- One QSMIX record at step 20: its block and its sources. -/
def checkMixer (x : Cx) (r : QsMixRec) : Vfy Unit := do
  let mask (m : Nat) : List Nat := (List.range 16).filter (fun i => m / 2 ^ i % 2 == 1)
  need (x.rsv r.loc [(3, 1)] && decide (r.output < 16) && x.declares r.partition) (x.err 20 eStruct r.loc)
  need (decide ((mask r.di).length + (mask r.bq).length ≤ 8)) (x.err 20 eStruct r.loc)
  need (((blocksOf x.str r.partition)[r.pblock]?).any (fun b => b.holders / 2 % 2 == 1)) (x.err 20 eStruct r.loc)
  need ((mask r.di).all (fun n => x.str.io.any (fun q => q.dir == 0 && q.kind == 3 && q.channel == n &&
    q.partition == r.partition)) && (mask r.bq).all (fun n => x.str.bridges.any (fun q => q.kind == 4 && q.unit == n &&
    q.partition == r.partition))) (x.err 20 eOwner r.loc)

/-- One PBLOCK record. -/
def checkBlock (x : Cx) (b : List BlockRec) (r : BlockRec) : Vfy Unit :=
  let e := x.err 20
  let rank := ((blocksOf x.str r.partition).filter (fun q => decide (q.block < r.block))).length
  do
    need (x.rsv r.loc ([(5, 3)] ++ (List.range r.engines.length).map (fun i => (8 + 4 * i + 1, 1)))) (e eStruct r.loc)
    need (decide (r.block < 12288 ∧ 1 ≤ r.holders ∧ r.holders < 8) && x.declares r.partition &&
      (r.holders % 2 == 1) == (r.engines != [])) (e eStruct r.loc)
    need (!b.any (fun q => q.block == r.block) && (r.holders / 2 % 2 == 0 || decide (rank < 256))) (e eStruct r.loc)
    need (r.engines.all (fun p => decide (p.1 < 128 ∧ p.2 ≤ 0xFF80)) && r.engines.eraseDups.length == r.engines.length &&
      !b.any (fun q => q.engines.any (fun p => r.engines.contains p))) (e eStruct r.loc)
    need (r.engines.all (fun p => engPart x.str p.1 == some r.partition)) (e eOwner r.loc)

/-- One GAINCELL record. -/
def checkCell (x : Cx) (b : List CellRec) (r : CellRec) : Vfy Unit :=
  let e := x.err 20
  do
    need (x.rsv r.loc [(3, 1), (12, 4)] && decide (r.cell < 4096 ∧ r.tgtWord < 64 ∧ r.watchEngine < 128 ∧
      r.watchWord < 1024 ∧ 1 ≤ r.timeoutMs ∧ r.timeoutMs ≤ 1023) && x.declares r.partition) (e eStruct r.loc)
    need (!b.any (fun q => q.cell == r.cell)) (e eStruct r.loc)
    match x.str.blocks.find? (fun q => q.block == r.tgtBlock) with
    | none => .error (e eStruct r.loc)
    | some q =>
      need (q.holders / 4 % 2 == 1) (e eStruct r.loc)
      need (q.partition == r.partition && engPart x.str r.watchEngine == some r.partition) (e eOwner r.loc)
    need (!outWordHigh x.str r.watchEngine r.watchWord) (e eStruct r.loc)

/-- Step 20. -/
def step20 (x : Cx) : Vfy Unit := do
  x.str.qsmix.forM (checkMixer x)
  forEach (checkBlock x) [] x.str.blocks
  forEach (checkCell x) [] x.str.cells

/-! ### Step 21: exchange (R100, R136 to R139), with every route that R136 and R137 are about -/

/-- The latest of a run's last writes. -/
def lastOf (fs : List Facts) (e w n : Nat) : Nat :=
  ((List.range n).map (fun i => (lastWrite fs e (w + i)).getD 0)).foldl max 0

/-- The program phase in which a cycle lies, given the phase boundaries. -/
def phaseAt (bs : List Nat) (c : Nat) : Nat := (bs.filter (fun b => decide (b < c))).length

/-- Links of the ring that a record uses: the cluster each leaves, and its device cycle. -/
def ringUse (r : ExchRec) : List (Nat × Nat) :=
  (List.range r.links).map (fun i =>
    ((if r.path = 1 then r.srcEngine / 16 + i else r.srcEngine / 16 + 8 - i) % 8, r.slots.getD i 0))

/-- The form of an EXCHANGE record (Table 08.12). A service record leads to a warden, as the table says of kind 3; no kind is
listed for a warden's service output to an owner's engine, which R136 names among the sources (DESIGN CHOICE, log entry
123). -/
def exchForm (x : Cx) (r : ExchRec) : Bool :=
  let sc := r.srcEngine / 16
  let dc := r.dstEngine / 16
  x.rsv r.loc [(0x12, 6)] &&
  decide (1 ≤ r.kind ∧ r.kind ≤ 3 ∧ r.srcEngine < 128 ∧ r.dstEngine < 128 ∧ r.path ≤ 2 ∧ 1 ≤ r.count ∧
    r.srcWord + r.count ≤ 1024 ∧ r.dstWord + r.count ≤ 1024) && (r.kind != 3 || r.dstEngine % 16 == 15) &&
  (if r.path = 0 then decide (r.count ≤ 16 ∧ r.links = 0 ∧ sc = dc) && (r.slots.drop 1).all (fun s => s == 0)
   else decide (r.count ≤ 8 ∧ r.kind ≠ 2 ∧ 1 ≤ r.links ∧ r.links ≤ 4 ∧
     (if r.path = 1 then sc + r.links else sc + 8 - r.links) % 8 = dc) && (r.slots.drop r.links).all (fun s => s == 0))

/-- A phase hop is read in a later phase, once it has landed (R139). A read in a phase before the sending one, which R139's list of
refusals does not name, is admitted (DESIGN CHOICE, log entry 152). An XR whose K14 the words alone do not fix may read any
word. -/
def hopReadOk (x : Cx) (fs : List Facts) (r : ExchRec) (i : Nat) : Bool :=
  let bs := phasesOf x.str (r.srcEngine / 16)
  let p := phaseAt bs ((lastWrite fs r.srcEngine (r.srcWord + i)).getD 0)
  let reads := ((factsOf fs r.dstEngine).map (fun f => f.trace.xr.filter (fun q => q.1 == r.dstWord + i || q.1 == 1024))).getD []
  reads.all (fun q =>
    let pr := phaseAt bs q.2
    pr != p && (decide (pr < p) || decide (r.slots.getD 0 0 + 2 ≤ bs.getD (pr - 1) 0)))

/-- Slots follow one another by 4 cycles or more. -/
def spaced : List Nat → Bool
  | a :: b :: r => decide (a + 4 ≤ b) && spaced (b :: r)
  | _ => true

/-- One EXCHANGE record. -/
def checkExch (x : Cx) (fs : List Facts) (b : List ExchRec) (r : ExchRec) : Vfy Unit :=
  let e := x.err 21
  let s0 := r.slots.getD 0 0
  let sc := r.srcEngine / 16
  let last := lastOf fs r.srcEngine r.srcWord r.count
  do
    need (exchForm x r) (e eStruct r.loc)
    need (!b.any (fun q => q.dstEngine == r.dstEngine && decide (q.dstWord < r.dstWord + r.count ∧
      r.dstWord < q.dstWord + q.count))) (e eOverlap r.loc)
    need ((engPart x.str r.srcEngine).isSome && (engPart x.str r.dstEngine).isSome &&
      (r.kind == 3 || engPart x.str r.srcEngine == engPart x.str r.dstEngine)) (e eOwner r.loc)
    need (written fs r.srcEngine r.srcWord r.count) (e eStruct r.loc)
    if r.path = 0 then
      need (decide (last < s0 ∧ s0 + 2 < x.tickLen)) (e eStruct r.loc)
      need (r.kind != 2 || (List.range r.count).all (hopReadOk x fs r)) (e eStruct r.loc)
      need (decide (((b.filter (fun q => q.path == 0 && q.srcEngine / 16 == sc && q.slots.getD 0 0 == s0)).map
        (·.count)).sum + r.count ≤ 16)) (e eOverlap r.loc)
    else
      need (decide (16 * sc + last < s0) && spaced (r.slots.take r.links) &&
        decide (r.slots.getD (r.links - 1) 0 + 4 < 16 * (r.dstEngine / 16) + x.tickLen)) (e eStruct r.loc)
      need ((ringUse r).all (fun u => decide (((b.filter (fun q => q.path == r.path && (ringUse q).contains u)).map
        (·.count)).sum + r.count ≤ 8))) (e eOverlap r.loc)

/-- Strictly rising. -/
def rising : List Nat → Bool
  | a :: b :: r => decide (a < b) && rising (b :: r)
  | _ => true

/-- A bridge feeds an output route. -/
def bridged (r : Structure) (q : IoRec) : Bool := r.bridges.any (fun b => b.kind != 4 && b.dstKind == 1 && b.dst == q.num)

/-- The in-window words that an exchange record fills. -/
def exchFills (r : Structure) (e w n : Nat) : Bool :=
  r.exch.any (fun q => q.dstEngine == e && decide (q.dstWord < w + n ∧ w < q.dstWord + q.count))

/-- Two runs of words of one engine meet. -/
def runsMeet (e w n e' w' n' : Nat) : Bool := e == e' && decide (w < w' + n' ∧ w' < w + n)

/-- An engine's words that a record names, as far as they exist: what lies outside is refused by the record's own step. -/
def runExists (x : Cx) (e w n : Nat) : Bool := decide (e < 128 ∧ w + n ≤ 1024) && (engPart x.str e).isSome

/-- The source word of a line is written in every tick (R137). -/
def checkLineSource (x : Cx) (fs : List Facts) (r : LineRec) : Vfy Unit :=
  need (written fs (16 * r.cluster + r.writer) r.srcWord 1) (x.err 21 eStruct r.loc)

/-- The in-window words of an input route have no other source (R136), and the out-window words of an output route are written in
every tick (R137). -/
def checkIoWords (x : Cx) (fs : List Facts) (b : List IoRec) (r : IoRec) : Vfy Unit :=
  if r.kind = 3 ∨ (r.dir = 1 ∧ bridged x.str r = true) ∨ runExists x r.engine r.word r.k = false then pure ()
  else if r.dir = 0 then
    need (!exchFills x.str r.engine r.word r.k && !b.any (fun q => q.dir == 0 && q.kind != 3 &&
      runsMeet q.engine q.word q.k r.engine r.word r.k)) (x.err 21 eOverlap r.loc)
  else need (written fs r.engine r.word r.k) (x.err 21 eStruct r.loc)

/-- The same for the two ends of a bridge that lie in windows. -/
def checkBridgeWords (x : Cx) (fs : List Facts) (b : List BridgeRec) (r : BridgeRec) : Vfy Unit := do
  need (r.srcKind != 0 || !runExists x r.srcEngine r.src (bridgeSrcK r) || written fs r.srcEngine r.src (bridgeSrcK r))
    (x.err 21 eStruct r.loc)
  need (r.kind == 4 || r.dstKind != 0 || !runExists x r.dstEngine r.dst (bridgeDstK r) ||
    (!exchFills x.str r.dstEngine r.dst (bridgeDstK r) &&
      !x.str.io.any (fun q => q.dir == 0 && q.kind != 3 && runsMeet q.engine q.word q.k r.dstEngine r.dst (bridgeDstK r)) &&
      !b.any (fun q => q.kind != 4 && q.dstKind == 0 &&
        runsMeet q.dstEngine q.dst (bridgeDstK q) r.dstEngine r.dst (bridgeDstK r)))) (x.err 21 eOverlap r.loc)

/-- Step 21, with the routes of every section that R136 and R137 are about, in the order of the section types. -/
def step21 (x : Cx) (fs : List Facts) : Vfy Unit := do
  x.str.lines.forM (checkLineSource x fs)
  forEach (checkExch x fs) [] x.str.exch
  (sectsOf x.tbl 0x31).forM (fun s =>
    let cs := (List.range 7).map (fun i => u16 x.img (s.off + 2 * i))
    let used := cs.takeWhile (fun c => c != 0)
    need (zeroRun x.img (s.off + 14) 2 && (cs.drop used.length).all (fun c => c == 0) && rising used &&
      used.all (fun c => decide (256 ≤ c ∧ c < 256 + x.window))) ⟨21, eStruct, x.part, s.idx, 0⟩)
  forEach (checkIoWords x fs) [] x.str.io
  forEach (checkBridgeWords x fs) [] x.str.bridges

/-! ### Step 22: I/O -/

/-- The settings byte `i` of a PORTCFG record. -/
def PortRec.at (r : PortRec) (i : Nat) : Nat := r.set.getD i 0

/-- The PORTCFG record of a port. -/
def portOf (r : Structure) (kind port : Nat) : Option PortRec := r.ports.find? (fun p => p.kind == kind && p.port == port)

/-- The words that a network channel may carry per tick in one direction, and the largest k (Table 13.3). -/
def netLimit (c : ClockRec) : Nat × Nat :=
  if c.mult = 0 then (2048, if c.family = 0 then 2 else 1) else if c.mult = 1 ∧ c.family = 0 then (1024, 1) else (0, 0)

/-- The form of an IOROUTE record by its kind (R201, R284, R285, R292, R300); in a graft's composite its number is at most 4,095
(R401). -/
def ioForm (x : Cx) (r : IoRec) : Bool :=
  decide (r.dir < 2 ∧ (r.k = 1 ∨ r.k = 2 ∨ r.k = 4) ∧ (r.wordBits = 16 ∨ r.wordBits = 24 ∨ r.wordBits = 32) ∧
    ¬(r.k = 4 ∧ x.str.clock.mult = 2)) && (!x.graft || decide (r.num ≤ 4095)) && x.declares r.partition &&
  (match r.kind with
   | 0 => decide (r.port = 0 ∧ r.channel < 2048 ∧ r.wordBits ≠ 32 ∧ r.k ≤ (netLimit x.str.clock).2)
   | 1 => decide (r.port < 32) && (portOf x.str 1 (r.port / 8)).any (fun p => p.at 2 == r.k && decide (r.channel < p.at 3))
   | 2 => decide (r.port < 8 ∧ r.channel < 2) && (if r.dir = 0 then r.k == 1
       else (portOf x.str 2 r.port).all (fun p => p.at 1 == r.k))
   | 3 => decide (r.dir = 0 ∧ r.port = 0 ∧ r.channel < 16 ∧ r.k = 1 ∧ r.wordBits = 24 ∧ r.engine = 0 ∧ r.word = 0)
   | _ => false)

/-- The channel words per tick of the network channels routed in a direction: each channel once, whoever reads it (R201, R300). -/
def netRouted (l : List IoRec) (dir : Nat) : List Nat :=
  (((l.filter (fun q => q.kind == 0 && q.dir == dir)).map (fun q => (q.channel, q.k))).eraseDups).map (·.2)

/-- Input words that an engine accepts, and output and bridge-source words that it gives, in a tick (R143). -/
def inLoad (r : Structure) (e : Nat) : Nat :=
  ((r.io.filter (fun q => q.dir == 0 && q.kind != 3 && q.engine == e)).map (·.k)).sum
def outLoad (r : Structure) (e : Nat) : Nat :=
  ((r.io.filter (fun q => q.dir == 1 && q.engine == e && !bridged r q)).map (·.k)).sum +
    ((r.bridges.filter (fun q => q.srcKind == 0 && q.srcEngine == e)).map bridgeSrcK).sum

/-- Distance between two instants of a tick, the shorter way round. -/
def apart (t a b : Nat) : Nat := min ((a + t - b % t) % t) ((b + t - a % t) % t)

/-- A TDM route meets R289 in its group `p`: whole H-domain blocks, and, for a slave, instants away from those of capture
and launch. -/
def tdmPlaced (x : Cx) (p : PortRec) (r : IoRec) : Bool :=
  let t := x.ioTick
  let q := p.at 2
  let sl := t / (q * p.at 3)
  let be := sl / 32
  let mu := if p.at 1 = 1 then 0 else 8
  let ph := p.at 4 + 256 * p.at 5
  let frames := List.range q
  if r.dir = 0 then
    (decide (r.k ≤ 1) || decide ((t : Int) + (be / 2 : Nat) - 32 - sl + mu < ph ∧ (ph : Int) ≤ (t : Int) + (be / 2 : Nat) - 32 - mu)) &&
      (p.at 1 == 1 || frames.all (fun i => decide (8 < apart t (ph + i * (t / q) + (r.channel + 1) * sl - be / 2) (t - 32))))
  else
    (decide (r.k ≤ 1) || decide (64 + mu ≤ ph ∧ ph + mu < 64 + sl)) &&
      (p.at 1 == 1 || frames.all (fun i => decide (8 < apart t (ph + i * (t / q) + r.channel * sl) 64)))

/-- The outputs of a graft's partition in a structure, by (kind, port, channel) (R208). -/
def graftOuts (x : Cx) (r : Structure) : List (Nat × Nat × Nat) :=
  (r.io.filter (fun q => q.partition == x.gp && q.dir == 1)).map (fun q => (q.kind, q.port, q.channel))

/-- A bridge channel as R208 compares it. -/
def bridgeUnit (r : BridgeRec) : Nat × Nat × Nat := if r.kind < 4 then (0, r.cluster, r.unit) else (r.kind, 0, r.unit)

/-- The bridge units of a graft's partition in a structure (R208). -/
def graftUnits (x : Cx) (r : Structure) : List (Nat × Nat × Nat) := (r.bridges.filter (fun q => q.partition == x.gp)).map bridgeUnit

/-- One IOROUTE record. A graft that would gain an output is refused at the record that brings it (R208). -/
def checkIo (x : Cx) (b : List IoRec) (r : IoRec) : Vfy Unit :=
  let e := x.err 22
  do
    need (x.rsv r.loc [(9, 1), (12, 4)] && ioForm x r) (e eStruct r.loc)
    need (!x.graft || r.loc.sec == 0x3FF || r.dir == 0 || (graftOuts x x.run).contains (r.kind, r.port, r.channel)) (e eStruct r.loc)
    need (!b.any (fun q => sameIo q r && (r.dir == 1 || q.partition == r.partition))) (e eOverlap r.loc)
    need (r.kind != 1 || (portOf x.str 1 (r.port / 8)).all (fun p => tdmPlaced x p r)) (e eStruct r.loc)
    need (r.kind != 0 || decide ((netRouted (r :: b) r.dir).sum ≤ (netLimit x.str.clock).1)) (e eStruct r.loc)
    if r.kind = 3 ∨ (r.dir = 1 ∧ bridged x.str r = true) then pure ()
    else
      need (decide (r.engine < 128 ∧ r.word + r.k ≤ 1024)) (e eStruct r.loc)
      need (engPart x.str r.engine == some r.partition) (e eOwner r.loc)
      need (decide ((if r.dir = 0 then inLoad x.str r.engine else outLoad x.str r.engine) ≤ 1024)) (e eStruct r.loc)

/-- PORTCFG settings of a TDM group (R285, Table 12.8). -/
def tdmCfgOk (x : Cx) (p : PortRec) : Bool :=
  let m := 2 ^ x.str.clock.mult
  let q := p.at 2
  let n := p.at 3
  decide (p.port < 4 ∧ p.at 0 ≤ 2 ∧ p.at 1 < 2 ∧ (q = 1 ∨ q = 2 ∨ q = 4) ∧ (n = 2 ∨ n = 4 ∨ n = 8 ∨ n = 16) ∧
    (p.at 0 = 0 ∨ (n = 2 ∧ p.at 6 = 0 ∧ p.at 7 = 0)) ∧ p.at 4 + 256 * p.at 5 < x.ioTick ∧ p.at 6 < 2 ∧ p.at 7 < 2 ∧
    q * m ≤ 4 ∧ n * q * m ≤ 16) && (p.set.drop 8).all (fun v => v == 0)

/-- PORTCFG settings by kind (R297, R298, R249). -/
def portCfgOk (x : Cx) (p : PortRec) : Bool :=
  let m := 2 ^ x.str.clock.mult
  let twin := x.str.board.twinMode == 1
  match p.kind with
  | 0 => decide (p.port < 4 ∧ p.at 0 ≤ 3 ∧ p.at 1 ≤ 2 ∧ (p.at 1 ≠ 2 ∨ p.at 0 = 3) ∧ (p.at 1 = 0 ∨ 2 ≤ p.at 0) ∧
      p.at 2 < 8 ∧ 8 ≤ p.at 3 ∧ p.at 3 ≤ 30 ∧ p.at 17 / 16 % 2 = 0 ∧ p.at 18 ≤ 63 ∧ p.at 19 ≤ 63) &&
      (twin || ((p.set.drop 8).take 4).all (fun v => v == 0)) &&
      (decide (p.at 2 / 2 % 2 = 1) || (p.at 16 == 0 && p.at 17 == 0)) && (p.set.drop 20).all (fun v => v == 0)
  | 1 => tdmCfgOk x p && !(twin && p.at 1 == 1)
  | 2 => decide (p.port < 8 ∧ p.at 0 < 2 ∧ (p.at 1 = 1 ∨ p.at 1 = 2 ∨ p.at 1 = 4) ∧ p.at 2 < 2 ∧ p.at 3 = 0 ∧
      p.at 1 * m ≤ 4) && ((p.set.drop 4).take 8).all (fun v => decide (v < 128)) && (p.set.drop 12).all (fun v => v == 0)
  | 3 => decide (p.port = 0 ∧ p.at 0 < 2 ∧ p.at 1 = 0 ∧ p.at 2 ≤ 248 ∧ p.at 2 % 8 = 0 ∧ p.at 3 = 0) &&
      (p.set.drop 4).all (fun v => v == 0) && !(twin && p.at 0 == 1)
  | _ => false

/-- One PORTCFG record; the warden of cluster 0 may not sleep beside an enabled AES3 receiver (R355). -/
def checkPort (x : Cx) (b : List PortRec) (r : PortRec) : Vfy Unit := do
  need (x.rsv r.loc [(2, 2)] && portCfgOk x r) (x.err 22 eStruct r.loc)
  need (!b.any (fun q => q.kind == r.kind && q.port == r.port)) (x.err 22 eStruct r.loc)
  need (!(r.kind == 2 && r.at 0 == 1 && x.str.progs.any (fun p => p.engine == 15 && p.sleepable))) (x.err 22 eStruct r.loc)

/-- The route that an end of a bridge names. -/
def bridgeRoute (r : Structure) (n dir : Nat) : Option IoRec := r.io.find? (fun q => q.num == n && q.dir == dir)

/-- One end of a bridge: `k` words of an out window, or a route of that k; the words' engine or the route is of the
bridge's partition. -/
def bridgeEnd (x : Cx) (r : BridgeRec) (kind engine n k dir : Nat) : Vfy Unit :=
  let e := x.err 22
  if kind = 0 then do
    need (decide (engine < 128 ∧ n + k ≤ 1024)) (e eStruct r.loc)
    need (engPart x.str engine == some r.partition) (e eOwner r.loc)
  else match bridgeRoute x.str n dir with
    | none => .error (e eStruct r.loc)
    | some q => do
      need (q.k == k && (q.kind == 3) == (r.kind == 5 && dir == 0)) (e eStruct r.loc)
      need (q.partition == r.partition) (e eOwner r.loc)

/-- One BRIDGE record (R147). -/
def checkBridge (x : Cx) (b : List BridgeRec) (r : BridgeRec) : Vfy Unit :=
  let e := x.err 22
  do
    need (!x.graft || r.loc.sec == 0x3FF || (graftUnits x x.run).contains (bridgeUnit r)) (e eStruct r.loc)
    need (x.rsv r.loc [(12, 4)] && decide (r.kind ≤ 5 ∧ r.srcKind < 2 ∧ r.dstKind < 2 ∧ r.cluster < 8 ∧
      r.unit < (if r.kind < 4 then 64 else 16) ∧ (r.kind ≠ 5 ∨ r.srcKind = 1) ∧
      ¬((r.kind = 1 ∨ r.kind = 3) ∧ x.str.clock.mult = 2)) && x.declares r.partition) (e eStruct r.loc)
    need (!b.any (fun q => q.unit == r.unit && (if r.kind < 4 then decide (q.kind < 4) && q.cluster == r.cluster
      else q.kind == r.kind))) (e eOverlap r.loc)
    bridgeEnd x r r.srcKind r.srcEngine r.src (bridgeSrcK r) 0
    if r.kind = 4 then pure ()
    else
      bridgeEnd x r r.dstKind r.dstEngine r.dst (bridgeDstK r) 1
      need (r.dstKind != 1 || !b.any (fun q => q.kind != 4 && q.dstKind == 1 && q.dst == r.dst)) (e eOverlap r.loc)
    need (r.srcKind == 1 || decide (outLoad x.str r.srcEngine ≤ 1024)) (e eStruct r.loc)

/-- One QSMIX record at step 22. -/
def checkQsOut (x : Cx) (b : List QsMixRec) (r : QsMixRec) : Vfy Unit :=
  need (!b.any (fun q => q.output == r.output)) (x.err 22 eOverlap r.loc)

/-- Step 22. -/
def step22 (x : Cx) : Vfy Unit := do
  forEach (checkIo x) [] x.str.io
  forEach (checkPort x) [] x.str.ports
  forEach (checkBridge x) [] x.str.bridges
  forEach (checkQsOut x) [] x.str.qsmix
  need (!x.graft || (sameSet (graftOuts x x.run) (graftOuts x x.str) && sameSet (graftUnits x x.run) (graftUnits x x.str)))
    (x.none' 22 eStruct)

/-! ### Step 23: protection (R203, R220) -/

/-- The ranges of Table 09.5. -/
def thornOk (x : Cx) (r : ThornRec) : Bool :=
  x.rsv r.loc [(0x1A, 6)] &&
  decide (1 ≤ r.peak ∧ r.peak < 2 ^ 31 ∧ r.knee ≤ r.peak ∧ 1 ≤ r.rms ∧ r.rms < 2 ^ 31 ∧ r.dc < 2 ^ 31 ∧
    100 ≤ r.window ∧ r.window ≤ 10000 ∧ r.flags < 16 ∧ r.amon < 8 ∧ (r.flags / 4 % 2 = 1 ∨ r.amon = 0) ∧
    r.amonHot / 4096 % 8 = 0)

/-- Step 23. -/
def step23 (x : Cx) : Vfy Unit :=
  let outs := outputsOf x.str
  do
    forEach (fun b r => need (thornOk x r && outs.contains (r.kind, r.port, r.channel) &&
      !b.any (fun q => q.kind == r.kind && q.port == r.port && q.channel == r.channel)) (x.err 23 eStruct r.loc))
      [] x.str.thorn
    forEach (fun b r => need (decide (r.group < 256 ∧ r.diverge < 2 ∧ r.unripe < 2) && outs.contains (r.kind, r.port, r.channel) &&
      !b.any (fun q => (q.kind == r.kind && q.port == r.port && q.channel == r.channel) ||
        (q.group == r.group && !(q.diverge == r.diverge && q.unripe == r.unripe)))) (x.err 23 eStruct r.loc))
      [] x.str.twin
    let thorns := x.str.thorn.map (fun r => (r.kind, r.port, r.channel))
    let twins := x.str.twin.map (fun r => (r.kind, r.port, r.channel))
    need (outs.all (fun o => thorns.contains o)) (x.none' 23 eStruct)
    need (x.str.board.twinMode != 1 || outs.all (fun o => twins.contains o)) (x.none' 23 eStruct)

/-! ### Steps 24 to 28 -/

/-- Fields of a DAUSCHED item (Table 08.11). -/
def itemRead (i : Nat) : Bool := i / 2 ^ 31 % 2 == 1
def itemEngine (i : Nat) : Nat := i / 2 ^ 27 % 16
def itemLine (i : Nat) : Nat := i / 2 ^ 17 % 1024
def itemTap (i : Nat) : Nat := i / 2 ^ 11 % 64
def itemLag (i : Nat) : Nat := i % 8 + 1

/-- The place of an item's burst within its stream, 0 to 127 (R120, R121): for a write the tick of its last word, less 7;
for a read the tick of its first use, less the smallest displacement `low`; both modulo 128. -/
def itemPlace (k i : Nat) (low : Int) : Nat :=
  if itemRead i then (((k : Int) + itemLag i - low) % 128).toNat else ((k : Int) - itemLag i - 8).emod 128 |>.toNat

/-- The smallest displacement of the tap that an item names. -/
def itemLow (r : Structure) (c i : Nat) : Int :=
  (((r.lines.find? (fun l => l.cluster == c && l.line == itemLine i)).bind (fun l => l.taps[itemTap i]?)).map tapLow).getD 0

/-- The streams that a cluster's lines and handles require: (read, engine, line, tap). -/
def streams (r : Structure) (c : Nat) : List (Bool × Nat × Nat × Nat) :=
  ((r.lines.filter (fun l => l.cluster == c && l.tier == 2)).map (fun l => (false, 0, l.line, 0))) ++
  (r.progs.filter (fun p => p.engine / 16 == c)).flatMap (fun p =>
    (tier2Taps r p).map (fun t => (true, p.engine % 16, t.1.line, t.2.1)))

/-- The stream of an item. -/
def itemStream (i : Nat) : Bool × Nat × Nat × Nat := (itemRead i, itemEngine i, itemLine i, itemTap i)

/-- Step 24 (R121): every item belongs to a required stream at a legal lag, no burst twice, and every burst is there. -/
def step24 (x : Cx) : Vfy Unit :=
  (List.range 8).forM (fun c => do
    let req := streams x.str c
    let recs := x.str.dau.filter (fun d => d.cluster == c)
    let items := recs.flatMap (fun d => d.items.map (fun i => (d, i)))
    let key (d : DauRec) (i : Nat) := (itemStream i, itemPlace d.k i (itemLow x.str c i))
    recs.forM (fun d => do
      need (x.rsv d.loc [(2, 2)]) (x.err 24 eStruct d.loc)
      let before := (recs.filter (fun q => decide (q.k < d.k))).flatMap (fun q => q.items.map (fun i => (q, i)))
      forEach (fun b di => need (di.2 / 8 % 256 == 0 && req.contains (itemStream di.2) &&
        (key di.1 di.2).2 % 8 == 0 && !(b ++ before).any (fun q => key q.1 q.2 == key di.1 di.2)) (x.err 24 eStruct di.1.loc))
        [] (d.items.map (fun i => (d, i))))
    let sect := ((sectsOf x.tbl 0x25).find? (fun s => s.inst == c)).map (·.idx)
    need (items.length == 16 * req.length) ⟨24, eStruct, x.part, sect.getD 0x3FF, 0xFFFFFFFF⟩)

/-- Step 25. -/
def step25 (x : Cx) (fs : List Facts) : Vfy Unit :=
  x.str.progs.forM (fun p => need ((factsOf fs p.engine).all (fun f => decide (f.scan.cycles ≤ x.window)))
    (x.err 25 eCycle p.loc))

/-- The DRAM channel of an item of record `k` (R120). -/
def itemChannel (r : Structure) (c k i : Nat) : Nat :=
  let base := ((r.lines.find? (fun l => l.cluster == c && l.line == itemLine i)).map (·.base)).getD 0
  (base / 8 + itemPlace k i (itemLow r c i) / 8) % 16

/-- Schedulable bursts per channel and tick (Table 05.7). -/
def burstLimit (mult : Nat) : Nat := if mult = 0 then 5652 else if mult = 1 then 2826 else 1413

/-- Step 26 (R124). -/
def step26 (x : Cx) : Vfy Unit :=
  let lim := burstLimit x.str.clock.mult
  let g := x.str.board.graftBursts
  do
    need (decide (g ≤ lim)) (x.err 26 eBw x.str.board.loc)
    forEach (fun b d => need ((List.range 16).all (fun ch => decide (g + (((d :: b).filter (fun q => q.k == d.k)).map
      (fun q => (q.items.filter (fun i => itemChannel x.str q.cluster q.k i == ch)).length)).sum ≤ lim)))
      (x.err 26 eBw d.loc)) [] x.str.dau

/-- Step 27 (R170). -/
def step27 (x : Cx) : Vfy Unit :=
  need (decide ((x.str.parts.map (·.share)).sum ≤ 16384)) (x.none' 27 eBw)

/-- Port power in mW (Table 08.18). -/
def portsMw (r : Structure) : Nat :=
  ((r.ports.filter (fun p => p.kind == 0)).map (fun p =>
    if p.at 0 = 3 then 450 else if p.at 0 = 2 then 300 else if p.at 0 = 1 then 100 else 0)).sum +
  (if r.board.pcieEn = 1 then 900 else 0) + (if r.board.twinMode = 1 then 1200 else 0) +
  10 * (((r.io.filter (fun q => q.kind == 1)).map (·.port)).eraseDups).length +
  15 * (((r.io.filter (fun q => q.kind == 2)).map (fun q => (q.dir, q.port))).eraseDups).length +
  5 * ((((r.io.filter (fun q => q.kind == 3)).map (·.channel)) ++ r.qsmix.flatMap (fun q =>
    (List.range 16).filter (fun i => q.di / 2 ^ i % 2 == 1))).eraseDups).length + 5 * r.qsmix.length

/-- The modelled power in mW (R207), rounded up; the energy is counted in 1/1280 pJ per tick. -/
def modelMw (r : Structure) (fs : List Facts) : Nat :=
  let f := (if r.clock.family = 0 then 48000 else 44100) * 2 ^ r.clock.mult
  let cyc := (fs.map (fun x => 60 * x.scan.cycles + 168 * x.scan.mCount)).sum
  let t1 := (r.lines.filter (fun l => l.tier == 1)).length + (fs.map (fun x => x.scan.reqs)).sum + 64 * r.banks.length
  let e := 128 * (cyc + 50 * t1) + 15000 * ((r.dau.map (fun d => d.items.length)).sum)
  11200 + portsMw r + (e * f + 1280 * 10 ^ 9 - 1) / (1280 * 10 ^ 9)

/-- Step 28. -/
def step28 (x : Cx) (fs : List Facts) : Vfy Unit :=
  need (decide (max x.str.board.declaredMw (modelMw x.str fs) ≤ x.str.board.budgetMw)) (x.err 28 ePower x.str.board.loc)

/-- Steps 13 to 28. -/
def checkStructure (x : Cx) : Vfy Unit := do
  if x.graft then step13Graft x else step13Full x
  step14 x
  step15 x
  let fs ← step16 x
  step17 x
  step18 x
  step19 x
  step20 x
  step21 x fs
  step22 x
  step23 x
  step24 x
  step25 x fs
  step26 x
  step27 x
  step28 x fs

end Sys2Proof.Machine
end

