-- ==== Sys2Proof/Machine/Load.lean ====
section
/-!
DEFINITION. Machine/Load.lean: the verification of a bundle (R204), and Espalier load: phases L2 and L3 of a start (Table
11.3, R196 to R203) and the settings of L4 (R276).
-/
namespace Sys2Proof.Machine

/-! ### Verification of a bundle -/

/-- Banks that are CLEARING (R129). -/
def clearingBanks (s : State) : List Nat :=
  (List.range 384).filter (fun b => s.fld (Reg.MEM_BANK_OWNER_state b) == bankClearing)

/-- ESP_IMG_HASH as one value, digest byte 0 first. -/
def State.imgHash (s : State) : BitVec 256 :=
  BitVec.ofNat 256 (beNum ((List.range 8).flatMap (fun n => wordBytes (s.reg (Reg.ESP_IMG_HASH n)))))

/-- What a bundle that passes every step gives: its structure, the hash of its signed range, and fw_version. -/
structure Passed where
  str : Structure
  hash : BitVec 256
  fw : Nat

/-- Steps 1 to 28 on a bundle (Table 08.15). -/
def verifyBundle (s : State) (b : Img) : Vfy Passed := do
  let q ← checkBundle b
  let fw ← checkFirmware b q s.otp.minSec
  let img := b.extract q.espOff (q.espOff + q.espLen)
  let cx : ImgCtx := { part := 2, graft := false, room := q.espLen, keys := s.ownerKeys, devId := s.reg Reg.DEV_ID,
                       fwVer := fw, strap := s.strap.toNat, hash := 0, board := {} }
  checkHeader cx img
  checkDevice cx img
  let t ← checkTable cx img
  let r := readImage img t
  checkStructure { part := 2, img := img, tbl := t, graft := false, gp := 0, asked := 0, str := r, run := {},
                   dram32 := Config.dram32, clearing := [] }
  return ⟨settled r, sha256 (slice img 0 (u32 img 8 - 64)), fw⟩

/-- ESP_ERR and ESP_ERR_REC in full (R205). -/
def showVerdict (s : State) (e : VErr) : State :=
  let s := (s.setFld Reg.ESP_ERR_section e.sect).setFld Reg.ESP_ERR_part e.part
  let s := (s.setFld Reg.ESP_ERR_step e.step).setFld Reg.ESP_ERR_code e.code
  s.setReg Reg.ESP_ERR_REC (BitVec.ofNat 32 e.record)

/-- The verdict of a verification that has passed: no step, code NONE, and the part that passed, since no value of ESP_ERR.part means
none (DESIGN CHOICE, log entry 155). -/
def passVerdict (part : Nat) : VErr := ⟨0, 0, part, 0x3FF, 0xFFFFFFFF⟩

/-! ### Phase L2 (Table 11.3, R196) -/

/-- The CLOCK fields go to their registers, THN_SIL_CTL.thr is set, TICK_RATE follows, and every LOCK field closes. -/
def loadClock (s : State) : State :=
  let c := s.str.clock
  let s := pllaCtl (refselWrite s (BitVec.ofNat 32 c.refsel)) (BitVec.ofNat 32 c.pllaCtl)
  let s := (s.setReg Reg.CLK_PLLB_FRAC (BitVec.ofNat 32 c.pllbFrac)).setReg Reg.CLK_PLLB_SEED (BitVec.ofNat 32 c.pllbSeed)
  let s := s.setFld Reg.THN_SIL_CTL_thr s.str.board.silThr
  let s := (s.setFld Reg.TICK_RATE_family c.family).setFld Reg.TICK_RATE_mult c.mult
  { (s.setFld Reg.TICK_RATE_prog_window (24576 / 2 ^ c.mult - 384)) with locked := true }

/-! ### Phase L3: the image is placed -/

/-- Domains that are neither pinned nor needed go OFF; the others are ON (R349). -/
def loadDomains (s : State) : State :=
  (List.range 17).foldl (fun s d => s.setDomSt d (if domNeeded s d || domPinned s d then domStOn else domStOff)) s

/-- A program as program memory holds it. -/
def progStore (ws : List (BitVec 64)) : Store (BitVec 64) := storeFill 0 [] 0 ws.length (fun i => ws.getD i 0)

/-- One engine: its program and partition, and HALT until the start; unassigned, or OFF with its cluster (Table 03.7). -/
def loadEngine (s : State) (e : Nat) : State :=
  match s.prog e with
  | some r =>
    let s := s.setEngine e { prog := progStore r.words }
    (s.setFld (Reg.ENG_STAT_partition (e / 16) (e % 16)) r.partition).setEngState e engHalt
  | none => s.setEngState e (if s.domOn (e / 16 + 2) then 0 else engOff)

/-- Banks of the memory map (R198): owner and state, requested ON. The owner of an UNOWNED bank shows as 0 (Table of MEM_BANK_OWNERb),
whatever its record's owner byte holds (log entry 148). -/
def loadBank (s : State) (r : BankRec) : State :=
  let s := (s.setFld (Reg.MEM_BANK_OWNER_state r.bank) r.state).setFld (Reg.MEM_BANK_OWNER_owner r.bank)
    (if r.state = bankUnowned then 0 else r.owner)
  (s.setFld (Reg.MEM_BANK_PWR_state r.bank) 0).setFld (Reg.MEM_BANK_PWR_req r.bank) 0

/-- CMT_PARTCFGp. -/
def loadPart (s : State) (r : PartRec) : State :=
  let s := (s.setFld (Reg.CMT_PARTCFG_share r.id) r.share).setFld (Reg.CMT_PARTCFG_lease_quota r.id) r.leaseQuota
  s.setFld (Reg.CMT_PARTCFG_queue_m1 r.id) r.queueM1

/-- A block's initial value in both copies of every holder (R155). -/
def loadBlock (s : State) (r : BlockRec) : State :=
  (List.range 64).foldl (fun s w => writeBoth s r.block w (r.init.getD w 0)) s

/-- Gain cells of the records: current = target, not pending, last watched sample 0 (R177). -/
def startCells (s : State) (rs : List CellRec) : State :=
  rs.foldl (fun s r =>
    let t := s.current r.tgtBlock r.tgtWord
    { s with cells := storeSet {} s.cells r.cell { current := t, target := t } }) s

/-- The DMA block at a load (R332, R333): IDLE channels, cleared registers, and the partition of each channel. -/
def loadDma (s : State) : State :=
  let s := resetRange { s with dma := {} } 0xA0000 0xB0000
  s.str.wins.foldl (fun s w => s.setFld (Reg.DMA_CH_STAT_partition w.channel) w.partition) s

/-- Every field of the TWN block but TWN_STAT.role and TWN_LINK is cleared. -/
def loadTwin (s : State) : State :=
  let s := resetRange (resetRange { s with twin := {}, ctlOut := [] } 0x90000 Reg.TWN_LINK) (Reg.TWN_LINK + 4) 0xA0000
  showOversize (s.setFld Reg.TWN_STAT_role (s.strap.toNat % 2))

/-- Guards, fault condition, trip log and silence counts are cleared (R220). -/
def loadThorn (s : State) : State :=
  let s := clearTrips { s with guards := [], hot := [], silence := [], silent := [], faultLoad := false, muteEnd := [] }
  s.setReg Reg.THN_STAT 0

/-- Sessions end, SES_STAT and the stream entries are cleared; the filter table, host windows and keys stay. -/
def loadSessions (s : State) : State :=
  let t : State := { s with sessions := [], openReqs := [], bellOut := [], udpOut := [], held := [], remembered := [],
                            net := { s.net with entries := [], counts := [], writes := [], rx := [], tx := [], txOn := [],
                                                txEnding := [] } }
  t.setReg Reg.SES_STAT 0

/-- Parameters, groups and leases start anew (the load list of chapter 07). -/
def loadParams (s : State) : State :=
  let s : State := { s with pstA := [], pstB := [], qsA := [], qsB := [], gcA := [], gcB := [], groups := [], leases := [],
                            broken := [], cells := [], partOps := [], graftNew := none }
  let s := resetRange s (Reg.CMT_FLIP 0) (Reg.CMT_FLIP 384)
  startCells (s.str.blocks.foldl loadBlock (s.str.parts.foldl loadPart s)) s.str.cells

/-- Espalier load of the verified image (R196 to R203, Table 11.3 L3). -/
def loadImage (s : State) : State :=
  let s := loadDomains s
  let s := s.str.banks.foldl loadBank ((List.range 128).foldl loadEngine s)
  let s := loadSessions (loadThorn (loadDma (loadParams s)))
  loadFrame (showPinned (loadTwin (loadNetRegs (loadPortRegs s))))

/-! ### Phase L4: settings (R276) -/

/-- The readable generation with the highest sequence number: its slot. -/
def newestReadable (s : State) : Option Nat :=
  (List.range 2).foldl (fun b n =>
    if genReadable s (s.gen n) then
      match b with
      | none => some n
      | some m => if (s.gen m).seq < (s.gen n).seq then some n else some m
    else b) none

/-- The newest valid generation's schema, or 0xFFFF (Table 11.6, SETTINGS). -/
def newestSchema (s : State) : Nat :=
  let vs := ((List.range 2).map s.gen).filter genValid
  match vs with
  | [] => 0xFFFF
  | g :: gs => (gs.foldl (fun b g => if b.seq < g.seq then g else b) g).schema % 65536

/-- One block of a generation: (partition, partition index, words) into both copies of the block it names (R276). -/
def applyGenBlock (s : State) (x : Nat × Nat × List Word) : State :=
  match (s.partBlocks x.1)[x.2.1]? with
  | none => s
  | some b => (List.range 64).foldl (fun s w => writeBoth s b w (x.2.2.getD w 0)) s

/-- The generation in slot `n` is applied: gain cells then take their targets. -/
def applyGen (s : State) (n : Nat) : State :=
  let s := (s.gen n).body.foldl applyGenBlock s
  startCells (s.setFld (Reg.BOOT_SETGEN_in_use n) 1) s.str.cells

end Sys2Proof.Machine
end

