-- ==== Sys2Proof/Machine/Boot.lean ====
section
/-!
DEFINITION. Machine/Boot.lean: starts, failed starts, confirmation, settings generations, Coppice mode and OTP (R261 to
R283).
-/
namespace Sys2Proof.Machine

/-! ### AON reset and phase C2 -/

/-- A counted cause raises START_FAILS in the boot record (R269, R272). -/
def countFail (s : State) : State := s.setNv { s.nv with startFails := min 7 (s.nv.startFails + 1) }

/-- The machine after an AON reset, before C1: what is not volatile stays, the straps are sampled (R396), and HOST_WAIT is
loaded from OTP (Table 11.8). An OTP, key or flash command in progress is dropped; its bytes stay as they were (log entry 34). -/
def aonState (s : State) (strap : BitVec 9) : State :=
  let t : State := { State.reset with
    pending := s.pending, freeCtr := s.freeCtr, nv := s.bootRead, recs := s.recs, otp := s.otp, gens := endWriting s.gens, flash := s.flash,
    qspi := s.qspi, keys := s.keys, strap := strap, coreOut := s.coreOut }
  showSupplies (t.setFld Reg.HOST_WAIT_wait (s.otp.hostWait.getD 100))

/-- C1 after an AON reset (R269): a start that was left marked begun is recorded INTERRUPTED, which counts; a recorded cause
stands; otherwise the cause is POWER_ON. -/
def startCold (s : State) : State :=
  if s.nv.begun then
    phaseC1 (countFail s) (some { cause := 13, counted := true, state := s.nv.reached, detail := s.nv.reached })
  else if s.nv.pend.isSome then phaseC1 s none
  else phaseC1 s (some { cause := 0 })

/-- AON_RESET (R261, R269). -/
def execAonReset (strap : BitVec 9) (s : State) : Host.Outcome State Fault Refusal := .next (startCold (aonState s strap))

/-- AON_BROWNOUT (R269): the over-current detector acts in low-power mode. The cause is recorded, and the AON domain resets: the straps
are sampled at the end of this AON reset too (R396), and what they read is free (log entry 146). -/
def execAonBrownout (s : State) : Host.Outcome State Fault Refusal :=
  .next (if s.fld Reg.PWR_AON_LDO_lp_active = 1 then
      startCold (aonState (recordBrownout { s with freeCtr := s.freeCtr + 1 }) ((Config.freeValue s.freeCtr).setWidth 9))
    else s)

/-- SUPPLIES_READY (R262, R360, Table 11.2): the core supplies, that is every rail but VAON, are in range, so the SV domain is ON (but in
the hold after THERMAL_CRIT, R270) and the AON LDO in normal mode; in COLD it is the end of C2. -/
def execSuppliesReady (s : State) : Host.Outcome State Fault Refusal :=
  let t := ({ s with coreOut := false, railsOut := [] } : State).setFld Reg.PWR_AON_LDO_lp_active 0
  let t := if s.hold = some 11 then t else t.setDomSt 1 domStOn
  if s.boot ≠ bootCold ∨ s.fld Reg.ESP_STAT_state ≠ 4 then .next t
  else
    if s.failLimit ≤ s.nv.startFails ∨ s.otp.keyProg = [] then .next (enterCoppice t 1)
    else .next ((t.setNv { t.nv with begun := true }).setBoot bootVerify)

/-! ### LOAD (Table 11.3) -/

/-- The start is in LOAD and the phases that have ended are exactly `ps`. -/
def atPhase (s : State) (ps : List Nat) : Bool := s.boot == bootLoad && s.phases == ps

/-- Phase `n` ends. -/
def endPhase (s : State) (n : Nat) : State := { s with phases := s.phases ++ [n] }

/-- A sensor lies within the start window (R263), in units of 0.125 °C. -/
def inStartWindow (c : ClockRec) (t : Int) : Bool := decide (8 * c.tjMin ≤ t ∧ t ≤ 8 * c.tjMax)

/-- Every sensor that has converted lies within the window; a window of −128 to 127 passes at once (R263). -/
def tjOk (s : State) : Bool :=
  (s.str.clock.tjMin == -128 && s.str.clock.tjMax == 127) ||
    (List.range 16).all (fun n => s.fld (Reg.MON_TEMP_valid n) == 1 && inStartWindow s.str.clock (tempOf s n))

/-- TJ_WINDOW_REACHED (R263): L1 ends. -/
def execTjWindowReached (s : State) : Host.Outcome State Fault Refusal :=
  .next (if atPhase s [] && tjOk s then endPhase s 1 else s)

/-- The readings of the sensors that have converted. -/
def readings (s : State) : List Int :=
  ((List.range 16).filter (fun n => s.fld (Reg.MON_TEMP_valid n) == 1)).map (tempOf s)

/-- The detail of TJ_RANGE: the coldest and the hottest sensor in °C, rounded down (Table 11.6; log entry 35). -/
def tjDetail (s : State) : Nat :=
  let c : Int := ((readings s).min?.getD 0) / 8
  let h : Int := ((readings s).max?.getD 0) / 8
  (BitVec.ofInt 8 c).toNat * 256 + (BitVec.ofInt 8 h).toNat

/-- TJ_RANGE_TIMEOUT (R263). -/
def execTjRangeTimeout (s : State) : Host.Outcome State Fault Refusal :=
  .next (if atPhase s [] && !tjOk s then countedFailure s 4 (tjDetail s) else s)

/-- PLL-B has locked in VCO band `band` (R32). -/
def lockBand (s : State) (band : Nat) : State :=
  (s.setFld Reg.CLK_STAT_pllb_lock 1).setFld Reg.CLK_STAT_pllb_band band

/-- PLLB_LOCK (R32, R262): PLL-B has locked in VCO band `band`. In LOAD L2 ends, and the DRAM channels train (R126); in Coppice mode an
enabled stub route runs (R280). -/
def execPllbLock (band : Fin 16) (s : State) : Host.Outcome State Fault Refusal :=
  .next (if atPhase s [1] then endPhase ((lockBand (loadClock s) band).setFld Reg.MEM_DRAM_STAT_train 1) 2
    else if s.boot = bootCoppice ∧ (stubCfgOn s.otp).isSome ∧ s.fld Reg.CLK_STAT_pllb_lock = 0 ∧ s.faultStart = false then
      runStub (lockBand s band)
    else s)

/-- DRAM_TRAINING_DONE (R126, R262): L3 ends, or a channel has failed training, or the firmware has. -/
def execDramTrainingDone (failed : BitVec 16) (s : State) : Host.Outcome State Fault Refusal :=
  if atPhase s [1, 2] = false then .next s
  else if failed ≠ 0 then .next (countedFailure (s.setFld Reg.MEM_DRAM_STAT_train 3) 5 failed.toNat)
  else
    match slotFirmware s (s.fld Reg.BOOT_CAUSE_slot) with
    | none => .next (countedFailure s 6 0)
    | some (x, y) => .next (endPhase ((placeImages (loadImage s) x y).setFld Reg.MEM_DRAM_STAT_train 2) 3)

/-- SETTINGS_APPLIED (R276): L4 ends, or the start fails with SETTINGS. -/
def execSettingsApplied (s : State) : Host.Outcome State Fault Refusal :=
  if atPhase s [1, 2, 3] = false then .next s
  else
    match newestReadable s with
    | some n => .next (endPhase (applyGen s n) 4)
    | none =>
      .next (if s.str.settingsRequired then countedFailure s 7 (newestSchema s)
        else endPhase (s.setFld Reg.BOOT_STATE_settings_none 1) 4)

/-- FW_READY (R262): running firmware has filled the preloaded lines and reports ready: L5 ends. -/
def execFwReady (s : State) : Host.Outcome State Fault Refusal :=
  .next (if atPhase s [1, 2, 3, 4] && s.fld Reg.SV_STAT_state == 1 then endPhase s 5 else s)

/-- A line that the firmware fills in L5 (R118). -/
def hasPreload (s : State) : Bool := s.str.lines.any (fun r => r.preload == 1)

/-- FIRMWARE_READY_TIMEOUT (R264): not ready 50 ms after its load. While preloaded lines are being filled L5 has no limit
(R262). -/
def execFirmwareReadyTimeout (s : State) : Host.Outcome State Fault Refusal :=
  .next (if s.boot = bootLoad ∧ s.phases.contains 2 ∧ s.phases.contains 5 = false ∧
      (s.phases.contains 4 && hasPreload s) = false then countedFailure s 6 0 else s)

/-- TWIN_LINK_TIMEOUT (R266): role B has waited 500 ms for an aligned link. -/
def execTwinLinkTimeout (s : State) : Host.Outcome State Fault Refusal :=
  .next (if s.boot = bootLoad ∧ s.phases.contains 5 ∧ s.twinMode ∧ s.fld Reg.TWN_STAT_role = 1 ∧
      s.fld Reg.TWN_LINK_aligned = 0 then { s with twin := { s.twin with soleOk := true } } else s)

/-! ### BOOT_CTL (R273, R274, R277, R279) -/

/-- BOOT_CTL.refused. -/
def refuseCtl (s : State) : State := s.setFld Reg.BOOT_CTL_refused 1

/-- BOOT_CTL.restart (R273, R281): an owner with a ripe partner requests a planned handover first. -/
def restartWrite (s : State) : State :=
  if s.boot = bootRun then
    if s.owns ∧ s.twin.paired ∧ s.twin.partnerRipe = ripeRipe then
      let h := BitVec.ofNat 32 (s.tick + 8)
      let t := twnChange (fun s => requestHandover s h) s
      if handoverAccepted s h then { t with twin := { t.twin with restartAfterHo := true } } else restart t (some 1)
    else restart s (some 1)
  else if s.boot = bootWaitHost then restart s (some 1)
  else if s.boot = bootCoppice then
    if s.fld Reg.COPPICE_CAUSE_reason = 1 then
      restart (s.setNv { s.nv with startFails := s.failLimit - 1 }) (some 1)
    else restart s (some 1)
  else refuseCtl s

/-- RESTART (R273). -/
def execRestart (s : State) : Host.Outcome State Fault Refusal := .next (gated s Reg.BOOT_CTL (restartWrite s))

/-- The start stops proving: START_FAILS is cleared (R272). -/
def stopProving (s : State) : State :=
  let s := s.setNv { s.nv with startFails := 0, begun := false }
  (s.setFld Reg.START_FAILS_count 0).setFld Reg.BOOT_STATE_proving 0

/-- The owner's paths: PCIe and the local bus. -/
def ownerPath : Path → Bool
  | .pcie => true
  | .lb => true
  | _ => false

/-- BOOT_CTL.confirm (R274): SLOT_LKG takes the slot of the running start, START_FAILS is cleared, and the generations
written under the running image are marked confirmed. -/
def confirmWrite (s : State) (path : Path) : State :=
  if s.boot = bootRun ∧ ownerPath path = true then
    let slot := s.fld Reg.BOOT_CAUSE_slot
    let m := [0, 1].foldl (fun m n =>
      let g := storeGet {} m n
      if genValid g && g.hash == s.imgHash then storeSet {} m n (Gen.sealed { g with confirmed := true }) else m) s.gens
    let s := ({ s with gens := m } : State).setNv { s.nv with slotLkg := slot }
    showGens (stopProving (s.setFld Reg.SLOT_LKG_slot slot))
  else refuseCtl s

/-- CONFIRM (R274). -/
def execConfirm (path : Path) (s : State) : Host.Outcome State Fault Refusal := .next (gatedBy s path Reg.BOOT_CTL (confirmWrite s path))

/-- The slot that a save writes (R278). Where both generations are valid, the image is not confirmed and neither is
protected, the spec names no slot: the older one (log entry 36). -/
def saveSlot (s : State) : Nat :=
  let a := s.gen 0
  let b := s.gen 1
  let older := if a.seq ≤ b.seq then 0 else 1
  if genValid a = false then 0
  else if genValid b = false then 1
  else if s.nv.slotLkg = s.fld Reg.BOOT_CAUSE_slot then older
  else if a.confirmed ∧ (b.confirmed = false ∨ b.seq < a.seq) then 1
  else if b.confirmed then 0
  else older

/-- The next sequence number: one more than the newest valid generation's. -/
def nextSeq (s : State) : Nat :=
  (([s.gen 0, s.gen 1].filter genValid).map (fun g => g.seq + 1)).foldl max 0

/-- BOOT_CTL.save (R277, R278): the target slot is marked WRITING and the blocks are read from the next boundary on. -/
def saveWrite (s : State) : State :=
  if s.boot ≠ bootRun ∨ s.save.isSome = true then refuseCtl s
  else
    let n := saveSlot s
    let g : Gen := { seq := nextSeq s, schema := s.str.schema, hash := s.imgHash, writing := true }
    let bs := (s.str.blocks.map (·.block)).mergeSort (fun a b => decide (a ≤ b))
    let t : State := { s with gens := storeSet {} s.gens n g, save := some ⟨n, nextSeq s, [], bs⟩ }
    showGens ((t.setFld Reg.BOOT_CTL_save_busy 1).setFld (Reg.BOOT_SETGEN_in_use n) 0)

/-- SAVE (R277). -/
def execSave (s : State) : Host.Outcome State Fault Refusal := .next (gated s Reg.BOOT_CTL (saveWrite s))

/-- A block as a generation stores it (R275). -/
def savedBlock (s : State) (b : Nat) : Nat × Nat × List Word :=
  let p := ((s.block b).map (·.partition)).getD 0
  (p, (s.partBlocks p).findIdx (fun x => x == b), (List.range 64).map (fun w => s.current b w))

/-- One tick's share of a save: 8 blocks at 1×, 4 at 2×, 2 at 4× base (R277). -/
def saveStep (s : State) : State :=
  match s.save with
  | none => s
  | some v =>
    let k := 8 / 2 ^ s.fld Reg.TICK_RATE_mult
    { s with save := some { v with got := v.got ++ (v.left.take k).map (savedBlock s), left := v.left.drop k } }

/-- SAVE_COMPLETE (R278): the last body word has been written; the slot is VALID. -/
def execSaveComplete (s : State) : Host.Outcome State Fault Refusal :=
  match s.save with
  | none => .next s
  | some v =>
    if v.left = [] then
      let g := Gen.sealed { s.gen v.slot with valid := true, writing := false, body := v.got }
      let t : State := { s with gens := storeSet {} s.gens v.slot g, save := none }
      .next (showGens (t.setFld Reg.BOOT_CTL_save_busy 0))
    else .next s

/-- BOOT_CTL.enter_coppice (R279): in RUN and WAIT_HOST. The entry is recorded; it is no failure, so that the next start has a cause of
its own (R269). -/
def coppiceWrite (s : State) : State :=
  if s.boot = bootRun ∨ s.boot = bootWaitHost then
    let t := recordCause s 15 false 0
    enterCoppice (t.setNv { t.nv with pend := s.nv.pend }) 2
  else refuseCtl s

/-- ENTER_COPPICE (R279). -/
def execEnterCoppice (s : State) : Host.Outcome State Fault Refusal := .next (gated s Reg.BOOT_CTL (coppiceWrite s))

/-- A write of BOOT_CTL: the bits act in the order W1C, confirm, save, enter_coppice, restart (log entry 33). -/
def bootCtlWrite (s : State) (path : Path) (v : Word) : State :=
  let s := if bitsOf v 0 1 = 1 then s.setFld Reg.BOOT_CTL_refused 0 else s
  let s := if bitsOf v 30 1 = 1 then confirmWrite s path else s
  let s := if bitsOf v 29 1 = 1 then saveWrite s else s
  let s := if bitsOf v 28 1 = 1 then coppiceWrite s else s
  if bitsOf v 31 1 = 1 then restartWrite s else s

/-- A write of SLOT_ACTIVE (R274): 2 and 3 are not assigned. -/
def slotActiveSet (s : State) (v : Nat) : State :=
  if v < 2 ∧ (s.boot = bootRun ∨ s.boot = bootWaitHost ∨ s.boot = bootCoppice) then
    (s.setNv { s.nv with slotActive := v }).setFld Reg.SLOT_ACTIVE_slot v
  else s

/-- SLOT_ACTIVE_WRITE (R274). -/
def execSlotActiveWrite (v : BitVec 2) (s : State) : Host.Outcome State Fault Refusal := .next (gated s Reg.SLOT_ACTIVE (slotActiveSet s v.toNat))

/-! ### Timers and faults -/

/-- HOST_WAIT_EXPIRY (R271): SLOT_ACTIVE takes SLOT_LKG, unless that is none, and the device restarts. -/
def execHostWaitExpiry (s : State) : Host.Outcome State Fault Refusal :=
  .next (if s.boot = bootWaitHost ∧ s.fld Reg.HOST_WAIT_wait ≠ 0 then
      restart (s.setNv { s.nv with slotActive := if s.nv.slotLkg < 2 then s.nv.slotLkg else s.nv.slotActive }) none
    else s)

/-- PROVING_TIMEOUT (R272): 600 s of continuous RUN. -/
def execProvingTimeout (s : State) : Host.Outcome State Fault Refusal :=
  .next (if s.boot = bootRun ∧ s.fld Reg.BOOT_STATE_proving = 1 ∧ s.hold = none then stopProving s else s)

/-- FAULT_HOLD_END (R270): the hold of an uncounted fault ends and the restart begins; for THERMAL_CRIT sensor 0 reads
100 °C or less, and for SUPPLY every rail is in range. -/
def execFaultHoldEnd (s : State) : Host.Outcome State Fault Refusal :=
  match s.hold with
  | none => .next s
  | some c => .next (if (c = 11 ∧ 800 < tempOf s 0) ∨ (c = 10 ∧ (s.railsOut ≠ [] ∨ s.coreOut = true)) then s else restart s none)

/-- SELF_DETECTED_FAULT (R243): from each source of Table 11.6. -/
def execSelfDetectedFault (src : FaultSrc) (s : State) : Host.Outcome State Fault Refusal :=
  match src with
  | .cluster c k u a y => .next (clusterFault s c k u a.toNat y.toNat false)
  | .pllbUnlock => .next (pllbLost s false)
  | .xtalLost => .next (pllbLost s true)
  | .supply r => .next (supplyFault s r.val)
  | .thermal n => .next (raiseFault s 11 n.val)

/-! ### Owner OTP (R282, Table 11.8) -/

/-- BOOT_OTP_DATA word `n`. -/
def otpData (s : State) (n : Nat) : Nat := (s.reg (Reg.BOOT_OTP_DATA n)).toNat

/-- The key hash in BOOT_OTP_DATA0–7, digest byte 4n in bits 7:0 of DATAn. -/
def otpHash (s : State) : BitVec 256 :=
  BitVec.ofNat 256 (beNum ((List.range 8).flatMap (fun n => wordBytes (s.reg (Reg.BOOT_OTP_DATA n)))))

/-- The programmed owner keys that are not revoked. -/
def liveKeys (o : Otp) : List Nat := o.keyProg.filter (fun k => !o.revoked.contains k)

/-- The request that BOOT_OTP_CTL and BOOT_OTP_DATAn hold. -/
def otpRequest (s : State) (op arg : Nat) : OtpReq := { op := op, arg := arg, d0 := otpData s 0, d1 := otpData s 1, hash := otpHash s }

/-- What operation `q` of Table 11.10 leaves of the OTP; none where it breaks a rule of Table 11.8. -/
def otpAfter (o : Otp) (q : OtpReq) : Option Otp :=
  match q.op with
  | 0 => if q.arg < 4 ∧ o.keyProg.contains q.arg = false then
      some { o with keyHash := storeSet 0 o.keyHash q.arg q.hash, keyProg := o.keyProg ++ [q.arg] } else none
  | 1 => if q.arg < 4 ∧ o.revoked.contains q.arg = false ∧ liveKeys o ≠ [q.arg] then
      some { o with revoked := o.revoked ++ [q.arg] } else none
  | 2 => if o.minSec < q.d0 % 128 ∧ q.d0 % 128 ≤ 64 then some { o with minSec := q.d0 % 128 } else none
  | 3 => if o.failLimit = none ∧ 2 ≤ q.d0 % 8 then some { o with failLimit := some (q.d0 % 8) } else none
  | 4 => if o.hostWait = none then some { o with hostWait := some (q.d0 % 65536) } else none
  | 5 => if (storeFind o.stub q.arg).isNone then
      some { o with stub := storeIns q.arg (BitVec.ofNat 64 (q.d0 + q.d1 * 2 ^ 32)) o.stub } else none
  | 6 => if o.stubCfg = none then some { o with stubCfg := some (q.d0 % 16) } else none
  | 7 => if o.bootSrc = none then some { o with bootSrc := some (q.d0 % 2) } else none
  | _ => none

/-- BOOT_OTP_CTL.refused. -/
def refuseOtp (s : State) : State := s.setFld Reg.BOOT_OTP_CTL_refused 1

/-- Operation 8: key hash `arg` into BOOT_OTP_DATA0–7. The hash of an empty slot is free (log entry 37). -/
def otpRead (s : State) (arg : Nat) : State :=
  if 4 ≤ arg then refuseOtp s
  else if s.otp.keyProg.contains arg then
    let b := beBytes 32 (storeGet 0 s.otp.keyHash arg).toNat
    (List.range 8).foldl (fun s n => s.setReg (Reg.BOOT_OTP_DATA n) (BitVec.ofNat 32 (leNat ((b.drop (4 * n)).take 4)))) s
  else
    let t := (List.range 8).foldl (fun s n => s.setReg (Reg.BOOT_OTP_DATA n) (Config.freeValue (s.freeCtr + n))) s
    { t with freeCtr := t.freeCtr + 8 }

/-- A go in BOOT_OTP_CTL (R282). A request while one is in progress is refused (log entry 38). -/
def otpGo (s : State) (path : Path) : State :=
  let op := s.fld Reg.BOOT_OTP_CTL_op
  let arg := s.fld Reg.BOOT_OTP_CTL_arg
  if ownerPath path = false ∨ (s.boot ≠ bootWaitHost ∧ s.boot ≠ bootCoppice) ∨ s.otpNext.isSome = true then refuseOtp s
  else if op = 8 then otpRead s arg
  else
    let q := otpRequest s op arg
    if (otpAfter s.otp q).isNone then refuseOtp s
    else ({ s with otpNext := some q } : State).setFld Reg.BOOT_OTP_CTL_busy 1

/-- A write of BOOT_OTP_CTL. -/
def otpCtlWrite (s : State) (path : Path) (v : Word) : State :=
  let s := if bitsOf v 29 1 = 1 then s.setFld Reg.BOOT_OTP_CTL_refused 0 else s
  let s := codeOr (s.setFld Reg.BOOT_OTP_CTL_arg (bitsOf v 0 4)) Reg.BOOT_OTP_CTL_op (bitsOf v 8 4) 9
  if bitsOf v 31 1 = 1 then otpGo s path else s

/-- A request of operation `op` with argument `arg`. -/
def otpAsk (s : State) (path : Path) (op arg : Nat) : State :=
  otpCtlWrite s path (BitVec.ofNat 32 (2 ^ 31 + op * 256 + arg))

/-- OTP_KEY_HASH_PROGRAM (R282). -/
def execOtpKeyHashProgram (path : Path) (arg : Fin 16) (s : State) : Host.Outcome State Fault Refusal :=
  .next (gatedBy s path Reg.BOOT_OTP_CTL (otpAsk s path 0 arg))

/-- OTP_REVOKE (R282). -/
def execOtpRevoke (path : Path) (arg : Fin 16) (s : State) : Host.Outcome State Fault Refusal :=
  .next (gatedBy s path Reg.BOOT_OTP_CTL (otpAsk s path 1 arg))

/-- OTP_MIN_SEC_RAISE (R282). -/
def execOtpMinSecRaise (path : Path) (s : State) : Host.Outcome State Fault Refusal := .next (gatedBy s path Reg.BOOT_OTP_CTL (otpAsk s path 2 0))

/-- OTP_FAIL_LIMIT (R282). -/
def execOtpFailLimit (path : Path) (s : State) : Host.Outcome State Fault Refusal := .next (gatedBy s path Reg.BOOT_OTP_CTL (otpAsk s path 3 0))

/-- OTP_HOST_WAIT_DEFAULT (R282). -/
def execOtpHostWaitDefault (path : Path) (s : State) : Host.Outcome State Fault Refusal := .next (gatedBy s path Reg.BOOT_OTP_CTL (otpAsk s path 4 0))

/-- OTP_STUB_ENTRY (R282). -/
def execOtpStubEntry (path : Path) (arg : Fin 16) (s : State) : Host.Outcome State Fault Refusal :=
  .next (gatedBy s path Reg.BOOT_OTP_CTL (otpAsk s path 5 arg))

/-- OTP_STUB_CONFIG (R282). -/
def execOtpStubConfig (path : Path) (s : State) : Host.Outcome State Fault Refusal := .next (gatedBy s path Reg.BOOT_OTP_CTL (otpAsk s path 6 0))

/-- OTP_BOOT_SRC (R282). -/
def execOtpBootSrc (path : Path) (s : State) : Host.Outcome State Fault Refusal := .next (gatedBy s path Reg.BOOT_OTP_CTL (otpAsk s path 7 0))

/-- OTP_KEY_HASH_READ (R282). -/
def execOtpKeyHashRead (path : Path) (arg : Fin 16) (s : State) : Host.Outcome State Fault Refusal :=
  .next (gatedBy s path Reg.BOOT_OTP_CTL (otpAsk s path 8 arg))

/-- OTP_PROGRAM_DONE (R282). -/
def execOtpProgramDone (s : State) : Host.Outcome State Fault Refusal :=
  match s.otpNext with
  | none => .next s
  | some q =>
    let t : State := { s with otp := (otpAfter s.otp q).getD s.otp, otpNext := none }
    .next ((t.setFld Reg.BOOT_OTP_CTL_busy 0).setFld Reg.START_FAILS_limit t.failLimit)

end Sys2Proof.Machine
end

