-- ==== Sys2Proof/Machine/Aead.lean ====
section
/-!
DEFINITION. Machine/Aead.lean: HKDF-SHA-256 and AES-256-GCM, which R377 and R378 name; the algorithms are those of the
standards (log entry 21).
-/
namespace Sys2Proof.Machine

/-! ### HMAC and HKDF over SHA-256 (RFC 2104, RFC 5869) -/

/-- SHA-256 as 32 bytes. -/
def shaBytes (m : List Byte) : List Byte := beBytes 32 (sha256 m).toNat

/-- A key of at most 64 bytes, padded to 64 and combined with a byte. -/
def hmacPad (k : List Byte) (x : Byte) : List Byte := (k ++ List.replicate (64 - k.length) 0).map (fun b => b ^^^ x)

/-- HMAC-SHA-256 with a key of at most 64 bytes. -/
def hmac (k m : List Byte) : List Byte := shaBytes (hmacPad k 0x5C ++ shaBytes (hmacPad k 0x36 ++ m))

/-- The blocks T(i) of HKDF's expansion, from block `i` after block `t`. -/
def hkdfBlocks (prk info : List Byte) : Nat → Nat → List Byte → List Byte
  | 0, _, _ => []
  | n + 1, i, t =>
    let x := hmac prk (t ++ info ++ [BitVec.ofNat 8 i])
    x ++ hkdfBlocks prk info n (i + 1) x

/-- HKDF-SHA-256: `32 * n` bytes. -/
def hkdf (ikm salt info : List Byte) (n : Nat) : List Byte := hkdfBlocks (hmac salt ikm) info n 1 []

/-! ### AES-256 (FIPS 197) -/

/-- Multiplication by x in GF(2^8). -/
def xtime (a : Byte) : Byte := (a <<< 1) ^^^ (if a.msb then 0x1B else 0)

/-- The S-box of FIPS 197: a row for each high nibble, its byte of low nibble 0 first. -/
def sboxRows : List Nat := [
  0x637c777bf26b6fc53001672bfed7ab76, 0xca82c97dfa5947f0add4a2af9ca472c0,
  0xb7fd9326363ff7cc34a5e5f171d83115, 0x04c723c31896059a071280e2eb27b275,
  0x09832c1a1b6e5aa0523bd6b329e32f84, 0x53d100ed20fcb15b6acbbe394a4c58cf,
  0xd0efaafb434d338545f9027f503c9fa8, 0x51a3408f929d38f5bcb6da2110fff3d2,
  0xcd0c13ec5f974417c4a77e3d645d1973, 0x60814fdc222a908846eeb814de5e0bdb,
  0xe0323a0a4906245cc2d3ac629195e479, 0xe7c8376d8dd54ea96c56f4ea657aae08,
  0xba78252e1ca6b4c6e8dd741f4bbd8b8a, 0x703eb5664803f60e613557b986c11d9e,
  0xe1f8981169d98e949b1e87e9ce5528df, 0x8ca1890dbfe6426841992d0fb054bb16]

/-- The S-box. -/
def sbox (a : Byte) : Byte := BitVec.ofNat 8 (sboxRows.getD (a.toNat / 16) 0 >>> (8 * (15 - a.toNat % 16)))

/-- The bytewise sum of two blocks. -/
def xorBytes (a b : List Byte) : List Byte := a.zipWith (· ^^^ ·) b

/-- Key words 8 onward of the schedule: `w` is the list so far, newest first, `i` the next number, `rc` the round constant. -/
def keyWords : Nat → Nat → Byte → List (List Byte) → List (List Byte)
  | 0, _, _, w => w
  | n + 1, i, rc, w =>
    let t := w.headD []
    let u := if i % 8 = 0 then xorBytes ((t.drop 1 ++ t.take 1).map sbox) [rc, 0, 0, 0]
      else if i % 8 = 4 then t.map sbox else t
    keyWords n (i + 1) (if i % 8 = 0 then xtime rc else rc) (xorBytes u (w.getD 7 []) :: w)

/-- The 15 round keys of a 32-byte key. -/
def roundKeys (k : List Byte) : List (List Byte) :=
  let w := (keyWords 52 8 1 (((List.range 8).map (fun i => (k.drop (4 * i)).take 4)).reverse)).reverse
  (List.range 15).map (fun r => ((w.drop (4 * r)).take 4).flatten)

/-- ShiftRows on a block in column order. -/
def shiftRows (s : List Byte) : List Byte := (List.range 16).map (fun i => s.getD ((i + 4 * (i % 4)) % 16) 0)

/-- One column of MixColumns. -/
def mixColumn (c : List Byte) : List Byte :=
  (List.range 4).map (fun i =>
    let g (j : Nat) : Byte := c.getD ((i + j) % 4) 0
    xtime (g 0) ^^^ (xtime (g 1) ^^^ g 1) ^^^ g 2 ^^^ g 3)

/-- The rounds after the first key addition. -/
def aesRounds : List (List Byte) → List Byte → List Byte
  | [], s => s
  | [k], s => xorBytes (shiftRows (s.map sbox)) k
  | k :: ks, s =>
    let t := shiftRows (s.map sbox)
    aesRounds ks (xorBytes ((List.range 4).flatMap (fun i => mixColumn ((t.drop (4 * i)).take 4))) k)

/-- AES-256 encryption of a 16-byte block with round keys. -/
def aesBlock (rk : List (List Byte)) (b : List Byte) : List Byte := aesRounds rk.tail (xorBytes b (rk.headD []))

/-! ### GCM (NIST SP 800-38D) -/

/-- The product in GF(2^128), over the top `n` bits of `x`. -/
def ghMul : Nat → BitVec 128 → BitVec 128 → BitVec 128
  | 0, _, _ => 0
  | n + 1, x, v =>
    (if x.msb then v else 0) ^^^
      ghMul n (x <<< 1) ((v >>> 1) ^^^ (if v.getLsbD 0 then 0xE1000000000000000000000000000000 else 0))

/-- Bytes as blocks of 16, the last padded with zeros. -/
def blocks16 (b : List Byte) : List (List Byte) :=
  (List.range ((b.length + 15) / 16)).map (fun i =>
    let x := (b.drop (16 * i)).take 16
    x ++ List.replicate (16 - x.length) 0)

/-- A block as a bit vector. -/
def blockBits (b : List Byte) : BitVec 128 := BitVec.ofNat 128 (beNum b)

/-- GHASH of the additional data and the ciphertext under the hash key `h`. -/
def ghash (h : BitVec 128) (aad ct : List Byte) : BitVec 128 :=
  let len := beBytes 8 (8 * aad.length) ++ beBytes 8 (8 * ct.length)
  (blocks16 aad ++ blocks16 ct ++ [len]).foldl (fun y b => ghMul 128 (y ^^^ blockBits b) h) 0

/-- The key stream of counter `c` onward, `n` blocks, for a 12-byte nonce. -/
def ctrStream (rk : List (List Byte)) (nonce : List Byte) : Nat → Nat → List Byte
  | 0, _ => []
  | n + 1, c => aesBlock rk (nonce ++ beBytes 4 c) ++ ctrStream rk nonce n (c + 1)

/-- A text combined with the key stream: encryption and decryption alike. -/
def gcmText (rk : List (List Byte)) (nonce text : List Byte) : List Byte :=
  xorBytes text (ctrStream rk nonce ((text.length + 15) / 16) 2)

/-- The tag of a ciphertext and its additional data. -/
def gcmTag (rk : List (List Byte)) (nonce aad ct : List Byte) : List Byte :=
  let h := blockBits (aesBlock rk (List.replicate 16 0))
  xorBytes (beBytes 16 (ghash h aad ct).toNat) (aesBlock rk (nonce ++ [0, 0, 0, 1]))

/-- The round keys of a key as one value, byte 0 first. -/
def keyOf (k : BitVec 256) : List (List Byte) := roundKeys (beBytes 32 k.toNat)

end Sys2Proof.Machine
end

