-- ==== Sys2Proof/Machine/Graft.lean ====
section
/-!
DEFINITION. Machine/Graft.lean: verifications (R204, R205, R209) and grafts (R208, R210, R211, R219).
-/
namespace Sys2Proof.Machine

/-! ### ESP_LOAD_CTL (R209) -/

/-- A go in ESP_LOAD_CTL: only while ESP_STAT.state is IDLE. A graft request outside RUN is refused, and so is a GRAFT of a
partition whose reset is pending or in progress (R219) and one at a follower, since the owner starts a graft (R210; log
entry 39). -/
def espGo (s : State) (op slot part : Nat) : State :=
  if s.fld Reg.ESP_STAT_state ≠ 0 then s.setFld Reg.ESP_STAT_busy_ign 1
  else if op ≠ 0 ∧ s.boot ≠ bootRun then s.setFld Reg.ESP_STAT_refused_state 1
  else if op = 2 ∧ ((s.partOp part).isSome = true ∨ s.follows = true) then s.setFld Reg.ESP_STAT_refused_state 1
  else
    let t : State := { s with espOp := some ⟨op, slot, part, (s.reg Reg.ESP_GRAFT_SRC).toNat⟩ }
    let t := t.setFld Reg.ESP_STAT_state 1
    if op = 2 then t.setFld Reg.ESP_STAT_graft_part part else t

/-- A write of ESP_LOAD_CTL. Op 3 is not assigned, so it leaves op as it is (R8). -/
def espCtlWrite (s : State) (v : Word) : State :=
  let s := codeOr s Reg.ESP_LOAD_CTL_op (bitsOf v 16 2) 3
  let s := (s.setFld Reg.ESP_LOAD_CTL_slot (bitsOf v 8 1)).setFld Reg.ESP_LOAD_CTL_partition (bitsOf v 0 8)
  if bitsOf v 31 1 = 1 then espGo s (s.fld Reg.ESP_LOAD_CTL_op) (bitsOf v 8 1) (bitsOf v 0 8) else s

/-- VERIFY_SLOT (R209). -/
def execVerifySlot (slot : Fin 2) (s : State) : Host.Outcome State Fault Refusal :=
  .next (gated s Reg.ESP_LOAD_CTL (espCtlWrite s (BitVec.ofNat 32 (2 ^ 31 + slot.val * 256))))

/-- VERIFY_GRAFT (R209). -/
def execVerifyGraft (part : Fin 256) (s : State) : Host.Outcome State Fault Refusal :=
  .next (gated s Reg.ESP_LOAD_CTL (espCtlWrite s (BitVec.ofNat 32 (2 ^ 31 + 2 ^ 16 + part.val))))

/-- GRAFT (R210). -/
def execGraft (part : Fin 256) (s : State) : Host.Outcome State Fault Refusal :=
  .next (gated s Reg.ESP_LOAD_CTL (espCtlWrite s (BitVec.ofNat 32 (2 ^ 31 + 2 * 2 ^ 16 + part.val))))

/-! ### Verification of a graft image (R208) -/

/-- `n` bytes of DRAM from byte `a`. -/
def dramBytes (s : State) (a n : Nat) : Img := ((List.range n).map (fun i => onchipByte s 2 (a + i))).toArray

/-- The graft image at offset `src` of the graft buffer, with the room that its container leaves; none where the image names no
buffer or `src` lies beyond it (R208). -/
def graftImg (s : State) (src : Nat) : Option (Img × Nat) :=
  match graftRegion s with
  | none => none
  | some (base, len) =>
    if len < src then none
    else
      let room := len - src
      let n := u32 (dramBytes s (base + src) (min room 64)) 8
      some (dramBytes s (base + src) (min room n), room)

/-- What a graft that passes gives: the composite structure, the blocks that it names, and its length in bytes. -/
structure GraftPassed where
  str : Structure
  blocks : List Nat
  bytes : Nat

/-- Steps 7 to 28 on a graft of partition `part` (Table 08.15). -/
def verifyGraftImg (s : State) (part src : Nat) : Vfy GraftPassed :=
  match graftImg s src with
  | none => .error ⟨7, eTrunc, 3, 0x3FF, 0xFFFFFFFF⟩
  | some (img, room) => do
    let cx : ImgCtx := { part := 3, graft := true, room := room, keys := s.ownerKeys, devId := s.reg Reg.DEV_ID,
                         fwVer := s.fwVersion, strap := s.strap.toNat, hash := s.imgHash, board := s.str.board }
    checkHeader cx img
    checkDevice cx img
    let t ← checkTable cx img
    let new := readImage img t
    let str := composite s.str new t (u8 img 7)
    checkStructure { part := 3, img := img, tbl := t, graft := true, gp := u8 img 7, asked := part, str := str,
                     run := s.str, dram32 := Config.dram32, clearing := clearingBanks s }
    return ⟨settled str, if brings t 0x50 0 then new.blocks.map (·.block) else [], u32 img 8⟩

/-! ### The end of a verification (R205) -/

/-- A verification beside audio has ended: its verdict, the result, IDLE, and event ESP. -/
def espEnd (s : State) (v : VErr) (passed : Bool) : State :=
  let t : State := { showVerdict s v with espOp := none }
  raiseEvent ((t.setFld Reg.ESP_STAT_result (if passed then 1 else 2)).setFld Reg.ESP_STAT_state 0) 8

/-- A graft that has passed becomes pending: s = a + 2 + pl; a leader tells its follower (R210). A reset of the partition
that is pending or in progress keeps it from being applied (R219). -/
def graftPending (s : State) (part : Nat) (g : GraftPassed) : State :=
  let s := espEnd s (passVerdict 3) true
  if (s.partOp part).isSome then s.setFld Reg.ESP_STAT_refused_state 1
  else
    let st := s.tick + 2 + s.pl
    let t : State := { s with partOps := s.partOps ++ [(⟨part, true, st, none, g.bytes⟩ : PartOp)],
                              graftNew := some (g.str, g.blocks) }
    let t := t.setFld Reg.ESP_STAT_state 2
    forward t (fun n => .graft n part st)

/-- The follower takes the leader's graft with boundary `st`: it verifies its own copy of the image (R210). A copy that fails is
not applied (log entry 39). -/
def graftItem (s : State) (part st : Nat) : State :=
  match verifyGraftImg s part (s.reg Reg.ESP_GRAFT_SRC).toNat with
  | .error e => espEnd s e false
  | .ok g =>
    let t : State := { espEnd s (passVerdict 3) true with
      partOps := s.partOps ++ [(⟨part, true, st, none, g.bytes⟩ : PartOp)], graftNew := some (g.str, g.blocks) }
    (t.setFld Reg.ESP_STAT_graft_part part).setFld Reg.ESP_STAT_state 2

/-- ESP_IMG_HASH, ESP_SCHEMA and the structure of a bundle that has passed at boot. -/
def takeImage (s : State) (p : Passed) : State :=
  let b := beBytes 32 p.hash.toNat
  let s : State := { s with str := p.str, fwVersion := p.fw, phases := [] }
  let s := (List.range 8).foldl (fun s n =>
    s.setReg (Reg.ESP_IMG_HASH n) (BitVec.ofNat 32 (leNat ((b.drop (4 * n)).take 4)))) s
  showGens (s.setReg Reg.ESP_SCHEMA (BitVec.ofNat 32 p.str.schema))

/-- The end of V1 (Table 11.3): an uncorrectable flash read error, which leaves ESP_ERR, ESP_ERR_REC and result as they were (DESIGN
CHOICE, log entry 155), a refusal, or LOAD. -/
def bootVerified (s : State) (flashErr : Option Nat) : State :=
  match flashErr with
  | some b => countedFailure s 3 b
  | none =>
    match verifyBundle s (slotImg s.bootFlash (s.fld Reg.BOOT_CAUSE_slot)) with
    | .error e =>
      let s := raiseEvent ((showVerdict s e).setFld Reg.ESP_STAT_result 2) 8
      countedFailure s 2 (e.step * 256 + e.part * 16 + e.code)
    | .ok p => (takeImage (raiseEvent ((showVerdict s (passVerdict 2)).setFld Reg.ESP_STAT_result 1) 8) p).setBoot bootLoad

/-- A slot that cannot be read fails its verification; what ESP_ERR shows then is free (log entry 40). -/
def slotUnread (s : State) : State :=
  let f (i : Nat) : Nat := (Config.freeValue (s.freeCtr + i)).toNat
  espEnd { s with freeCtr := s.freeCtr + 3 } ⟨f 0 / 256 % 256, f 0 % 16, f 1 % 4, f 1 / 4 % 1024, f 2⟩ false

/-- The end of a verification beside audio. -/
def besideVerified (s : State) (o : EspOp) (flashErr : Option Nat) : State :=
  if o.op = 0 then
    if flashErr.isSome then slotUnread s
    else
      match verifyBundle s (slotImg s.bootFlash o.slot) with
      | .error e => espEnd s e false
      | .ok _ => espEnd s (passVerdict 2) true
  else
    match verifyGraftImg s o.part o.src with
    | .error e => espEnd s e false
    | .ok g => if o.op = 2 then graftPending s o.part g else espEnd s (passVerdict 3) true

/-- VERIFY_COMPLETE (R204, R205): `flashErr` is the 64 KiB block whose read failed. -/
def execVerifyComplete (flashErr : Option (Fin 1024)) (s : State) : Host.Outcome State Fault Refusal :=
  let fe := flashErr.map (·.val)
  if s.boot = bootVerify then .next (bootVerified s fe)
  else
    match s.espOp with
    | none => .next s
    | some o => .next (besideVerified s o fe)

/-! ### The boundaries of a graft (Table 08.19) -/

/-- Boundary s, step 2: the partition reset; GRAFT_LOADING; ESP_GRAFT_TICK. -/
def doGraftReset (s : State) (p : Nat) : State :=
  match s.partOp p with
  | some o =>
    if o.graft = true ∧ o.done = none ∧ o.start ≤ s.tick then
      let s := resetActions s p
      let s := setPartOp s { o with done := some (graftDone s p s.tick o.bytes) }
      (s.setFld Reg.ESP_STAT_state 3).setReg Reg.ESP_GRAFT_TICK (BitVec.ofNat 32 s.tick)
    else s
  | none => s

/-- GRAFT_RESET (R210). -/
def execGraftReset (p : Fin 256) (s : State) : Host.Outcome State Fault Refusal := .next (doGraftReset s p.val)

/-- In tick c − 1 the blocks that the graft names take their initial values in both copies, in every holder of the new
structure and in the parameter store. -/
def graftBlocks (s : State) (p : Nat) : State :=
  match s.partOp p, s.graftNew with
  | some o, some (str, bs) =>
    if o.graft = true ∧ o.done = some (s.tick + 1) then
      let t := (str.blocks.filter (fun b => bs.contains b.block)).foldl loadBlock { s with str := str }
      { t with str := s.str }
    else s
  | _, _ => s

/-- Bridges keep their history across a graft that leaves them; those of the graft start anew (R147). -/
def keptHist (s : State) (new : Structure) : Store (List (List Word)) :=
  s.io.bridgeHist.filter (fun h => new.bridges.any (fun b =>
    bridgeKey b == h.1 && s.str.bridges.any (fun q => { q with loc := b.loc } == b)))

/-- The new structure applies: programs, lines and routes; empty input numbers have no silence count (R401). -/
def applyStructure (s : State) (p : Nat) (str : Structure) : State :=
  let has (e : Nat × Nat) : Bool := str.io.any (fun r => r.num == e.1)
  let t : State := { s with str := str, io := { s.io with bridgeHist := keptHist s str },
                            silence := s.silence.filter has,
                            silent := s.silent.filter (fun e => str.io.any (fun r => r.num == e.1)) }
  showOversize ((t.partEngines p).foldl (fun t e =>
    match t.prog e with
    | some r => t.setEngine e { t.engine e with prog := progStore r.words }
    | none => t) t)

/-- Boundary c, step 2: the graft completes. -/
def doGraftDone (s : State) (p : Nat) : State :=
  match s.partOp p with
  | some o =>
    if o.graft = true ∧ o.done.any (fun c => decide (c ≤ s.tick)) then
      let s := match s.graftNew with
        | some (str, _) => applyStructure s p { str with handed := s.str.handed }
        | none => s
      let s : State := { s with muteEnd := storeSet 0 s.muteEnd p (s.tick + 1), graftNew := none }
      let s := (s.partEngines p).foldl startEngine (cellsToTarget (dropPartOp s p) p)
      (s.setFld Reg.ESP_STAT_state 0).setReg Reg.ESP_GRAFT_DONE (BitVec.ofNat 32 s.tick)
    else s
  | none => s

/-- GRAFT_COMPLETE (R210). -/
def execGraftComplete (p : Fin 256) (s : State) : Host.Outcome State Fault Refusal := .next (doGraftDone s p.val)

end Sys2Proof.Machine
end

