-- ==== Sys2Proof/Machine/Link.lean ====
section
/-!
DEFINITION. Machine/Link.lean: a Pleach link frame arrives and delivers its items (R232 to R239, R252, R253).
-/
namespace Sys2Proof.Machine

/-- Pairs as a store. -/
def pairStore {α : Type} [DecidableEq α] (d : α) (l : List (Nat × α)) : Store α :=
  l.foldl (fun m e => storeSet d m e.1 e.2) []

/-! ### Items of the control stream (Table 10.3 class 4) -/

/-- The twin takes what a leader forwards: a follower, and a joiner whose joining tick is known (R185, R252). -/
def takesItems (s : State) : Bool := s.follows || (s.ripe == ripeJoining && s.twin.joinTick.isSome)

/-- A forwarded item with number `ctl` has been taken: it is confirmed, and what would undo it is kept (R185, R248). Items of a join
carry the number 0 and are not confirmed. -/
def tookItem (s : State) (ctl : Nat) (u : Undo) : State :=
  if ctl = 0 then s
  else sendCtl { s with twin := { s.twin with taken := s.twin.taken ++ [(ctl, u)] } } (.confirm ctl)

/-- The follower books a forwarded group exactly as the leader did, and confirms it (R185). -/
def takeGroup (s : State) (ctl p : Nat) (who : SessId) (ta tick : Nat) (lease : Option (Nat × Nat)) (ents : List Entry) :
    State :=
  let w := ents.length
  let n := groupTicks w (s.share p)
  let g : Group :=
    { part := p, who := peerOf who, seq := 0, ents := ents, ta := ta, tick := tick, lease := lease,
      stage := bookRange s p w n (ta + 2 + s.pl), echo := bookRange s p w n tick,
      nStaged := 0, nEchoed := 0, phase := .staged, waiting := false, forwarded := true, ctl := ctl }
  sendCtl { s with groups := s.groups ++ [g] } (.confirm ctl)

/-- A lease entry as the leader holds it (R185, R252). A grant clears the broken flags of its blocks (R179); the entry's next
serial follows the leader's. -/
def takeLease (s : State) (ctl i : Nat) (l : Lease) : State :=
  let old := storeFind s.leases i
  let new : Bool := match old with | some o => o.serial != l.serial | none => true
  let m := if new then l.blocks.foldl (fun m b => storeSet false m b false) s.broken else s.broken
  let next := (l.serial + 65537 - (Config.leaseSerial0 i).toNat) % 65536
  tookItem { s with leases := storeIns i { l with who := peerOf l.who } s.leases, broken := m,
                    leaseSerial := storeSet 0 s.leaseSerial i next } ctl (.lease i old)

/-- The number of an unsent confirmation. -/
def confirmNo : CtlItem → Option Nat
  | .confirm n => some n
  | _ => none

/-- The last forwarded item that this twin has confirmed: the last one taken, or the one before the first whose confirmation no frame
has carried yet (R248). -/
def lastConfirmed (s : State) : Nat :=
  match (s.ctlOut.drop (s.twin.sentTo - s.twin.acked)).findSome? confirmNo with
  | some n => n - 1
  | none => ((s.groups.map (·.ctl)) ++ (s.twin.taken.map (·.1))).foldl max 0

/-- A cluster's power state as a joiner takes it (R252). -/
def takePower (s : State) (c : Nat) (sleeping : Bool) (wakeAt : Nat) : State :=
  let s := s.setFld ⟨Reg.PWR_SIL_STAT, 8 + c, 1⟩ sleeping.toNat
  let s := s.setDomSt (c + 2) (if sleeping then (if wakeAt = 0 then domStRet else domStWaking) else domStOn)
  { s with wakeAt := storeSet 0 s.wakeAt c wakeAt }

/-- The words that a group has staged, of one block or of all, go into the shadow copies (R252; log entry 45). -/
def stageAgain (s : State) (b : Option Nat) (g : Group) : State :=
  if g.phase = GroupPhase.staged then
    (g.ents.take g.nStaged).foldl (fun s e =>
      if b.all (fun x => x == e.block) then writeCopy s (1 - s.flip e.block) e.block e.word e.val else s) s
  else s

/-- One block of the parameter copy is written (R253): both copies everywhere, and the flip bit; what groups in flight have staged
stays staged (log entry 45). -/
def writeParam (s : State) (b flip : Nat) (ws : List Word) : State :=
  let t := ((List.range 64).foldl (fun s w => writeBoth s b w (ws.getD w 0)) s).setFlip b (flip % 2)
  t.groups.foldl (fun t g => stageAgain t (some b) g) t

/-- The words of some entries of one block in place of its own. -/
def overlay (ws : List Word) (es : List Entry) : List Word :=
  (List.range 64).map (fun w => es.foldl (fun v e => if e.word = w then e.val else v) (ws.getD w 0))

/-- A group that flips changes the copies that still wait to be written as it changes the parameters (R253: what was forwarded after a
block's copy overwrites it). -/
def flipParams (s : State) : State :=
  let due := s.groups.filter (fun g => g.phase == GroupPhase.staged && decide (g.tick ≤ s.tick))
  { s with twin := { s.twin with params := s.twin.params.map (fun q => due.foldl (fun q g =>
      if groupNames g q.1 then (q.1, 1 - q.2.1 % 2, overlay q.2.2 (g.ents.filter (fun e => e.block == q.1))) else q) q) } }

/-- The waiting copies are written in order, each once its 128 words fit into the commit-window words that bookings and earlier copies
of the tick leave free (R253). `used`: words taken by partition. -/
def writeParams (s : State) : Nat → Store Nat → State
  | 0, _ => s
  | n + 1, used =>
    match s.twin.params with
    | [] => s
    | q :: r =>
      let p := ((s.block q.1).map (·.partition)).getD 0
      let u := storeGet 0 used p
      if 128 ≤ freeWords s p - u then
        writeParams (writeParam { s with twin := { s.twin with params := r } } q.1 q.2.1 q.2.2) n (storeSet 0 used p (u + 128))
      else s

/-- A group in flight at the partner, with its staged words and bookings (R252). -/
def takeInflight (s : State) (g : Group) : State :=
  stageAgain { s with groups := s.groups ++ [{ g with who := peerOf g.who, waiting := false, forwarded := true }] } none g

/-- A reset that the leader has accepted (R216). -/
def takeReset (s : State) (ctl p r : Nat) : State :=
  if (s.partOp p).isSome then s
  else tookItem (scheduleAbort { s with partOps := s.partOps ++ [(⟨p, false, r, none, 0⟩ : PartOp)] } p r) ctl (.reset p)

/-- A PART_RESET request that reached the follower (R216). -/
def relayedReset (s : State) (p : Nat) : State :=
  match resetVerdict s p with
  | .accepted => acceptReset s p
  | .absorbed => s.setFld (Reg.PART_STAT_absorbed p) 1
  | .refused => s.setFld Reg.PART_RESET_refused 1

/-- One item of the partner's control stream. -/
def linkItem (s : State) : CtlItem → State
  | .group ctl p who ta tick lease ents => if takesItems s then takeGroup s ctl p who ta tick lease ents else s
  | .lease ctl i l => if takesItems s then takeLease s ctl i l else s
  | .partReset ctl p r => if takesItems s then takeReset s ctl p r else s
  | .relayReset p => if s.leads then relayedReset s p else s
  | .graft ctl p st => if takesItems s then tookItem (graftItem s p st) ctl (.graft p) else s
  | .confirm ctl => confirmUpTo s ctl
  | .relay part n epoch reqId q =>
    if s.leads then conclude (serve s part ⟨n, epoch, true⟩ q) (.peer n (reqOp q) reqId) else s
  | .relayed n op reqId r => deliver s (.session n op reqId) r
  | .submit es count => if s.leads then conclude (serveSubmit s ⟨4096, 0, true⟩ es count) .peerSubmit else s
  | .submitted r => deliver s .submit r
  | .stream ctl key tick ws => if takesItems s then tookItem (addStreamWrite s key tick ws) ctl (.stream key tick) else s
  | .cluster ctl tick a v =>
    if takesItems s then tookItem { s with cluWrites := s.cluWrites ++ [(tick, a, v)] } ctl (.cluster tick a) else s
  | .sessionEnd n epoch => { s with twin := { s.twin with peerEnded := s.twin.peerEnded ++ [(n, epoch)] } }
  | .takeover => takeoverNotice s
  | .detach => detachAfter s (lastConfirmed s)
  | .handover h => { s with twin := { s.twin with hoPend := some h } }
  | .joinTick j => if s.ripe = ripeJoining then { s with twin := { s.twin with joinTick := some j } } else s
  | .inflight g => takeInflight s g
  | .power c sleeping w => takePower s c sleeping w
  | .silence n count => { s with silence := storeSet 0 s.silence n count }
  | .param b flip ws => { s with twin := { s.twin with params := s.twin.params ++ [(b, flip, ws)] } }
  | .origin o => if s.owns then s else putOrigin s o

/-! ### The heartbeat (R232, R234, R239) -/

/-- What the heartbeat shows of the partner: its state, and one eighth of its image hash in each of 8 consecutive frames, the part
that the tick count selects (log entry 129). -/
def heartbeat (s : State) (f : LinkFrame) : State :=
  let t := s.setFld Reg.TWN_STAT_link_down 0
  let run := if s.twin.hashRun ≠ 0 ∧ f.tick = s.twin.lastTick + 1 then s.twin.hashRun + 1 else 1
  { t with twin := { t.twin with silent := 0, heard := true, partnerBoot := f.boot, partnerRipe := f.ripe,
                                 partnerOwner := f.owner, partnerFault := f.fault, lastTick := f.tick, hashRun := run,
                                 hashParts := storeSet 0 t.twin.hashParts (f.tick.toNat % 8) f.hashPart } }

/-- The image check (R234, R259): equal (0), compatible (1) or neither (2), once the partner's whole hash has come; until then the
verdict stands as it was. -/
def imageVerdict (s : State) (f : LinkFrame) : Nat :=
  if s.twin.hashRun < 8 then s.twin.image
  else if (List.range 8).all (fun i => storeGet 0 s.twin.hashParts i == s.reg (Reg.ESP_IMG_HASH i)) then 0
  else if f.compat = compatRecords s.str then 1
  else 2

/-- Shows the verdict; with images that are neither a twin that does not own keeps its outputs floated (R234). -/
def showImage (s : State) (f : LinkFrame) : State :=
  let v := imageVerdict s f
  let t := (s.setFld Reg.TWN_STAT_mismatch (if v = 2 then 1 else 0)).setFld Reg.TWN_STAT_mixed (if v = 1 then 1 else 0)
  { t with twin := { t.twin with image := v }, floated := t.floated || (v == 2 && !t.owns) }

/-- A received tick count that differs from this twin's own (R239): a follower is detached. A joiner that has not yet adopted the
owner's count (R252) is not compared, nor a twin whose tick does not run (log entry 132). -/
def checkTick (s : State) (f : LinkFrame) : State :=
  if s.tickOn = true ∧ f.tick ≠ BitVec.ofNat 32 s.tick ∧ (s.twin.paired = true ∨
      (s.boot = bootRun ∧ f.boot.val = bootRun ∧ s.ripe ≠ ripeJoining ∧ f.ripe.val ≠ ripeJoining)) then
    let t := s.setFld Reg.TWN_STAT_tick_mismatch 1
    if s.owns ∨ s.twin.paired = false then t else leavePair t
  else s

/-- Items of our control stream that the partner acknowledges are not sent again (R233). -/
def dropAcked (s : State) (n : Nat) : State :=
  { s with ctlOut := s.ctlOut.drop (n - s.twin.acked), twin := { s.twin with acked := max s.twin.acked n } }

/-- What the owner shares with this tick's frame (R237): measurements, hot states, network words. -/
def takeShared (s : State) (f : LinkFrame) : State :=
  if f.owner ∧ s.owns = false ∧ (s.twin.paired ∨ s.ripe = ripeJoining) then
    { s with twin := { s.twin with gotOwner := true, asrcMeas := pairStore 0 f.asrc, ownerHot := f.hot.foldl (fun m e => storeIns e.1 e.2 m) [],
                                   ownerNet := some (pairStore 0 f.net) } }
  else s

/-- The control-stream items of a frame, delivered once and in the order sent (R233): those taken before are passed over; a frame that
starts after a gap brings none. -/
def takeItems (s : State) (f : LinkFrame) : State :=
  if f.items = [] ∨ s.twin.rxSeq + 1 < f.seq then s
  else
    let t : State := { s with twin := { s.twin with rxSeq := max s.twin.rxSeq (f.seq + f.items.length - 1) } }
    (f.items.drop (s.twin.rxSeq + 1 - f.seq)).foldl linkItem t

/-- A frame whose CRC holds, from a twin of the other role. -/
def linkBody (s : State) (f : LinkFrame) : State :=
  let s := checkTick (showImage s f) f
  let s := dropAcked s f.acked
  let s := if s.twin.paired then { s with twin := { s.twin with partCrc := f.crcs.foldl (fun m e => storeIns e.1 e.2 m) [] } } else s
  takeItems (takeShared s f) f

/-- Two twins of one role find each other (R232): an owner gives up its roles at step 1 of the next boundary and runs as a detached
twin; outputs float. -/
def roleClash (s : State) : State :=
  if s.owns then { s with twin := { s.twin with ownNext := some false } } else { s with floated := true }

/-- A frame received in LOAD, before the tick runs, shows lanes that are locked and deskewed, and is answered by a heartbeat (R236; log
entry 157). -/
def loadAnswer (s : State) : State :=
  if s.tickOn then s else loadFrame ((s.setFld Reg.TWN_LINK_lanes_up 15).setFld Reg.TWN_LINK_aligned 1)

/-- A link frame (R230, R233, R239): while the PLEACH domain is on. One that fails its CRC is discarded whole. Twins of one role never
pair (R232). -/
def linkFrame (s : State) (f : LinkFrame) : State :=
  if s.twinMode = false ∨ s.domOn 13 = false ∨ s.serving = false ∧ s.boot ≠ bootLoad then s
  else if f.crcOk = false then s.satInc Reg.TWN_LINK_crc_err
  else
    let clash := f.roleB.toNat == s.fld Reg.TWN_STAT_role
    let t := (heartbeat s f).setFld Reg.TWN_LINK_role_clash clash.toNat
    twnEvent s (loadAnswer (if clash then roleClash t else linkBody t f))

/-- LINK_FRAME (R233). -/
def execLinkFrame (f : LinkFrame) (s : State) : Host.Outcome State Fault Refusal := .next (linkFrame s f)

/-! ### The frame that this twin sends (R233, R237, R239, R240, R255, R256) -/

/-- Bytes of a frame that classes 2 to 5 may fill: the payload of Table 10.1 less the frame's CRC-32C, the heartbeat and the output
CRCs. -/
def frameRoom (s : State) : Nat :=
  190650 / 2 ^ s.fld Reg.TICK_RATE_mult - 4 - 32 - 4 * (twinGroups s).length

/-- Words that the network input channels bring in a tick. -/
def netInWords (s : State) : Nat :=
  ((s.str.io.filter (fun r => r.dir == 0 && r.kind == 0)).map (fun r => r.k)).sum

/-- The items of the control stream that fit into `room` bytes, from the oldest on (R233). -/
def fitItems : List CtlItem → Nat → List CtlItem
  | [], _ => []
  | i :: r, room => if Config.ctlBytes i ≤ room then i :: fitItems r (room - Config.ctlBytes i) else []

/-- Bytes of the control-stream items of a frame. -/
def itemBytes (l : List CtlItem) : Nat := (l.map Config.ctlBytes).sum

/-- The tier-2 lines that a bulk copy may start on: their writer is equal (R256). -/
def bulkLines (s : State) : List LineRec :=
  s.str.lines.filter (fun r => r.tier == 2 && s.eqSince (16 * r.cluster + r.writer) != 0 &&
    !s.twin.bulkDone.contains (1024 * r.cluster + r.line))

/-- One tick's share of the bulk copy: the next words of the first line that waits, as far as the graft reservation and the frame carry
them (R256). The reservation is the graft's own while one is in progress. -/
def bulkShare (s : State) (room : Nat) : State × List (Nat × Nat × Nat × List Word) :=
  if s.owns = false ∨ s.twin.copyFrom.isNone ∨ s.fld Reg.TWN_CTL_bulk_en = 0 ∨ s.fld Reg.ESP_STAT_state ≠ 0 then (s, [])
  else match bulkLines s with
    | [] => (s, [])
    | r :: _ =>
      let n := min (min (128 * s.str.board.graftBursts) (room / 4)) (r.length - s.twin.bulkAt)
      let ws := (List.range n).map (fun i => lineWord s r (s.twin.bulkAt + i))
      let last := s.twin.bulkAt + n
      let t : State := if r.length ≤ last then
          { s with twin := { s.twin with bulkAt := 0, bulkDone := s.twin.bulkDone ++ [1024 * r.cluster + r.line] } }
        else { s with twin := { s.twin with bulkAt := last } }
      (t, if n = 0 then [] else [(r.cluster, r.line, s.twin.bulkAt, ws)])

/-- Bytes of a copied word on the link: a guard's and a gain cell's state are four words, any other is one (R254). -/
def copyWordBytes : CopyWord → Nat
  | .guard _ _ _ => 16
  | .cell _ _ _ _ _ _ _ => 16
  | _ => 4

/-- Bytes of the copy-window stream of a frame. -/
def copyBytes (l : List CopyWord) : Nat := (l.map copyWordBytes).sum

/-- Bytes of the bulk copy of a frame. -/
def bulkBytes (l : List (Nat × Nat × Nat × List Word)) : Nat := (l.map (fun b => 4 * b.2.2.2.length)).sum

/-- The link frame of the tick that begins (R233): the classes of Table 10.3 in order, items of class 3 in this frame or not at all,
the control stream from its oldest unacknowledged item as far as it fits, the bulk copy in what remains. The copy-window stream
carries the set of this tick (R255). The network words join at the capture instant, in the room kept for them, the CRCs of Quickset
groups and further items of the control stream in the course of the tick. -/
def formFrame (s : State) : State :=
  if s.twinMode = false ∨ s.tickOn = false ∨ s.domOn 13 = false then { s with twin := { s.twin with sent := none } }
  else
    let copy := if s.owns ∧ s.twin.copyFrom.isSome then readSet s s.twin.copyNow else []
    let room := frameRoom s - copyBytes copy
    let shares := s.owns && decide (48 ≤ room)
    let room := if s.owns then room - 48 - 4 * netInWords s else room
    let items := fitItems s.ctlOut room
    let b := bulkShare s (room - itemBytes items)
    let f : LinkFrame :=
      { heartbeatOf s s.tick with
        crcs := s.twin.ownCrc, asrc := if shares then s.io.asrcOwn else [],
        hot := if shares then s.hot.map (fun h => (h.1, h.2 % 2)) else [], items := items }
    let t := b.1
    let t : State := { t with twin := { t.twin with
      sent := some { frame := f, copy := copy, bulk := b.2, room := room - itemBytes items - bulkBytes b.2 },
      sentTo := max t.twin.sentTo (t.twin.acked + items.length) } }
    if copy = [] then t else markEqual t t.twin.copyNow

/-- The owner's network words of the tick join its frame at the capture instant, if they fit (R237). -/
def shareNet (s : State) (words : Store Word) : State :=
  match s.twin.sent with
  | none => s
  | some x =>
    if s.owns ∧ 48 + 4 * words.length ≤ frameRoom s - copyBytes x.copy then
      { s with twin := { s.twin with sent := some { x with frame := { x.frame with net := words } } } }
    else s

end Sys2Proof.Machine
end

