-- ==== Sys2Proof/Machine/Session.lean ====
section
/-!
DEFINITION. Machine/Session.lean: MSI-X, doorbell pages, Audon frames and sessions, partition keys (R371, R372, R376 to
R383).
-/
namespace Sys2Proof.Machine

/-- The endpoint runs (R369): the PCIE domain is on, from the end of C1. -/
def pcieOn (s : State) : Bool := c1Done s && s.domOn 12

/-- What a write to BAR2 or BAR4 with a row of its own does: nothing while the endpoint does not run (R369). -/
def overPcie (s t : State) : State := if pcieOn s then t else s

/-! ### MSI-X (R371) -/

/-- Vector `v` is unmasked: a pending bit sends one message. -/
def unmask (s : State) (v : Nat) : State :=
  let s : State := { s with msix := { s.msix with open' := storeSet false s.msix.open' v true } }
  if s.msix.pend.contains v then
    { s with msix := { s.msix with pend := s.msix.pend.filter (fun x => x != v), sent := s.msix.sent ++ [v] } }
  else s

/-- MSIX_UNMASK (R371). -/
def execMsixUnmask (vector : Fin 64) (s : State) : Host.Outcome State Fault Refusal :=
  .next (overPcie s (unmask s vector.val))

/-! ### Mailbox doorbells (Table 17.2, Table 17.4, MBX_DB) -/

/-- MBX_DB.sv from PCIe or the local bus. -/
def dbSv (s : State) (path : Path) : State :=
  match path with
  | .pcie => raiseEvent s 1
  | .lb => raiseEvent s 2
  | _ => s

/-- MBX_DB.host from the supervisor. -/
def dbHost (s : State) : State := if s.fld Reg.MBX_CFG_host_en = 1 then sendMsix s (s.fld Reg.MBX_CFG_host_vec) else s

/-- MBX_DB.lb from the supervisor. -/
def dbLb (s : State) : State := { s with lb := { s.lb with svDb := true } }

/-- MBX_DB_SV (R375). -/
def execMbxDbSv (path : Path) (s : State) : Host.Outcome State Fault Refusal := .next (gatedBy s path Reg.MBX_DB (dbSv s path))

/-- MBX_DB_HOST (R371). -/
def execMbxDbHost (s : State) : Host.Outcome State Fault Refusal := .next (gated s Reg.MBX_DB (dbHost s))

/-- MBX_DB_LB (R374). -/
def execMbxDbLb (s : State) : Host.Outcome State Fault Refusal := .next (gated s Reg.MBX_DB (dbLb s))

/-! ### Doorbell pages (Table 17.3, R372) -/

/-- Page `p`. -/
def State.page (s : State) (p : Nat) : Page := storeGet {} s.pages p

/-- Stores page `p`. -/
def State.setPage (s : State) (p : Nat) (x : Page) : State := { s with pages := storeSet {} s.pages p x }

/-- The page answers: its partition is declared. -/
def pageLive (s : State) (p : Nat) : Bool := (s.part p).isSome

/-- Ring size in bytes. -/
def ringSize (log2 : Nat) : Nat := 4096 * 2 ^ log2

/-- A ring lies inside the partition's host window (SES_PWIN, SES_PCFG). -/
def inHostWin (s : State) (p base size : Nat) : Bool :=
  let w : HostWin := storeGet ⟨0, 0⟩ s.hostWins p
  decide (w.base.toNat ≤ base ∧ base + size ≤ w.base.toNat + 4096 * bitsOf w.cfg 0 20)

/-- A write of the page's word at 0x010. While en is 1 only en is written; en from 0 to 1 sets the four offsets to 0, and is
refused with win_err where a ring lies outside the window. A ring size that is not assigned leaves its field as it is. -/
def pageCtl (s : State) (p : Nat) (en irq : Bool) (rx tx : Nat) : State :=
  let q := s.page p
  if pageLive s p = false then s
  else if q.en then if en then s else s.setPage p { q with en := false, run := false }
  else
    let q : Page := { q with irqEn := irq, rxLog2 := if rx < 9 then rx else q.rxLog2, txLog2 := if tx < 9 then tx else q.txLog2 }
    if en = false then s.setPage p q
    else if inHostWin s p q.txBase.toNat (ringSize q.txLog2) && inHostWin s p q.rxBase.toNat (ringSize q.rxLog2) then
      s.setPage p { q with en := true, run := true, txTail := 0, txHead := 0, rxTail := 0, rxHead := 0 }
    else s.setPage p { q with winErr := true }

/-- DOORBELL_ENABLE (R372). -/
def execDoorbellEnable (p : Fin 256) (irqEn : Bool) (rxLog2 txLog2 : BitVec 4) (s : State) :
    Host.Outcome State Fault Refusal := .next (overPcie s (pageCtl s p true irqEn rxLog2.toNat txLog2.toNat))

/-- DOORBELL_DISABLE (R372). -/
def execDoorbellDisable (p : Fin 256) (irqEn : Bool) (rxLog2 txLog2 : BitVec 4) (s : State) :
    Host.Outcome State Fault Refusal := .next (overPcie s (pageCtl s p false irqEn rxLog2.toNat txLog2.toNat))

/-- A ring offset as written: bits 19:4, since it is a multiple of 16 (Table 17.3; DESIGN CHOICE, log entry 162). -/
def ringOffset (v : Word) : Nat := bitsOf v 4 16 * 16

/-- A write of tx_tail: the doorbell. -/
def txTailWrite (s : State) (p : Nat) (v : Word) : State :=
  if pageLive s p then s.setPage p { s.page p with txTail := ringOffset v } else s

/-- DOORBELL_TX_TAIL (R372). -/
def execDoorbellTxTail (p : Fin 256) (v : Word) (s : State) : Host.Outcome State Fault Refusal :=
  .next (overPcie s (txTailWrite s p v))

/-! ### Frames (Table 17.7, R377) -/

/-- Little-endian bytes of `n`, `k` of them. -/
def leBytes (k n : Nat) : List Byte := (List.range k).map (fun i => BitVec.ofNat 8 (n / 256 ^ i))

/-- Bytes `o` to `o + n - 1` of a frame as a number. -/
def frameNat (b : List Byte) (o n : Nat) : Nat := leNat ((b.drop o).take n)

/-- A header: type, whole length, session, partition, seq. -/
def frameHeader (ty len session part seq : Nat) : List Byte :=
  [1, BitVec.ofNat 8 ty] ++ leBytes 2 len ++ leBytes 2 session ++ [BitVec.ofNat 8 part, 0] ++ leBytes 8 seq

/-- The nonce of a sequence number. -/
def frameNonce (seq : Nat) : List Byte := [0, 0, 0, 0] ++ leBytes 8 seq

/-- The body of an ANS (R381). -/
def answerBody (a : Answer) : List Byte :=
  [BitVec.ofNat 8 (a.op % 128 + 128), BitVec.ofNat 8 a.reply.status, 0, 0] ++ leBytes 4 a.reqId ++ leBytes 8 a.reply.tickA ++
    leBytes 8 a.reply.tickB ++ leBytes 4 a.reply.arg ++ a.reply.data.flatMap wordBytes

/-- The body of an OPEN_RESP (R378). -/
def openBody (a : Answer) : List Byte := beBytes 16 a.nd.toNat ++ leBytes 2 a.epoch ++ [BitVec.ofNat 8 a.reply.status, 0]

/-- An answer as the bytes of its frame (R377): OPEN_RESP in plaintext under the tag, ANS as ciphertext. -/
def answerFrame (a : Answer) : List Byte :=
  let rk := keyOf a.key
  let n := frameNonce a.frame
  if a.op = 0 then
    let b := openBody a
    let h := frameHeader 1 (32 + b.length) a.session a.part a.frame
    h ++ b ++ gcmTag rk n (h ++ b) []
  else
    let b := answerBody a
    let h := frameHeader 3 (32 + b.length) a.session a.part a.frame
    let c := gcmText rk n b
    h ++ c ++ gcmTag rk n h c

/-! ### Answers into a ring (R372) -/

/-- The next multiple of 16. -/
def pad16 (n : Nat) : Nat := (n + 15) / 16 * 16

/-- Bytes that the answer ring may still take: an empty ring has equal offsets, so one unit of 16 stays free (log entry 41). -/
def rxRoom (q : Page) : Nat :=
  let n := ringSize q.rxLog2
  n - 16 - (q.rxTail + n - q.rxHead) % n

/-- Writes a frame at rx_tail. Where it would cross the ring's end the device first writes a PAD frame there (log entry 41).
Answers the bytes taken, none where they do not fit. -/
def ringPut (s : State) (p : Nat) (f : List Byte) : Option State :=
  let q := s.page p
  let n := ringSize q.rxLog2
  let len := pad16 f.length
  let body := f ++ List.replicate (len - f.length) 0
  let skip := if n < q.rxTail + len then n - q.rxTail else 0
  if rxRoom q < skip + len then none
  else
    let base := q.rxBase.toNat
    let s := if skip = 0 then s else putBytes s 0 (base + q.rxTail) (frameHeader 15 skip 0xFFFF p 0)
    let t := if skip = 0 then q.rxTail else 0
    some ((putBytes s 0 (base + t) body).setPage p { q with rxTail := (t + len) % n })

/-- The first answer that waits for page `p` is written once it fits, with an MSI-X where irq_en is set (R371, R372). -/
def answerPut (s : State) (p : Nat) : State :=
  if (s.page p).run = false ∨ s.domOn 12 = false then s
  else
    match s.bellOut.find? (fun a => a.part == p) with
    | none => s
    | some a =>
      match ringPut s p (answerFrame a) with
      | none => s
      | some t =>
        let t : State := { t with bellOut := t.bellOut.erase a }
        if (t.page p).irqEn then sendMsix t (bitsOf (storeGet ⟨0, 0⟩ t.hostWins p : HostWin).cfg 24 6) else t

/-- ANSWER_WRITE (R372). -/
def execAnswerWrite (p : Fin 256) (s : State) : Host.Outcome State Fault Refusal := .next (answerPut s p)

/-! ### Frames as they arrive (R376, R380) -/

/-- A frame that has arrived: the partition of its entry or page, its transport, its source, its bytes. -/
structure Inbound where
  part : Nat
  bell : Bool
  addr : Nat
  bytes : List Byte

/-- The type byte of the frame that a source gives next. -/
def nextType (s : State) : AudonSrc → Option Nat
  | .udp => s.net.audonIn.head?.map (fun a => frameNat a.2.2 1 1)
  | .bell _ b => some (frameNat b 1 1)

/-- tx_tail as an offset in the ring: the bits of it below the ring's size (DESIGN CHOICE, log entry 162). -/
def ringTail (q : Page) : Nat := q.txTail % ringSize q.txLog2

/-- The next frame of page `p`'s request ring (R372): a PAD skips to the ring's end, which lies past tx_tail where the frames do not
wrap (log entry 41). A frame whose length field is below 32, a PAD's too, or that reaches past tx_tail or the ring's end sets fmt_err and
stops the rings; while an answer waits for the answer ring no request is taken. -/
def ringTake (s : State) (p : Nat) (b : List Byte) : State × Option Inbound :=
  let q := s.page p
  let n := ringSize q.txLog2
  let stop := s.setPage p { q with fmtErr := true, en := false, run := false }
  if pageLive s p = false ∨ q.run = false ∨ s.domOn 12 = false ∨ q.txHead = ringTail q ∨ s.bellOut.any (fun a => a.part == p) then
    (s, none)
  else
    let len := frameNat b 2 2
    let limit := if q.txHead < ringTail q then ringTail q else n
    if len < 32 ∨ limit < q.txHead + len then (stop, none)
    else if frameNat b 1 1 = 15 then (if q.txHead < ringTail q then stop else s.setPage p { q with txHead := 0 }, none)
    else (s.setPage p { q with txHead := (q.txHead + pad16 len) % n }, some ⟨p, true, 0, b.take len⟩)

/-- The next frame of a source. -/
def frameTake (s : State) : AudonSrc → State × Option Inbound
  | .udp =>
    match s.net.audonIn with
    | [] => (s, none)
    | a :: r => ({ s with net := { s.net with audonIn := r } }, some ⟨a.1, false, a.2.1, a.2.2⟩)
  | .bell p b => ringTake s p b

/-- The header is one that Table 17.7 allows on this transport. -/
def headerOk (f : Inbound) (ty : Nat) : Bool :=
  decide (32 ≤ f.bytes.length) && frameNat f.bytes 0 1 == 1 && frameNat f.bytes 1 1 == ty &&
    frameNat f.bytes 2 2 == f.bytes.length && frameNat f.bytes 6 1 == f.part

/-- A frame is discarded and counted. -/
def authFail (s : State) : State := s.satInc Reg.SES_CNT0_auth_fail

/-- Frames reach the session engine: from LOAD on, where the partitions, pages and keys are those of the image that loads. -/
def sesOn (s : State) : Bool := s.boot == bootLoad || s.boot == bootRipening || s.boot == bootRun

/-- Shows the sessions: SES_STAT, and PART_STATp.sessions of partition `p`. -/
def showSes (s : State) (p : Nat) : State :=
  let s := (s.setFld Reg.SES_STAT_open s.sessions.length).setFld Reg.SES_STAT_open_pend s.openReqs.length
  s.setFld (Reg.PART_STAT_sessions p) (s.sessions.filter (fun e => e.2.part == p)).length

/-! ### Opening (R378) -/

/-- The ASCII bytes of "AUDON1". -/
def audon1 : List Byte := [0x41, 0x55, 0x44, 0x4F, 0x4E, 0x31]

/-- k_req. -/
def keyReq (k : KeySlot) (nc : List Byte) (p : Nat) : List Byte :=
  hkdf (beBytes 32 k.key.toNat) nc (audon1 ++ [0x52, BitVec.ofNat 8 p]) 1

/-- k_c2d and k_d2c. -/
def keyPair (k : KeySlot) (nc nd : List Byte) (p n epoch : Nat) : BitVec 256 × BitVec 256 :=
  let x := hkdf (beBytes 32 k.key.toNat) (nc ++ nd) (audon1 ++ [BitVec.ofNat 8 p] ++ leBytes 2 n ++ leBytes 2 epoch) 2
  (BitVec.ofNat 256 (beNum (x.take 32)), BitVec.ofNat 256 (beNum (x.drop 32)))

/-- The key slot of partition `p`. -/
def State.keySlot (s : State) (p : Nat) : KeySlot := storeGet {} s.keys p

/-- An OPEN_REQ is authentic: its form, the slot, its key_id, its tag. -/
def openOk (s : State) (f : Inbound) : Bool :=
  let k := s.keySlot f.part
  let b := f.bytes
  headerOk f 0 && b.length == 52 && frameNat b 4 2 == 0xFFFF && frameNat b 8 8 == 0 && k.valid &&
    frameNat b 16 4 == k.id.toNat &&
    gcmTag (roundKeys (keyReq k ((b.drop 20).take 16) f.part)) (frameNonce 0) (b.take 36) [] == b.drop 36

/-- An OPEN_REQ is checked, and held for the supervisor's decision. -/
def openArrives (s : State) (f : Inbound) : State :=
  if openOk s f = false then authFail s
  else if 256 ≤ s.openReqs.length then s.satInc Reg.SES_CNT1_open_drop
  else
    let r : OpenReq := { part := f.part, bell := f.bell, addr := f.addr, ms := 0,
                         nc := BitVec.ofNat 128 (beNum ((f.bytes.drop 20).take 16)) }
    raiseEvent (showSes { s with openReqs := s.openReqs ++ [r] } f.part) 5

/-- OPEN_REQ (R378). -/
def execOpenReq (src : AudonSrc) (s : State) : Host.Outcome State Fault Refusal :=
  if sesOn s = false ∨ nextType s src ≠ some 0 then .next s
  else
    match frameTake s src with
    | (t, some f) => .next (openArrives t f)
    | (t, none) => .next t

/-- The lowest free session number from `n` on. -/
def freeSession (s : State) : Nat → Nat → Nat
  | 0, n => n
  | k + 1, n => if (storeFind s.sessions n).isSome then freeSession s k (n + 1) else n

/-- The supervisor's decision on a request (R378). -/
def openStatus (s : State) (p : Nat) : Nat :=
  let m := ((s.part p).map (·.maxSessions)).getD 0
  if s.boot ≠ bootRun then 7
  else if m = 0 then 2
  else if m ≤ (s.sessions.filter (fun e => e.2.part == p)).length ∨ 4096 ≤ s.sessions.length then 1
  else 0

/-- Sends an OPEN_RESP on its transport. -/
def sendOpen (s : State) (a : Answer) : State :=
  if a.bell then { s with bellOut := s.bellOut ++ [a] } else { s with udpOut := s.udpOut ++ [a] }

/-- The oldest request is decided while firmware runs: OPEN_RESP is sent, and on ACCEPTED the session is open. Nd is free
(log entry 3). -/
def openDecide (s : State) : State :=
  match s.openReqs with
  | [] => s
  | r :: rest =>
    if s.fld Reg.SV_STAT_state ≠ 1 then s
    else
      let st := openStatus s r.part
      let n := if st = 0 then freeSession s s.sessions.length 0 else 0xFFFF
      let epoch := if st = 0 then (storeGet 0 s.epochs n + 1) % 65536 else 0
      let nd : BitVec 128 := Config.freeValue s.freeCtr ++ Config.freeValue (s.freeCtr + 1) ++
        Config.freeValue (s.freeCtr + 2) ++ Config.freeValue (s.freeCtr + 3)
      let k := keyPair (s.keySlot r.part) (beBytes 16 r.nc.toNat) (beBytes 16 nd.toNat) r.part n epoch
      let a : Answer := { bell := r.bell, part := r.part, session := n, frame := 0, op := 0, reqId := 0,
                          reply := { status := st }, key := k.2, addr := r.addr, nd := nd, epoch := epoch }
      let t := noteStatus { s with openReqs := rest, freeCtr := s.freeCtr + 4 } st
      let e : Session := { part := r.part, epoch := epoch, bell := r.bell, addr := r.addr, high := 0, seen := [], txSeq := 0,
                           idle := 0, ending := false, kIn := k.1, kOut := k.2 }
      let t : State := if st = 0 then
          { t with epochs := storeSet 0 t.epochs n epoch, sessions := storeIns n e t.sessions }
        else t
      sendOpen (showSes t r.part) a

/-- OPEN_DECISION (R378). -/
def execOpenDecision (s : State) : Host.Outcome State Fault Refusal := .next (openDecide s)

/-- OPEN_REQUEST_TIMEOUT (R378): a request held for 2 s is discarded. -/
def execOpenRequestTimeout (s : State) : Host.Outcome State Fault Refusal :=
  match s.openReqs with
  | [] => .next s
  | r :: rest =>
    if r.ms < 2000 then .next s
    else .next (showSes (({ s with openReqs := rest } : State).satInc Reg.SES_CNT1_open_drop) r.part)

/-! ### Requests (R379 to R381) -/

/-- R379: the sequence number is new. -/
def seqFresh (e : Session) (q : Nat) : Bool :=
  decide (e.high < q) || (decide (e.high < q + 64) && decide (1 ≤ q) && !e.seen.contains q)

/-- The session after an accepted number. -/
def seqTaken (e : Session) (q : Nat) : Session :=
  let h := max e.high q
  { e with high := h, seen := (q :: e.seen).filter (fun x => decide (h < x + 64)) }

/-- Entries of a COMMIT. -/
def readEntries (b : List Byte) : Nat → List RawEntry
  | 0 => []
  | n + 1 =>
    ⟨BitVec.ofNat 16 (frameNat b 0 2), BitVec.ofNat 8 (frameNat b 2 1), BitVec.ofNat 8 (frameNat b 3 1),
      BitVec.ofNat 32 (frameNat b 4 4)⟩ :: readEntries (b.drop 8) n

/-- The operation of a decrypted body (Table 17.8); none for an unknown op or a length that does not match the count. -/
def readReq (b : List Byte) : Option AudonReq :=
  let n := frameNat b 2 2
  let w (o : Nat) : Word := BitVec.ofNat 32 (frameNat b o 4)
  let fits (x : Nat) : Bool := b.length == x
  match frameNat b 0 1 with
  | 1 => if fits (16 + 8 * n) then some (.commit (w 8) (w 12) (readEntries (b.drop 16) n)) else none
  | 2 => if fits 12 then
      some (.read (BitVec.ofNat 16 (frameNat b 8 2)) (BitVec.ofNat 8 (frameNat b 10 1)) (BitVec.ofNat 8 (frameNat b 11 1))
        (BitVec.ofNat 16 n)) else none
  | 3 => if fits (12 + 2 * n) then
      some (.acquire (w 8) ((List.range n).map (fun i => BitVec.ofNat 16 (frameNat b (12 + 2 * i) 2)))) else none
  | 4 => if fits 16 then some (.renew (w 8) (w 12)) else none
  | 5 => if fits 12 then some (.release (w 8)) else none
  | 6 => if fits 8 then some .reset else none
  | 7 => if fits 8 then some .close else none
  | 8 => if fits 8 then some .ping else none
  | _ => none

/-- The entries that a COMMIT body holds whole, as many as its count names. -/
def wholeEntries (b : List Byte) : List RawEntry := readEntries (b.drop 16) (min (frameNat b 2 2) ((b.length - 16) / 8))

/-- A decrypted body of session `n` is served, or refused as malformed (R381). -/
def serveBody (s : State) (n : Nat) (b : List Byte) : State :=
  let id := frameNat b 4 4
  match readReq b with
  | some q => request n (BitVec.ofNat 32 id) (BitVec.ofNat 8 (frameNat b 1 1)) q s
  | none => deliver s (.session n (if frameNat b 0 1 = 0 then 128 else frameNat b 0 1) id)
      { status := 2, arg := if frameNat b 0 1 = 1 then malformedAt (wholeEntries b) else 0 }

/-- A REQ of session `n` that has passed its tag and R379. -/
def reqAccepted (s : State) (n : Nat) (e : Session) (f : Inbound) (q : Nat) : State :=
  let e' := { seqTaken e q with idle := 0, addr := f.addr }
  let s : State := { s with sessions := storeIns n e' s.sessions }
  let s := if 2 ^ 64 ≤ q + 1 then endSoon s n else s
  let ct := (f.bytes.take (f.bytes.length - 16)).drop 16
  serveBody s n (gcmText (keyOf e.kIn) (frameNonce q) ct)

/-- A REQ arrives (R379, R381): without an open session of its partition and transport it is discarded and counted; one that
fails its tag or R379 is answered REFUSED_AUTH. -/
def reqArrives (s : State) (f : Inbound) : State :=
  let n := frameNat f.bytes 4 2
  let q := frameNat f.bytes 8 8
  match (if headerOk f 2 then storeFind s.sessions n else none) with
  | none => authFail s
  | some e =>
    let b := f.bytes
    let ct := (b.take (b.length - 16)).drop 16
    if e.part ≠ f.part ∨ e.bell ≠ f.bell then authFail s
    else if gcmTag (keyOf e.kIn) (frameNonce q) (b.take 16) ct == b.drop (b.length - 16) && seqFresh e q then
      reqAccepted s n e f q
    else deliver (authFail s) (.session n 128 0) { status := 6, arg := q % 2 ^ 32 }

/-- AUDON_FRAME_VERIFIED (R380): the next frame of a source that is no OPEN_REQ. -/
def execAudonFrameVerified (src : AudonSrc) (s : State) : Host.Outcome State Fault Refusal :=
  if sesOn s = false ∨ nextType s src = some 0 then .next s
  else
    match frameTake s src with
    | (t, some f) => .next (reqArrives t f)
    | (t, none) => .next t

/-! ### The end of a session (R382) -/

/-- SESSION_IDLE_TIMEOUT (R382): no authenticated frame for SES_CFG.idle ms; 0 = none. -/
def execSessionIdleTimeout (sess : Fin 4096) (s : State) : Host.Outcome State Fault Refusal :=
  match storeFind s.sessions sess.val with
  | none => .next s
  | some e => .next (if s.fld Reg.SES_CFG_idle ≠ 0 ∧ s.fld Reg.SES_CFG_idle ≤ e.idle then endSoon s sess.val else s)

/-- Step 2 of a boundary: sessions that end go, and their leases break (R181, R382). -/
def endSessions (s : State) : State :=
  let gone := s.sessions.filter (fun e => e.2.ending)
  let t : State := { s with sessions := s.sessions.filter (fun e => !e.2.ending) }
  gone.foldl (fun s e =>
    let w : SessId := ⟨e.1, e.2.epoch, false⟩
    let s := breakLeases s (fun l => l.who == w)
    showSes { s with remembered := s.remembered.filter (fun r => r.who != w) } e.2.part) t

/-- SES_CFG.cnt_clr. -/
def clearSesCounts (s : State) : State := (s.resetReg Reg.SES_CNT0).resetReg Reg.SES_CNT1

/-- SES_CNT_CLR (R380). -/
def execSesCntClr (s : State) : Host.Outcome State Fault Refusal := .next (gated s Reg.SES_CFG (clearSesCounts s))

/-! ### Partition keys (R383) -/

/-- The key in SES_KEY_DATAn, byte 0 first. -/
def stagedKey (s : State) : BitVec 256 :=
  BitVec.ofNat 256 (beNum ((List.range 8).flatMap (fun n => wordBytes (s.reg (Reg.SES_KEY_DATA n)))))

/-- A request for a key write or erase is refused (R383): the state is neither RUN nor WAIT_HOST, or one is in progress. -/
def keyRefused (s : State) : Bool := (s.boot != bootRun && s.boot != bootWaitHost) || s.keyOp.isSome

/-- A go in SES_KEY_CTL. -/
def keyGo (s : State) : State :=
  let p := s.fld Reg.SES_KEY_CTL_partition
  let k : KeySlot := if s.fld Reg.SES_KEY_CTL_op = 1 then {} else ⟨stagedKey s, s.reg Reg.SES_KEY_ID, true⟩
  ({ s with keyOp := some (p, k) } : State).setFld Reg.SES_KEY_CTL_busy 1

/-- A write of SES_KEY_CTL; the supervisor's is ignored whole, and a refused request changes nothing but the refused bit. -/
def keyCtlWrite (s : State) (path : Path) (v : Word) : State :=
  if ownerPath path = false then s
  else
    let s := if bitsOf v 29 1 = 1 then s.setFld Reg.SES_KEY_CTL_refused 0 else s
    if bitsOf v 31 1 = 1 ∧ keyRefused s = true then s.setFld Reg.SES_KEY_CTL_refused 1
    else
      let s := (s.setFld Reg.SES_KEY_CTL_op (bitsOf v 8 1)).setFld Reg.SES_KEY_CTL_partition (bitsOf v 0 8)
      if bitsOf v 31 1 = 1 then keyGo s else s

/-- KEY_WRITE (R383). -/
def execKeyWrite (path : Path) (slot : Fin 256) (s : State) : Host.Outcome State Fault Refusal :=
  .next (gatedBy s path Reg.SES_KEY_CTL (keyCtlWrite s path (BitVec.ofNat 32 (2 ^ 31 + slot.val))))

/-- KEY_ERASE (R383). -/
def execKeyErase (path : Path) (slot : Fin 256) (s : State) : Host.Outcome State Fault Refusal :=
  .next (gatedBy s path Reg.SES_KEY_CTL (keyCtlWrite s path (BitVec.ofNat 32 (2 ^ 31 + 256 + slot.val))))

/-- Requests to open a session of partition `p` that are held were checked under its old key: they are discarded as frames that fail
the check of R378 (R212; DEDUCED, log entry 160). -/
def dropOpen (s : State) (p : Nat) : State :=
  let gone := s.openReqs.filter (fun r => r.part == p)
  showSes (gone.foldl (fun s _ => authFail s) { s with openReqs := s.openReqs.filter (fun r => r.part != p) }) p

/-- KEY_WRITE_DONE (R382, R383): the slot holds its new contents, SES_KEY_DATAn are cleared, and the partition's sessions end
at the next boundary. -/
def execKeyWriteDone (s : State) : Host.Outcome State Fault Refusal :=
  match s.keyOp with
  | none => .next s
  | some (p, k) =>
    let t : State := { s with keys := storeSet {} s.keys p k, keyOp := none }
    let t := (List.range 8).foldl (fun s n => s.setReg (Reg.SES_KEY_DATA n) 0) (t.setFld Reg.SES_KEY_CTL_busy 0)
    let t := dropOpen t p
    .next ((t.sessions.filter (fun e => e.2.part == p)).foldl (fun s e => endSoon s e.1) t)

end Sys2Proof.Machine
end

