-- ==== Sys2Proof/Machine/Control.lean ====
section
/-!
DEFINITION. Machine/Control.lean: reads and writes of the control space, the doorbell pages, the MSI-X table and the
local-bus locations (R6 to R8, R132, R133, R158, R265, R348, R370 to R375, R384, R385).
-/
namespace Sys2Proof.Machine

/-! ### Windows of the control space (Table 07.1) -/

/-- The parameter-store window without (0x0100_0000), or with, its alias windows. -/
def inParams (a : Nat) : Bool := decide (0x1000000 ≤ a ∧ a < 0x1800000)
def inAlias (a : Nat) : Bool := decide (0x1800000 ≤ a ∧ a < 0x2800000)

/-! ### Plain registers (Table 00.4, R7) -/

/-- What a write of `v` leaves in a register that holds `x`, by one of its fields. -/
def fieldWrite (locked : Bool) (v x : Word) (f : RegField) : Word :=
  match f.acs with
  | .rw => putBits x f.lo f.w (bitsOf v f.lo f.w)
  | .rws => putBits x f.lo f.w (bitsOf v f.lo f.w)
  | .lock => if locked then x else putBits x f.lo f.w (bitsOf v f.lo f.w)
  | .w1c => putBits x f.lo f.w (((BitVec.ofNat 32 (bitsOf x f.lo f.w)) &&& ~~~(BitVec.ofNat 32 (bitsOf v f.lo f.w))).toNat)
  | .ro => x
  | .wo => x

/-- What a read shows of one field: a write-only field reads 0. -/
def fieldRead (x y : Word) (f : RegField) : Word :=
  match f.acs with
  | .wo => y
  | _ => putBits y f.lo f.w (bitsOf x f.lo f.w)

/-- A write by the access types alone; an offset that no register occupies ignores it (R384). -/
def plainWrite (s : State) (a : Nat) (v : Word) : State :=
  match regRow a with
  | none => s
  | some r => s.setReg a (r.fields.foldl (fieldWrite s.locked v) (s.reg a))

/-- A value as a read of register `a` shows it: reserved and write-only fields read 0 (R7); an offset that no register
occupies reads 0 (R384). -/
def plainShow (a : Nat) (x : Word) : Word :=
  match regRow a with
  | none => 0
  | some r => r.fields.foldl (fieldRead x) 0

/-! ### Mailbox RAM (R375) -/

/-- 32-bit word `w` of the mailbox RAM. -/
def mbxRead (s : State) (w : Nat) : Word :=
  (s.mbxAt (2 * w)).setWidth 32 ||| ((s.mbxAt (2 * w + 1)).setWidth 32 <<< 16)

/-- A fresh free word (log entry 3). -/
def freshWord (s : State) : State × Word := ({ s with freeCtr := s.freeCtr + 1 }, Config.freeValue s.freeCtr)

/-- The check of a read finds an uncorrectable error: its data is free (log entry 161); a corrected one shows nowhere (R66). -/
def eccRead (ecc : Ecc) (r : State × Word) : State × Word := if ecc = .uncorrectable then freshWord r.1 else r

/-- A half-word with the bytes of `v` that `be` enables. -/
def mergeHalf (x v : Half) (be : BitVec 2) : Half :=
  (if be.getLsbD 1 then v &&& 0xFF00 else x &&& 0xFF00) ||| (if be.getLsbD 0 then v &&& 0xFF else x &&& 0xFF)

/-- A write of 32-bit word `w` of the mailbox RAM with byte enables. -/
def mbxPut (s : State) (w : Nat) (v : Word) (be : BitVec 4) : State :=
  let s := s.setMbx (2 * w) (mergeHalf (s.mbxAt (2 * w)) (v.setWidth 16) (be.setWidth 2))
  s.setMbx (2 * w + 1) (mergeHalf (s.mbxAt (2 * w + 1)) ((v >>> 16).setWidth 16) ((be >>> 2).setWidth 2))

/-- A host's write of 32-bit word `w` of the mailbox RAM with byte enables; the supervisor's reach any word. While a flash-service
request is busy, a host's request written to the service area is ignored (R331; log entry 28). A write of part of a word merges into it
(R375); where that read finds an uncorrectable error, the other bytes are free (log entry 161). -/
def mbxWrite (s : State) (path : Path) (w : Nat) (v : Word) (be : BitVec 4) (ecc : Ecc := .clean) : State :=
  if 0xF800 ≤ w ∧ serviceBusy s = true ∧ ownerPath path = true then s
  else if ecc = .uncorrectable ∧ be ≠ 15 then
    let f := freshWord s
    mbxPut (mbxPut f.1 w f.2 15) w v be
  else mbxPut s w v be

/-- A collision on mailbox word `w` (R375, Table 17.6). -/
def collide (s : State) (w kind : Nat) : State :=
  let s := ((s.setFld Reg.MBX_STAT_collide 1).setFld Reg.MBX_STAT_kind kind).setFld Reg.MBX_STAT_word w
  { s with lb := { s.lb with collide := true, busy := true } }

/-- Shows `v` as the data of the last read on a path. -/
def showRead (s : State) (path : Path) (v : Word) : State :=
  { s with readData := storeSet 0 s.readData (pathNum path) v }

/-- What a PCIe access to mailbox word `w` in the cycle of a local-bus access does besides colliding (Table 17.6). -/
def lbMeets (s : State) (w : Nat) (write : Bool) : LbMeet → State
  | .alone _ => s
  | .pcieRead ecc =>
    if write then
      let f := freshWord s
      showRead (collide f.1 w 2) .pcie f.2
    else
      let r := eccRead ecc (s, mbxRead s w)
      showRead r.1 .pcie r.2
  | .pcieWrite v be ecc => mbxWrite (collide s w (if write then 1 else 3)) .pcie w v be ecc

/-- What the check of the word finds. -/
def meetEcc : LbMeet → Ecc
  | .alone e => e
  | .pcieRead e => e
  | .pcieWrite _ _ e => e

/-- A local-bus write of the bytes `be` of mailbox word `w`; a PCIe write to the same word in that cycle stands instead. -/
def lbMbxWrite (s : State) (w : Nat) (v : Word) (be : BitVec 4) (m : LbMeet) : State :=
  match m with
  | .pcieWrite _ _ _ => lbMeets s w true m
  | .alone _ => lbMeets (mbxWrite s .lb w v be (meetEcc m)) w true m
  | .pcieRead _ => lbMeets (mbxWrite s .lb w v be (meetEcc m)) w true m

/-- A local-bus read of mailbox word `w`; in the cycle of a PCIe write to it the data is undefined. -/
def lbMbxRead (s : State) (w : Nat) (m : LbMeet) : State × Word :=
  match m with
  | .pcieWrite _ _ _ =>
    let f := freshWord s
    (lbMeets f.1 w false m, f.2)
  | .alone e => eccRead e (s, mbxRead s w)
  | .pcieRead e => eccRead e (lbMeets s w false m, mbxRead s w)

/-! ### The parameter-store window (Table 07.1, R132, R133, R158) -/

/-- Word at byte `o` of the window; the commit queues' words are free (R158). -/
def paramRead (s : State) (o : Nat) : State × Word :=
  if o < 0x600000 then (s, s.pstAt (o / 256 % 2) (o / 512) (o % 256 / 4))
  else if o < 0x7F8000 then freshWord s
  else (s, storeGet 0 s.subm ((o - 0x7F8000) / 4))

/-- A write at byte `o` of the window: `f` gives the new word from the old. -/
def paramWrite (s : State) (o : Nat) (f : Word → Word) : State :=
  if o < 0x7F8000 then s.setFld Reg.CMT_STAT_wr_denied 1
  else
    let k := (o - 0x7F8000) / 4
    { s with subm := storeSet 0 s.subm k (f (storeGet 0 s.subm k)) }

/-- A write of `v` at byte `o` of an alias window (R133): permitted where a plain write is (R158); where the read of the word finds an
uncorrectable error it stays as it is. Of a plain read of the parameter store the spec names no report of one. -/
def aliasParam (s : State) (o : Nat) (f : Word → Word) (ecc : Ecc) : State :=
  if 0x7F8000 ≤ o ∧ ecc = .uncorrectable then s else paramWrite s o f

/-- A write of `v` through a bit-set alias, or a bit-clear alias (R133). -/
def aliasWord (clear : Bool) (v x : Word) : Word := if clear then x &&& ~~~v else x ||| v

/-! ### Registers with an effect of their own -/

/-- A write of SV_FLASH_CMD by core `c`; 0 and 3 are not assigned (R8). -/
def flashCmdWrite (s : State) (c : Nat) (v : Word) : State :=
  let s := if bitsOf v 0 2 = 1 ∨ bitsOf v 0 2 = 2 then s.setFld Reg.SV_FLASH_CMD_op (bitsOf v 0 2) else s
  if bitsOf v 31 1 = 1 then flashGo s c (s.fld Reg.SV_FLASH_CMD_op) else s

/-- The core of a supervisor path. -/
def pathCore : Path → Option Nat
  | .sv0 => some 0
  | .sv1 => some 1
  | .pcie => none
  | .lb => none

/-- The DEV/BOOT block. -/
def devWrite (s : State) (path : Path) (a : Nat) (v : Word) : State :=
  if a = Reg.BOOT_CTL then bootCtlWrite s path v
  else if a = Reg.SLOT_ACTIVE then slotActiveSet s (bitsOf v 0 2)
  else if a = Reg.BOOT_OTP_CTL then otpCtlWrite s path v
  else if a = Reg.SV_STAT ∨ a < Reg.SV_WDT_CTL ∨ a = Reg.SV_WDT_STAT then plainWrite s a v
  else
    match pathCore path with
    | none => s
    | some c =>
      if a = Reg.SV_WDT_CTL then (if 10 ≤ bitsOf v 0 14 ∧ bitsOf v 0 14 ≤ 10000 then plainWrite s a v else s)
      else if a = Reg.SV_WDT_KICK then kickWrite s (v &&& 0xFFFF)
      else if a = Reg.SV_FLASH_CMD then flashCmdWrite s c v
      else plainWrite s a v

/-- The CLK block. The supervisor alone chooses the reference source (R17, Table 01.3). -/
def clkWrite (s : State) (path : Path) (a : Nat) (v : Word) : State :=
  if a = Reg.CLK_REFSEL then (if ownerPath path then s else refselWrite s v)
  else if a = Reg.CLK_PLLA_CTL then pllaCtl s v
  else if Reg.CLK_OUT_CTL 0 ≤ a ∧ a < Reg.CLK_OUT_CTL 8 then
    clkOutWrite s ((a - Reg.CLK_OUT_CTL 0) / 8) ((a - Reg.CLK_OUT_CTL 0) % 8 == 4) v
  else plainWrite s a v

/-- The PWR block. -/
def pwrWrite (s : State) (a : Nat) (v : Word) : State :=
  if clusterControl a then clusterWrite s a v
  else if a < Reg.PWR_DOM_CTL 17 then domCtlWrite s ((a - Reg.PWR_DOM_CTL 0) / 4) v
  else if a = Reg.PWR_CTL then (if bitsOf v 0 1 = 1 then clearPwrCounts s else s)
  else plainWrite s a v

/-- The MON block. -/
def monWrite (s : State) (a : Nat) (v : Word) : State :=
  if a = Reg.MON_THERM_CTL then
    let s := plainWrite s a v
    if bitsOf v 31 1 = 1 then clearPeak s else s
  else if Reg.MON_AMON_CTL 0 ≤ a ∧ a < Reg.MON_AMON_CTL 8 then amonCtlWrite s ((a - Reg.MON_AMON_CTL 0) / 4) v
  else plainWrite s a v

/-- The CMT block. -/
def cmtWrite (s : State) (a : Nat) (v : Word) : State :=
  if a = Reg.CMT_SUBMIT then submitWrite s v
  else if a = Reg.LEASE_SEL then leaseSel s v
  else if a = Reg.CMT_CTL then (if bitsOf v 0 1 = 1 then s.setFld Reg.CMT_GC_STAT_timeouts 0 else s)
  else plainWrite s a v

/-- A write of TWN_CTL. -/
def twnCtlWrite (s : State) (v : Word) : State :=
  let s := (s.setFld Reg.TWN_CTL_settle (bitsOf v 8 16)).setFld Reg.TWN_CTL_bulk_en (bitsOf v 0 1)
  let s := if bitsOf v 30 1 = 1 then clearDiverge s else s
  let s := if bitsOf v 29 1 = 1 then twinLeave s else s
  if bitsOf v 31 1 = 1 then handoverGo s else s

/-- The supervisor resumes the channels of `mask` (R346). -/
def restartMask (s : State) (mask : Word) : State :=
  (List.range 32).foldl (fun s n => if bitsOf mask n 1 = 1 then resumeChan s n else s) s

/-- A register of DMA channel `n` at offset `o`: only CTL and FILL_DEC act unless the channel is IDLE or FAULT (R348). -/
def chanWrite (s : State) (n o a : Nat) (v : Word) : State :=
  if o = 0 then dmaCtl s n v
  else if o = 0x28 then fillSub s n (bitsOf v 0 24)
  else if s.chanSt n ≠ dmaIdle ∧ s.chanSt n ≠ dmaFault then s
  else
    let t := plainWrite s a v
    if o = 4 ∧ bitsOf v 20 2 = 3 then t.setFld (Reg.DMA_CH_CFG_pace n) (s.fld (Reg.DMA_CH_CFG_pace n))
    else if o = 0x10 ∧ bitsOf v 30 2 = 3 then t.setFld (Reg.DMA_CH_RING_SIZE_space n) (s.fld (Reg.DMA_CH_RING_SIZE_space n))
    else t

/-- The DMA block. -/
def dmaWrite (s : State) (path : Path) (a : Nat) (v : Word) : State :=
  if a = Reg.DMA_RESTART then (if ownerPath path then s else restartMask s v)
  else if a = Reg.DMA_CTL then (if bitsOf v 0 1 = 1 then clearDmaCounts s else s)
  else if Reg.DMA_CH_CTL 0 ≤ a ∧ a < Reg.DMA_CH_CTL 32 then
    chanWrite s ((a - Reg.DMA_CH_CTL 0) / 0x40) ((a - Reg.DMA_CH_CTL 0) % 0x40) a v
  else plainWrite s a v

/-- The port blocks TDM, AES and QS. -/
def portWrite (s : State) (a : Nat) (v : Word) : State :=
  if a = Reg.TDM_CTL then (if bitsOf v 0 1 = 1 then clearTdmCounts s else s)
  else if a = Reg.AES_CTL then (if bitsOf v 0 1 = 1 then clearAesCounts s else s)
  else if a = Reg.QS_CTL then (if bitsOf v 0 1 = 1 then clearQsCounts s else s)
  else plainWrite s a v

/-- A write of NET_STR_CMD (R301). -/
def strCmdWrite (s : State) (v : Word) : State :=
  let s := s.setFld Reg.NET_STR_CMD_op (bitsOf v 30 1)
  if bitsOf v 31 1 = 0 then s else if bitsOf v 30 1 = 1 then streamWrite s else streamRead s

/-- A write of NET_STRWw: reserved bits read 0 (R7), and a field of word 0 keeps its value when the code written is not assigned (R8,
Tables 13.4 and 13.7). -/
def strwWrite (s : State) (w : Nat) (v : Word) : State :=
  let a := Reg.NET_STRW w
  if w = 0 then
    let old := s.reg a
    let s := s.setReg a ((old &&& 0x7F000000) ||| (v &&& strMask 0 &&& 0x80FFFFFF))
    codeOr (codeOr (codeOr s ⟨a, 29, 2⟩ (bitsOf v 29 2) 3) ⟨a, 27, 2⟩ (bitsOf v 27 2) 3) ⟨a, 24, 3⟩ (bitsOf v 24 3) 5
  else s.setReg a (v &&& strMask w)

/-- The NET block. -/
def netWrite (s : State) (a : Nat) (v : Word) : State :=
  if a = Reg.NET_CTL then netCtlWrite s v
  else if Reg.NET_STRW 0 ≤ a ∧ a < Reg.NET_STRW 8 then strwWrite s ((a - Reg.NET_STRW 0) / 4) v
  else if a = Reg.NET_STR_CMD then strCmdWrite s v
  else if a = Reg.NET_PTP_ADJ then ptpAdj s v
  else if a = Reg.NET_PTP_STEP then ptpStep s v
  else plainWrite s a v

/-- The MEM block. -/
def memWrite (s : State) (path : Path) (a : Nat) (v : Word) : State :=
  if a < Reg.MEM_BANK_OWNER 384 then
    if ownerPath path then s else bankOwnerWrite s ((a - Reg.MEM_BANK_OWNER 0) / 4) v
  else if Reg.MEM_BANK_PWR 0 ≤ a ∧ a < Reg.MEM_BANK_PWR 384 then bankPwrWrite s ((a - Reg.MEM_BANK_PWR 0) / 4) v
  else if a = Reg.MEM_CTL then (if bitsOf v 0 1 = 1 then clearMemCounts s else s)
  else plainWrite s a v

/-- A write of MBX_DB: sv from PCIe or the local bus, host and lb from the supervisor. -/
def mbxDbWrite (s : State) (path : Path) (v : Word) : State :=
  if ownerPath path then (if bitsOf v 0 1 = 1 then dbSv s path else s)
  else
    let s := if bitsOf v 1 1 = 1 then dbHost s else s
    if bitsOf v 2 1 = 1 then dbLb s else s

/-- The filter entry that SES_FILT_SEL selects, with one of its words written. -/
def filtWrite (s : State) (i : Nat) (v : Word) : State :=
  let k := s.fld Reg.SES_FILT_SEL_entry
  let e := storeGet [0, 0, 0] s.net.filt k
  { s with net := { s.net with filt := storeSet [0, 0, 0] s.net.filt k (e.set i (plainShow (Reg.SES_FILT0 + 4 * i) v)) } }

/-- The low or high word of a 64-bit value replaced. -/
def putHalf64 (x : BitVec 64) (high : Bool) (v : Word) : BitVec 64 :=
  if high then (v.setWidth 64 <<< 32) ||| (x.setWidth 32).setWidth 64 else (x >>> 32 <<< 32) ||| v.setWidth 64

/-- The host window that SES_PSEL selects. -/
def selWin (s : State) : HostWin := storeGet {} s.hostWins (s.fld Reg.SES_PSEL_partition)

/-- Stores the host window that SES_PSEL selects. -/
def setSelWin (s : State) (w : HostWin) : State :=
  { s with hostWins := storeSet {} s.hostWins (s.fld Reg.SES_PSEL_partition) w }

/-- The MBX block. The key registers never take the supervisor's writes (R383). -/
def mbxBlockWrite (s : State) (path : Path) (a : Nat) (v : Word) : State :=
  if a = Reg.MBX_DB then mbxDbWrite s path v
  else if a = Reg.SES_CFG then
    let s := plainWrite s a v
    if bitsOf v 31 1 = 1 then clearSesCounts s else s
  else if Reg.SES_FILT0 ≤ a ∧ a ≤ Reg.SES_FILT2 then filtWrite s ((a - Reg.SES_FILT0) / 4) v
  else if a = Reg.SES_PCFG then setSelWin s { selWin s with cfg := plainShow a v }
  else if a = Reg.SES_PWIN0 ∨ a = Reg.SES_PWIN1 then
    setSelWin s { selWin s with base := putHalf64 (selWin s).base (a == Reg.SES_PWIN1) v }
  else if a = Reg.SES_KEY_CTL then keyCtlWrite s path v
  else if a = Reg.SES_KEY_ID ∨ (Reg.SES_KEY_DATA 0 ≤ a ∧ a < Reg.SES_KEY_DATA 8) then
    if ownerPath path then s.setReg a v else s
  else plainWrite s a v

/-- The ENG block of cluster `c` at offset `o`. -/
def engWrite (s : State) (c o a : Nat) (v : Word) : State :=
  if o = 0 then
    if bitsOf v 31 1 = 1 then
      ((s.setFld (Reg.ENG_FAULT_valid c) 0).setFld (Reg.ENG_FAULT_more c) 0).setFld (Reg.ENG_FAULT_injected c) 0
    else s
  else if o = 0x14 then
    let s := if bitsOf v 0 1 = 1 then (s.resetReg (Reg.ENG_ECC_CNT c)).setFld (Reg.ENG_SCRUB_wbq_drop c) 0 else s
    if bitsOf v 1 1 = 1 then clearFlagLog s c 16 else s
  else if o = 0x18 then finjWrite s c (bitsOf v 4 4) (bitsOf v 1 3) (bitsOf v 0 1)
  else plainWrite s a v

/-! ### 32-bit writes -/

/-- A write of `v` to the register at word address `a`, which stands in a block that the path reaches. -/
def regWrite (s : State) (path : Path) (a : Nat) (v : Word) : State :=
  if (regRow a).isNone then s
  else
    match a / 0x10000 with
    | 0x00 => devWrite s path a v
    | 0x01 => clkWrite s path a v
    | 0x03 => pwrWrite s a v
    | 0x04 => monWrite s a v
    | 0x05 => if a = Reg.ESP_LOAD_CTL then espCtlWrite s v else plainWrite s a v
    | 0x06 => if a = Reg.PART_RESET then partResetWrite s v else plainWrite s a v
    | 0x07 => cmtWrite s a v
    | 0x08 => if a = Reg.THN_CTL then (if bitsOf v 0 1 = 1 then clearTrips s else s) else plainWrite s a v
    | 0x09 => if a = Reg.TWN_CTL then twnCtlWrite s v else twnChange (fun s => plainWrite s a v) s
    | 0x0A => dmaWrite s path a v
    | 0x0B => portWrite s a v
    | 0x0C => portWrite s a v
    | 0x0D => portWrite s a v
    | 0x0E => netWrite s a v
    | 0x0F => memWrite s path a v
    | 0x10 => mbxBlockWrite s path a v
    | n => if 0x20 ≤ n ∧ n < 0x28 then engWrite s (n - 0x20) (a % 0x10000) a v else plainWrite s a v

/-- One 32-bit write at control-space byte `a`, with every byte; `ecc`: what the read of an alias write finds. -/
def ctlWrite (s : State) (path : Path) (a : Nat) (v : Word) (ecc : Ecc := .clean) : State :=
  let a := a / 4 * 4
  if reaches s a = false then s
  else if inMailbox a then mbxWrite s path ((a - 0x140000) / 4) v 15
  else if inParams a then paramWrite s (a - 0x1000000) (fun _ => v)
  else if inAlias a then aliasParam s (a % 0x800000) (aliasWord (decide (0x2000000 ≤ a)) v) ecc
  else regWrite s path a v

/-- A BAR0 write of one 32-bit word with byte enables (R370). A partial write of a register or of the parameter-store window
is discarded and sets width_err alone. -/
def bar0Write (s : State) (a : Nat) (v : Word) (be : BitVec 4) (ecc : Ecc := .clean) : State :=
  let a := a / 4 * 4
  if pcieOn s = false ∨ 0x4000000 ≤ a ∨ reaches s a = false then s
  else if inMailbox a then mbxWrite s .pcie ((a - 0x140000) / 4) v be ecc
  else if be = 15 then ctlWrite s .pcie a v ecc
  else if inParams a || inAlias a || (regRow a).isSome then s.setFld Reg.MBX_STAT_width_err 1
  else s

/-! ### 32-bit reads -/

/-- Registers whose read value is computed from the state. -/
def computedRead (s : State) (a : Nat) : Word :=
  if a = Reg.CMT_INFLIGHT then BitVec.ofNat 32 (inFlight s s.tick)
  else if a = Reg.CMT_GC_STAT then
    putBits (s.reg a) 0 13 ((s.cells.filter (fun c => c.2.pending)).length)
  else if Reg.CMT_PARTSTAT 0 ≤ a ∧ a < Reg.CMT_PARTSTAT 256 then
    BitVec.ofNat 32 (queueUsed s ((a - Reg.CMT_PARTSTAT 0) / 4) s.tick)
  else if Reg.PART_STAT 0 ≤ a ∧ a < Reg.PART_STAT 256 then
    putBits (s.reg a) 0 3 (s.partState ((a - Reg.PART_STAT 0) / 4))
  else if Reg.THN_LIMIT0 ≤ a ∧ a ≤ Reg.THN_LIMIT5 then thnLimit s ((a - Reg.THN_LIMIT0) / 4)
  else if a = Reg.THN_GSTAT then thnGstat s
  else if a = Reg.THN_SIL_CNT then thnSilCnt s
  else if a = Reg.MON_SUPPLY then supplyShow s
  else if a = Reg.NET_STR_CNT0 then strCntRead s 0
  else if a = Reg.NET_STR_CNT1 then strCntRead s 1
  else if a = Reg.NET_BUF then netBufRead s
  else if Reg.SES_FILT0 ≤ a ∧ a ≤ Reg.SES_FILT2 then
    (storeGet [0, 0, 0] s.net.filt (s.fld Reg.SES_FILT_SEL_entry)).getD ((a - Reg.SES_FILT0) / 4) 0
  else if a = Reg.SES_PCFG then (selWin s).cfg
  else if a = Reg.SES_PWIN0 then (selWin s).base.setWidth 32
  else if a = Reg.SES_PWIN1 then ((selWin s).base >>> 32).setWidth 32
  else s.reg a

/-- A read of the register at word address `a`. The low words of TICK_COUNT, of the PHC time and of the media origin latch
their upper words for the path (R40). Residencies count on while no tick runs (R354; log entry 145). -/
def regRead (s : State) (path : Path) (a : Nat) : State × Word :=
  let h := holdNum path
  if a = Reg.TICK_COUNT0 then (latchTick s path, BitVec.ofNat 32 s.tick)
  else if a = Reg.TICK_COUNT1 then (s, storeGet 0 s.tickHold h)
  else if a = Reg.NET_PTP_TIME0 then
    ({ s with net := { s.net with secHold := storeSet 0 s.net.secHold h s.net.sec } }, BitVec.ofNat 32 s.net.ns)
  else if a = Reg.NET_PTP_TIME1 then (s, BitVec.ofNat 32 (storeGet 0 s.net.secHold h))
  else if a = Reg.NET_PTP_TIME2 then (s, BitVec.ofNat 32 (storeGet 0 s.net.secHold h / 2 ^ 32))
  else if a = Reg.NET_MEDIA_ORG0 then
    let o := (s.reg Reg.NET_MEDIA_ORG1).toNat
    ({ s with net := { s.net with orgHold := storeSet 0 s.net.orgHold h o } }, s.reg a)
  else if a = Reg.NET_MEDIA_ORG1 then (s, BitVec.ofNat 32 (storeGet 0 s.net.orgHold h))
  else if Reg.PWR_RESID 0 0 ≤ a ∧ a < Reg.PWR_RESID 17 0 then
    let t := passTime s
    (t, plainShow a (t.reg a))
  else (s, plainShow a (computedRead s a))

/-- One 32-bit read at control-space byte `a`; `ecc`: what the check of a word of the mailbox RAM or of the parameter store finds. -/
def ctlRead (s : State) (path : Path) (a : Nat) (ecc : Ecc := .clean) : State × Word :=
  let a := a / 4 * 4
  if reaches s a = false then (s, 0)
  else if inMailbox a then eccRead ecc (s, mbxRead s ((a - 0x140000) / 4))
  else if inParams a then eccRead ecc (paramRead s (a - 0x1000000))
  else if inAlias a then eccRead ecc (paramRead s (a % 0x800000))
  else regRead s path a

/-- A read on any path, which shows its data; one over PCIe needs the endpoint and an address of BAR0 (R369, R370). -/
def pathRead (s : State) (path : Path) (a : Nat) (ecc : Ecc) : State :=
  if path = .pcie ∧ (pcieOn s = false ∨ 0x4000000 ≤ a) then s
  else
    let r := ctlRead s path a ecc
    showRead r.1 path r.2

/-! ### Doorbell pages and the MSI-X table (Table 17.1, Table 17.3) -/

/-- A doorbell page owns DMA channel `n`. -/
def pageOwns (s : State) (p n : Nat) : Bool := s.str.wins.any (fun w => w.channel == n && w.partition == p)

/-- A 32-bit write at offset `o` of page `p`. -/
def pageWrite (s : State) (p o : Nat) (v : Word) : State :=
  let q := s.page p
  if o < 0x10 then
    if q.en then s
    else if o < 8 then s.setPage p { q with txBase := putHalf64 q.txBase (o == 4) v }
    else s.setPage p { q with rxBase := putHalf64 q.rxBase (o == 12) v }
  else if o = 0x10 then pageCtl s p (bitsOf v 31 1 == 1) (bitsOf v 30 1 == 1) (bitsOf v 4 4) (bitsOf v 0 4)
  else if o = 0x14 then txTailWrite s p v
  else if o = 0x20 then s.setPage p { q with rxHead := ringOffset v }
  else if o = 0x24 then
    s.setPage p { q with fmtErr := q.fmtErr && bitsOf v 1 1 == 0, winErr := q.winErr && bitsOf v 0 1 == 0 }
  else if 0x40 ≤ o ∧ o < 0xC0 ∧ pageOwns s p ((o - 0x40) / 4) = true then
    let s := if bitsOf v 29 1 = 1 then dmaBell s ((o - 0x40) / 4) else s
    if bitsOf v 28 1 = 1 then dmaSoft s ((o - 0x40) / 4) else s
  else s

/-- A BAR2 write at offset `o` of page `p` with byte enables (R370). -/
def bar2Write (s : State) (p o : Nat) (v : Word) (be : BitVec 4) : State :=
  if pcieOn s = false ∨ pageLive s p = false then s
  else if be = 15 then pageWrite s p (o / 4 * 4) v
  else s.setFld Reg.MBX_STAT_width_err 1

/-- Offset `o` of page `p` as it reads (Table 17.3): write-only fields, offsets of no field and the pages of partitions that are not
declared read 0. -/
def pageShow (s : State) (p o : Nat) : Word :=
  let q := s.page p
  if pageLive s p = false then 0
  else if o = 0 then q.txBase.setWidth 32
  else if o = 4 then (q.txBase >>> 32).setWidth 32
  else if o = 8 then q.rxBase.setWidth 32
  else if o = 12 then (q.rxBase >>> 32).setWidth 32
  else BitVec.ofNat 32 (match o with
    | 0x10 => q.en.toNat * 2 ^ 31 + q.irqEn.toNat * 2 ^ 30 + q.rxLog2 * 16 + q.txLog2
    | 0x14 => q.txTail
    | 0x18 => q.txHead
    | 0x1C => q.rxTail
    | 0x20 => q.rxHead
    | 0x24 => q.fmtErr.toNat * 2 + q.winErr.toNat
    | _ => 0)

/-- A BAR2 read. -/
def bar2Read (s : State) (p o : Nat) : State := overPcie s (showRead s .pcie (pageShow s p (o / 4 * 4)))

/-- A BAR4 read of word `dw` of vector `n`'s table entry. -/
def bar4Read (s : State) (n dw : Nat) : State :=
  let e := storeGet (0, 0) s.msix.ents n
  overPcie s (showRead s .pcie (if dw = 0 then e.1.setWidth 32 else if dw = 1 then (e.1 >>> 32).setWidth 32 else if dw = 2 then e.2
    else BitVec.ofNat 32 (!storeGet false s.msix.open' n).toNat))

/-- A BAR4 read of the low or high word of the pending-bit array: bit n is vector n's pending bit, as PCI Express has it (R371). -/
def pbaRead (s : State) (high : Bool) : State :=
  overPcie s (showRead s .pcie (BitVec.ofNat 32
    (((List.range 32).filter (fun i => s.msix.pend.contains (i + 32 * high.toNat))).map (fun i => 2 ^ i)).sum))

/-- A BAR4 write of word `dw` of vector `n`'s table entry: address, data, and the mask in bit 0 of word 3. -/
def bar4Write (s : State) (n dw : Nat) (v : Word) : State :=
  let e := storeGet (0, 0) s.msix.ents n
  if pcieOn s = false then s
  else if dw < 2 then
    { s with msix := { s.msix with ents := storeSet (0, 0) s.msix.ents n (putHalf64 e.1 (dw == 1) v, e.2) } }
  else if dw = 2 then { s with msix := { s.msix with ents := storeSet (0, 0) s.msix.ents n (e.1, v) } }
  else if bitsOf v 0 1 = 0 then unmask s n
  else { s with msix := { s.msix with open' := storeSet false s.msix.open' n false } }

/-! ### The local bus (Table 17.4, R373 to R375) -/

/-- After an access to data_hi. -/
def lbStep (s : State) : State :=
  if s.lb.autoinc then { s with lb := { s.lb with ptr := s.lb.ptr + 4 } } else s

/-- A new access: LB_BUSY_N is high unless it collides. -/
def lbFresh (s : State) : State := { s with lb := { s.lb with busy := false } }

/-- A read of data_lo: the 32-bit read at ptr; its upper half is latched. -/
def lbLoRead (s : State) (m : LbMeet) : State :=
  let a := s.lb.ptr.toNat
  let r := if inMailbox a && reaches s a then lbMbxRead (lbFresh s) ((a - 0x140000) / 4) m else ctlRead (lbFresh s) .lb a (meetEcc m)
  let t : State := { r.1 with lb := { r.1.lb with hold := (r.2 >>> 16).setWidth 16 } }
  showRead t .lb (r.2 &&& 0xFFFF)

/-- A read of data_hi: the latched half. -/
def lbHiRead (s : State) : State := lbStep (showRead (lbFresh s) .lb (s.lb.hold.setWidth 32))

/-- A write of data_lo: fills the buffer. -/
def lbLoWrite (s : State) (v : Half) : State := { s with lb := { s.lb with wbuf := v, busy := false } }

/-- A write of data_hi: the 32-bit write of `v` and the buffer at ptr; the buffer is cleared. -/
def lbHiWrite (s : State) (v : Half) (m : LbMeet) : State :=
  let a := s.lb.ptr.toNat
  let w := (v.setWidth 32 <<< 16) ||| s.lb.wbuf.setWidth 32
  let s := lbFresh s
  let s := if inMailbox a && reaches s a then lbMbxWrite s ((a - 0x140000) / 4) w 15 m else ctlWrite s .lb a w (meetEcc m)
  lbStep { s with lb := { s.lb with wbuf := 0 } }

/-- The port's own registers after a write of `v` at location `loc` (Table 17.6): ptr, autoinc, int_pend, the mask and the
mailbox page. -/
def lbSet (q : LbPort) (loc : Nat) (v : Half) : LbPort :=
  let n := v.toNat
  if loc = 2 then { q with ptr := putBits q.ptr 0 16 (n / 4 * 4) }
  else if loc = 3 then { q with ptr := putBits q.ptr 16 16 n }
  else if loc = 6 then { q with autoinc := v.getLsbD 0 }
  else if loc = 7 then
    { q with svDb := q.svDb && !v.getLsbD 1, bootChg := q.bootChg && !v.getLsbD 2, collide := q.collide && !v.getLsbD 3 }
  else if loc = 8 then { q with mask := v.setWidth 4 }
  else if loc = 9 then { q with mpage := n % 1024 }
  else q

/-- A write of half `loc` of the mailbox page. -/
def lbWindowWrite (s : State) (loc : Nat) (v : Half) (m : LbMeet) : State :=
  let h := s.lb.mpage * 128 + (loc - 0x80)
  if h % 2 = 0 then lbMbxWrite s (h / 2) (v.setWidth 32) 3 m else lbMbxWrite s (h / 2) (v.setWidth 32 <<< 16) 12 m

/-- A write at location `loc`. Locations from 0x02 on answer from the end of C1. -/
def lbWrite (s : State) (loc : Nat) (v : Half) (m : LbMeet) : State :=
  if c1Done s = false then s
  else if loc = 4 then lbLoWrite (lbFresh s) v
  else if loc = 5 then lbHiWrite (lbFresh s) v m
  else if 0x80 ≤ loc then lbWindowWrite (lbFresh s) loc v m
  else { lbFresh s with lb := lbSet (lbFresh s).lb loc v }

/-- A read of half `loc` of the mailbox page (R375). -/
def lbWindowRead (s : State) (loc : Nat) (m : LbMeet) : State :=
  let h := s.lb.mpage * 128 + (loc - 0x80)
  let r := lbMbxRead s (h / 2) m
  showRead r.1 .lb ((if h % 2 = 0 then r.2 else r.2 >>> 16) &&& 0xFFFF)

/-- A location of Table 17.4 as it reads, but for data_lo, data_hi and the mailbox page. -/
def lbShow (s : State) (loc : Nat) : Nat :=
  match loc with
  | 0 => 0x7720
  | 1 => s.boot % 8 + 8 * (lbInt s).toNat
  | 2 => s.lb.ptr.toNat % 65536
  | 3 => s.lb.ptr.toNat / 65536
  | 6 => s.lb.autoinc.toNat
  | 7 => (lbPend s).toNat
  | 8 => s.lb.mask.toNat
  | 9 => s.lb.mpage
  | _ => 0

/-- A read at location `loc`. 0x00 and 0x01 answer from the end of AON reset, the others from the end of C1. -/
def lbRead (s : State) (loc : Nat) (m : LbMeet) : State :=
  if c1Done s = false ∧ 2 ≤ loc then s
  else if loc = 4 then lbLoRead s m
  else if loc = 5 then lbHiRead s
  else if 0x80 ≤ loc then lbWindowRead (lbFresh s) loc m
  else showRead (lbFresh s) .lb (BitVec.ofNat 32 (lbShow s loc))

/-- LB_DATA_LO_READ (R373): and, where `hi` says so, the read of data_hi that takes the latched half. -/
def execLbDataLoRead (hi : Bool) (m : LbMeet) (s : State) : Host.Outcome State Fault Refusal :=
  .next (if c1Done s = false then s else if hi then lbHiRead (lbLoRead s m) else lbLoRead s m)

/-- LB_DATA_LO_WRITE (R373). -/
def execLbDataLoWrite (v : Half) (s : State) : Host.Outcome State Fault Refusal :=
  .next (if c1Done s = false then s else lbLoWrite s v)

/-- LB_DATA_HI_WRITE (R373). -/
def execLbDataHiWrite (v : Half) (m : LbMeet) (s : State) : Host.Outcome State Fault Refusal :=
  .next (if c1Done s = false then s else lbHiWrite s v m)

/-- REGISTER_WRITE (R370), and the accesses that have no row of their own (log entries 104, 156). -/
def execRegisterWrite (t : WriteTarget) (s : State) : Host.Outcome State Fault Refusal :=
  .next (match t with
    | .ctl .pcie a v be ecc => bar0Write s a.toNat v be ecc
    | .ctl path a v _ ecc => ctlWrite s path a.toNat v ecc
    | .page p o v be => bar2Write s p.val o.toNat v be
    | .msix n dw v => bar4Write s n.val dw.val v
    | .lb loc v m => lbWrite s loc.toNat v m
    | .ptp m => ptpSend s m
    | .ctlRead path a ecc => pathRead s path a.toNat ecc
    | .pageRead p o => bar2Read s p.val o.toNat
    | .msixRead n dw => bar4Read s n.val dw.val
    | .pbaRead high => pbaRead s high
    | .lbRead loc m => lbRead s loc.toNat m)

end Sys2Proof.Machine
end

