-- ==== Sys2Proof/Machine/Sv.lean ====
section
/-!
DEFINITION. Machine/Sv.lean: the supervisor cores: memory map, instructions, distances, events, control windows
(R311 to R326; log entries 42 to 44).
-/
namespace Sys2Proof.Machine

/-! ### Results and their distances (R321, R322) -/

/-- A result reaches its register. -/
def SvCore.apply (x : SvCore) : SvEff → SvCore
  | .w n v => { x with w := storeSet 0 x.w n v }
  | .b n v => { x with b := storeSet 0 x.b n v }
  | .bAddr n v => { x with bAddr := storeSet 0 x.bAddr n v }
  | .flags v => { x with flags := v }
  | .crcpLo v => { x with crcpLo := v }
  | .crcpHi v => { x with crcpHi := v }
  | .crcm v => { x with crcm := v }

/-- Two results go to one register. -/
def SvEff.same : SvEff → SvEff → Bool
  | .w n _, .w m _ => n == m
  | .b n _, .b m _ => n == m
  | .bAddr n _, .bAddr m _ => n == m
  | .flags _, .flags _ => true
  | .crcpLo _, .crcpLo _ => true
  | .crcpHi _, .crcpHi _ => true
  | .crcm _, .crcm _ => true
  | _, _ => false

/-- The results that have reached their distance become visible. -/
def SvCore.settle (x : SvCore) : SvCore :=
  (x.fly.filter (fun p => p.left == 0)).foldl (fun x p => x.apply p.eff) { x with fly := x.fly.filter (fun p => p.left != 0) }

/-- An instruction issues: what has reached its distance is visible to it, the rest comes one instruction nearer. -/
def SvCore.age (x : SvCore) : SvCore :=
  let y := x.settle
  { y with fly := y.fly.map (fun p => { p with left := p.left - 1 }) }

/-- A result of distance `d` of the instruction that issues. One of distance 0 completes with the results whose last
instruction this is: it wins over them, but a load loses against an ALU write of the same W (R322). -/
def SvCore.put (x : SvCore) (d : Nat) (load : Bool) (e : SvEff) : SvCore :=
  if d ≠ 0 then { x with fly := x.fly ++ [⟨d, load, e⟩] }
  else
    let tie (p : SvPend) : Bool := p.left == 0 && p.eff.same e
    if load && x.fly.any (fun p => tie p && !p.load) then x
    else ({ x with fly := x.fly.filter (fun p => !tie p) } : SvCore).apply e

/-- Register W`n` as an instruction reads it. -/
def SvCore.wAt (x : SvCore) (n : Nat) : Half := storeGet 0 x.w n

/-- Register B`n` as ADDB, MOVB, SETBL, SETBH and STB read it. -/
def SvCore.bAt (x : SvCore) (n : Nat) : Addr24 := storeGet 0 x.b n

/-- Register B`n` as address generation, JMPB, BLO and BHI read it (Table 14.9). -/
def SvCore.baseAt (x : SvCore) (n : Nat) : Addr24 := storeGet 0 x.bAddr n

/-- A write of B`n` by an instruction other than a load; address generation, JMPB, BLO and BHI see it at distance 2. -/
def SvCore.putB (x : SvCore) (n : Nat) (v : Addr24) : SvCore :=
  (x.put 0 false (.b n v)).put 2 false (.bAddr n v)

/-- A load of B`n` delivers at distance `d`: from the core's own local memory at 2, from elsewhere to the next instruction, its address
generation included (R315, Table 14.9). -/
def SvCore.loadB (x : SvCore) (d n : Nat) (v : Addr24) : SvCore := (x.put d true (.b n v)).put d true (.bAddr n v)

/-- The newest value of a register whose result CRC steps see one instruction later, as MFS reads it. -/
def SvCore.newest (x : SvCore) (pick : SvEff → Option Half) (v : Half) : Half :=
  x.fly.foldl (fun v p => (pick p.eff).getD v) v

/-! ### Issue (R318) -/

/-- Core `c` issues instructions. -/
def svRuns (s : State) (c : Nat) : Bool :=
  (s.core c).on && !(s.core c).waiting && s.domOn 1 && s.fld Reg.SV_STAT_state != 2

/-- The word that core `c` fetches from `a`: own local memory or ROM. -/
def svFetch (s : State) (c : Nat) (a : Addr24) : Half :=
  if a.toNat < 0x80000 then storeGet 0 (s.core c).mem a.toNat
  else if 0x300000 ≤ a.toNat ∧ a.toNat < 0x320000 then Config.rom (a.toNat - 0x300000) else 0

/-- The instruction whose first word is `w` has two words (Table 14.3). -/
def twoWords (w : Half) : Bool := decide (4 ≤ w.toNat / 2048 ∧ w.toNat / 2048 ≤ 6)

/-- A core may fetch from word address `a`: own local memory or ROM (Table 14.2). -/
def svFetchable (a : Addr24) : Bool := decide (a.toNat < 0x80000) || decide (0x300000 ≤ a.toNat ∧ a.toNat < 0x320000)

/-- Core `c` can fetch the whole instruction at its pc: of a two-word form the second word too (R312). -/
def svWhole (s : State) (c : Nat) : Bool :=
  let p := (s.core c).pc
  svFetchable p && (!twoWords (svFetch s c p) || svFetchable (p + 1))

/-- The command that core `c` fetches: none where its code is reserved (R323). -/
def svFetched (s : State) (c : Fin 2) : Option Instr :=
  let p := (s.core c).pc
  decodeSv c (svFetch s c p) (svFetch s c (p + 1))

/-- Core `c` issues, and the code at its pc spells the command `i`. -/
def svSpells (s : State) (c : Fin 2) (i : Instr) : Bool :=
  svRuns s c && svWhole s c && svFetched s c == some i.plain

/-- Changes core `c`. -/
def onCore (c : Nat) (f : SvCore → SvCore) (s : State) : State := s.setCore c (f (s.core c))

/-- After an instruction of `n` words: the next one, or the target of the branch whose delay slot this was. -/
def SvCore.advance (x : SvCore) (n : Nat) : SvCore :=
  { x with slot := none, pc := match x.slot with
    | some (some t) => t
    | _ => x.pc + BitVec.ofNat 24 n }

/-- Core `c` issues the instruction `i` of `n` words with effect `f`. -/
def svIssue (c : Fin 2) (i : Instr) (n : Nat) (f : State → State) (s : State) : Host.Outcome State Fault Refusal :=
  .next (if svSpells s c i then onCore c (fun x => x.advance n) (f (onCore c SvCore.age s)) else s)

/-- As `svIssue`, for an effect on the core's registers alone. -/
def svRegs (c : Fin 2) (i : Instr) (n : Nat) (f : SvCore → SvCore) (s : State) : Host.Outcome State Fault Refusal :=
  svIssue c i n (onCore c f) s

/-- A code that stops the core where `bad` holds (R323), with its cause in SV_WDT_STAT. -/
def svUnless (c : Fin 2) (i : Instr) (bad : Bool) (cause : Nat) (go : State → Host.Outcome State Fault Refusal) (s : State) :
    Host.Outcome State Fault Refusal :=
  if bad && svSpells s c i then .next (coreStop s c cause false) else go s

/-- The next instruction of core `c` stands in a delay slot. -/
def inSlot (s : State) (c : Nat) : Bool := (s.core c).slot.isSome

/-- A branch of core `c`: `f` gives the registers and, where it is taken, the target. In a delay slot it is a reserved
code. -/
def svBranch (c : Fin 2) (i : Instr) (f : SvCore → SvCore × Option Addr24) (s : State) : Host.Outcome State Fault Refusal :=
  svUnless c i (inSlot s c) 4 (fun s =>
    .next (if svSpells s c i then
      onCore c (fun x =>
        let r := f x.age
        { r.1 with pc := x.pc + 1, slot := some r.2 }) s
    else s)) s

/-! ### Memory (Table 14.2, R312 to R315) -/

/-- Local memory at word address `a` as core `c` sees it: the core that holds it, the word, and 0 = plain, 1 = bit-set alias,
2 = bit-clear alias. -/
def svLocal (c a : Nat) : Option (Nat × Nat × Nat) :=
  let w := a % 0x80000
  match a / 0x80000 with
  | 0x00 => some (c, w, 0)
  | 0x02 => some (1 - c, w, 0)
  | 0x08 => some (c, w, 1)
  | 0x0A => some (1 - c, w, 1)
  | 0x10 => some (c, w, 2)
  | 0x12 => some (1 - c, w, 2)
  | _ => none

/-- The path of core `c`. -/
def svPath (c : Nat) : Path := if c = 0 then .sv0 else .sv1

/-- The control-space byte address of word `a` of core `c`'s control window. -/
def cwinAddr (s : State) (c a : Nat) : Nat := (s.reg (Reg.SV_CWIN c)).toNat + 2 * (a - 0xC00000)

/-- A read of the low word of the register at byte `a`: the 32-bit read, whose upper half is latched (R314). -/
def cwinLowRead (s : State) (c a : Nat) : State × Half :=
  let r := ctlRead s (svPath c) a
  let t := showRead (onCore c (fun x => { x with hold := (r.2 >>> 16).setWidth 16 }) r.1) (svPath c) r.2
  (t, r.2.setWidth 16)

/-- A write of the low word: fills the write buffer. -/
def cwinLowWrite (s : State) (c : Nat) (v : Half) : State := onCore c (fun x => { x with wbuf := v }) s

/-- A write of the high word of the register at byte `a`: one 32-bit write; the buffer is cleared. -/
def cwinHighWrite (s : State) (c a : Nat) (v : Half) (ecc : Ecc := .clean) : State :=
  let w := (v.setWidth 32 <<< 16) ||| (s.core c).wbuf.setWidth 32
  ctlWrite (onCore c (fun x => { x with wbuf := 0 }) s) (svPath c) a w ecc

/-- An access to an address that Table 14.2 does not list. -/
def badAddr (s : State) : State := s.setFld Reg.SV_STAT_bad_addr 1

/-- Word `w` of core `h`'s local memory is protected (R326). -/
def svProtected (s : State) (h w : Nat) : Bool := decide (w < (s.core h).protWords)

/-- A read by core `c` of word address `a`. -/
def svRead (s : State) (c a : Nat) : State × Half :=
  match svLocal c a with
  | some (h, w, _) => (s, storeGet 0 (s.core h).mem w)
  | none =>
    if 0x200000 ≤ a ∧ a < 0x220000 then (s, s.mbxAt (a - 0x200000))
    else if 0x300000 ≤ a ∧ a < 0x320000 then (s, Config.rom (a - 0x300000))
    else if 0xC00000 ≤ a then
      if a % 2 = 0 then cwinLowRead s c (cwinAddr s c a) else (s, (s.core c).hold)
    else (badAddr s, 0)

/-- A write by core `c` of word address `a`. The ROM takes no writes. `ecc`: what an alias write of the parameter store finds. -/
def svWrite (s : State) (c a : Nat) (v : Half) (ecc : Ecc := .clean) : State :=
  match svLocal c a with
  | some (h, w, k) =>
    if svProtected s h w then s.setFld Reg.SV_STAT_wp 1
    else
      onCore h (fun x =>
        let old := storeGet 0 x.mem w
        { x with mem := storeSet 0 x.mem w (if k = 0 then v else if k = 1 then old ||| v else old &&& ~~~v) }) s
  | none =>
    if 0x200000 ≤ a ∧ a < 0x220000 then s.setMbx (a - 0x200000) v
    else if 0x300000 ≤ a ∧ a < 0x320000 then s
    else if 0xC00000 ≤ a then
      if a % 2 = 0 then cwinLowWrite s c v else cwinHighWrite s c (cwinAddr s c (a - 1)) v ecc
    else badAddr s

/-- What the check of a data read of word address `a` found (R313): a corrected error in local memory is counted, and an
uncorrectable one stops the core. -/
def svEcc (s : State) (c a : Nat) : Ecc → State
  | .clean => s
  | .corrected => if (svLocal c a).isSome then s.satInc Reg.SV_STAT_ce else s
  | .uncorrectable =>
    coreStop s c 6 (match svLocal c a with
      | some (h, w, _) => svProtected s h w
      | none => false)

/-- A store by core `c` (R133, R313, R326): a store to local memory or the mailbox merges into its 32-bit SECDED word, and an alias write
reads the word first. A corrected error met there is counted; where the read finds an uncorrectable one the word stays and the core
stops (R133; of a plain store DEDUCED, log entry 161). A store to the control window passes on what an alias write finds there. -/
def svStore (s : State) (c a : Nat) (v : Half) (ecc : Ecc) : State :=
  if ecc = .uncorrectable ∧ a < 0xC00000 then svEcc s c a ecc else svWrite (if a < 0xC00000 then svEcc s c a ecc else s) c a v ecc

/-- The distance of a load from word address `a`: 2 from the core's own local memory, else 0. -/
def loadDist (c a : Nat) : Nat :=
  match svLocal c a with
  | some (h, _, _) => if h = c then 2 else 0
  | none => 0

/-- Register number, base register, displacement and length in words of an address form. -/
def svmReg : SvMem → Nat
  | .short w _ _ => w
  | .long w _ _ => w
def svmBase : SvMem → Nat
  | .short _ b _ => b
  | .long _ b _ => b
def svmDisp : SvMem → Addr24
  | .short _ _ d => d.signExtend 24
  | .long _ _ d => d.signExtend 24
def svmLen : SvMem → Nat
  | .short _ _ _ => 1
  | .long _ _ _ => 2

/-- The effective address of base register `b` and a displacement (R316). -/
def svEa (s : State) (c b : Nat) (d : Addr24) : Addr24 := (s.core c).baseAt b + d

/-- SV_LD (R316). -/
def execSvLd (c : Fin 2) (m : SvMem) (ecc : Ecc) (s : State) : Host.Outcome State Fault Refusal :=
  svIssue c (.svLd c m ecc) (svmLen m) (fun s =>
    let a := (svEa s c (svmBase m) (svmDisp m)).toNat
    if ecc = .uncorrectable then svEcc s c a ecc
    else
      let r := svRead (svEcc s c a ecc) c a
      onCore c (fun x => x.put (loadDist c a) true (.w (svmReg m) r.2)) r.1) s

/-- SV_ST (R316). `ecc`: what the read of the word into which the store merges finds (R133, R313). -/
def execSvSt (c : Fin 2) (m : SvMem) (ecc : Ecc) (s : State) : Host.Outcome State Fault Refusal :=
  svIssue c (.svSt c m ecc) (svmLen m) (fun s =>
    svStore s c (svEa s c (svmBase m) (svmDisp m)).toNat ((s.core c).wAt (svmReg m)) ecc) s

/-- SV_LDB (R316): bits 15:0 from the address, bits 23:16 from the next word. `ecc`: what the reads of the two words find. -/
def execSvLdb (c : Fin 2) (t b : Fin 8) (disp : Half) (ecc : Ecc × Ecc) (s : State) : Host.Outcome State Fault Refusal :=
  svIssue c (.svLdb c t b disp ecc) 2 (fun s =>
    let a := svEa s c b (disp.signExtend 24)
    if ecc.1 = .uncorrectable then svEcc s c a.toNat ecc.1
    else
      let lo := svRead (svEcc s c a.toNat ecc.1) c a.toNat
      if ecc.2 = .uncorrectable then svEcc lo.1 c (a + 1).toNat ecc.2
      else
        let hi := svRead (svEcc lo.1 c (a + 1).toNat ecc.2) c (a + 1).toNat
        let v : Addr24 := (((hi.2.setWidth 8 : Byte).setWidth 24) <<< 16) ||| lo.2.setWidth 24
        onCore c (fun x => x.loadB (loadDist c a.toNat) t v) hi.1) s

/-- SV_STB (R316): bits 15:8 of the second word are 0. -/
def execSvStb (c : Fin 2) (t b : Fin 8) (disp : Half) (ecc ecc2 : Ecc) (s : State) : Host.Outcome State Fault Refusal :=
  svIssue c (.svStb c t b disp ecc ecc2) 2 (fun s =>
    let a := svEa s c b (disp.signExtend 24)
    let v := (s.core c).bAt t
    svStore (svStore s c a.toNat (v.setWidth 16) ecc) c (a + 1).toNat ((v >>> 16).setWidth 16) ecc2) s

/-! ### Register ALU (R317) -/

/-- FLAGS from Z, N, C and V, in bits 3 to 0. -/
def svFlags (z n cy v : Bool) : BitVec 4 :=
  BitVec.ofNat 4 (8 * z.toNat + 4 * n.toNat + 2 * cy.toNat + v.toNat)

def SvCore.z (x : SvCore) : Bool := x.flags.getLsbD 3
def SvCore.n (x : SvCore) : Bool := x.flags.getLsbD 2
def SvCore.cy (x : SvCore) : Bool := x.flags.getLsbD 1
def SvCore.v (x : SvCore) : Bool := x.flags.getLsbD 0

/-- Sum with carry in: result and Z, N, C, V. -/
def svAdd (a b : Half) (cin : Bool) : Half × BitVec 4 :=
  let r : Half := a + b + BitVec.ofNat 16 cin.toNat
  let e : Int := a.toInt + b.toInt + cin.toNat
  (r, svFlags (r == 0) r.msb (decide (65536 ≤ a.toNat + b.toNat + cin.toNat)) (decide (e < -32768 ∨ 32767 < e)))

/-- Difference with borrow in; C = 1 means that no borrow occurred. -/
def svSub (a b : Half) (borrow : Bool) : Half × BitVec 4 :=
  let r : Half := a - b - BitVec.ofNat 16 borrow.toNat
  let e : Int := a.toInt - b.toInt - borrow.toNat
  (r, svFlags (r == 0) r.msb (decide (b.toNat + borrow.toNat ≤ a.toNat)) (decide (e < -32768 ∨ 32767 < e)))

/-- A result with Z and N from it, and C and V cleared. -/
def svLogic (r : Half) : Half × BitVec 4 := (r, svFlags (r == 0) r.msb false false)

/-- A shift's result: C is the last bit out, which a count of 0 leaves; V stays. -/
def svShift (x : SvCore) (r : Half) (n : Nat) (out : Bool) : Half × BitVec 4 :=
  (r, svFlags (r == 0) r.msb (if n = 0 then x.cy else out) x.v)

/-- Writes Wd and FLAGS at distance `d`. -/
def SvCore.putRes (x : SvCore) (d n : Nat) (r : Half × BitVec 4) : SvCore :=
  (x.put d false (.w n r.1)).put d false (.flags r.2)

/-- Writes FLAGS alone. -/
def SvCore.putFlags (x : SvCore) (r : Half × BitVec 4) : SvCore := x.put 0 false (.flags r.2)

/-- Writes Wd alone. -/
def SvCore.putW (x : SvCore) (n : Nat) (v : Half) : SvCore := x.put 0 false (.w n v)

/-- SV_MOV (R317). -/
def execSvMov (c : Fin 2) (d w : Fin 16) (s : State) : Host.Outcome State Fault Refusal :=
  svRegs c (.svMov c d w) 1 (fun x => x.putW d (x.wAt w)) s

/-- SV_ADD (R317). -/
def execSvAdd (c : Fin 2) (d w : Fin 16) (s : State) : Host.Outcome State Fault Refusal :=
  svRegs c (.svAdd c d w) 1 (fun x => x.putRes 0 d (svAdd (x.wAt d) (x.wAt w) false)) s

/-- SV_ADC (R317). -/
def execSvAdc (c : Fin 2) (d w : Fin 16) (s : State) : Host.Outcome State Fault Refusal :=
  svRegs c (.svAdc c d w) 1 (fun x => x.putRes 0 d (svAdd (x.wAt d) (x.wAt w) x.cy)) s

/-- SV_SUB (R317). -/
def execSvSub (c : Fin 2) (d w : Fin 16) (s : State) : Host.Outcome State Fault Refusal :=
  svRegs c (.svSub c d w) 1 (fun x => x.putRes 0 d (svSub (x.wAt d) (x.wAt w) false)) s

/-- SV_SBC (R317). -/
def execSvSbc (c : Fin 2) (d w : Fin 16) (s : State) : Host.Outcome State Fault Refusal :=
  svRegs c (.svSbc c d w) 1 (fun x => x.putRes 0 d (svSub (x.wAt d) (x.wAt w) (!x.cy))) s

/-- SV_AND (R317). -/
def execSvAnd (c : Fin 2) (d w : Fin 16) (s : State) : Host.Outcome State Fault Refusal :=
  svRegs c (.svAnd c d w) 1 (fun x => x.putRes 0 d (svLogic (x.wAt d &&& x.wAt w))) s

/-- SV_OR (R317). -/
def execSvOr (c : Fin 2) (d w : Fin 16) (s : State) : Host.Outcome State Fault Refusal :=
  svRegs c (.svOr c d w) 1 (fun x => x.putRes 0 d (svLogic (x.wAt d ||| x.wAt w))) s

/-- SV_XOR (R317). -/
def execSvXor (c : Fin 2) (d w : Fin 16) (s : State) : Host.Outcome State Fault Refusal :=
  svRegs c (.svXor c d w) 1 (fun x => x.putRes 0 d (svLogic (x.wAt d ^^^ x.wAt w))) s

/-- SV_SHL (R317). -/
def execSvShl (c : Fin 2) (d w : Fin 16) (s : State) : Host.Outcome State Fault Refusal :=
  svRegs c (.svShl c d w) 1 (fun x =>
    let a := x.wAt d
    let n := (x.wAt w).toNat % 16
    x.putRes 0 d (svShift x (a <<< n) n (a.getLsbD (16 - n)))) s

/-- SV_SHR (R317). -/
def execSvShr (c : Fin 2) (d w : Fin 16) (s : State) : Host.Outcome State Fault Refusal :=
  svRegs c (.svShr c d w) 1 (fun x =>
    let a := x.wAt d
    let n := (x.wAt w).toNat % 16
    x.putRes 0 d (svShift x (a >>> n) n (a.getLsbD (n - 1)))) s

/-- SV_SAR (R317). -/
def execSvSar (c : Fin 2) (d w : Fin 16) (s : State) : Host.Outcome State Fault Refusal :=
  svRegs c (.svSar c d w) 1 (fun x =>
    let a := x.wAt d
    let n := (x.wAt w).toNat % 16
    x.putRes 0 d (svShift x (a.sshiftRight n) n (a.getLsbD (n - 1)))) s

/-- SV_CMP (R317). -/
def execSvCmp (c : Fin 2) (d w : Fin 16) (s : State) : Host.Outcome State Fault Refusal :=
  svRegs c (.svCmp c d w) 1 (fun x => x.putFlags (svSub (x.wAt d) (x.wAt w) false)) s

/-- SV_MUL (R317), at distance 2. -/
def execSvMul (c : Fin 2) (d w : Fin 16) (s : State) : Host.Outcome State Fault Refusal :=
  svRegs c (.svMul c d w) 1 (fun x => x.putRes 2 d (svLogic (x.wAt d * x.wAt w))) s

/-- SV_MULHU (R317), at distance 2. -/
def execSvMulhu (c : Fin 2) (d w : Fin 16) (s : State) : Host.Outcome State Fault Refusal :=
  svRegs c (.svMulhu c d w) 1 (fun x => x.putRes 2 d (svLogic (BitVec.ofNat 16 ((x.wAt d).toNat * (x.wAt w).toNat / 65536)))) s

/-- SV_MULHS (R317), at distance 2. -/
def execSvMulhs (c : Fin 2) (d w : Fin 16) (s : State) : Host.Outcome State Fault Refusal :=
  svRegs c (.svMulhs c d w) 1 (fun x => x.putRes 2 d (svLogic (BitVec.ofInt 16 ((x.wAt d).toInt * (x.wAt w).toInt / 65536)))) s

/-- SV_TST (R317). -/
def execSvTst (c : Fin 2) (d w : Fin 16) (s : State) : Host.Outcome State Fault Refusal :=
  svRegs c (.svTst c d w) 1 (fun x => x.putFlags (svLogic (x.wAt d &&& x.wAt w))) s

/-! ### Immediates (R317) -/

/-- SV_ADDI (R317). -/
def execSvAddi (c : Fin 2) (d : Fin 16) (imm : Byte) (s : State) : Host.Outcome State Fault Refusal :=
  svRegs c (.svAddi c d imm) 1 (fun x => x.putRes 0 d (svAdd (x.wAt d) (imm.signExtend 16) false)) s

/-- SV_MOVI (R317). -/
def execSvMovi (c : Fin 2) (d : Fin 16) (imm : Byte) (s : State) : Host.Outcome State Fault Refusal :=
  svRegs c (.svMovi c d imm) 1 (fun x => x.putW d (imm.signExtend 16)) s

/-- SV_MOVW (R317). -/
def execSvMovw (c : Fin 2) (d : Fin 16) (imm : Half) (s : State) : Host.Outcome State Fault Refusal :=
  svRegs c (.svMovw c d imm) 2 (fun x => x.putW d imm) s

/-- SV_ADDW (R317). -/
def execSvAddw (c : Fin 2) (d : Fin 16) (imm : Half) (s : State) : Host.Outcome State Fault Refusal :=
  svRegs c (.svAddw c d imm) 2 (fun x => x.putRes 0 d (svAdd (x.wAt d) imm false)) s

/-- SV_SUBW (R317). -/
def execSvSubw (c : Fin 2) (d : Fin 16) (imm : Half) (s : State) : Host.Outcome State Fault Refusal :=
  svRegs c (.svSubw c d imm) 2 (fun x => x.putRes 0 d (svSub (x.wAt d) imm false)) s

/-- SV_ANDW (R317). -/
def execSvAndw (c : Fin 2) (d : Fin 16) (imm : Half) (s : State) : Host.Outcome State Fault Refusal :=
  svRegs c (.svAndw c d imm) 2 (fun x => x.putRes 0 d (svLogic (x.wAt d &&& imm))) s

/-- SV_ORW (R317). -/
def execSvOrw (c : Fin 2) (d : Fin 16) (imm : Half) (s : State) : Host.Outcome State Fault Refusal :=
  svRegs c (.svOrw c d imm) 2 (fun x => x.putRes 0 d (svLogic (x.wAt d ||| imm))) s

/-- SV_XORW (R317). -/
def execSvXorw (c : Fin 2) (d : Fin 16) (imm : Half) (s : State) : Host.Outcome State Fault Refusal :=
  svRegs c (.svXorw c d imm) 2 (fun x => x.putRes 0 d (svLogic (x.wAt d ^^^ imm))) s

/-- SV_CMPW (R317). -/
def execSvCmpw (c : Fin 2) (d : Fin 16) (imm : Half) (s : State) : Host.Outcome State Fault Refusal :=
  svRegs c (.svCmpw c d imm) 2 (fun x => x.putFlags (svSub (x.wAt d) imm false)) s

/-- SV_TSTW (R317). -/
def execSvTstw (c : Fin 2) (d : Fin 16) (imm : Half) (s : State) : Host.Outcome State Fault Refusal :=
  svRegs c (.svTstw c d imm) 2 (fun x => x.putFlags (svLogic (x.wAt d &&& imm))) s

/-! ### Single-register group (Table 14.5) -/

/-- SV_NOP. -/
def execSvNop (c : Fin 2) (s : State) : Host.Outcome State Fault Refusal := svRegs c (.svNop c) 1 id s

/-- SV_NOT: Z and N; C and V stay. -/
def execSvNot (c : Fin 2) (d : Fin 16) (s : State) : Host.Outcome State Fault Refusal :=
  svRegs c (.svNot c d) 1 (fun x =>
    let r := ~~~(x.wAt d)
    x.putRes 0 d (r, svFlags (r == 0) r.msb x.cy x.v)) s

/-- SV_NEG: the flags of 0 − W. -/
def execSvNeg (c : Fin 2) (d : Fin 16) (s : State) : Host.Outcome State Fault Refusal :=
  svRegs c (.svNeg c d) 1 (fun x => x.putRes 0 d (svSub 0 (x.wAt d) false)) s

/-- Number of 1 bits. -/
def onesOf (v : Half) : Nat := ((List.range 16).filter (fun i => v.getLsbD i)).length

/-- SV_PAR: Z alone. -/
def execSvPar (c : Fin 2) (d : Fin 16) (s : State) : Host.Outcome State Fault Refusal :=
  svRegs c (.svPar c d) 1 (fun x =>
    let r := BitVec.ofNat 16 (onesOf (x.wAt d) % 2)
    x.putRes 0 d (r, svFlags (r == 0) x.n x.cy x.v)) s

/-- SV_BREV. -/
def execSvBrev (c : Fin 2) (d : Fin 16) (s : State) : Host.Outcome State Fault Refusal :=
  svRegs c (.svBrev c d) 1 (fun x => x.putW d (x.wAt d).reverse) s

/-- SV_SWAB. -/
def execSvSwab (c : Fin 2) (d : Fin 16) (s : State) : Host.Outcome State Fault Refusal :=
  svRegs c (.svSwab c d) 1 (fun x => x.putW d ((x.wAt d <<< 8) ||| (x.wAt d >>> 8))) s

/-- SV_WAIT (R320): issue stops until EVT & EVEN ≠ 0; reserved in a delay slot. -/
def execSvWait (c : Fin 2) (s : State) : Host.Outcome State Fault Refusal :=
  svUnless c (.svWait c) (inSlot s c) 4 (svRegs c (.svWait c) 1 (fun x => { x with waiting := x.evt &&& x.even == 0 })) s

/-- SV_SIG (R320): event XCORE in the other core. -/
def execSvSig (c : Fin 2) (s : State) : Host.Outcome State Fault Refusal :=
  svIssue c (.svSig c) 1 (onCore (1 - c.val) (fun x => x.event 9)) s

/-! ### Branches (R318) -/

/-- A condition of Table 14.6. -/
def svCond (x : SvCore) : Nat → Bool
  | 0 => x.z
  | 1 => !x.z
  | 2 => x.cy
  | 3 => !x.cy
  | 4 => x.n
  | 5 => !x.n
  | 6 => x.v
  | 7 => !x.v
  | 8 => x.cy && !x.z
  | 9 => !x.cy || x.z
  | 10 => x.n == x.v
  | 11 => x.n != x.v
  | 12 => !x.z && x.n == x.v
  | 13 => x.z || x.n != x.v
  | _ => true

/-- The target of a branch at the core's pc. -/
def SvCore.target (x : SvCore) (disp : Addr24) : Addr24 := x.pc + 1 + disp

/-- SV_BCC (R318); condition 15 is reserved. -/
def execSvBcc (c : Fin 2) (cond : Fin 16) (disp : BitVec 7) (s : State) : Host.Outcome State Fault Refusal :=
  svUnless c (.svBcc c cond disp) (cond == 15) 2
    (svBranch c (.svBcc c cond disp) (fun x => (x, if svCond x cond then some (x.target (disp.signExtend 24)) else none))) s

/-- SV_BRA (R318). -/
def execSvBra (c : Fin 2) (disp : BitVec 10) (s : State) : Host.Outcome State Fault Refusal :=
  svBranch c (.svBra c disp) (fun x => (x, some (x.target (disp.signExtend 24)))) s

/-- SV_CALL (R318): B7 takes the address of the instruction after the delay slot. -/
def execSvCall (c : Fin 2) (disp : BitVec 10) (s : State) : Host.Outcome State Fault Refusal :=
  let two := twoWords (svFetch s c ((s.core c).pc + 1))
  svBranch c (.svCall c disp) (fun x =>
    (x.putB 7 (x.pc + (if two then 3 else 2)), some (x.target (disp.signExtend 24)))) s

/-- SV_JMPB (R318). -/
def execSvJmpb (c : Fin 2) (b : Fin 8) (s : State) : Host.Outcome State Fault Refusal :=
  svBranch c (.svJmpb c b) (fun x => (x, some (x.baseAt b))) s

/-! ### Base group (Table 14.7) -/

/-- SV_MOVB. -/
def execSvMovb (c : Fin 2) (d b : Fin 8) (s : State) : Host.Outcome State Fault Refusal :=
  svRegs c (.svMovb c d b) 1 (fun x => x.putB d (x.bAt b)) s

/-- SV_ADDB. -/
def execSvAddb (c : Fin 2) (d : Fin 8) (w : Fin 16) (s : State) : Host.Outcome State Fault Refusal :=
  svRegs c (.svAddb c d w) 1 (fun x => x.putB d (x.bAt d + (x.wAt w).signExtend 24)) s

/-- SV_BLO. -/
def execSvBlo (c : Fin 2) (d : Fin 16) (b : Fin 8) (s : State) : Host.Outcome State Fault Refusal :=
  svRegs c (.svBlo c d b) 1 (fun x => x.putW d ((x.baseAt b).setWidth 16)) s

/-- SV_BHI. -/
def execSvBhi (c : Fin 2) (d : Fin 16) (b : Fin 8) (s : State) : Host.Outcome State Fault Refusal :=
  svRegs c (.svBhi c d b) 1 (fun x => x.putW d ((x.baseAt b >>> 16).setWidth 16)) s

/-- SV_SETBL. -/
def execSvSetbl (c : Fin 2) (d : Fin 8) (w : Fin 16) (s : State) : Host.Outcome State Fault Refusal :=
  svRegs c (.svSetbl c d w) 1 (fun x => x.putB d ((x.bAt d &&& 0xFF0000) ||| (x.wAt w).setWidth 24)) s

/-- SV_SETBH. -/
def execSvSetbh (c : Fin 2) (d : Fin 8) (w : Fin 16) (s : State) : Host.Outcome State Fault Refusal :=
  svRegs c (.svSetbh c d w) 1 (fun x => x.putB d ((x.bAt d &&& 0x00FFFF) ||| ((x.wAt w).setWidth 24 <<< 16))) s

/-- SV_SETB. -/
def execSvSetb (c : Fin 2) (d : Fin 8) (a : Addr24) (s : State) : Host.Outcome State Fault Refusal :=
  svRegs c (.svSetb c d a) 2 (fun x => x.putB d a) s

/-! ### CRC steps (R319) -/

/-- The 8 bits of a byte through a CRC of `w` bits, most significant bit first. -/
def crcMsb {w : Nat} (poly : BitVec w) (byte : Byte) : Nat → BitVec w → BitVec w
  | 0, c => c
  | i + 1, c => crcMsb poly byte i ((c <<< 1) ^^^ (if c.msb != byte.getLsbD i then poly else 0))

/-- The 8 bits of a byte through a reflected CRC of `w` bits, least significant bit first; `p` is the polynomial bit-reversed;
`n` bits are left. -/
def crcLsb {w : Nat} (p : BitVec w) (byte : Byte) : Nat → BitVec w → BitVec w
  | 0, c => c
  | n + 1, c => crcLsb p byte n ((c >>> 1) ^^^ (if c.getLsbD 0 != byte.getLsbD (7 - n) then p else 0))

/-- One byte through the CRC. -/
def svCrcByte {w : Nat} (poly : BitVec w) (reflect : Bool) (c : BitVec w) (byte : Byte) : BitVec w :=
  if reflect then crcLsb poly.reverse byte 8 c else crcMsb poly byte 8 c

/-- The bytes of a data word that a step takes: both, low byte first, or the low one. -/
def crcData (both : Bool) (v : Half) : List Byte := if both then [v.setWidth 8, (v >>> 8).setWidth 8] else [v.setWidth 8]

/-- A 16-bit CRC step. -/
def svCrc16 (both : Bool) (d w : Fin 16) (x : SvCore) : SvCore :=
  x.putW d ((crcData both (x.wAt w)).foldl (svCrcByte x.crcpLo x.crcm) (x.wAt d))

/-- A 32-bit CRC step on the pair W`d`, W`d + 1`. -/
def svCrc32 (both : Bool) (d w : Fin 16) (x : SvCore) : SvCore :=
  let poly : Word := (x.crcpHi.setWidth 32 <<< 16) ||| x.crcpLo.setWidth 32
  let c : Word := ((x.wAt (d + 1)).setWidth 32 <<< 16) ||| (x.wAt d).setWidth 32
  let r := (crcData both (x.wAt w)).foldl (svCrcByte poly x.crcm) c
  (x.putW d (r.setWidth 16)).putW (d + 1) ((r >>> 16).setWidth 16)

/-- SV_CRC16 (R319). -/
def execSvCrc16 (c : Fin 2) (d w : Fin 16) (s : State) : Host.Outcome State Fault Refusal := svRegs c (.svCrc16 c d w) 1 (svCrc16 true d w) s

/-- SV_CRC32 (R319); an odd W stops the core. -/
def execSvCrc32 (c : Fin 2) (d w : Fin 16) (s : State) : Host.Outcome State Fault Refusal :=
  svUnless c (.svCrc32 c d w) (d.val % 2 == 1) 4 (svRegs c (.svCrc32 c d w) 1 (svCrc32 true d w)) s

/-- SV_CRC16B (R319). -/
def execSvCrc16b (c : Fin 2) (d w : Fin 16) (s : State) : Host.Outcome State Fault Refusal := svRegs c (.svCrc16b c d w) 1 (svCrc16 false d w) s

/-- SV_CRC32B (R319); an odd W stops the core. -/
def execSvCrc32b (c : Fin 2) (d w : Fin 16) (s : State) : Host.Outcome State Fault Refusal :=
  svUnless c (.svCrc32b c d w) (d.val % 2 == 1) 4 (svRegs c (.svCrc32b c d w) 1 (svCrc32 false d w)) s

/-! ### Special registers and events (R320) -/

/-- The special register of an index, as MFS reads it. -/
def svSpecial (c : Fin 2) (x : SvCore) : Nat → Half
  | 0 => x.newest (fun e => match e with | .crcpLo v => some v | _ => none) x.crcpLo
  | 1 => x.newest (fun e => match e with | .crcpHi v => some v | _ => none) x.crcpHi
  | 2 => x.newest (fun e => match e with | .crcm v => some (BitVec.ofNat 16 v.toNat) | _ => none)
      (BitVec.ofNat 16 x.crcm.toNat)
  | 3 => x.flags.setWidth 16
  | 4 => BitVec.ofNat 16 c.val
  | 5 => x.evt
  | _ => x.even

/-- MTS of an index. CORE_ID is read-only. -/
def svSetSpecial (x : SvCore) (v : Half) : Nat → SvCore
  | 0 => x.put 1 false (.crcpLo v)
  | 1 => x.put 1 false (.crcpHi v)
  | 2 => x.put 1 false (.crcm (v.getLsbD 0))
  | 3 => x.put 0 false (.flags (v.setWidth 4))
  | 4 => x
  | 5 => { x with evt := x.evt &&& ~~~v }
  | _ => { x with even := v }

/-- SV_MFS (R320); indices 7 to 15 are reserved. -/
def execSvMfs (c : Fin 2) (d idx : Fin 16) (s : State) : Host.Outcome State Fault Refusal :=
  svUnless c (.svMfs c d idx) (decide (7 ≤ idx.val)) 2 (svRegs c (.svMfs c d idx) 1 (fun x => x.putW d (svSpecial c x idx))) s

/-- SV_MTS (R320); indices 7 to 15 are reserved. -/
def execSvMts (c : Fin 2) (idx w : Fin 16) (s : State) : Host.Outcome State Fault Refusal :=
  svUnless c (.svMts c idx w) (decide (7 ≤ idx.val)) 2 (svRegs c (.svMts c idx w) 1 (fun x => svSetSpecial x (x.wAt w) idx)) s

/-- What the fetch of the next instruction finds (R313, R323): a corrected error is counted, an uncorrectable one stops the
core. -/
def svFetchEcc (s : State) (c : Fin 2) (ecc : Ecc) : State :=
  if svRuns s c then svEcc s c (s.core c).pc.toNat ecc else s

/-- SV_DELAYED_RESULT (R321): the results that have reached their distance become visible, before the next instruction
would make them so; `fetch` is what the fetch of that instruction finds. -/
def execSvDelayedResult (c : Fin 2) (fetch : Ecc) (s : State) : Host.Outcome State Fault Refusal :=
  .next (svFetchEcc (onCore c SvCore.settle s) c fetch)

/-- SV_EVENT (R320): event `n` of Table 14.8, XCORE in core `c` alone and any other in both (log entry 16). -/
def execSvEvent (c : Fin 2) (n : Fin 14) (s : State) : Host.Outcome State Fault Refusal :=
  .next (if n = 9 then onCore c (fun x => x.event 9) s else raiseEvent s n.val)

/-! ### Control windows and aliases (R133, R314) -/

/-- The byte address of register `r` of core `c`'s control window. -/
def cwinReg (s : State) (c : Nat) (r : BitVec 21) : Nat := cwinAddr s c (0xC00000 + 2 * r.toNat)

/-- SV_CWIN_LOW_READ (R314). -/
def execSvCwinLowRead (c : Fin 2) (r : BitVec 21) (s : State) : Host.Outcome State Fault Refusal :=
  .next (if svRuns s c then (cwinLowRead s c (cwinReg s c r)).1 else s)

/-- SV_CWIN_LOW_WRITE (R314). -/
def execSvCwinLowWrite (c : Fin 2) (v : Half) (s : State) : Host.Outcome State Fault Refusal :=
  .next (if svRuns s c then cwinLowWrite s c v else s)

/-- SV_CWIN_HIGH_WRITE (R314). -/
def execSvCwinHighWrite (c : Fin 2) (r : BitVec 21) (v : Half) (s : State) : Host.Outcome State Fault Refusal :=
  .next (if svRuns s c then cwinHighWrite s c (cwinReg s c r) v else s)

/-- An alias write (R133): permitted where a plain write is. An uncorrectable error leaves the word as it is. -/
def aliasWrite (s : State) (clear : Bool) : AliasTarget → State
  | .params path o v be ecc =>
    let a := (if clear then 0x2000000 else 0x1800000) + o.toNat
    match path with
    | .pcie => bar0Write s a v be ecc
    | p => ctlWrite s p a v ecc
  | .svMem c other w v ecc =>
    let a := (if clear then 0x800000 else 0x400000) + (if other then 0x100000 else 0) + w.toNat
    if svRuns s c = false then s else svStore s c a v ecc

/-- BIT_SET_WRITE (R133). -/
def execBitSetWrite (t : AliasTarget) (s : State) : Host.Outcome State Fault Refusal := .next (aliasWrite s false t)

/-- BIT_CLEAR_WRITE (R133). -/
def execBitClearWrite (t : AliasTarget) (s : State) : Host.Outcome State Fault Refusal := .next (aliasWrite s true t)

/-! ### Core stops (R323) -/

/-- The feature bit of DEV_FEAT0 that an instruction needs (Table 14.11). -/
def svFeature : Instr → Option Nat
  | .svCrc16 _ _ _ => some 0
  | .svCrc32 _ _ _ => some 0
  | .svCrc16b _ _ _ => some 1
  | .svCrc32b _ _ _ => some 1
  | .svPar _ _ => some 2
  | .svBrev _ _ => some 2
  | .svMulhu _ _ _ => some 3
  | .svMulhs _ _ _ => some 3
  | .svWait _ => some 4
  | .svSig _ => some 4
  | .svSwab _ _ => some 5
  | _ => none

/-- The code that core `c` fetches stops it for a cause of SV_WDT_STAT: 2 reserved, 3 without its feature, 5 at an unlisted
address, 6 (the fetch's own finding). A code of cause 4 stops the core as its own row. -/
def svStopDue (s : State) (c : Fin 2) (cause : Nat) : Bool :=
  let ok := svFetchable (s.core c).pc
  match cause with
  | 2 => svWhole s c && (svFetched s c).isNone
  | 3 => svWhole s c && ((svFetched s c).bind svFeature).any (fun n => bitsOf (s.reg Reg.DEV_FEAT0) n 1 == 0)
  | 5 => !svWhole s c
  | 6 => ok
  | _ => false

/-- CORE_STOP (R323): what core `c` has fetched stops it; of cause 6, the word is a protected one where it lies so. -/
def execCoreStop (c : Fin 2) (cause : Fin 8) (s : State) : Host.Outcome State Fault Refusal :=
  .next (if svRuns s c && svStopDue s c cause then
      coreStop s c cause (match svLocal c (s.core c).pc.toNat with
        | some (h, w, _) => cause == 6 && svProtected s h w
        | none => false)
    else s)

end Sys2Proof.Machine
end

