-- ==== Sys2Proof/Machine/Boundary.lean ====
section
/-!
DEFINITION. Machine/Boundary.lean: the device tick boundary with its order of events (R39, R41, R42), the start of the tick
generator (R262, R266, Table 11.5) and the joining tick (R252).
-/
namespace Sys2Proof.Machine

/-! ### Between two ticks: line writes, ages, the link's signals -/

/-- The commit window of the new tick writes the word that a line's source held at the end of the tick before (R105). A bank
that is not ON takes no write, nor the staging of a cluster that sleeps (R131). -/
def writeLine (s : State) (r : LineRec) : State :=
  if (r.tier = 1 ∧ s.fld (Reg.MEM_BANK_PWR_state (48 * r.cluster + lineBank r)) ≠ 0) ∨ (r.tier = 2 ∧ asleep s r.cluster) then s
  else putLineWord s r (linePos s r 1) (tickOut s (16 * r.cluster + r.writer) r.srcWord)

/-- A line's age rises by 1 and saturates at its length (R107). -/
def ageLine (s : State) (r : LineRec) : State := s.setAge r (min r.length (s.lineAge r + 1))

/-- Every line is written and ages. -/
def writeLines (s : State) : State := s.str.lines.foldl ageLine (s.str.lines.foldl writeLine s)

/-! ### The DAU's stream schedule (R120, R121, R127) -/

/-- A line's write burst of `lag` (R121): the eight words whose last entered write staging `lag` ticks ago move to the DRAM. -/
def moveBurst (s : State) (r : LineRec) (lag : Nat) : State :=
  let p := (((s.tick : Int) - lag - 8) % r.length).toNat
  let held (a : Nat) : Bool := decide (lineAddr r p ≤ a ∧ a < lineAddr r p + 8)
  { s with dram := (s.staged.filter (fun w => held w.1)).foldl (fun m w => storeSet 0 m w.1 w.2) s.dram,
           staged := s.staged.filter (fun w => !held w.1) }

/-- Reserved slots of a channel that stay free for repeats, and all that it has (R124, Table 05.7). -/
def repeatSlots (s : State) (left : Bool) : Nat := (if left then 492 else 64) / 2 ^ s.fld Reg.TICK_RATE_mult

/-- A tap's read burst finds an error (R127). A corrected one is counted. An uncorrectable one is repeated once, where a repeat
slot of the channel is left; `used` counts the repeats of this tick by channel. Where the repeat fails too, or there is
none, the burst is marked in staging. -/
def burstRead (s : State) (used : Store Nat) (ch : Nat) (f : BurstFinding) (b : BadBurst) : State × Store Nat :=
  let mark (s : State) : State := { s with badBursts := s.badBursts ++ [b] }
  match f.read with
  | .clean => (s, used)
  | .corrected => (s.satInc Reg.MEM_DRAM_STAT_link_ce, used)
  | .uncorrectable =>
    let n := storeGet 0 used ch
    if n < repeatSlots s f.slotLeft then
      let t := s.satInc Reg.MEM_DRAM_STAT_retry
      let t := match f.again with
        | .clean => t
        | .corrected => t.satInc Reg.MEM_DRAM_STAT_link_ce
        | .uncorrectable => mark t
      (t, storeSet 0 used ch (n + 1))
    else (mark s, used)

/-- One item of the schedule entry that applies in the current tick (Table 08.11). -/
def dauItem (c : Nat) (fs : List BurstFinding) (x : State × Store Nat) (i : Nat × Nat) : State × Store Nat :=
  let s := x.1
  match s.line c (itemLine i.1) with
  | none => x
  | some r =>
    if itemRead i.1 = false then (moveBurst s r (itemLag i.1), x.2)
    else
      match r.taps[itemTap i.1]? with
      | none => x
      | some t =>
        let p := (((s.tick : Int) + itemLag i.1 - tapLow t) % r.length).toNat
        let e := 16 * c + itemEngine i.1
        let s : State := { s with badBursts := s.badBursts.filter (fun b =>
          !(b.engine == e && b.line == r.line && b.tap == itemTap i.1 && b.pos == p)) }
        match fs.find? (fun f => f.cluster.val == c && f.item == i.2) with
        | none => (s, x.2)
        | some f => burstRead s x.2 ((r.base / 8 + p / 8) % 16) f ⟨e, r.line, itemTap i.1, p, f.got, false⟩

/-- The schedule entry of cluster `c` for the current tick: all its bursts move, in record order; the DAU of a sleeping cluster
skips it (R121, R131). -/
def dauCluster (fs : List BurstFinding) (x : State × Store Nat) (c : Nat) : State × Store Nat :=
  if asleep x.1 c then x
  else match x.1.str.dau.find? (fun d => d.cluster == c && d.k == x.1.tick % 128) with
    | none => x
    | some d => d.items.zipIdx.foldl (dauItem c fs) x

/-- The stream schedules in the current tick. -/
def runDau (s : State) (fs : List BurstFinding) : State := ((List.range 8).foldl (dauCluster fs) (s, [])).1

/-- Whole ticks in a row without a valid heartbeat while PL_ALIVE_IN was high, the one that ends now included (R239). -/
def silentNow (s : State) : Nat :=
  if s.twin.heard ∨ s.fld Reg.TWN_STAT_partner_alive = 0 then 0 else s.twin.silent + 1

/-- The receive side of the Pleach link at a boundary: lanes and alignment, while the PLEACH domain is on (R230), skew (R235) and a
partner that has come alive. -/
def linkPins (s : State) (p : TickPins) : State :=
  if s.twinMode = false then s
  else
    let on := s.domOn 13
    let t := (s.setFld Reg.TWN_LINK_lanes_up (if on then p.lanes.toNat else 0)).setFld Reg.TWN_LINK_aligned (on && p.aligned).toNat
    let t := t.setFld Reg.TWN_SKEW_skew p.skew.toNat
    let t := if p.alive then t.setFld Reg.TWN_STAT_partner_alive 1 else t
    { t with twin := { t.twin with skewTicks := if skewHigh t then t.twin.skewTicks + 1 else 0, silent := silentNow s, heard := false } }

/-- The measurements of the tick that has ended reach the ratio loops, where inputs are routed from AES3 receivers (R149): a twin that
followed in it, or that joins (`join`) and so shares the inputs of J − 1 (R252), uses the owner's, or its own with TWN_STAT.input_own
set (R237). The boundary is measured anew. -/
def takeMeasures (s : State) (p : TickPins) (join : Bool) : State :=
  let shared := s.follows || join
  let late := shared && usesAsrc s && !s.twin.gotOwner
  let m := if shared && s.twin.gotOwner then s.twin.asrcMeas else s.io.asrcOwn
  let t := if late then s.setFld Reg.TWN_STAT_input_own 1 else s
  let t : State := { t with io := { t.io with asrcMeas := m, asrcOwn := pairStore 0 p.asrc },
                            twin := { t.twin with gotOwner := false, asrcMeas := [], followed := shared } }
  (List.range 8).foldl stepAsrc t

/-- What held for the tick that has ended is forgotten: the guards that have run, the gains that flipped at its boundary, and
what the device has sent in it. -/
def newTick (s : State) : State :=
  { s with guarded := [], udpOut := [],
           io := { s.io with qsFlipped := [], qsOld := [] }, net := { s.net with sent := [], ptpOut := [], toSv := [] },
           dma := { s.dma with host := [] }, msix := { s.msix with sent := [] }, twin := { s.twin with sent := none } }

/-! ### Step 1: ownership -/

/-- A split of the pair by its leader, or a follower's detachment (R248). -/
def splitPair (s : State) : State :=
  let s := match s.twin.splitAt with
    | some x => if x ≤ s.tick then
        let t : State := { s with twin := { s.twin with splitAt := none } }
        if t.twin.paired then (leavePair t).setFld Reg.TWN_STAT_replica_detach 1 else t
      else s
    | none => s
  match s.twin.detach with
  | some n =>
    let t : State := { s with twin := { s.twin with detach := none } }
    if t.follows then (leavePair (dropUnconfirmed t n)).setFld Reg.TWN_STAT_replica_detach 1 else t
  | none => s

/-- An ownership change that a fault, a takeover notice or a yield has made due (R244, R246, R267). -/
def changeOwner (s : State) : State :=
  let t : State := { s with twin := { s.twin with ownNext := none } }
  match s.twin.ownNext with
  | none => s
  | some true => takeOwnership t true
  | some false =>
    let t := leavePair (giveUpOwnership t 0)
    let t : State := { t with floated := true }
    if t.twin.yield = true ∨ t.fld Reg.TWN_LINK_role_clash = 1 then t else t.setFld Reg.TWN_STAT_contest 1

/-- Step 1 of a boundary (R41). -/
def ownership (s : State) : State :=
  plannedHandover (changeOwner (splitPair (skewError (linkDown s))))

/-- Outputs are driven again once nothing floats them (R234, R265, R270). -/
def releaseFloat (s : State) : State :=
  if s.boot = bootRun ∧ s.hold = none ∧ s.faultStart = false ∧ s.fld Reg.TWN_LINK_role_clash = 0 ∧
      (s.fld Reg.TWN_STAT_mismatch = 0 ∨ s.owns) then { s with floated := false }
  else s

/-! ### Step 2: lease breaks, session ends, resets and grafts -/

/-- Leases of the partner's sessions break: `all` of them, its twin having stopped (R187), or those that have ended (R382). What was
remembered for these sessions goes with them (R162). -/
def breakPeers (s : State) (all : Bool) : State :=
  let ended := s.twin.peerEnded
  let lost (w : SessId) : Bool := w.peer && (all || ended.contains (w.num, w.epoch))
  let s := breakLeases s (fun l => lost l.who)
  { s with remembered := s.remembered.filter (fun r => !lost r.who), twin := { s.twin with peerEnded := [], peerGone := s.twin.peerGone && !all } }

/-- Step 2 of a boundary (R41). -/
def breaksAndResets (s : State) (peers : Bool) : State :=
  let s := endSessions (breakPeers (s.leases.foldl (fun s e => leaseDue s e.1) s) peers)
  let ps := s.partOps.map (·.part)
  ps.foldl (fun s p => doGraftDone (doPartDone (doGraftReset (doPartReset s p) p) p) p) s

/-! ### Steps 3 to 5 -/

/-- Step 3: flips, and what else takes effect with them (R172, R177, R302, R307, R359). -/
def flipStep (s : State) : State :=
  let s := s.str.cells.foldl cellStep3 (doFlips (flipParams s))
  let s := applyClusters (applyStreams s)
  { s with net := { s.net with txMode := s.fld Reg.NET_CTL_tx_mode } }

/-- Step 4: gain-cell steps (R177). -/
def gainStep (s : State) : State := s.str.cells.foldl (fun s r => cellStep4 s r.cell) s

/-- The program window of an engine that runs starts; the tick abort of a reset or graft at the next boundary falls in its
first cycle (R98). -/
def startWindows (s : State) : State :=
  let t := s.str.progs.foldl (fun s p =>
    if s.engState p.engine = engRun then s.setEngine p.engine (s.engine p.engine).window else s) s
  t.partOps.foldl (fun t o => if o.done = none then scheduleAbort t o.part o.start else t) t

/-- What the first fetch of engine `e` in its window finds, as `fs` lists it. -/
def fetchOf (fs : List (Nat × Fetch)) (e : Nat) : Fetch := ((fs.find? (fun f => f.1 == e)).map (·.2)).getD .clean

/-- Each engine that issues fetches the first word of its window (R66). -/
def fetchFirst (s : State) (fs : List (Nat × Fetch)) : State :=
  s.str.progs.foldl (fun t p => openCycle t p.engine (fetchOf fs p.engine)) s

/-- Step 5: sleep, wake and the start of the program windows (R229, R357). At the boundary of tick 0 no tick has ended that a silence
detector could count. A joiner decides sleep from its joining tick on (R252). -/
def windowStep (s : State) : State :=
  let s := (List.range 8).foldl resumeCluster (if s.tick = 0 then s else updateSilence s)
  startWindows (if s.boot = bootRun ∨ s.twin.paired then (List.range 8).foldl evalCluster s else s)

/-! ### The tick's other work -/

/-- The commit window, with the parameter copy of a join in the words that it leaves free (R253), and the values of a graft in the last
tick of its load (R164, R210). -/
def windowWrites (s : State) : State :=
  let s := dropDone (writeParams (commitWindow s) s.twin.params.length [])
  (s.partOps.map (·.part)).foldl graftBlocks s

/-- What an owner sends a joiner at boundary J − 1 (R252, R308, R359): groups with their bookings, leases, power states with
their controls, the silence count of every input, the media origin, and the resets and grafts that are pending. What it
accepts from then on it forwards. -/
def joinSnapshot (s : State) (j : Nat) : State :=
  let ctl (a : Nat) : CtlItem := .cluster 0 j a (if a < Reg.PWR_IDLE_TMR 0 then BitVec.ofNat 32 (bitsOf (s.reg a) 8 2 * 256)
    else s.reg a)
  let regs := (List.range 8).flatMap (fun c => [Reg.PWR_DOM_CTL (c + 2), Reg.PWR_IDLE_TMR (c + 2)]) ++
    (List.range 64).map Reg.PWR_SIL_MAP
  let items := s.groups.map CtlItem.inflight ++ s.leases.map (fun e => CtlItem.lease 0 e.1 e.2) ++
    (List.range 8).map (fun c => CtlItem.power c (asleep s c) (storeGet 0 s.wakeAt c)) ++
    regs.map ctl ++ s.cluWrites.map (fun w => CtlItem.cluster 0 w.1 w.2.1 w.2.2) ++
    (inputRecs s).map (fun r => CtlItem.silence r.num (storeGet 0 s.silence r.num)) ++ [CtlItem.origin s.origin] ++
    s.partOps.map (fun o => if o.graft then CtlItem.graft 0 o.part o.start else CtlItem.partReset 0 o.part o.start)
  items.foldl sendCtl s

/-- At boundary J the owner pairs, and the parameter copy and the copy of the sets start (R253, R255; log entry 46). -/
def joinPairs (s : State) (j : Nat) : State :=
  let t : State := { s with twin := { s.twin with
    paired := true, joinTick := none, paramNext := 1, matched := [], copyFrom := some j, copyNow := [], eqFrom := [],
    bulkDone := [], bulkAt := 0 } }
  t.setRipe ripeRipe

/-- One tick's share of the parameter copy: blocks in ascending order, as many as a settings save reads (R253, R277; log entry
46). -/
def paramShare (s : State) : State :=
  if s.twin.paramNext = 0 then s
  else
    let bs := (s.str.blocks.map (·.block)).mergeSort (fun a b => decide (a ≤ b))
    let k := 8 / 2 ^ s.fld Reg.TICK_RATE_mult
    let now := (bs.drop (s.twin.paramNext - 1)).take k
    let t := now.foldl (fun t b => sendCtl t (.param b (s.flip b) ((List.range 64).map (fun w => s.current b w)))) s
    let n := s.twin.paramNext + k
    { t with twin := { t.twin with paramNext := if bs.length < n then 0 else n } }

/-- The owner's side of a join. -/
def ownerJoin (s : State) : State :=
  let s := if s.owns then
      match s.twin.joinTick with
      | some j => if s.tick + 1 = j then joinSnapshot s j else if s.tick = j then joinPairs s j else s
      | none => s
    else s
  paramShare s

/-- The media origin is set once, and a leader sends it to its partner (R308). -/
def originStep (s : State) : State :=
  let t := setOrigin s
  if t.net.orgSet ∧ s.net.orgSet = false ∧ t.leads then sendCtl t (.origin t.origin) else t

/-- Milliseconds that pass at this boundary, and the rest kept for the next. -/
def countMs (s : State) : State :=
  let n := s.msFrac + 1000
  let ms := n / s.baseRate
  let s : State := { s with msFrac := n % s.baseRate }
  if ms = 0 then s
  else
    let down := (List.range 4).foldl (fun m p =>
      if s.fld (Reg.NET_PORT_STAT_link p) = 0 then storeSet 0 m p (storeGet 0 m p + ms) else m) s.net.downMs
    residency { s with
      sessions := s.sessions.map (fun e => (e.1, { e.2 with idle := e.2.idle + ms })),
      openReqs := s.openReqs.map (fun r => { r with ms := r.ms + ms }),
      net := { s.net with downMs := down } } ms

/-- Checks of the pair at a boundary (R240, R241, R255 to R258). -/
def pairChecks (s : State) : State :=
  let s := compareCrcs s
  releaseKept (joinProgress ((twinGroups s).foldl endDiverge s))

/-- Steps 2 to 5 of a boundary (R41). -/
def boundarySteps (s : State) (peers : Bool) : State :=
  windowStep (gainStep (flipStep (breaksAndResets (releaseFloat s) peers)))

/-- What else a boundary does, once the windows have started. -/
def boundaryRest (s : State) (p : TickPins) : State :=
  let s := ownerJoin (windowWrites (runDau s p.bursts))
  let s := sampleLinks s
  let s := pairChecks { s with twin := { s.twin with ownerHot := [] } }
  let s := formFrame (makeCrcs (formOutputs s))
  let s := applyBanks (clkBoundary (showMediaErr (originStep (if s.tick = 0 then s else phcTick s))))
  raiseEvent (showPinned (saveStep (countMs s))) 0

/-- Steps 2 to 5 of a boundary and the rest of its work. -/
def boundaryWork (s : State) (p : TickPins) (peers : Bool) : State :=
  boundaryRest (fetchFirst (boundarySteps s peers) p.fetch) p

/-- A restart that waited for a handover, or follows a yield (R267, R273). -/
def restartDue (s : State) : Option Nat :=
  if s.twin.yield ∧ s.owns = false then some 14
  else if s.twin.restartAfterHo ∧ s.twin.hoPend = none then some 1
  else none

/-- The boundary at which TICK_COUNT takes the value `n`. -/
def boundaryAt (s : State) (n : Nat) (p : TickPins) : State :=
  let s := newTick (carryWords (writeLines (takeMeasures (linkPins { s with tick := n } p) p false)))
  let peers := s.twin.peerGone && s.twin.ownNext.isNone
  let t := twnEvent s (ownership s)
  match restartDue t with
  | some c => restart t (some c)
  | none => boundaryWork t p peers

/-- TICK_BOUNDARY (R41). -/
def execTickBoundary (pins : TickPins) (s : State) : Host.Outcome State Fault Refusal :=
  .next (if s.tickOn then boundaryAt s (s.tick + 1) pins else s)

/-- CAPTURE_INSTANT (R142): the input words of the tick are closed, and an owner's network words join its link frame (R237). -/
def execCaptureInstant (s : State) : Host.Outcome State Fault Refusal :=
  .next (if s.tickOn then (let t := captureInputs s; shareNet t t.io.netHeld) else s)

/-! ### The start of the tick generator (Table 11.3 L6, Table 11.5) -/

/-- How a start ends: alone, as a pair that starts cold, or as a joiner. -/
inductive StartKind where
  | sole | common | joiner
deriving DecidableEq, Repr

/-- Table 11.5; none while role B waits. `common`: the partner starts cold at this very tick (R236), so it is no running partner to join,
even where its first frame has come already; its image has to be known to be equal or compatible (R234). A twin that shares its
role with the partner starts alone (R232). -/
def startKind (s : State) (p : TickPins) (common : Bool) : Option StartKind :=
  let pair := common && p.aligned && s.fld Reg.TWN_LINK_role_clash == 0 && decide (s.twin.image < 2)
  if s.twinMode = false ∨ s.fld Reg.TWN_LINK_role_clash = 1 then some .sole
  else if s.fld Reg.TWN_STAT_role = 0 then some (if pair then .common else .sole)
  else if pair then some .common
  else if p.aligned ∧ (s.twin.partnerBoot = bootRun ∨ s.twin.partnerBoot = bootRipening) then some .joiner
  else if s.twin.soleOk ∧ p.aligned = false then some .sole
  else none

/-- Ownership, pairing and ripeness as a start ends (R232, R236, R266). -/
def startRole (s : State) (k : StartKind) : State :=
  if s.twinMode = false then s
  else
    let a := s.fld Reg.TWN_STAT_role == 0
    match k with
    | .sole =>
      let clash := s.fld Reg.TWN_LINK_role_clash == 1
      (s.setFld Reg.TWN_STAT_owner (!clash).toNat).setRipe (if clash then ripeDetached else ripeSole)
    | .common =>
      let t : State := { s with twin := { s.twin with paired := true } }
      (t.setFld Reg.TWN_STAT_owner a.toNat).setRipe ripeRipe
    | .joiner => (s.setFld Reg.TWN_STAT_owner 0).setRipe ripeDetached

/-- The tick runs from tick 0; PCIE goes OFF where the image does not enable it (Table 16.1). -/
def tickZero (s : State) : State :=
  let s : State := (endPhase { passTime s with tickOn := true, tick := 0, retrainDue := retrainPeriod s } 6).setFld Reg.ESP_STAT_state 0
  if s.str.board.pcieEn = 1 then s else s.setDomSt 12 domStOff

/-- At the first boundary no tick without heartbeat has been counted. -/
def heardAll (s : State) : State := { s with twin := { s.twin with silent := 0 } }

/-- The state that the start of the tick generator reaches: RIPENING for a joiner, else RUN with the engines started. -/
def startState (s : State) (k : StartKind) : State :=
  match k with
  | .joiner => s.setBoot bootRipening
  | _ => startEngines (s.setBoot bootRun)

/-- L6 ends: tick 0 begins (R39, R262, R265, R369). -/
def startTick (s : State) (k : StartKind) (p : TickPins) : State :=
  let t := startPorts (startRole (heardAll (linkPins (gridStart (tickZero s)) p)) k)
  boundaryWork (newTick (showAlive (startState t k))) p false

/-- TICK_GENERATOR_START (R262, R266). -/
def execTickGeneratorStart (pins : TickPins) (common : Bool) (s : State) : Host.Outcome State Fault Refusal :=
  if atPhase s [1, 2, 3, 4, 5] then
    match startKind s pins common with
    | some k => .next (twnEvent s (startTick s k pins))
    | none => .next s
  else .next s

/-! ### The joining tick (R252) -/

/-- At boundary J the joiner's engines start (R45) and its lines start with age 0 (R252). -/
def joinEngines (s : State) : State :=
  let s := startEngines s
  s.str.lines.foldl (fun s r => s.setAge r 0) s

/-- JOIN_TICK (R252): at boundary J the joiner adopts the count, is a commit follower, and its engines start. -/
def execJoinTick (pins : TickPins) (s : State) : Host.Outcome State Fault Refusal :=
  match s.twin.joinTick with
  | none => .next s
  | some j =>
    if s.tickOn ∧ s.ripe = ripeJoining ∧ s.owns = false then
      let u : State := { s with tick := j, retrainDue := ((s.retrainDue : Int) + j - s.tick).toNat }
      let t : State := newTick (carryWords (takeMeasures (linkPins u pins) pins true))
      let t : State := { t with twin := { t.twin with
        paired := true, matched := [], eqFrom := [], bulkDone := [], joinTick := none, copyFrom := some j, copyNow := [] } }
      .next (boundaryWork (joinEngines (twnChange (fun t => t.setRipe ripeCopying) t)) pins false)
    else .next s

end Sys2Proof.Machine
end

