-- ==== Sys2Proof/Machine/EngineA.lean ====
section
/-!
DEFINITION. Machine/EngineA.lean: the A slot (R82 to R86). Every operation reads at issue (R47) and delivers at the
distance of Table 04.2: 1, or 2 for a long write of a K or M register.
-/
namespace Sys2Proof.Machine

/-- An A-slot operation whose effects complete at distance 1 (Table 04.2). -/
def aOp (e : EngNo) (i : Instr) (f : Engine → List Eff) (s : State) : State :=
  slotOp s e i [.a] (fun x => x.launch 1 (f x))

/-- A long A form, which takes the A, L0 and L1 slots of its word (R75), at distance `d`. -/
def longOp (e : EngNo) (i : Instr) (d : Nat) (f : Engine → List Eff) (s : State) : State :=
  slotOp s e i [.a, .l0, .l1] (fun x => x.launch d (f x))

/-- A write of Vd from the A slot, into the physical register named at issue (R49). -/
def aV (x : Engine) (vd : VNo) (v : Word) : Eff := .wrV .a (physReg x.rrb vd.val) v

/-- A saturating A-slot result: the clamped word and FLG.sat (R57). -/
def aSat (x : Engine) (vd : VNo) (exact : Int) : List Eff :=
  aV x vd (sat32 exact) :: (if outside32 exact then [.flgSet flgSat] else [])

/-- A two-register operation (R83): `f vd vs`. -/
def aTwo (f : Word → Word → Word) (e : EngNo) (i : Instr) (vd vs : VNo) (s : State) : State :=
  aOp e i (fun x => [aV x vd (f (x.rd vd.val) (x.rd vs.val))]) s

/-- A saturating two-register operation (R83). -/
def aTwoSat (f : Int → Int → Int) (e : EngNo) (i : Instr) (vd vs : VNo) (s : State) : State :=
  aOp e i (fun x => aSat x vd (f (x.rd vd.val).toInt (x.rd vs.val).toInt)) s

/-- A unary operation on Vd (R84). -/
def aOne (f : Word → Word) (e : EngNo) (i : Instr) (vd : VNo) (s : State) : State :=
  aOp e i (fun x => [aV x vd (f (x.rd vd.val))]) s

/-- A saturating unary operation on Vd (R84). -/
def aOneSat (f : Word → Int) (e : EngNo) (i : Instr) (vd : VNo) (s : State) : State :=
  aOp e i (fun x => aSat x vd (f (x.rd vd.val))) s

/-- EXT (R82, R54): the extraction, saturated; with the track option BX takes EXP of the written value (R61). -/
def execExt (e : EngNo) (k : Fin 4) (vd : VNo) (sh : Fin 64) (rnd trk : Bool) (s : State) :
    Host.Outcome State Fault Refusal :=
  .next (aOp e (.ext e k vd sh rnd trk) (fun x =>
    let q := extractExact (x.accRead k.val) sh.val rnd
    aSat x vd q ++ (if trk then [.bxMin (exp32 (sat32 q))] else [])) s)

/-- ADD (R83): wrapping addition. -/
def execAdd (e : EngNo) (vd vs : VNo) (s : State) : Host.Outcome State Fault Refusal :=
  .next (aTwo (fun a b => a + b) e (.add e vd vs) vd vs s)

/-- SUB (R83): wrapping subtraction. -/
def execSub (e : EngNo) (vd vs : VNo) (s : State) : Host.Outcome State Fault Refusal :=
  .next (aTwo (fun a b => a - b) e (.sub e vd vs) vd vs s)

/-- MOV (R83). -/
def execMov (e : EngNo) (vd vs : VNo) (s : State) : Host.Outcome State Fault Refusal :=
  .next (aTwo (fun _ b => b) e (.mov e vd vs) vd vs s)

/-- MIN (R83): signed minimum. -/
def execMin (e : EngNo) (vd vs : VNo) (s : State) : Host.Outcome State Fault Refusal :=
  .next (aTwo (fun a b => if a.toInt ≤ b.toInt then a else b) e (.min_ e vd vs) vd vs s)

/-- MAX (R83): signed maximum. -/
def execMax (e : EngNo) (vd vs : VNo) (s : State) : Host.Outcome State Fault Refusal :=
  .next (aTwo (fun a b => if a.toInt ≤ b.toInt then b else a) e (.max_ e vd vs) vd vs s)

/-- AND (R83). -/
def execAnd (e : EngNo) (vd vs : VNo) (s : State) : Host.Outcome State Fault Refusal :=
  .next (aTwo (fun a b => a &&& b) e (.and_ e vd vs) vd vs s)

/-- OR (R83). -/
def execOr (e : EngNo) (vd vs : VNo) (s : State) : Host.Outcome State Fault Refusal :=
  .next (aTwo (fun a b => a ||| b) e (.or_ e vd vs) vd vs s)

/-- XOR (R83). -/
def execXor (e : EngNo) (vd vs : VNo) (s : State) : Host.Outcome State Fault Refusal :=
  .next (aTwo (fun a b => a ^^^ b) e (.xor_ e vd vs) vd vs s)

/-- CLT (R83): signed compare. -/
def execClt (e : EngNo) (vd vs : VNo) (s : State) : Host.Outcome State Fault Refusal :=
  .next (aTwo (fun a b => if a.toInt < b.toInt then 0xFFFFFFFF else 0) e (.clt e vd vs) vd vs s)

/-- CLE (R83): signed compare. -/
def execCle (e : EngNo) (vd vs : VNo) (s : State) : Host.Outcome State Fault Refusal :=
  .next (aTwo (fun a b => if a.toInt ≤ b.toInt then 0xFFFFFFFF else 0) e (.cle e vd vs) vd vs s)

/-- ADDS (R83): saturating addition. -/
def execAdds (e : EngNo) (vd vs : VNo) (s : State) : Host.Outcome State Fault Refusal :=
  .next (aTwoSat (fun a b => a + b) e (.adds e vd vs) vd vs s)

/-- SUBS (R83): saturating subtraction. -/
def execSubs (e : EngNo) (vd vs : VNo) (s : State) : Host.Outcome State Fault Refusal :=
  .next (aTwoSat (fun a b => a - b) e (.subs e vd vs) vd vs s)

/-- SEL (R83): Vs where bit 31 of V0 is 1, else Vd. -/
def execSel (e : EngNo) (vd vs : VNo) (s : State) : Host.Outcome State Fault Refusal :=
  .next (aOp e (.sel e vd vs) (fun x => [aV x vd (if (x.rd 0).getLsbD 31 then x.rd vs.val else x.rd vd.val)]) s)

/-- SHI (R83): saturating left, convergent right. -/
def execShi (e : EngNo) (vd : VNo) (n : BitVec 6) (s : State) : Host.Outcome State Fault Refusal :=
  .next (aOp e (.shi e vd n) (fun x => aSat x vd (shiExact (x.rd vd.val) n.toInt)) s)

/-- SHT (R83): wrapping left, floor right. -/
def execSht (e : EngNo) (vd : VNo) (n : BitVec 6) (s : State) : Host.Outcome State Fault Refusal :=
  .next (aOp e (.sht e vd n) (fun x => [aV x vd (shtVal (x.rd vd.val) n.toInt)]) s)

/-- NOP (R84): the A slot does nothing. -/
def execNop (e : EngNo) (s : State) : Host.Outcome State Fault Refusal :=
  .next (aOp e (.nop e) (fun _ => []) s)

/-- NEG (R84): saturating. -/
def execNeg (e : EngNo) (vd : VNo) (s : State) : Host.Outcome State Fault Refusal :=
  .next (aOneSat (fun a => -a.toInt) e (.neg e vd) vd s)

/-- ABS (R84): saturating. -/
def execAbs (e : EngNo) (vd : VNo) (s : State) : Host.Outcome State Fault Refusal :=
  .next (aOneSat (fun a => if a.toInt < 0 then -a.toInt else a.toInt) e (.abs e vd) vd s)

/-- NOT (R84). -/
def execNot (e : EngNo) (vd : VNo) (s : State) : Host.Outcome State Fault Refusal :=
  .next (aOne (fun a => ~~~a) e (.not_ e vd) vd s)

/-- EXP (R59). -/
def execExp (e : EngNo) (vd : VNo) (s : State) : Host.Outcome State Fault Refusal :=
  .next (aOne (fun a => BitVec.ofNat 32 (exp32 a)) e (.exp e vd) vd s)

/-- NORM (R59). -/
def execNorm (e : EngNo) (vd : VNo) (s : State) : Host.Outcome State Fault Refusal :=
  .next (aOne (fun a => BitVec.ofInt 32 (a.toInt * 2 ^ exp32 a)) e (.norm e vd) vd s)

/-- TRK (R61): BX takes the smaller of itself and EXP(Vd). -/
def execTrk (e : EngNo) (vd : VNo) (s : State) : Host.Outcome State Fault Refusal :=
  .next (aOp e (.trk e vd) (fun x => [.bxMin (exp32 (x.rd vd.val))]) s)

/-- BXCLR (R61). -/
def execBxclr (e : EngNo) (s : State) : Host.Outcome State Fault Refusal :=
  .next (aOp e (.bxclr e) (fun _ => [.bxClr]) s)

/-- BXRD (R84). -/
def execBxrd (e : EngNo) (vd : VNo) (s : State) : Host.Outcome State Fault Refusal :=
  .next (aOp e (.bxrd e vd) (fun x => [aV x vd (x.bx.setWidth 32)]) s)

/-- BXS (R61): block scaling by BX − g. -/
def execBxs (e : EngNo) (vd : VNo) (g : Fin 8) (s : State) : Host.Outcome State Fault Refusal :=
  .next (aOp e (.bxs e vd g) (fun x => aSat x vd (bxsExact (x.rd vd.val) x.bx.toNat g.val)) s)

/-- EXPA (R60). -/
def execExpa (e : EngNo) (vd : VNo) (k : Fin 4) (s : State) : Host.Outcome State Fault Refusal :=
  .next (aOp e (.expa e vd k) (fun x => [aV x vd (BitVec.ofNat 32 (expA (x.accRead k.val)))]) s)

/-- ACLR (R84). -/
def execAclr (e : EngNo) (k : Fin 4) (s : State) : Host.Outcome State Fault Refusal :=
  .next (aOp e (.aclr e k) (fun _ => [.accA k.val 0]) s)

/-- APRD (R55). -/
def execAprd (e : EngNo) (vd : VNo) (part : AccPart) (k : Fin 4) (s : State) : Host.Outcome State Fault Refusal :=
  .next (aOp e (.aprd e vd part k) (fun x => [aV x vd (accPartRead (x.accRead k.val) part)]) s)

/-- APWR (R55). The part merges into the accumulator as it stands when the write completes (log entry 12). -/
def execApwr (e : EngNo) (vs : VNo) (part : AccPart) (k : Fin 4) (s : State) : Host.Outcome State Fault Refusal :=
  .next (aOp e (.apwr e vs part k) (fun x => [.accPart k.val (partNum part) (x.rd vs.val)]) s)

/-- FLGRD (R85). -/
def execFlgrd (e : EngNo) (vd : VNo) (s : State) : Host.Outcome State Fault Refusal :=
  .next (aOp e (.flgrd e vd) (fun x => [aV x vd (x.flg.setWidth 32)]) s)

/-- FLGCLR (R85). -/
def execFlgclr (e : EngNo) (mask : BitVec 6) (s : State) : Host.Outcome State Fault Refusal :=
  .next (aOp e (.flgclr e mask) (fun _ => [.flgClr mask]) s)

/-- RRBRD (R84). -/
def execRrbrd (e : EngNo) (vd : VNo) (s : State) : Host.Outcome State Fault Refusal :=
  .next (aOp e (.rrbrd e vd) (fun x => [aV x vd (x.rrb.setWidth 32)]) s)

/-- RRBSET (R84). -/
def execRrbset (e : EngNo) (val : BitVec 5) (s : State) : Host.Outcome State Fault Refusal :=
  .next (aOp e (.rrbset e val) (fun _ => [.rrbSet val]) s)

/-- RRBWR (R84). -/
def execRrbwr (e : EngNo) (vs : VNo) (s : State) : Host.Outcome State Fault Refusal :=
  .next (aOp e (.rrbwr e vs) (fun x => [.rrbSet ((x.rd vs.val).setWidth 5)]) s)

/-- SETK (R86): zero-extended. -/
def execSetk (e : EngNo) (n : Fin 16) (imm : BitVec 20) (s : State) : Host.Outcome State Fault Refusal :=
  .next (longOp e (.setk e n imm) 2 (fun _ => [.wrK true n.val (imm.setWidth 24)]) s)

/-- SETM (R86): sign-extended. -/
def execSetm (e : EngNo) (n : Fin 16) (imm : BitVec 20) (s : State) : Host.Outcome State Fault Refusal :=
  .next (longOp e (.setm e n imm) 2 (fun _ => [.wrM n.val (imm.signExtend 24)]) s)

/-- ADDK (R86): modulo 2^24. -/
def execAddk (e : EngNo) (n : Fin 16) (imm : BitVec 20) (s : State) : Host.Outcome State Fault Refusal :=
  .next (longOp e (.addk e n imm) 2 (fun x => [.wrK true n.val (x.kReg n.val + imm.signExtend 24)]) s)

/-- ADDM (R86): modulo 2^24. -/
def execAddm (e : EngNo) (n : Fin 16) (imm : BitVec 20) (s : State) : Host.Outcome State Fault Refusal :=
  .next (longOp e (.addm e n imm) 2 (fun x => [.wrM n.val (x.mReg n.val + imm.signExtend 24)]) s)

/-- SETVH (R86). -/
def execSetvh (e : EngNo) (vd : VNo) (imm : BitVec 18) (s : State) : Host.Outcome State Fault Refusal :=
  .next (longOp e (.setvh e vd imm) 1 (fun x => [aV x vd (imm.setWidth 32 <<< 14)]) s)

/-- SETVL (R86). -/
def execSetvl (e : EngNo) (vd : VNo) (imm : BitVec 18) (s : State) : Host.Outcome State Fault Refusal :=
  .next (longOp e (.setvl e vd imm) 1 (fun x => [aV x vd (imm.signExtend 32)]) s)

/-- INSL (R86): bits 31:14 kept as read at issue. -/
def execInsl (e : EngNo) (vd : VNo) (imm : BitVec 14) (s : State) : Host.Outcome State Fault Refusal :=
  .next (longOp e (.insl e vd imm) 1 (fun x => [aV x vd ((x.rd vd.val >>> 14 <<< 14) ||| imm.setWidth 32)]) s)

/-- LDA (R55, R86): s above 48 is no instruction (R102). -/
def execLda (e : EngNo) (k : Fin 4) (vs : VNo) (sh : Fin 64) (s : State) : Host.Outcome State Fault Refusal :=
  if (Instr.lda e k vs sh).wellFormed then
    .next (longOp e (.lda e k vs sh) 1 (fun x => [.accA k.val (ldaVal (x.rd vs.val) sh.val)]) s)
  else .refused (.illFormed "LDA")

/-- MOVKV (R86). -/
def execMovkv (e : EngNo) (km : Bool) (n : Fin 16) (vs : VNo) (s : State) : Host.Outcome State Fault Refusal :=
  .next (longOp e (.movkv e km n vs) 2 (fun x =>
    if km then [.wrM n.val ((x.rd vs.val).setWidth 24)] else [.wrK true n.val ((x.rd vs.val).setWidth 24)]) s)

/-- MOVVK (R86). -/
def execMovvk (e : EngNo) (km : Bool) (n : Fin 16) (vd : VNo) (s : State) : Host.Outcome State Fault Refusal :=
  .next (longOp e (.movvk e km n vd) 1 (fun x =>
    [aV x vd (if km then (x.mReg n.val).signExtend 32 else (x.kReg n.val).setWidth 32)]) s)

end Sys2Proof.Machine
end

