-- ==== Sys2Proof/Machine/EngineL.lean ====
section
/-!
DEFINITION. Machine/EngineL.lean: the L slots: loads and stores of local data memory (R62, R63, R67, R68, R87 to R90).
-/
namespace Sys2Proof.Machine

/-- The slot of an L operation. -/
def lSlot : LSlot → Slot
  | .l0 => .l0
  | .l1 => .l1

/-- The slot may issue. The L0 access of a word comes before its L1 access (R63), so an L0 operation issues only
before the L1 operation of the same cycle. -/
def lFree (s : State) (e : EngNo) (i : Instr) (slot : LSlot) : Bool :=
  match slot with
  | .l0 => slotFree s e i [.l0, .l1]
  | .l1 => slotFree s e i [.l1]

/-- The effective address before the wrap of R62 (Table 04.9). -/
def ldEff (x : Engine) (slot : LSlot) (mode : LdMode) (kp : Nat) : Addr24 :=
  let r := lRegs slot kp
  match mode with
  | .offset => x.kReg r.1 + x.mReg r.2.1
  | _ => x.kReg r.1

/-- The pointer update of a load (Table 04.9), at distance 0. -/
def ldPost (x : Engine) (slot : LSlot) (mode : LdMode) (kp : Nat) : List Eff :=
  let r := lRegs slot kp
  match mode with
  | .post => [.wrK false r.1 (x.kReg r.1 + x.mReg r.2.1)]
  | .circ => [.wrK false r.1 (circ (x.kReg r.1) (x.mReg r.2.1) (x.mReg r.2.2))]
  | _ => []

/-- The pointer update of a store (Table 04.9), at distance 0. -/
def stPost (x : Engine) (slot : LSlot) (mode : StMode) (kp : Nat) : List Eff :=
  let r := lRegs slot kp
  match mode with
  | .post => [.wrK false r.1 (x.kReg r.1 + x.mReg r.2.1)]
  | .circ => [.wrK false r.1 (circ (x.kReg r.1) (x.mReg r.2.1) (x.mReg r.2.2))]
  | .plain => []

/-- The checks of a load's read (R66 to R68, R70): a corrected error is counted and queued for write-back, an
uncorrectable one is a fault of kind 2; an armed injection acts on the next L0 read. What that very read finds by itself counts beside the
injection (DESIGN CHOICE, log entry 149). -/
def loadChecks (s : State) (e : Nat) (slot : LSlot) (a : Nat) (ecc : Ecc) : State :=
  let s :=
    if slot = .l0 ∧ armedKind s e = 2 then queueWriteBack (correctedError (disarm s e) e true) e a
    else if slot = .l0 ∧ armedKind s e = 3 then
      clusterFault (disarm s e) (e / 16) 2 (e % 16) a (clusterCycle s e) true
    else s
  match ecc with
  | .clean => s
  | .corrected => queueWriteBack (correctedError s e true) e a
  | .uncorrectable => clusterFault s (e / 16) 2 (e % 16) a (clusterCycle s e) false

/-- FLG.addr of an address beyond local data memory, seen by FLGRD at distance 3 (R62, Table 04.2). -/
def addrPend (f : BitVec 6) (x : Engine) : Engine := if f = 0 then x else x.launch 3 [.flgSet f]

/-- LD (R88): Vt takes the word at distance 3; the pointer moves at distance 0. -/
def execLd (e : EngNo) (slot : LSlot) (mode : LdMode) (vt : VNo) (kp : Fin 4) (ecc : Ecc) (s : State) :
    Host.Outcome State Fault Refusal :=
  if lFree s e (.ld e slot mode vt kp ecc) slot then
    let s := issueSlots s e [lSlot slot]
    let x := s.engine e
    let ea := ldEff x slot mode kp.val
    let a := loadAddr s e (ea.toNat % 65536)
    let x' := addrPend (lAddrFlag ea) ((x.launch 0 (ldPost x slot mode kp.val)).launch 3
      [.wrV (lSlot slot) (physReg x.rrb vt.val) (x.memAt a)])
    .next (loadChecks (s.setEngine e x') e slot a ecc)
  else .next s

/-- ST (R88, R90): the word is stored at once; a store into one of the engine's parameter blocks is not performed and
sets FLG.addr. -/
def execSt (e : EngNo) (slot : LSlot) (mode : StMode) (vt : VNo) (kp : Fin 4) (s : State) :
    Host.Outcome State Fault Refusal :=
  if lFree s e (.st e slot mode vt kp) slot then
    let s := issueSlots s e [lSlot slot]
    let x := s.engine e
    let ea := x.kReg (lRegs slot kp.val).1
    let a := ea.toNat % 65536
    let x1 := addrPend (lAddrFlag ea) (x.launch 0 (stPost x slot mode kp.val))
    let x2 := match blockAt s e a with
      | some _ => addrPend flgAddr x1
      | none => { x1 with mem := storeSet 0 x1.mem a (x.rd vt.val) }
    .next (s.setEngine e x2)
  else .next s

end Sys2Proof.Machine
end

