-- ==== Sys2Proof/Machine/EngineM.lean ====
section
/-!
DEFINITION. Machine/EngineM.lean: the M slot (R50 to R53, R65, R80, R81).
-/
namespace Sys2Proof.Machine

/-- The three updates of an accumulator (R52). -/
inductive MacOp where
  | mpy | mac | msu
deriving DecidableEq, Repr

/-- The exact result of an update (R52). -/
def MacOp.exact : MacOp → Int → Int → Int
  | .mpy, _, x => x
  | .mac, a, x => a + x
  | .msu, a, x => a - x

/-- The updates a quad multiply-accumulate puts in flight (R52, R53). -/
def macEffs (op : MacOp) (o : MOp) (x : Engine) : List Eff :=
  (macTerms x o).map (fun t =>
    let ex := op.exact (x.accUpd t.1).toInt t.2
    .accM t.1 (wrap80 ex) (overflows80 ex))

/-- The residue check of one lane reports a fault of kind 1 (R65, R69). -/
def residueFault (s : State) (e lane : Nat) (inj : Bool) : State :=
  clusterFault s (e / 16) 1 (e % 16) lane (clusterCycle s e) inj

/-- The residue checks of the four lanes: an armed injection of kind 1 fires on lane 0 (R70), a lane named by `bad`
fails (R65). -/
def residueChecks (s : State) (e : Nat) (bad : BitVec 4) : State :=
  let s := if armedKind s e = 1 then residueFault (disarm s e) e 0 true
           else if bad.getLsbD 0 then residueFault s e 0 false else s
  let s := if bad.getLsbD 1 then residueFault s e 1 false else s
  let s := if bad.getLsbD 2 then residueFault s e 2 false else s
  if bad.getLsbD 3 then residueFault s e 3 false else s

/-- One quad multiply-accumulate (R52): the update and the residue checks beside it. -/
def quadMac (op : MacOp) (e : EngNo) (i : Instr) (o : MOp) (s : State) : State :=
  if slotFree s e i [.m] then
    let t := slotOp s e i [.m] (fun x => x.launch 0 (macEffs op o x))
    residueChecks t e o.resBad
  else s

/-- MPY (R52). -/
def execMpy (e : EngNo) (o : MOp) (s : State) : Host.Outcome State Fault Refusal := .next (quadMac .mpy e (.mpy e o) o s)

/-- MAC (R52). -/
def execMac (e : EngNo) (o : MOp) (s : State) : Host.Outcome State Fault Refusal := .next (quadMac .mac e (.mac e o) o s)

/-- MSU (R52). -/
def execMsu (e : EngNo) (o : MOp) (s : State) : Host.Outcome State Fault Refusal := .next (quadMac .msu e (.msu e o) o s)

end Sys2Proof.Machine
end

