-- ==== Sys2Proof/Machine/Dispatch.lean ====
section
/-!
DEFINITION. Machine/Dispatch.lean: one arm per command.
-/
namespace Sys2Proof.Machine

def exec (i : Instr) (s : State) : Host.Outcome State Fault Refusal :=
  match i with
  | .tickBoundary pins => Sys2Proof.Machine.execTickBoundary pins s
  | .dramRetrain ch warn => Sys2Proof.Machine.execDramRetrain ch warn s
  | .dramRefresh => Sys2Proof.Machine.execDramRefresh s
  | .groupFlip => Sys2Proof.Machine.execGroupFlip s
  | .gainCellTimeout cell => Sys2Proof.Machine.execGainCellTimeout cell s
  | .clusterResume c => Sys2Proof.Machine.execClusterResume c s
  | .divergeMuteEnd g => Sys2Proof.Machine.execDivergeMuteEnd g s
  | .tickGuard c finds => Sys2Proof.Machine.execTickGuard c finds s
  | .captureInstant => Sys2Proof.Machine.execCaptureInstant s
  | .launchInstant => Sys2Proof.Machine.execLaunchInstant s
  | .engineDelayedWrite e next => Sys2Proof.Machine.execEngineDelayedWrite e next s
  | .selfDetectedFault src => Sys2Proof.Machine.execSelfDetectedFault src s
  | .faultHoldEnd => Sys2Proof.Machine.execFaultHoldEnd s
  | .mpy e o => Sys2Proof.Machine.execMpy e o s
  | .mac e o => Sys2Proof.Machine.execMac e o s
  | .msu e o => Sys2Proof.Machine.execMsu e o s
  | .ext e k vd sh rnd trk => Sys2Proof.Machine.execExt e k vd sh rnd trk s
  | .add e vd vs => Sys2Proof.Machine.execAdd e vd vs s
  | .sub e vd vs => Sys2Proof.Machine.execSub e vd vs s
  | .adds e vd vs => Sys2Proof.Machine.execAdds e vd vs s
  | .subs e vd vs => Sys2Proof.Machine.execSubs e vd vs s
  | .mov e vd vs => Sys2Proof.Machine.execMov e vd vs s
  | .min_ e vd vs => Sys2Proof.Machine.execMin e vd vs s
  | .max_ e vd vs => Sys2Proof.Machine.execMax e vd vs s
  | .and_ e vd vs => Sys2Proof.Machine.execAnd e vd vs s
  | .or_ e vd vs => Sys2Proof.Machine.execOr e vd vs s
  | .xor_ e vd vs => Sys2Proof.Machine.execXor e vd vs s
  | .sel e vd vs => Sys2Proof.Machine.execSel e vd vs s
  | .clt e vd vs => Sys2Proof.Machine.execClt e vd vs s
  | .cle e vd vs => Sys2Proof.Machine.execCle e vd vs s
  | .shi e vd n => Sys2Proof.Machine.execShi e vd n s
  | .sht e vd n => Sys2Proof.Machine.execSht e vd n s
  | .nop e => Sys2Proof.Machine.execNop e s
  | .neg e vd => Sys2Proof.Machine.execNeg e vd s
  | .abs e vd => Sys2Proof.Machine.execAbs e vd s
  | .not_ e vd => Sys2Proof.Machine.execNot e vd s
  | .exp e vd => Sys2Proof.Machine.execExp e vd s
  | .norm e vd => Sys2Proof.Machine.execNorm e vd s
  | .trk e vd => Sys2Proof.Machine.execTrk e vd s
  | .bxclr e => Sys2Proof.Machine.execBxclr e s
  | .bxrd e vd => Sys2Proof.Machine.execBxrd e vd s
  | .bxs e vd g => Sys2Proof.Machine.execBxs e vd g s
  | .expa e vd k => Sys2Proof.Machine.execExpa e vd k s
  | .aclr e k => Sys2Proof.Machine.execAclr e k s
  | .aprd e vd part k => Sys2Proof.Machine.execAprd e vd part k s
  | .apwr e vs part k => Sys2Proof.Machine.execApwr e vs part k s
  | .flgrd e vd => Sys2Proof.Machine.execFlgrd e vd s
  | .flgclr e mask => Sys2Proof.Machine.execFlgclr e mask s
  | .rrbrd e vd => Sys2Proof.Machine.execRrbrd e vd s
  | .rrbset e val => Sys2Proof.Machine.execRrbset e val s
  | .rrbwr e vs => Sys2Proof.Machine.execRrbwr e vs s
  | .setk e n imm => Sys2Proof.Machine.execSetk e n imm s
  | .setm e n imm => Sys2Proof.Machine.execSetm e n imm s
  | .addk e n imm => Sys2Proof.Machine.execAddk e n imm s
  | .addm e n imm => Sys2Proof.Machine.execAddm e n imm s
  | .setvh e vd imm => Sys2Proof.Machine.execSetvh e vd imm s
  | .setvl e vd imm => Sys2Proof.Machine.execSetvl e vd imm s
  | .insl e vd imm => Sys2Proof.Machine.execInsl e vd imm s
  | .lda e k vs sh => Sys2Proof.Machine.execLda e k vs sh s
  | .movkv e km n vs => Sys2Proof.Machine.execMovkv e km n vs s
  | .movvk e km n vd => Sys2Proof.Machine.execMovvk e km n vd s
  | .ld e slot mode vt kp ecc => Sys2Proof.Machine.execLd e slot mode vt kp ecc s
  | .st e slot mode vt kp => Sys2Proof.Machine.execSt e slot mode vt kp s
  | .xnop e => Sys2Proof.Machine.execXnop e s
  | .rot e => Sys2Proof.Machine.execRot e s
  | .phase e => Sys2Proof.Machine.execPhase e s
  | .loop e rot lenM1 cntM1 => Sys2Proof.Machine.execLoop e rot lenM1 cntM1 s
  | .rep e cntM1 => Sys2Proof.Machine.execRep e cntM1 s
  | .endProg e => Sys2Proof.Machine.execEndProg e s
  | .xr e n ecc => Sys2Proof.Machine.execXr e n ecc s
  | .xw e n => Sys2Proof.Machine.execXw e n s
  | .reqDelayTap e n ecc => Sys2Proof.Machine.execReqDelayTap e n ecc s
  | .reqGainCell e n => Sys2Proof.Machine.execReqGainCell e n s
  | .engFaultClear c => Sys2Proof.Machine.execEngFaultClear c s
  | .finjArm c e kind => Sys2Proof.Machine.execFinjArm c e kind s
  | .finjDisarm c v => Sys2Proof.Machine.execFinjDisarm c v s
  | .engLogClr c => Sys2Proof.Machine.execEngLogClr c s
  | .engCntClr c => Sys2Proof.Machine.execEngCntClr c s
  | .refLoss src => Sys2Proof.Machine.execRefLoss src s
  | .altFallback => Sys2Proof.Machine.execAltFallback s
  | .refRevert => Sys2Proof.Machine.execRefRevert s
  | .sourceValidAgain src => Sys2Proof.Machine.execSourceValidAgain src s
  | .pllaUpdate errNs => Sys2Proof.Machine.execPllaUpdate errNs s
  | .pllaLock => Sys2Proof.Machine.execPllaLock s
  | .clkRefselWrite v => Sys2Proof.Machine.execClkRefselWrite v s
  | .pllaCtlWrite v => Sys2Proof.Machine.execPllaCtlWrite v s
  | .vtuneWarn near => Sys2Proof.Machine.execVtuneWarn near s
  | .pllbUnlock xtal => Sys2Proof.Machine.execPllbUnlock xtal s
  | .clkOutConfig n div v => Sys2Proof.Machine.execClkOutConfig n div v s
  | .clkWclkConfig v => Sys2Proof.Machine.execClkWclkConfig v s
  | .tickCountRead path => Sys2Proof.Machine.execTickCountRead path s
  | .bankHandoverRequest path b v => Sys2Proof.Machine.execBankHandoverRequest path b v s
  | .bankClearDone b => Sys2Proof.Machine.execBankClearDone b s
  | .bankPowerRequest b v => Sys2Proof.Machine.execBankPowerRequest b v s
  | .bankZeroFillDone b => Sys2Proof.Machine.execBankZeroFillDone b s
  | .memCntClr => Sys2Proof.Machine.execMemCntClr s
  | .bitSetWrite t => Sys2Proof.Machine.execBitSetWrite t s
  | .bitClearWrite t => Sys2Proof.Machine.execBitClearWrite t s
  | .asrcUnlock n lost oor => Sys2Proof.Machine.execAsrcUnlock n lost oor s
  | .asrcLock n ratio rate => Sys2Proof.Machine.execAsrcLock n ratio rate s
  | .qsInputWord lane j raw fs first => Sys2Proof.Machine.execQsInputWord lane j raw fs first s
  | .qsOutputWord lane j => Sys2Proof.Machine.execQsOutputWord lane j s
  | .commit sess reqId flags gseq lease ents => Sys2Proof.Machine.execCommit sess reqId flags gseq lease ents s
  | .audonRead sess reqId flags block first rsv count => Sys2Proof.Machine.execAudonRead sess reqId flags block first rsv count s
  | .leaseAcquire sess reqId flags duration blocks => Sys2Proof.Machine.execLeaseAcquire sess reqId flags duration blocks s
  | .leaseRenew sess reqId flags lease duration => Sys2Proof.Machine.execLeaseRenew sess reqId flags lease duration s
  | .leaseRelease sess reqId flags lease => Sys2Proof.Machine.execLeaseRelease sess reqId flags lease s
  | .audonReset sess reqId flags => Sys2Proof.Machine.execAudonReset sess reqId flags s
  | .close sess reqId flags => Sys2Proof.Machine.execClose sess reqId flags s
  | .ping sess reqId flags => Sys2Proof.Machine.execPing sess reqId flags s
  | .cmtSubmit v => Sys2Proof.Machine.execCmtSubmit v s
  | .followerConfirm seq => Sys2Proof.Machine.execFollowerConfirm seq s
  | .replicaLate => Sys2Proof.Machine.execReplicaLate s
  | .leaseExpiry index => Sys2Proof.Machine.execLeaseExpiry index s
  | .cmtCntClr => Sys2Proof.Machine.execCmtCntClr s
  | .leaseSelWrite v => Sys2Proof.Machine.execLeaseSelWrite v s
  | .verifySlot slot => Sys2Proof.Machine.execVerifySlot slot s
  | .verifyGraft part => Sys2Proof.Machine.execVerifyGraft part s
  | .graft part => Sys2Proof.Machine.execGraft part s
  | .verifyComplete flashErr => Sys2Proof.Machine.execVerifyComplete flashErr s
  | .graftReset part => Sys2Proof.Machine.execGraftReset part s
  | .graftComplete part => Sys2Proof.Machine.execGraftComplete part s
  | .partResetRequest v => Sys2Proof.Machine.execPartResetRequest v s
  | .partitionReset p => Sys2Proof.Machine.execPartitionReset p s
  | .partitionResetComplete p => Sys2Proof.Machine.execPartitionResetComplete p s
  | .thnLogClr => Sys2Proof.Machine.execThnLogClr s
  | .jtagInstruction test => Sys2Proof.Machine.execJtagInstruction test s
  | .linkFrame f => Sys2Proof.Machine.execLinkFrame f s
  | .linkDown => Sys2Proof.Machine.execLinkDown s
  | .skewError => Sys2Proof.Machine.execSkewError s
  | .plAliveFall => Sys2Proof.Machine.execPlAliveFall s
  | .takeoverNotice => Sys2Proof.Machine.execTakeoverNotice s
  | .detachNotice last => Sys2Proof.Machine.execDetachNotice last s
  | .followerDetach last => Sys2Proof.Machine.execFollowerDetach last s
  | .divClr => Sys2Proof.Machine.execDivClr s
  | .hoGo => Sys2Proof.Machine.execHoGo s
  | .plannedHandover => Sys2Proof.Machine.execPlannedHandover s
  | .twinLeave => Sys2Proof.Machine.execTwinLeave s
  | .joinRequest j => Sys2Proof.Machine.execJoinRequest j s
  | .joinTick pins => Sys2Proof.Machine.execJoinTick pins s
  | .copySetTransfer e words => Sys2Proof.Machine.execCopySetTransfer e words s
  | .bulkLineCopy c line words => Sys2Proof.Machine.execBulkLineCopy c line words s
  | .becomeRipe => Sys2Proof.Machine.execBecomeRipe s
  | .aonReset strap => Sys2Proof.Machine.execAonReset strap s
  | .suppliesReady => Sys2Proof.Machine.execSuppliesReady s
  | .tjWindowReached => Sys2Proof.Machine.execTjWindowReached s
  | .tjRangeTimeout => Sys2Proof.Machine.execTjRangeTimeout s
  | .pllbLock band => Sys2Proof.Machine.execPllbLock band s
  | .dramTrainingDone failed => Sys2Proof.Machine.execDramTrainingDone failed s
  | .settingsApplied => Sys2Proof.Machine.execSettingsApplied s
  | .fwReady => Sys2Proof.Machine.execFwReady s
  | .tickGeneratorStart pins common => Sys2Proof.Machine.execTickGeneratorStart pins common s
  | .twinLinkTimeout => Sys2Proof.Machine.execTwinLinkTimeout s
  | .lateLinkAlign => Sys2Proof.Machine.execLateLinkAlign s
  | .restart => Sys2Proof.Machine.execRestart s
  | .confirm path => Sys2Proof.Machine.execConfirm path s
  | .save => Sys2Proof.Machine.execSave s
  | .saveComplete => Sys2Proof.Machine.execSaveComplete s
  | .enterCoppice => Sys2Proof.Machine.execEnterCoppice s
  | .slotActiveWrite v => Sys2Proof.Machine.execSlotActiveWrite v s
  | .hostWaitExpiry => Sys2Proof.Machine.execHostWaitExpiry s
  | .provingTimeout => Sys2Proof.Machine.execProvingTimeout s
  | .aonBrownout => Sys2Proof.Machine.execAonBrownout s
  | .otpKeyHashProgram path arg => Sys2Proof.Machine.execOtpKeyHashProgram path arg s
  | .otpRevoke path arg => Sys2Proof.Machine.execOtpRevoke path arg s
  | .otpMinSecRaise path => Sys2Proof.Machine.execOtpMinSecRaise path s
  | .otpFailLimit path => Sys2Proof.Machine.execOtpFailLimit path s
  | .otpHostWaitDefault path => Sys2Proof.Machine.execOtpHostWaitDefault path s
  | .otpStubEntry path arg => Sys2Proof.Machine.execOtpStubEntry path arg s
  | .otpStubConfig path => Sys2Proof.Machine.execOtpStubConfig path s
  | .otpBootSrc path => Sys2Proof.Machine.execOtpBootSrc path s
  | .otpKeyHashRead path arg => Sys2Proof.Machine.execOtpKeyHashRead path arg s
  | .otpProgramDone => Sys2Proof.Machine.execOtpProgramDone s
  | .tdmSlotInput port slot j raw fs first => Sys2Proof.Machine.execTdmSlotInput port slot j raw fs first s
  | .tdmSlotOutput port slot j => Sys2Proof.Machine.execTdmSlotOutput port slot j s
  | .tdmLock g => Sys2Proof.Machine.execTdmLock g s
  | .tdmUnlock g clkLost => Sys2Proof.Machine.execTdmUnlock g clkLost s
  | .tdmCntClr => Sys2Proof.Machine.execTdmCntClr s
  | .aesRxSubframe n chB audio v parityBad bpBad => Sys2Proof.Machine.execAesRxSubframe n chB audio v parityBad bpBad s
  | .aesRxLock n => Sys2Proof.Machine.execAesRxLock n s
  | .aesCsBlock n chB bytes => Sys2Proof.Machine.execAesCsBlock n chB bytes s
  | .aesTxFrame n k => Sys2Proof.Machine.execAesTxFrame n k s
  | .aesCntClr => Sys2Proof.Machine.execAesCntClr s
  | .qsLock clkLost => Sys2Proof.Machine.execQsLock clkLost s
  | .qsCntClr => Sys2Proof.Machine.execQsCntClr s
  | .ethFrameRx f => Sys2Proof.Machine.execEthFrameRx f s
  | .netLinkChange port up => Sys2Proof.Machine.execNetLinkChange port up s
  | .netFallback port => Sys2Proof.Machine.execNetFallback port s
  | .streamEntryRead => Sys2Proof.Machine.execStreamEntryRead s
  | .streamEntryWrite => Sys2Proof.Machine.execStreamEntryWrite s
  | .streamEntryApply => Sys2Proof.Machine.execStreamEntryApply s
  | .streamPacketTx index => Sys2Proof.Machine.execStreamPacketTx index s
  | .netTxModeWrite v => Sys2Proof.Machine.execNetTxModeWrite v s
  | .netCntClr => Sys2Proof.Machine.execNetCntClr s
  | .ptpAdjWrite v => Sys2Proof.Machine.execPtpAdjWrite v s
  | .ptpStepWrite v => Sys2Proof.Machine.execPtpStepWrite v s
  | .ptpValidWrite v => Sys2Proof.Machine.execPtpValidWrite v s
  | .svLd c m ecc => Sys2Proof.Machine.execSvLd c m ecc s
  | .svSt c m ecc => Sys2Proof.Machine.execSvSt c m ecc s
  | .svLdb c t b disp ecc => Sys2Proof.Machine.execSvLdb c t b disp ecc s
  | .svStb c t b disp ecc ecc2 => Sys2Proof.Machine.execSvStb c t b disp ecc ecc2 s
  | .svMov c d w => Sys2Proof.Machine.execSvMov c d w s
  | .svAdd c d w => Sys2Proof.Machine.execSvAdd c d w s
  | .svAdc c d w => Sys2Proof.Machine.execSvAdc c d w s
  | .svSub c d w => Sys2Proof.Machine.execSvSub c d w s
  | .svSbc c d w => Sys2Proof.Machine.execSvSbc c d w s
  | .svAnd c d w => Sys2Proof.Machine.execSvAnd c d w s
  | .svOr c d w => Sys2Proof.Machine.execSvOr c d w s
  | .svXor c d w => Sys2Proof.Machine.execSvXor c d w s
  | .svShl c d w => Sys2Proof.Machine.execSvShl c d w s
  | .svShr c d w => Sys2Proof.Machine.execSvShr c d w s
  | .svSar c d w => Sys2Proof.Machine.execSvSar c d w s
  | .svCmp c d w => Sys2Proof.Machine.execSvCmp c d w s
  | .svMul c d w => Sys2Proof.Machine.execSvMul c d w s
  | .svMulhu c d w => Sys2Proof.Machine.execSvMulhu c d w s
  | .svMulhs c d w => Sys2Proof.Machine.execSvMulhs c d w s
  | .svTst c d w => Sys2Proof.Machine.execSvTst c d w s
  | .svAddi c d imm => Sys2Proof.Machine.execSvAddi c d imm s
  | .svMovi c d imm => Sys2Proof.Machine.execSvMovi c d imm s
  | .svMovw c d imm => Sys2Proof.Machine.execSvMovw c d imm s
  | .svAddw c d imm => Sys2Proof.Machine.execSvAddw c d imm s
  | .svSubw c d imm => Sys2Proof.Machine.execSvSubw c d imm s
  | .svAndw c d imm => Sys2Proof.Machine.execSvAndw c d imm s
  | .svOrw c d imm => Sys2Proof.Machine.execSvOrw c d imm s
  | .svXorw c d imm => Sys2Proof.Machine.execSvXorw c d imm s
  | .svCmpw c d imm => Sys2Proof.Machine.execSvCmpw c d imm s
  | .svTstw c d imm => Sys2Proof.Machine.execSvTstw c d imm s
  | .svNop c => Sys2Proof.Machine.execSvNop c s
  | .svNot c d => Sys2Proof.Machine.execSvNot c d s
  | .svNeg c d => Sys2Proof.Machine.execSvNeg c d s
  | .svPar c d => Sys2Proof.Machine.execSvPar c d s
  | .svBrev c d => Sys2Proof.Machine.execSvBrev c d s
  | .svSwab c d => Sys2Proof.Machine.execSvSwab c d s
  | .svWait c => Sys2Proof.Machine.execSvWait c s
  | .svSig c => Sys2Proof.Machine.execSvSig c s
  | .svBcc c cond disp => Sys2Proof.Machine.execSvBcc c cond disp s
  | .svBra c disp => Sys2Proof.Machine.execSvBra c disp s
  | .svCall c disp => Sys2Proof.Machine.execSvCall c disp s
  | .svJmpb c b => Sys2Proof.Machine.execSvJmpb c b s
  | .svMovb c d b => Sys2Proof.Machine.execSvMovb c d b s
  | .svAddb c d w => Sys2Proof.Machine.execSvAddb c d w s
  | .svBlo c d b => Sys2Proof.Machine.execSvBlo c d b s
  | .svBhi c d b => Sys2Proof.Machine.execSvBhi c d b s
  | .svSetbl c d w => Sys2Proof.Machine.execSvSetbl c d w s
  | .svSetbh c d w => Sys2Proof.Machine.execSvSetbh c d w s
  | .svSetb c d a => Sys2Proof.Machine.execSvSetb c d a s
  | .svCrc16 c d w => Sys2Proof.Machine.execSvCrc16 c d w s
  | .svCrc32 c d w => Sys2Proof.Machine.execSvCrc32 c d w s
  | .svCrc16b c d w => Sys2Proof.Machine.execSvCrc16b c d w s
  | .svCrc32b c d w => Sys2Proof.Machine.execSvCrc32b c d w s
  | .svMfs c d idx => Sys2Proof.Machine.execSvMfs c d idx s
  | .svMts c idx w => Sys2Proof.Machine.execSvMts c idx w s
  | .svDelayedResult c fetch => Sys2Proof.Machine.execSvDelayedResult c fetch s
  | .svEvent c n => Sys2Proof.Machine.execSvEvent c n s
  | .coreStop core cause => Sys2Proof.Machine.execCoreStop core cause s
  | .svCwinLowRead c r => Sys2Proof.Machine.execSvCwinLowRead c r s
  | .svCwinLowWrite c v => Sys2Proof.Machine.execSvCwinLowWrite c v s
  | .svCwinHighWrite c r v => Sys2Proof.Machine.execSvCwinHighWrite c r v s
  | .wdtKick => Sys2Proof.Machine.execWdtKick s
  | .wdtWarn => Sys2Proof.Machine.execWdtWarn s
  | .watchdogRestart => Sys2Proof.Machine.execWatchdogRestart s
  | .firmwareEntry => Sys2Proof.Machine.execFirmwareEntry s
  | .flashProgramPage core => Sys2Proof.Machine.execFlashProgramPage core s
  | .flashEraseBlock core => Sys2Proof.Machine.execFlashEraseBlock core s
  | .flashCmdDone err => Sys2Proof.Machine.execFlashCmdDone err s
  | .flashServiceErase err => Sys2Proof.Machine.execFlashServiceErase err s
  | .flashServiceWrite err => Sys2Proof.Machine.execFlashServiceWrite err s
  | .dmaGo n => Sys2Proof.Machine.execDmaGo n s
  | .dmaAbort n => Sys2Proof.Machine.execDmaAbort n s
  | .dmaDoorbell n => Sys2Proof.Machine.execDmaDoorbell n s
  | .dmaSoftRequest n => Sys2Proof.Machine.execDmaSoftRequest n s
  | .dmaTickRequest => Sys2Proof.Machine.execDmaTickRequest s
  | .dmaBeat waiting => Sys2Proof.Machine.execDmaBeat waiting s
  | .dmaBarrierDone n => Sys2Proof.Machine.execDmaBarrierDone n s
  | .dmaReadData n bytes => Sys2Proof.Machine.execDmaReadData n bytes s
  | .dmaBusError kind ch space addr cycle => Sys2Proof.Machine.execDmaBusError kind ch space addr cycle s
  | .dmaRestart path mask withStop => Sys2Proof.Machine.execDmaRestart path mask withStop s
  | .dmaFillDec n v => Sys2Proof.Machine.execDmaFillDec n v s
  | .dmaCntClr => Sys2Proof.Machine.execDmaCntClr s
  | .domainSleep d quiet withWake => Sys2Proof.Machine.execDomainSleep d quiet withWake s
  | .domainWake d => Sys2Proof.Machine.execDomainWake d s
  | .idleTimerExpiry d quiet withWake => Sys2Proof.Machine.execIdleTimerExpiry d quiet withWake s
  | .domainEntryDone d level => Sys2Proof.Machine.execDomainEntryDone d level s
  | .domainPartReady d => Sys2Proof.Machine.execDomainPartReady d s
  | .dramAccessWake => Sys2Proof.Machine.execDramAccessWake s
  | .netFrameWake f => Sys2Proof.Machine.execNetFrameWake f s
  | .pcieLinkWake => Sys2Proof.Machine.execPcieLinkWake s
  | .pleachSignalWake => Sys2Proof.Machine.execPleachSignalWake s
  | .inputActivityWake k level lastPeriods => Sys2Proof.Machine.execInputActivityWake k level lastPeriods s
  | .amonComparator n above => Sys2Proof.Machine.execAmonComparator n above s
  | .clusterControlWrite a v => Sys2Proof.Machine.execClusterControlWrite a v s
  | .clusterControlApply => Sys2Proof.Machine.execClusterControlApply s
  | .pwrCntClr => Sys2Proof.Machine.execPwrCntClr s
  | .tempConversion n temp => Sys2Proof.Machine.execTempConversion n temp s
  | .monPeakClr => Sys2Proof.Machine.execMonPeakClr s
  | .supplyFault rail => Sys2Proof.Machine.execSupplyFault rail s
  | .amonConversion n code moved => Sys2Proof.Machine.execAmonConversion n code moved s
  | .registerWrite t => Sys2Proof.Machine.execRegisterWrite t s
  | .msixUnmask vector => Sys2Proof.Machine.execMsixUnmask vector s
  | .doorbellEnable p irqEn rxLog2 txLog2 => Sys2Proof.Machine.execDoorbellEnable p irqEn rxLog2 txLog2 s
  | .doorbellDisable p irqEn rxLog2 txLog2 => Sys2Proof.Machine.execDoorbellDisable p irqEn rxLog2 txLog2 s
  | .doorbellTxTail p v => Sys2Proof.Machine.execDoorbellTxTail p v s
  | .answerWrite p => Sys2Proof.Machine.execAnswerWrite p s
  | .lbDataLoRead hi m => Sys2Proof.Machine.execLbDataLoRead hi m s
  | .lbDataLoWrite v => Sys2Proof.Machine.execLbDataLoWrite v s
  | .lbDataHiWrite v m => Sys2Proof.Machine.execLbDataHiWrite v m s
  | .mbxDbSv path => Sys2Proof.Machine.execMbxDbSv path s
  | .mbxDbHost => Sys2Proof.Machine.execMbxDbHost s
  | .mbxDbLb => Sys2Proof.Machine.execMbxDbLb s
  | .openReq src => Sys2Proof.Machine.execOpenReq src s
  | .openDecision => Sys2Proof.Machine.execOpenDecision s
  | .openRequestTimeout => Sys2Proof.Machine.execOpenRequestTimeout s
  | .audonFrameVerified src => Sys2Proof.Machine.execAudonFrameVerified src s
  | .sessionIdleTimeout sess => Sys2Proof.Machine.execSessionIdleTimeout sess s
  | .keyWrite path slot => Sys2Proof.Machine.execKeyWrite path slot s
  | .keyErase path slot => Sys2Proof.Machine.execKeyErase path slot s
  | .keyWriteDone => Sys2Proof.Machine.execKeyWriteDone s
  | .sesCntClr => Sys2Proof.Machine.execSesCntClr s
  | .coreSupplyLoss => Sys2Proof.Machine.execCoreSupplyLoss s
  | .firmwareReadyTimeout => Sys2Proof.Machine.execFirmwareReadyTimeout s

end Sys2Proof.Machine
end

