-- ==== Sys2Proof/Safety.lean ====
section
/-!
DEFINITION. Safety.lean: what counts as a safe run of the block.
-/
namespace Sys2Proof.Machine

/-- A step goes on: it ends neither in a fault nor in a refusal. -/
def goesOn (s : State) : Prop := ∃ t, step s = .next t

/-- `n` steps from `s`, if every one of them goes on. -/
def run : Nat → State → Option State
  | 0, s => some s
  | n + 1, s =>
    match step s with
    | .next t => run n t
    | _ => none

/-- The next `n` steps from `s` all go on. -/
def safeFor (n : Nat) (s : State) : Prop := (run n s).isSome = true

/-! ### What a command leaves alone -/

/-- Two fields share no bit of a register. -/
def Fld.apart (f g : Fld) : Prop := f.addr ≠ g.addr ∨ f.lo + f.w ≤ g.lo ∨ g.lo + g.w ≤ f.lo

/-- From `s` to `t` control registers alone change, and of them the fields of `fs` alone. -/
def onlyFlds (fs : List Fld) (s t : State) : Prop :=
  t = { s with regs := t.regs } ∧ ∀ f, (∀ g ∈ fs, f.apart g) → t.fld f = s.fld f

/-- From `s` to `t` control registers alone change, and of them those at the addresses `as` alone. -/
def onlyRegs (as : List Nat) (s t : State) : Prop :=
  t = { s with regs := t.regs } ∧ ∀ a, a ∉ as → t.reg a = s.reg a

/-- The control registers outside the addresses `as` keep their values. -/
def regsKept (as : List Nat) (s t : State) : Prop := ∀ a, a ∉ as → t.reg a = s.reg a

/-- From `s` to `t` engine `e` alone changes. -/
def onlyEngine (e : Nat) (s t : State) : Prop :=
  t = { s with eng := t.eng } ∧ ∀ i, i ≠ e → t.engine i = s.engine i

/-- From `s` to `t` supervisor core `c` alone changes. -/
def onlyCore (c : Nat) (s t : State) : Prop :=
  t = { s with sv := t.sv } ∧ ∀ d, d ≠ c → t.core d = s.core d

/-- `t` is `u` with the items `l` put on the control stream; the link frame of the tick may take them (R185, R233). -/
def sendsItems (l : List CtlItem) (u t : State) : Prop :=
  t = { u with ctlOut := u.ctlOut ++ l, twin := { u.twin with sent := t.twin.sent, sentTo := t.twin.sentTo } }

/-- A path reaches register `a` (R265): C1 has ended, and either the register lies in a block that answers early or L2 has ended;
over PCIe the endpoint's domain is ON (R369). -/
def accessible (s : State) (path : Path) (a : Nat) : Prop :=
  reaches s a = true ∧ (path = .pcie → s.fld (Reg.PWR_DOM_CTL_state 12) = 0)

/-! ### Terms of the statements about supervisor cores (R318, R323) -/

/-- The pc of a core after an instruction of `n` words: behind it, or at the target of the branch whose delay slot it was. -/
def svNextPc (x : SvCore) (n : Nat) : Addr24 := match x.slot with | some (some g) => g | _ => x.pc + BitVec.ofNat 24 n

/-- From `s` to `t` core `c` alone changes, by an instruction of `n` words; `x` is the core with what was due at its issue. -/
def svMoves (c : Fin 2) (x : SvCore) (n : Nat) (s t : State) : Prop :=
  onlyCore c s t ∧ (t.core c).slot = none ∧ (t.core c).pc = svNextPc x n

/-- From `s` to `t` core `c` stops with a cause of SV_WDT_STAT, and nothing else happens. -/
def svStops (c : Fin 2) (cause : Nat) (s t : State) : Prop :=
  t = { s with sv := t.sv, svStop := some (c.val, cause, false) } ∧ t.core c = { s.core c with on := false } ∧
    ∀ d, d ≠ c.val → t.core d = s.core d

/-! ### Terms of the statements about engines -/

/-- The fetch of the current word by the slots of a command: `issueSlots`, which marks them issued. -/
def fetched (s : State) (e : Nat) (slots : List Slot) : State := issueSlots s e slots

/-- The state after slots of engine `e` issue and put effects in flight at distance `d`. -/
def afterIssue (s : State) (e : Nat) (slots : List Slot) (d : Nat) (effs : List Eff) : State :=
  (fetched s e slots).setEngine e (((fetched s e slots).engine e).launch d effs)

/-- From `s` to `t` a corrected error at local address `a` of engine `e` is counted, flagged and entered for write-back, or its entry
is counted as dropped where four already wait (R66, R67); nothing else changes. -/
def correctedAt (e a : Nat) (s t : State) : Prop :=
  let ce := Reg.ENG_ECC_CNT_ce_data (e / 16)
  let drop := Reg.ENG_SCRUB_wbq_drop (e / 16)
  let room : Bool := decide ((s.engine e).wbq.length < 4)
  t.fld ce = min 65535 (s.fld ce + 1) ∧ t.fld (Reg.ENG_FLAGS_ce (e / 16) (e % 16)) = 1 ∧
    t.fld drop = (if room then s.fld drop else min 65535 (s.fld drop + 1)) ∧
    t.engine e = { s.engine e with wbq := if room then (s.engine e).wbq ++ [a] else (s.engine e).wbq } ∧
    (∀ i, i ≠ e → t.engine i = s.engine i) ∧ t = { s with regs := t.regs, eng := t.eng } ∧
    ∀ f, (∀ g ∈ [ce, drop, Reg.ENG_FLAGS_ce (e / 16) (e % 16)], f.apart g) → t.fld f = s.fld f

/-- From `s` to `t` a read of local address `a` of engine `e` finds what `f` says (R66, R68). -/
def readFinds (e a : Nat) (f : Ecc) (s t : State) : Prop :=
  match f with
  | .clean => t = s
  | .corrected => correctedAt e a s t
  | .uncorrectable => t = clusterFault s (e / 16) 2 (e % 16) a (clusterCycle s e) false

/-- From `s` to `t` an injection of kind 2 or 3 that is armed on engine `e` fires on an L0 read of address `a` (R70). -/
def injectionFires (e a : Nat) (slot : LSlot) (s t : State) : Prop :=
  (slot = .l0 ∧ armedKind s e = 2 → correctedAt e a (disarm s e) t) ∧
    (slot = .l0 ∧ armedKind s e = 3 → t = clusterFault (disarm s e) (e / 16) 2 (e % 16) a (clusterCycle s e) true) ∧
    (slot = .l1 ∨ (armedKind s e ≠ 2 ∧ armedKind s e ≠ 3) → t = s)

/-- The state after `n` ends of a cycle of engine `e` in which nothing issues, each followed by a clean fetch, where each answers a next state. -/
def afterCycles (e : EngNo) : Nat → State → Option State
  | 0, s => some s
  | n + 1, s =>
    match exec (.engineDelayedWrite e .clean) s with
    | .next t => afterCycles e n t
    | _ => none

/-! ### Terms of the statements about DMA channels (R335, R338) -/

/-- From `s` to `t` no byte of the delay memory (space 1) or the DRAM (space 2) changes outside the ranges `rs`, each a space, its
first byte and its length. -/
def memKept (rs : List (Nat × Nat × Nat)) (s t : State) : Prop :=
  ∀ k, k = 1 ∨ k = 2 → ∀ i, (∀ r ∈ rs, r.1 = k → i < r.2.1 ∨ r.2.1 + r.2.2 ≤ i) → onchipByte t k i = onchipByte s k i

/-- Channel `n` may write the status of the descriptor at HEAD (R335). -/
def statusOk (s : State) (n : Nat) : Bool := beatOk s n (ringSpace s n) (ringAt s n + 24) 4 true

/-- The four bytes of that status. -/
def statusBytes (s : State) (n : Nat) : Nat × Nat × Nat := (ringSpace s n, ringAt s n + 24, 4)

/-- From `s` to `t` memory changes in the status of channel `n`'s descriptor at HEAD alone, and only where the channel may write it:
there it shows `result` and the bytes done (Table 15.2). -/
def statusAlone (n result done : Nat) (s t : State) : Prop :=
  memKept (if statusOk s n then [statusBytes s n] else []) s t ∧
    (statusOk s n = true → ringSpace s n ≠ 0 → ∀ i, i < 4 → onchipByte t (ringSpace s n) (ringAt s n + 24 + i) =
      (wordBytes (BitVec.ofNat 32 (result * 2 ^ 28 + done))).getD i 0)

/-! ### Terms of the statements about sessions (R379 to R381) -/

/-- The command of an operation of Table 17.8 in session `n` with request number `id` and flags `fl`. -/
def audonCommand (n : Fin 4096) (id : Word) (fl : Byte) : AudonReq → Instr
  | .commit seq h es => .commit n id fl seq h es
  | .read b f r c => .audonRead n id fl b f r c
  | .acquire d bs => .leaseAcquire n id fl d bs
  | .renew h d => .leaseRenew n id fl h d
  | .release h => .leaseRelease n id fl h
  | .reset => .audonReset n id fl
  | .close => .close n id fl
  | .ping => .ping n id fl

/-- From `s` to `t` session `n`, which was `e`, has been sent exactly one answer frame, with reply `r` to operation `op` and
request `id`; a status other than 0 shows in CMT_STAT. -/
def answered (s t : State) (n : Nat) (e : Session) (op id : Nat) (r : Reply) : Prop :=
  let a : Answer := { bell := e.bell, part := e.part, session := n, frame := e.txSeq + 1, op := op, reqId := id, reply := r,
                      key := e.kOut, addr := e.addr }
  (e.bell = true → t.bellOut = s.bellOut ++ [a] ∧ t.udpOut = s.udpOut) ∧
    (e.bell = false → t.udpOut = s.udpOut ++ [a] ∧ t.bellOut = s.bellOut) ∧
    (r.status ≠ 0 → t.fld ⟨Reg.CMT_STAT, r.status, 1⟩ = 1)

/-- Parameters, delay words, DRAM, engines and the flip bits of the 12,288 blocks are as they were. -/
def dataKept (s t : State) : Prop :=
  t.pstA = s.pstA ∧ t.pstB = s.pstB ∧ t.delay = s.delay ∧ t.dram = s.dram ∧ t.eng = s.eng ∧ ∀ b, b < 12288 → t.flip b = s.flip b

/-! ### Owner OTP (R282, Table 11.8) -/

/-- What Table 11.8 lets OTP hold: four key slots, each programmed and revoked at most once, and every value in its range. -/
def Otp.legal (o : Otp) : Prop :=
  (∀ k ∈ o.keyProg, k < 4) ∧ o.keyProg.Nodup ∧ (∀ k ∈ o.revoked, k < 4) ∧ o.revoked.Nodup ∧ o.minSec ≤ 64 ∧
    (∀ n, o.failLimit = some n → 2 ≤ n ∧ n ≤ 7) ∧ (∀ n, o.hostWait = some n → n < 65536) ∧
    (∀ n, o.bootSrc = some n → n < 2) ∧ (∀ n, o.stubCfg = some n → n < 16)

/-- OTP `p` holds everything that `o` holds: no programmed bit is ever taken back. -/
def Otp.within (o p : Otp) : Prop :=
  (∀ k ∈ o.keyProg, k ∈ p.keyProg ∧ storeGet 0 p.keyHash k = storeGet 0 o.keyHash k) ∧ (∀ k ∈ o.revoked, k ∈ p.revoked) ∧
    o.minSec ≤ p.minSec ∧ (∀ n, o.failLimit = some n → p.failLimit = some n) ∧
    (∀ n, o.hostWait = some n → p.hostWait = some n) ∧ (∀ n, o.bootSrc = some n → p.bootSrc = some n) ∧
    (∀ n, o.stubCfg = some n → p.stubCfg = some n) ∧
    (∀ i v, storeFind o.stub i = some v → storeFind p.stub i = some v)

end Sys2Proof.Machine
end

