-- ==== Sys2Proof/Certificates/Slice0/Obligations.lean ====
section
/-!
DEFINITION. Certificates/Slice0/Obligations.lean: the statements for the provers, by family of commands.
-/
open Sys2Proof Sys2Proof.Machine

/-- For every command c, queue r and state s, a step of s with c at the front of its queue and r behind it is exec of c on
s with the queue r; with an empty queue a step leaves the state as it is. (That an empty queue idles is the model's
choice, log entry 1.) (Derived from 95_what_each_step_holds.md.) -/
def Obligations.StepTakesTheFrontCommand : Prop :=
  ∀ (c : Instr) (r : List Instr) (s : State),
    step { s with pending := c :: r } = exec c { s with pending := r } ∧
    (s.pending = [] → step s = .next s)

/-- For every command c whose operands are well formed (every row of the table; only LDA with a shift above 48 and REP at
an engine other than a warden are not) and every state s, exec of c on s answers a next state: no command faults, none
is refused, whatever the data. A command that is not well formed is refused by its name, as the model's log entry 108
says. (Derived from 95_what_each_step_holds.md, 04_engine_instructions.md R97, 04_engine_instructions.md R102.) -/
def Obligations.WellFormedCommandsAnswerANextState : Prop :=
  ∀ (c : Instr) (s : State),
    (c.wellFormed = true → ∃ t, exec c s = .next t) ∧
    (c.wellFormed = false → exec c s = .refused (.illFormed "LDA") ∨ exec c s = .refused (.illFormed "REP"))

/-- For every command and state, the next state that exec answers has the same queue of waiting commands; the step alone
takes commands from it. (Derived from 95_what_each_step_holds.md.) -/
def Obligations.CommandsLeaveTheQueueToTheStep : Prop :=
  ∀ (c : Instr) (s t : State), exec c s = .next t → t.pending = s.pending

/-- For every command other than OTP_PROGRAM_DONE and every state, the next state holds the same OTP. A restart, an AON
reset, a failed start and the supervisor's instructions are among these commands. (Derived from
11_start_and_recovery.md R282.) -/
def Obligations.OtpIsProgrammedByItsOwnCommandAlone : Prop :=
  ∀ (c : Instr) (s t : State), c ≠ .otpProgramDone → exec c s = .next t → t.otp = s.otp

/-- For every state s and every next state t of a step from s: every programmed key hash of s is programmed in t with the
same value, every revocation of s stands in t, the minimum security version has not gone down, and the fail limit, the
host wait default, the boot source, the stub configuration and every stub entry that s holds stand unchanged in t. The
statement holds in every state, reachable or not. (Derived from 11_start_and_recovery.md Table 11.8,
11_start_and_recovery.md R282.) -/
def Obligations.OtpIsNeverTakenBack : Prop :=
  ∀ s t : State, step s = .next t → s.otp.within t.otp

/-- For every state s whose OTP is legal (programmed and revoked key slots are among 0 to 3 and listed once, the minimum
security version is at most 64, the fail limit is 2 to 7, the host wait default fits 16 bits, the boot source 1 bit
and the stub configuration 4 bits) and every next state t of a step from s, the OTP of t is legal. (Derived from
11_start_and_recovery.md Table 11.8, 11_start_and_recovery.md R282.) -/
def Obligations.OtpStaysLegal : Prop :=
  ∀ s t : State, s.otp.legal → step s = .next t → t.otp.legal

/-- The OTP of State.reset, in which nothing is programmed (the model's choice of a first power-on, log entry 10), is
legal. (Derived from 11_start_and_recovery.md Table 11.8.) -/
def Obligations.OtpIsLegalAtReset : Prop :=
  State.reset.otp.legal

/-- At State.reset DEV_ID and DEV_FEAT2 tell the part from its DRAM width, DEV_FEAT0 and DEV_FEAT1 show every feature, and
these registers hold the nonzero reset values of their tables: CLK_PLLA_CTL, CLK_PLLB_FRAC, CLK_PLLB_SEED,
CLK_OUT_DIVn, TICK_RATE, ENG_STATe (INERT), MEM_BANK_OWNERb, MEM_BANK_PWRb, CMT_CAPACITY, ESP_ERR_REC, TWN_RIPE_ETA,
START_FAILS, HOST_WAIT (100), SLOT_LKG, SV_WDT_CTL, PWR_DOM_CTLd of the domains 2 to 16 (OFF), MON_THERM_CTL,
MON_TJ_MAX and SES_CFG; NET_MAC shows the device's address. A register at any other address reads 0, THN_STAT and
PWR_DOM_CTL of the two domains that are ON among them. No command waits, the tick generator stands, no group, lease,
session or reset is in progress, and every output driver floats. (Derived from 18_register_index.md R384,
18_register_index.md Table 18.1, 00_scope.md R6, 02_clocks_and_tick.md, 03_engine_datapath.md, 05_delay_memory.md,
07_parameters_and_commit.md, 11_start_and_recovery.md, 14_supervisor_core.md, 16_power_and_monitoring.md,
17_host_and_control_ports.md, 10_twin_operation.md.) -/
def Obligations.RegistersHoldTheirTableValueAtReset : Prop :=
  State.reset.reg Reg.DEV_ID = (if Config.dram32 then 0x77202210 else 0x77201210) ∧
    State.reset.reg Reg.DEV_FEAT0 = 0x3F ∧ State.reset.reg Reg.DEV_FEAT1 = 0xFF ∧
    State.reset.reg Reg.DEV_FEAT2 = (if Config.dram32 then 0x0020FF47 else 0x0010FF47) ∧
    State.reset.reg Reg.CLK_PLLA_CTL = 4 ∧ State.reset.reg Reg.CLK_PLLB_FRAC = 0xC0000000 ∧
    State.reset.reg Reg.CLK_PLLB_SEED = 1 ∧ (∀ n, n < 8 → State.reset.reg (Reg.CLK_OUT_DIV n) = 1) ∧
    State.reset.reg Reg.TICK_RATE = 0x5E800000 ∧
    (∀ e, e < 128 → State.reset.reg (Reg.ENG_STAT (e / 16) (e % 16)) = 4) ∧
    (∀ b, b < 384 → State.reset.reg (Reg.MEM_BANK_OWNER b) = 0x40000000 ∧ State.reset.reg (Reg.MEM_BANK_PWR b) = 0x22) ∧
    State.reset.reg Reg.CMT_CAPACITY = 0x40000200 ∧ State.reset.reg Reg.ESP_ERR_REC = 0xFFFFFFFF ∧
    State.reset.reg Reg.TWN_RIPE_ETA = 0xFFFFFFFF ∧ State.reset.reg Reg.START_FAILS = 0x30 ∧
    State.reset.reg Reg.HOST_WAIT = 100 ∧ State.reset.reg Reg.SLOT_LKG = 3 ∧ State.reset.reg Reg.SV_WDT_CTL = 1000 ∧
    (∀ d, 2 ≤ d → d < 17 → State.reset.reg (Reg.PWR_DOM_CTL d) = 0x40000000) ∧
    State.reset.reg Reg.MON_THERM_CTL = 0x007F0000 ∧ State.reset.reg Reg.MON_TJ_MAX = 0x8000 ∧
    State.reset.reg Reg.SES_CFG = 10000 ∧
    State.reset.reg Reg.NET_MAC_LO = Config.macAddr.setWidth 32 ∧
    State.reset.reg Reg.NET_MAC_HI = (Config.macAddr >>> 32).setWidth 32 ∧
    (∀ a, State.reset.reg a = 0 ∨
      a ∈ [Reg.DEV_ID, Reg.DEV_FEAT0, Reg.DEV_FEAT1, Reg.DEV_FEAT2, Reg.CLK_PLLA_CTL, Reg.CLK_PLLB_FRAC, Reg.CLK_PLLB_SEED,
        Reg.TICK_RATE, Reg.CMT_CAPACITY, Reg.ESP_ERR_REC, Reg.TWN_RIPE_ETA, Reg.START_FAILS, Reg.HOST_WAIT, Reg.SLOT_LKG,
        Reg.SV_WDT_CTL, Reg.MON_THERM_CTL, Reg.MON_TJ_MAX, Reg.SES_CFG, Reg.NET_MAC_LO, Reg.NET_MAC_HI] ∨
      (∃ n, n < 8 ∧ a = Reg.CLK_OUT_DIV n) ∨ (∃ e, e < 128 ∧ a = Reg.ENG_STAT (e / 16) (e % 16)) ∨
      (∃ b, b < 384 ∧ (a = Reg.MEM_BANK_OWNER b ∨ a = Reg.MEM_BANK_PWR b)) ∨
      ∃ d, 2 ≤ d ∧ d < 17 ∧ a = Reg.PWR_DOM_CTL d) ∧
    State.reset.reg Reg.THN_STAT = 0 ∧ State.reset.reg (Reg.PWR_DOM_CTL 0) = 0 ∧ State.reset.reg (Reg.PWR_DOM_CTL 1) = 0 ∧
    State.reset.pending = [] ∧ State.reset.tick = 0 ∧ State.reset.tickOn = false ∧ State.reset.groups = [] ∧
    State.reset.leases = [] ∧ State.reset.sessions = [] ∧ State.reset.partOps = [] ∧ State.reset.floated = true

/-- For every engine, every pair of registers and every state in which the A slot may issue: ADD, SUB, MOV, MIN, MAX, AND,
OR, XOR, SEL, CLT, CLE, ADDS, SUBS, SHI and SHT each answer the next state in which the slot has issued and, at
distance 1, Vd (in the physical register that it names at issue) receives the result of Table 04.6 and the sat flag is
set exactly where a saturating result was clamped (R57); a right SHI rounds to the nearest integer, ties to even
(R56). Nothing else changes. (R83.) -/
def Obligations.TwoRegisterOperationsPutTheirTableResultInFlight : Prop :=
  ∀ (e : EngNo) (vd vs : VNo) (s : State),
    let on (i : Instr) (o : Host.Outcome State Fault Refusal) : Prop := slotFree s e i [.a] = true → exec i s = o
    let x := (fetched s e [.a]).engine e
    let a := x.rd vd.val
    let b := x.rd vs.val
    let plain (w : Word) : Host.Outcome State Fault Refusal := .next (afterIssue s e [.a] 1 [.wrV .a (physReg x.rrb vd.val) w])
    let sat (w : Word) (q : Int) : Host.Outcome State Fault Refusal :=
      .next (afterIssue s e [.a] 1
        (.wrV .a (physReg x.rrb vd.val) w :: if q < -2 ^ 31 ∨ 2 ^ 31 - 1 < q then [.flgSet 1] else []))
    on (.add e vd vs) (plain (a + b)) ∧
    on (.sub e vd vs) (plain (a - b)) ∧
    on (.mov e vd vs) (plain b) ∧
    on (.min_ e vd vs) (plain (BitVec.ofInt 32 (min a.toInt b.toInt))) ∧
    on (.max_ e vd vs) (plain (BitVec.ofInt 32 (max a.toInt b.toInt))) ∧
    on (.and_ e vd vs) (plain (a &&& b)) ∧
    on (.or_ e vd vs) (plain (a ||| b)) ∧
    on (.xor_ e vd vs) (plain (a ^^^ b)) ∧
    on (.sel e vd vs) (plain (if (x.rd 0).getLsbD 31 = true then b else a)) ∧
    on (.clt e vd vs) (plain (if a.toInt < b.toInt then 0xFFFFFFFF else 0)) ∧
    on (.cle e vd vs) (plain (if a.toInt ≤ b.toInt then 0xFFFFFFFF else 0)) ∧
    (∀ w : Word, w.toInt = max (-2 ^ 31) (min (2 ^ 31 - 1) (a.toInt + b.toInt)) →
      on (.adds e vd vs) (sat w (a.toInt + b.toInt))) ∧
    (∀ w : Word, w.toInt = max (-2 ^ 31) (min (2 ^ 31 - 1) (a.toInt - b.toInt)) →
      on (.subs e vd vs) (sat w (a.toInt - b.toInt))) ∧
    (∀ (n : BitVec 6) (w : Word), 0 ≤ n.toInt → w.toInt = max (-2 ^ 31) (min (2 ^ 31 - 1) (a.toInt * 2 ^ n.toInt.toNat)) →
      on (.shi e vd n) (sat w (a.toInt * 2 ^ n.toInt.toNat))) ∧
    (∀ (n : BitVec 6) (w : Word), n.toInt < 0 →
      2 * |a.toInt - w.toInt * 2 ^ (-n.toInt).toNat| ≤ 2 ^ (-n.toInt).toNat →
      (2 * |a.toInt - w.toInt * 2 ^ (-n.toInt).toNat| = 2 ^ (-n.toInt).toNat → w.toInt % 2 = 0) →
      on (.shi e vd n) (plain w)) ∧
    (∀ n : BitVec 6, 0 ≤ n.toInt → on (.sht e vd n) (plain (BitVec.ofInt 32 (a.toInt * 2 ^ n.toInt.toNat)))) ∧
    (∀ n : BitVec 6, n.toInt < 0 → on (.sht e vd n) (plain (BitVec.ofInt 32 (a.toInt / 2 ^ (-n.toInt).toNat))))

/-- For every engine, register, accumulator and state in which the A slot may issue, NOT, NEG, ABS, EXP, NORM, BXRD, BXS,
EXPA, APRD, FLGRD, RRBRD and EXT each answer the next state in which the slot has issued and at distance 1 Vd receives
the table's result. Saturating forms clamp and set the sat flag exactly where they clamp. EXP and EXPA are stated by
what they count, the rounded EXT and a right BXS by the nearest integer with ties to even, and EXT with the track
option also lets BX take EXP of the written value. (Derived from 04_engine_instructions.md R84,
04_engine_instructions.md R82, 03_engine_datapath.md R54, 03_engine_datapath.md R55, 03_engine_datapath.md R59,
03_engine_datapath.md R60, 03_engine_datapath.md R61.) -/
def Obligations.UnaryOperationsPutTheirTableResultInFlight : Prop :=
  ∀ (e : EngNo) (vd : VNo) (k : Fin 4) (s : State),
    let on (i : Instr) (o : Host.Outcome State Fault Refusal) : Prop := slotFree s e i [.a] = true → exec i s = o
    let x := (fetched s e [.a]).engine e
    let a := x.rd vd.val
    let c := x.accRead k.val
    let plain (w : Word) : Host.Outcome State Fault Refusal := .next (afterIssue s e [.a] 1 [.wrV .a (physReg x.rrb vd.val) w])
    let sat (w : Word) (q : Int) (more : List Eff) : Host.Outcome State Fault Refusal :=
      .next (afterIssue s e [.a] 1
        ((.wrV .a (physReg x.rrb vd.val) w :: if q < -2 ^ 31 ∨ 2 ^ 31 - 1 < q then [.flgSet 1] else []) ++ more))
    let clamped (w : Word) (q : Int) : Prop := w.toInt = max (-2 ^ 31) (min (2 ^ 31 - 1) q)
    let nearest (q v : Int) (n : Nat) : Prop :=
      2 * |v - q * 2 ^ n| ≤ 2 ^ n ∧ (2 * |v - q * 2 ^ n| = 2 ^ n → q % 2 = 0)
    on (.not_ e vd) (plain (~~~a)) ∧
    (∀ w, clamped w (-a.toInt) → on (.neg e vd) (sat w (-a.toInt) [])) ∧
    (∀ w, clamped w |a.toInt| → on (.abs e vd) (sat w |a.toInt| [])) ∧
    (∃ n, n ≤ 31 ∧ (∀ i, 31 - n ≤ i → i ≤ 31 → a.getLsbD i = a.getLsbD 31) ∧
      (n < 31 → a.getLsbD (30 - n) ≠ a.getLsbD 31) ∧
      on (.exp e vd) (plain (BitVec.ofNat 32 n)) ∧ on (.norm e vd) (plain (a <<< n))) ∧
    on (.bxrd e vd) (plain (x.bx.setWidth 32)) ∧
    (∀ (g : Fin 8) w, g.val ≤ x.bx.toNat → clamped w (a.toInt * 2 ^ (x.bx.toNat - g.val)) →
      on (.bxs e vd g) (sat w (a.toInt * 2 ^ (x.bx.toNat - g.val)) [])) ∧
    (∀ (g : Fin 8) (w : Word), x.bx.toNat < g.val → nearest w.toInt a.toInt (g.val - x.bx.toNat) →
      on (.bxs e vd g) (plain w)) ∧
    (∃ n, n ≤ 79 ∧ (∀ i, 79 - n ≤ i → i ≤ 79 → c.getLsbD i = c.getLsbD 79) ∧
      (n < 79 → c.getLsbD (78 - n) ≠ c.getLsbD 79) ∧ on (.expa e vd k) (plain (BitVec.ofNat 32 n))) ∧
    on (.aprd e vd .lo k) (plain (c.extractLsb' 0 32)) ∧
    on (.aprd e vd .mid k) (plain (c.extractLsb' 32 32)) ∧
    on (.aprd e vd .hi k) (plain ((c.extractLsb' 64 16).signExtend 32)) ∧
    on (.flgrd e vd) (plain (x.flg.setWidth 32)) ∧
    on (.rrbrd e vd) (plain (x.rrb.setWidth 32)) ∧
    (∀ (sh : Fin 64) (trk : Bool) w, clamped w (c.toInt / 2 ^ sh.val) →
      on (.ext e k vd sh false trk) (sat w (c.toInt / 2 ^ sh.val) (if trk then [.bxMin (exp32 w)] else []))) ∧
    (∀ (sh : Fin 64) (trk : Bool) w q, nearest q c.toInt sh.val → clamped w q →
      on (.ext e k vd sh true trk) (sat w q (if trk then [.bxMin (exp32 w)] else [])))

/-- For every engine, operand and state in which the A slot may issue, NOP does nothing but issue; TRK lets BX take the
smaller of itself and EXP(Vd); BXCLR sets BX to 31; ACLR clears ACCk; APWR replaces one part of ACCk by Vs; FLGCLR
clears the flags of its mask; RRBSET and RRBWR set RRB: all at distance 1, and nothing else changes. Which part an
APWR writes when it completes is stated too. (The model's choices: the part merges into the accumulator as it stands
at completion, log entry 12; FLGCLR acts at distance 1, log entry 65; a tracked value meets BX as it stands at
completion, log entry 117.) For every engine, operand and state in which the A, L0 and L1 slots may issue, SETK, SETM,
ADDK, ADDM, SETVH, SETVL, INSL, LDA with a shift of at most 48, MOVKV and MOVVK answer the next state in which the
three slots have issued and the result of Table 04.8 is in flight, at distance 2 for a K or M register and 1
otherwise; nothing else changes. (Derived from 04_engine_instructions.md R84, 04_engine_instructions.md R85,
03_engine_datapath.md R55, 03_engine_datapath.md R61, 04_engine_instructions.md R86, 04_engine_instructions.md R75.) -/
def Obligations.FlagExponentAccumulatorAndLongFormOperations : Prop :=
  (∀ (e : EngNo) (v : VNo) (k : Fin 4) (mask : BitVec 6) (val : BitVec 5) (s : State),
    let on (i : Instr) (o : Host.Outcome State Fault Refusal) : Prop := slotFree s e i [.a] = true → exec i s = o
    let x := (fetched s e [.a]).engine e
    let out (effs : List Eff) : Host.Outcome State Fault Refusal := .next (afterIssue s e [.a] 1 effs)
    on (.nop e) (out []) ∧
    on (.trk e v) (out [.bxMin (exp32 (x.rd v.val))]) ∧
    on (.bxclr e) (out [.bxClr]) ∧
    on (.aclr e k) (out [.accA k.val 0]) ∧
    on (.apwr e v .lo k) (out [.accPart k.val 0 (x.rd v.val)]) ∧
    on (.apwr e v .mid k) (out [.accPart k.val 1 (x.rd v.val)]) ∧
    on (.apwr e v .hi k) (out [.accPart k.val 2 (x.rd v.val)]) ∧
    on (.flgclr e mask) (out [.flgClr mask]) ∧
    on (.rrbset e val) (out [.rrbSet val]) ∧
    on (.rrbwr e v) (out [.rrbSet ((x.rd v.val).setWidth 5)]) ∧
    (∀ (y : Engine) (w : Word), (applyA y (.accPart k.val 0 w)).accRead k.val =
      (y.accUpd k.val).extractLsb' 32 48 ++ w) ∧
    (∀ (y : Engine) (w : Word), (applyA y (.accPart k.val 1 w)).accRead k.val =
      (y.accUpd k.val).extractLsb' 64 16 ++ w ++ (y.accUpd k.val).extractLsb' 0 32) ∧
    (∀ (y : Engine) (w : Word), (applyA y (.accPart k.val 2 w)).accRead k.val =
      w.extractLsb' 0 16 ++ (y.accUpd k.val).extractLsb' 0 64)) ∧
  (∀ (e : EngNo) (n : Fin 16) (v : VNo) (k : Fin 4) (imm : BitVec 20) (i18 : BitVec 18) (i14 : BitVec 14) (s : State),
    let on (i : Instr) (o : Host.Outcome State Fault Refusal) : Prop := slotFree s e i [.a, .l0, .l1] = true → exec i s = o
    let x := (fetched s e [.a, .l0, .l1]).engine e
    let out (d : Nat) (f : Eff) : Host.Outcome State Fault Refusal := .next (afterIssue s e [.a, .l0, .l1] d [f])
    let wrV (w : Word) : Eff := .wrV .a (physReg x.rrb v.val) w
    on (.setk e n imm) (out 2 (.wrK true n.val (BitVec.ofNat 24 imm.toNat))) ∧
    on (.setm e n imm) (out 2 (.wrM n.val (BitVec.ofInt 24 imm.toInt))) ∧
    on (.addk e n imm) (out 2 (.wrK true n.val (BitVec.ofInt 24 ((x.kReg n.val).toNat + imm.toInt)))) ∧
    on (.addm e n imm) (out 2 (.wrM n.val (BitVec.ofInt 24 ((x.mReg n.val).toInt + imm.toInt)))) ∧
    on (.setvh e v i18) (out 1 (wrV (BitVec.ofNat 32 (i18.toNat * 2 ^ 14)))) ∧
    on (.setvl e v i18) (out 1 (wrV (BitVec.ofInt 32 i18.toInt))) ∧
    on (.insl e v i14) (out 1 (wrV ((x.rd v.val).extractLsb' 14 18 ++ i14))) ∧
    (∀ sh : Fin 64, sh.val ≤ 48 →
      on (.lda e k v sh) (out 1 (.accA k.val (BitVec.ofInt 80 ((x.rd v.val).toInt * 2 ^ sh.val))))) ∧
    on (.movkv e false n v) (out 2 (.wrK true n.val ((x.rd v.val).extractLsb' 0 24))) ∧
    on (.movkv e true n v) (out 2 (.wrM n.val ((x.rd v.val).extractLsb' 0 24))) ∧
    on (.movvk e false n v) (out 1 (wrV (BitVec.ofNat 32 (x.kReg n.val).toNat))) ∧
    on (.movvk e true n v) (out 1 (wrV (BitVec.ofInt 32 (x.mReg n.val).toInt))))

/-- For every engine and state: where the engine issues and no injection of kind 4 or 5 is armed on it, a clean fetch
changes nothing, and a corrected one adds one to the corrected-error count of program memory and sets the engine's ce
flag, nothing else; with kind 4 armed a clean fetch counts likewise and disarms the injection. Where the engine does
not issue nothing is fetched. Issuing adds the slots to the engine's list of issued slots and changes nothing else.
The slots of an uncorrectable word issue nothing. For every engine, operand and state, every row of the M, A, L and X
slots, every long A form, LOOP and (on a warden) REP among them, whose slots cannot issue answers the same state. A
slot cannot issue where the engine issues no word in this cycle (it is not in RUN, its program window is not open or
is over, END or a tick abort holds), or where a slot of it has issued in this cycle; an L0 operation, whose access
comes first, not after the L1 operation of its cycle. (That a command which the word at the program counter does not
spell changes nothing is the model's choice, log entry 63.) (Derived from 04_engine_instructions.md R74,
03_engine_datapath.md R66, 03_engine_datapath.md R68, 03_engine_datapath.md R70, 04_engine_instructions.md R77,
04_engine_instructions.md R101.) -/
def Obligations.FetchMarksIssuedSlotsAndClosedSlotsDoNothing : Prop :=
  (∀ (e : EngNo) (slots : List Slot) (f : Fetch) (i : Instr) (s : State),
    let ce := Reg.ENG_ECC_CNT_ce_prog (e.val / 16)
    let counts (s t : State) : Prop := t.fld ce = min 65535 (s.fld ce + 1) ∧
      t.fld (Reg.ENG_FLAGS_ce (e.val / 16) (e.val % 16)) = 1 ∧
      onlyFlds [ce, Reg.ENG_FLAGS_ce (e.val / 16) (e.val % 16)] s t
    (canIssue s e = true → armedKind s e ≠ 4 → armedKind s e ≠ 5 →
      openCycle s e .clean = s ∧ counts s (openCycle s e .corrected)) ∧
    (canIssue s e = true → armedKind s e = 4 →
      counts (s.setFld (Reg.ENG_FINJ_arm (e.val / 16)) 0) (openCycle s e .clean)) ∧
    (canIssue s e = false → openCycle s e f = s) ∧
    fetched s e slots = s.setEngine e { s.engine e with used := (s.engine e).used ++ slots } ∧
    ((s.engine e).dead = true → slotFree s e i slots = false)) ∧
  (∀ (e : EngNo) (vd vs : VNo) (o : MOp) (k : Fin 4) (g : Fin 8) (sh : Fin 64) (rnd trk km : Bool) (part : AccPart)
    (n6 mask : BitVec 6) (val : BitVec 5) (n : Fin 16) (imm : BitVec 20) (i18 : BitVec 18) (i14 : BitVec 14)
    (lm : LdMode) (sm : StMode) (m : Fin 32) (len : Fin 64) (cnt : Fin 1024) (rc : Fin 32768) (rot : Bool) (c : Ecc) (cs : List Ecc)
    (s : State),
    let off (slots : List Slot) (i : Instr) : Prop := slotFree s e i slots = false → exec i s = .next s
    let long (i : Instr) : Prop := off [.a, .l0, .l1] i
    (∀ i ∈ [Instr.mpy e o, .mac e o, .msu e o], off [.m] i) ∧
    (∀ i ∈ [Instr.add e vd vs, .sub e vd vs, .adds e vd vs, .subs e vd vs, .mov e vd vs, .min_ e vd vs, .max_ e vd vs,
      .and_ e vd vs, .or_ e vd vs, .xor_ e vd vs, .sel e vd vs, .clt e vd vs, .cle e vd vs, .shi e vd n6, .sht e vd n6,
      .ext e k vd sh rnd trk, .nop e, .neg e vd, .abs e vd, .not_ e vd, .exp e vd, .norm e vd, .trk e vd, .bxclr e, .bxrd e vd,
      .bxs e vd g, .expa e vd k, .aclr e k, .aprd e vd part k, .apwr e vs part k, .flgrd e vd, .flgclr e mask, .rrbrd e vd,
      .rrbset e val, .rrbwr e vs], off [.a] i) ∧
    (∀ i ∈ [Instr.setk e n imm, .setm e n imm, .addk e n imm, .addm e n imm, .setvh e vd i18, .setvl e vd i18, .insl e vd i14,
      .movkv e km n vs, .movvk e km n vd], long i) ∧
    (sh.val ≤ 48 → long (.lda e k vs sh)) ∧
    (∀ i ∈ [Instr.ld e .l0 lm vd k c, .st e .l0 sm vd k], off [.l0, .l1] i) ∧
    (∀ i ∈ [Instr.ld e .l1 lm vd k c, .st e .l1 sm vd k], off [.l1] i) ∧
    (∀ i ∈ [Instr.xnop e, .rot e, .phase e, .endProg e, .xr e m c, .xw e m, .reqDelayTap e m cs, .reqGainCell e m], off [.x] i) ∧
    off [.a, .x] (.loop e rot len cnt) ∧ (e.val % 16 = 15 → off [.a, .x] (.rep e rc)) ∧
    (∀ i slots, canIssue s e = false ∨ i.plain ∉ decodeWord e (s.engine e).word ∨ (∃ k ∈ slots, k ∈ (s.engine e).used) →
      slotFree s e i slots = false))

/-- For every engine with one V write in flight at distance d, no injection of an uncorrectable fetch armed on it, and
every number n of cycles of that engine (ENGINE_DELAYED_WRITE commands with a clean fetch) in which nothing else
issues: each cycle answers a next state, and after n cycles the physical register holds its old value if n is at most
d, and the result in flight otherwise; the other physical V registers keep their values. This holds whether the
engine's window is open or over. (Derived from 04_engine_instructions.md R77, 04_engine_instructions.md R79.) -/
def Obligations.ResultsInFlightArriveAtTheirDistance : Prop :=
  ∀ (e : EngNo) (d : Nat) (slot : Slot) (p : Nat) (w : Word) (n : Nat) (s : State),
    (s.engine e).fly = [⟨d, .wrV slot p w⟩] → slot ≠ .m → armedKind s e ≠ 5 →
    ∃ t, afterCycles e n s = some t ∧
      storeGet 0 (t.engine e).v p = (if n ≤ d then storeGet 0 (s.engine e).v p else w) ∧
      ∀ q, q ≠ p → storeGet 0 (t.engine e).v q = storeGet 0 (s.engine e).v q

/-- For every engine, every M operation and every state in which the M slot may issue, the command answers the next state
in which the slot has issued and, at distance 0, each accumulator that Table 04.4 names for dst holds the product of
its lane (or the sum of the four products) taken, added or subtracted, reduced modulo 2^80, with its overflow flag
exactly where the exact result does not fit; then the residue checks of the lanes act. Where no lane fails and no
injection of kind 1 is armed, the checks change nothing. (Derived from 03_engine_datapath.md R50,
03_engine_datapath.md R51, 03_engine_datapath.md R52, 04_engine_instructions.md R80, 03_engine_datapath.md R65.) -/
def Obligations.QuadMultiplyAccumulateUpdatesItsAccumulators : Prop :=
  ∀ (e : EngNo) (o : MOp) (s : State),
    let x := (fetched s e [.m]).engine e
    let quad (i : Nat) : Word := x.rd (4 * o.qi.val + i)
    let shared : Word := x.rd o.vs.val
    let y (v : Word) : Int := if o.md = true then v.toNat else v.toInt
    let full (i : Nat) : Int := if o.sh = true then (quad i).toInt * y shared else shared.toInt * y (quad i)
    let p (i : Nat) : Int := if o.sc = true then full i / 2 ^ 32 else full i
    let upd (f : Int → Int → Int) (k : Nat) (q : Int) : Eff :=
      let exact := f (x.accUpd k).toInt q
      .accM k (BitVec.ofInt 80 exact) (decide (exact < -2 ^ 79 ∨ 2 ^ 79 ≤ exact))
    let effs (f : Int → Int → Int) : List Eff :=
      if o.dst = 0 then [upd f 0 (p 0), upd f 1 (p 1), upd f 2 (p 2), upd f 3 (p 3)]
      else if o.dst = 1 then [upd f 0 (p 0), upd f 1 (p 1)]
      else if o.dst = 2 then [upd f 2 (p 2), upd f 3 (p 3)]
      else if o.dst = 3 then [upd f 0 (p 0)]
      else [upd f (o.dst.val - 4) (p 0 + p 1 + p 2 + p 3)]
    (slotFree s e (.mpy e o) [.m] = true → exec (.mpy e o) s =
      .next (residueChecks (afterIssue s e [.m] 0 (effs (fun _ q => q))) e o.resBad)) ∧
    (slotFree s e (.mac e o) [.m] = true → exec (.mac e o) s =
      .next (residueChecks (afterIssue s e [.m] 0 (effs (fun a q => a + q))) e o.resBad)) ∧
    (slotFree s e (.msu e o) [.m] = true → exec (.msu e o) s =
      .next (residueChecks (afterIssue s e [.m] 0 (effs (fun a q => a - q))) e o.resBad)) ∧
    ∀ t : State, o.resBad = 0 → armedKind t e ≠ 1 → residueChecks t e o.resBad = t

/-- For every engine, slot, mode, register, pointer, finding and state in which the L slot may issue, LD answers the next
state in which the slot has issued; at distance 3 Vt receives the word at bits 15:0 of the effective address, taken
from the current copy inside a parameter block; at distance 0 the pointer moves as Table 04.9 says; and addr is set at
distance 3 exactly where the effective address has one of bits 23:16 set. An injection of kind 2 or 3 armed on the
engine fires on an L0 read. A corrected word is counted, flagged and queued for write-back at the read word's address;
an uncorrectable one is a fault of kind 2 there; a clean one changes nothing. Local memory itself does not change.
(That a real finding counts beside an injection on the same read is the model's choice, log entry 149.) For every
engine, slot, mode, register, pointer and state in which the L slot may issue, ST answers the next state in which the
slot has issued and the word at bits 15:0 of the pointer holds Vt as read at issue; every other word of local memory
keeps its value. Where that word lies in one of the engine's parameter blocks nothing is stored and addr is set at
distance 3. The pointer moves at distance 0 as Table 04.9 says, and addr is set where the pointer has one of bits
23:16 set. (Derived from 04_engine_instructions.md R87, 04_engine_instructions.md R88, 04_engine_instructions.md R90,
03_engine_datapath.md R62.) -/
def Obligations.LoadsAndStoresReachTheirWordAndMoveTheirPointer : Prop :=
  (∀ (e : EngNo) (slot : LSlot) (vt : VNo) (kp : Fin 4) (f : Ecc) (s : State),
    let t := fetched s e [lSlot slot]
    let x := t.engine e
    let a := if slot = .l0 then kp.val else 4 + kp.val
    let k := x.kReg a
    let m := x.mReg a
    let c := x.mReg (a + 8)
    let reads (mode : LdMode) (ea : Addr24) (move : List Eff) : Prop :=
      lFree s e (.ld e slot mode vt kp f) slot = true →
      let w := loadAddr t e (ea.toNat % 2 ^ 16)
      let y := (x.launch 0 move).launch 3 [.wrV (lSlot slot) (physReg x.rrb vt.val) (x.memAt w)]
      ∃ u v, exec (.ld e slot mode vt kp f) s = .next v ∧
        injectionFires e w slot (t.setEngine e (if ea.toNat < 2 ^ 16 then y else y.launch 3 [.flgSet 32])) u ∧ readFinds e w f u v
    reads .plain k [] ∧ reads .post k [.wrK false a (k + m)] ∧ reads .circ k [.wrK false a (circ k m c)] ∧ reads .offset (k + m) []) ∧
  (∀ (e : EngNo) (slot : LSlot) (vt : VNo) (kp : Fin 4) (s : State),
    let on (i : Instr) (o : Host.Outcome State Fault Refusal) : Prop := lFree s e i slot = true → exec i s = o
    let t := fetched s e [lSlot slot]
    let x := t.engine e
    let a := if slot = .l0 then kp.val else 4 + kp.val
    let k := x.kReg a
    let at' := k.toNat % 2 ^ 16
    let out (move : List Eff) : Host.Outcome State Fault Refusal :=
      let y := if k.toNat < 2 ^ 16 then x.launch 0 move else (x.launch 0 move).launch 3 [.flgSet 32]
      .next (t.setEngine e (if (blockAt t e at').isSome = true then y.launch 3 [.flgSet 32]
        else { y with mem := storeSet 0 y.mem at' (x.rd vt.val) }))
    on (.st e slot .plain vt kp) (out []) ∧
    on (.st e slot .post vt kp) (out [.wrK false a (k + x.mReg a)]) ∧
    on (.st e slot .circ vt kp) (out [.wrK false a (circ k (x.mReg a) (x.mReg (a + 8)))]) ∧
    ∀ b, b ≠ at' → storeGet 0 (storeSet 0 x.mem at' (x.rd vt.val)) b = storeGet 0 x.mem b)

/-- For every engine and state in which the slots of the operation may issue: XNOP only issues; ROT puts a rotation in
flight at distance 0; PHASE counts the program phase up; LOOP asks for a body of lenM1 + 1 words after it, cntM1 + 1
times; REP, on a warden engine, asks for cntM1 + 1 issues of the next word; END ends the program. On another engine
REP is refused by name, since its code is no instruction there (the model's choice, log entry 108). (Derived from
04_engine_instructions.md R91, 04_engine_instructions.md R94, 04_engine_instructions.md R97, 04_engine_instructions.md
R100, 04_engine_instructions.md R101, 03_engine_datapath.md R49.) -/
def Obligations.SequenceOperationsAskForTheirLoopPhaseOrEnd : Prop :=
  ∀ (e : EngNo) (rot : Bool) (len : Fin 64) (cnt : Fin 1024) (rc : Fin 32768) (s : State),
    let t := fetched s e [.x]
    let u := fetched s e [.a, .x]
    (slotFree s e (.xnop e) [.x] = true → exec (.xnop e) s = .next (t.setEngine e (t.engine e))) ∧
    (slotFree s e (.rot e) [.x] = true → exec (.rot e) s = .next (t.setEngine e ((t.engine e).launch 0 [.rotate]))) ∧
    (slotFree s e (.phase e) [.x] = true →
      exec (.phase e) s = .next (t.setEngine e { t.engine e with phase := (t.engine e).phase + 1 })) ∧
    (slotFree s e (.endProg e) [.x] = true →
      exec (.endProg e) s = .next (t.setEngine e { t.engine e with seqEnd := true })) ∧
    (slotFree s e (.loop e rot len cnt) [.a, .x] = true →
      exec (.loop e rot len cnt) s = .next (u.setEngine e { u.engine e with
        seqLoop := some ⟨(u.engine e).pc + 1, (u.engine e).pc + 1 + len.val, cnt.val + 1, rot⟩ })) ∧
    (slotFree s e (.rep e rc) [.a, .x] = true → e.val % 16 = 15 →
      exec (.rep e rc) s = .next (u.setEngine e { u.engine e with seqRep := rc.val + 1 })) ∧
    (e.val % 16 ≠ 15 → exec (.rep e rc) s = .refused (.illFormed "REP"))

/-- For every engine, register and state in which the X slot may issue, XR answers the next state in which the slot has
issued, V(32 + n) receives the in-window word at distance 3 and K14 counts up modulo 2^24 at distance 0, and a word
with an uncorrectable error is also a fault of kind 5 at its window address; XW stores V(32 + n) in the out window at
once, changing no other word of it, and counts K15 up; addr is set at distance 3 exactly where the pointer has one of
bits 23:10 set. For every engine, register and state in which the X slot may issue: a request word with bit 31 at 0 is
a delay-tap request. One that is not admitted gives 0 at distance 2 with addr set. One that is admitted replaces the
register at distance 6 for a tier-1 line and 0 for a tier-2 line by the tap's exact value clamped to 32 bits, with sat
set exactly where it was clamped and addr where the offset was; then each point is checked in order: a corrected
tier-1 word is counted, an uncorrectable one is a fault of kind 4 at its address, and the first point read from a
marked burst raises a fault of kind 6. With bit 31 at 1 the request is a gain-cell read, whose current gain replaces
the register at distance 2 where the cell belongs to the engine's partition and bits 30:12 are 0. A cell of another
partition, no cell, or a nonzero reserved bit gives 0 at distance 2 with addr set. (The model's choices: only a tier-1
read finds errors at the request itself, log entry 118, and their cycle is the request's own, log entry 151.) (Derived
from 04_engine_instructions.md R91, 04_engine_instructions.md R92, 03_engine_datapath.md R68,
04_engine_instructions.md R93, 05_delay_memory.md R109, 05_delay_memory.md R111, 05_delay_memory.md R112,
05_delay_memory.md R113, 07_parameters_and_commit.md R178.) -/
def Obligations.ExchangePointersMoveAndRequestsReplaceTheirRegister : Prop :=
  (∀ (e : EngNo) (n : Fin 32) (ecc : Ecc) (s : State),
    let t := fetched s e [.x]
    let x := t.engine e
    let far (k : Addr24) (y : Engine) : Engine := if k.toNat < 2 ^ 10 then y else y.launch 3 [.flgSet 32]
    (slotFree s e (.xr e n ecc) [.x] = true →
      let w := (x.kReg 14).toNat % 2 ^ 10
      let r := t.setEngine e (far (x.kReg 14) ((x.launch 0 [.wrK false 14 (x.kReg 14 + 1)]).launch 3
        [.wrV .x (physReg x.rrb (32 + n.val)) (inWord t e w)]))
      exec (.xr e n ecc) s = .next
        (if ecc = .uncorrectable then clusterFault r (e.val / 16) 5 (e.val % 16) w (clusterCycle r e) false else r)) ∧
    (slotFree s e (.xw e n) [.x] = true → ∃ y, exec (.xw e n) s = .next (t.setEngine e y) ∧
      y = { far (x.kReg 15) (x.launch 0 [.wrK false 15 (x.kReg 15 + 1)]) with outFront := y.outFront } ∧
      storeGet 0 y.outFront ((x.kReg 15).toNat % 2 ^ 10) = x.rd (32 + n.val) ∧
      ∀ w, w ≠ (x.kReg 15).toNat % 2 ^ 10 → storeGet 0 y.outFront w = storeGet 0 x.outFront w)) ∧
  (∀ (e : EngNo) (n : Fin 32) (ecc : List Ecc) (s : State),
    let t := fetched s e [.x]
    let x := t.engine e
    let q := (s.engine e).rd (32 + n.val)
    let p := physReg x.rrb (32 + n.val)
    let fails := t.setEngine e ((x.launch 2 [.wrV .x p 0]).launch 3 [.flgSet 32])
    (slotFree s e (.reqDelayTap e n ecc) [.x] = true → q.getLsbD 31 = false →
      (tapAsked t e q = none → exec (.reqDelayTap e n ecc) s = .next fails) ∧
      (∀ r tp tap d clamped w, tapAsked t e q = some (r, tp, tap, d, clamped) →
        let js := tapPoints tap.mode d
        let ex := tapExact (d % 65536) ((tapPoints tap.mode d).map (tapPoint t e r tp))
        w.toInt = max (-2 ^ 31) (min (2 ^ 31 - 1) ex) →
        let y := x.launch (if r.tier = 1 then 6 else 0)
          (.wrV .x p w :: if ex < -2 ^ 31 ∨ 2 ^ 31 - 1 < ex then [.flgSet 1] else [])
        let u := t.setEngine e (if clamped then y.launch 3 [.flgSet 32] else y)
        exec (.reqDelayTap e n ecc) s = .next (if r.tier = 1 then (js.zip ecc).foldl (fun u x => pointCheck u e r x.1 x.2) u
          else (js.filter (fun j => decide (j ≤ t.lineAge r))).foldl (fun u j => burstCheck u e r tp j) u))) ∧
    (∀ (u : State) (r : LineRec) (tp j : Nat),
      pointCheck u e r j .clean = u ∧
      (r.cluster < 8 → (pointCheck u e r j .corrected).fld (Reg.MEM_DLY_ECC_ce r.cluster) =
          min 65535 (u.fld (Reg.MEM_DLY_ECC_ce r.cluster) + 1) ∧
        onlyFlds [Reg.MEM_DLY_ECC_ce r.cluster] u (pointCheck u e r j .corrected)) ∧
      pointCheck u e r j .uncorrectable =
        clusterFault u r.cluster 4 (lineBank r) (lineAddr r (linePos u r j) % 65536) (clusterCycle u e) false ∧
      (badBurst u e r tp (linePos u r j) = none → burstCheck u e r tp j = u) ∧
      (∀ b, badBurst u e r tp (linePos u r j) = some b → b.reported = true → burstCheck u e r tp j = u) ∧
      ∀ b, badBurst u e r tp (linePos u r j) = some b → b.reported = false →
        burstCheck u e r tp j = clusterFault { u with badBursts := u.badBursts.map (fun x => if x = b then { x with reported := true } else x) }
          r.cluster 6 0 (Config.stagingAddr e r.line tp (linePos u r j)).toNat (clusterCycle u e) false) ∧
    (slotFree s e (.reqGainCell e n) [.x] = true → q.getLsbD 31 = true →
      (∀ c, bitsOf q 12 19 = 0 → t.str.cells.find? (fun r => r.cell == bitsOf q 0 12) = some c →
          t.engPart e = some c.partition →
        exec (.reqGainCell e n) s = .next (t.setEngine e (x.launch 2 [.wrV .x p (storeGet {} t.cells (bitsOf q 0 12)).current]))) ∧
      (∀ c, t.str.cells.find? (fun r => r.cell == bitsOf q 0 12) = some c → t.engPart e ≠ some c.partition →
        exec (.reqGainCell e n) s = .next fails) ∧
      (bitsOf q 12 19 ≠ 0 ∨ t.str.cells.find? (fun r => r.cell == bitsOf q 0 12) = none →
        exec (.reqGainCell e n) s = .next fails)))

/-- For every engine that issues in this cycle, with no phase hop leaving or landing and no injection of a fetch error
armed, ENGINE_DELAYED_WRITE with a clean fetch answers the next state in which this engine alone has changed, its
cycle count has gone up by one, no slot of the next cycle has issued, and its sequence is: the repeated word again
while repetitions remain; no further word after END; the word after REP with its count; the body of a LOOP just
issued; at the last word of a loop body the body's first word while iterations remain, else the word after the body;
else the word after this one. (Derived from 04_engine_instructions.md R77, 04_engine_instructions.md R94,
04_engine_instructions.md R97, 04_engine_instructions.md R101.) -/
def Obligations.EngineCycleCompletesWhatIsDueAndGoesOn : Prop :=
  ∀ (e : EngNo) (s : State), canIssue s e = true → sendHops s e = s → landHops s e = s → armedKind s e ≠ 4 → armedKind s e ≠ 5 →
    let x := s.engine e
    ∃ t, exec (.engineDelayedWrite e .clean) s = .next t ∧ onlyEngine e s t ∧
      (t.engine e).cyc = x.cyc + 1 ∧ (t.engine e).used = [] ∧
      (2 ≤ x.rep → (t.engine e).pc = x.pc ∧ (t.engine e).rep = x.rep - 1) ∧
      (x.rep = 1 → (t.engine e).rep = 0 ∧ (x.loops = [] → (t.engine e).pc = x.pc + 1)) ∧
      (x.rep = 0 → x.seqEnd = true → (t.engine e).done = true ∧ (t.engine e).pc = x.pc) ∧
      (x.rep = 0 → x.seqEnd = false → x.seqRep ≠ 0 → (t.engine e).rep = x.seqRep ∧ (t.engine e).pc = x.pc + 1) ∧
      (∀ l, x.rep = 0 → x.seqEnd = false → x.seqRep = 0 → x.seqLoop = some l →
        (t.engine e).loops = l :: x.loops ∧ (t.engine e).pc = x.pc + 1) ∧
      (∀ l ls, x.rep = 0 → x.seqEnd = false → x.seqRep = 0 → x.seqLoop = none → x.loops = l :: ls → x.pc = l.last →
        (2 ≤ l.left → (t.engine e).pc = l.first ∧ (t.engine e).loops = { l with left := l.left - 1 } :: ls) ∧
        (l.left ≤ 1 → (t.engine e).pc = x.pc + 1 ∧ (t.engine e).loops = ls)) ∧
      (x.rep = 0 → x.seqEnd = false → x.seqRep = 0 → x.seqLoop = none → (∀ l ls, x.loops = l :: ls → x.pc ≠ l.last) →
        (t.engine e).pc = x.pc + 1 ∧ (t.engine e).loops = x.loops)

/-- For every cluster, engine and state in which the registers are reached: ENG_FAULT_CLEAR answers the next state in
which valid, more and injected of ENG_FAULT read 0 and no other field of any register changes; FINJ_ARM with a kind
from 1 to 5 sets engine, kind and arm of ENG_FINJ and nothing else; FINJ_DISARM with a word whose arm or kind field is
0 leaves arm at 0 and sets engine and kind to the word's, where Table 03.6 lists the kind, and nothing else. (Derived
from 03_engine_datapath.md R69, 03_engine_datapath.md R70.) -/
def Obligations.FaultInjectionArmsAndFaultRecordsClear : Prop :=
  ∀ (c : ClNo) (e : Fin 16) (kind : Fin 8) (v : Word) (s : State),
    reaches s (Reg.ENG_FAULT c) = true → reaches s (Reg.ENG_FINJ c) = true →
    (∃ t, exec (.engFaultClear c) s = .next t ∧ t.fld (Reg.ENG_FAULT_valid c) = 0 ∧ t.fld (Reg.ENG_FAULT_more c) = 0 ∧
      t.fld (Reg.ENG_FAULT_injected c) = 0 ∧
      onlyFlds [Reg.ENG_FAULT_valid c, Reg.ENG_FAULT_more c, Reg.ENG_FAULT_injected c] s t) ∧
    (1 ≤ kind.val → kind.val ≤ 5 → ∃ t, exec (.finjArm c e kind) s = .next t ∧ t.fld (Reg.ENG_FINJ_arm c) = 1 ∧
      t.fld (Reg.ENG_FINJ_kind c) = kind.val ∧ t.fld (Reg.ENG_FINJ_engine c) = e.val ∧
      onlyFlds [Reg.ENG_FINJ_arm c, Reg.ENG_FINJ_kind c, Reg.ENG_FINJ_engine c] s t) ∧
    ((bitsOf v 0 1 = 0 ∨ bitsOf v 1 3 = 0) → ∃ t, exec (.finjDisarm c v) s = .next t ∧ t.fld (Reg.ENG_FINJ_arm c) = 0 ∧
      t.fld (Reg.ENG_FINJ_kind c) = (if bitsOf v 1 3 ≤ 5 then bitsOf v 1 3 else s.fld (Reg.ENG_FINJ_kind c)) ∧
      t.fld (Reg.ENG_FINJ_engine c) = bitsOf v 4 4 ∧
      onlyFlds [Reg.ENG_FINJ_arm c, Reg.ENG_FINJ_kind c, Reg.ENG_FINJ_engine c] s t)

/-- For every bank b, request word v and state in which the register is reached: a supervisor's handover request that
meets R128 for the partition in v answers the next state with the bank CLEARING, that partition as its owner to be and
in req, and no memory word changed; one that does not meet R128 sets refused and changes nothing else; requests from
PCIe or the local bus change nothing. BANK_CLEAR_DONE of a CLEARING bank answers the next state in which every word of
the bank is 0, every word of every other bank is unchanged, and the bank is among those the boundary hands over;
nothing else changes. For every bank and state in which MEM_BANK_PWR is reached, with no running line or DMA window in
the bank: a request OFF answers the next state with the bank OFF, every word of it 0 and every other bank's words
unchanged; RETENTION of an ON bank changes its state and no word; ON from RETENTION is noted for the next boundary,
and ON from OFF starts the zero fill; while a line or window lies in the bank, RETENTION and OFF are refused and
change neither words nor state. BANK_ZERO_FILL_DONE of a bank being filled zeroes it and notes it for the boundary.
DRAM_RETRAIN of the channel whose turn it is, on a trained DRAM whose period is over, counts the retraining, shows the
channel's margin and gives the turn to the next channel, a period after this tick; DRAM_REFRESH changes nothing. (The
model's choices: that the words of an OFF bank, which R130 calls lost, are 0 at once, log entry 164; that retraining
another channel, or before its time, changes nothing, and whose turn it is, log entry 120.) (Derived from
05_delay_memory.md R128, 05_delay_memory.md R129, 05_delay_memory.md R126, 05_delay_memory.md R130, 05_delay_memory.md
Table 05.8, 11_start_and_recovery.md R265.) -/
def Obligations.BanksChangeOwnerAndPowerByTheirTables : Prop :=
  (∀ (b : Fin 384) (v : Word) (s : State),
    (∀ path, path = .sv0 ∨ path = .sv1 → reaches s (Reg.MEM_BANK_OWNER b) = true → bitsOf v 24 1 = 1 → ∃ t, exec (.bankHandoverRequest path b v) s = .next t ∧
      (handoverOk s b (bitsOf v 16 8) = true →
        t.fld (Reg.MEM_BANK_OWNER_state b) = 1 ∧ t.fld (Reg.MEM_BANK_OWNER_owner b) = bitsOf v 16 8 ∧
        t.fld (Reg.MEM_BANK_OWNER_req b) = bitsOf v 16 8 ∧ t = { s with regs := t.regs, str := t.str } ∧
        t.str = { s.str with handed := t.str.handed } ∧ regsKept [Reg.MEM_BANK_OWNER b] s t) ∧
      (handoverOk s b (bitsOf v 16 8) = false →
        t.fld (Reg.MEM_BANK_OWNER_refused b) = 1 ∧ onlyFlds [Reg.MEM_BANK_OWNER_refused b] s t)) ∧
    exec (.bankHandoverRequest .pcie b v) s = .next s ∧ exec (.bankHandoverRequest .lb b v) s = .next s ∧
    (s.fld (Reg.MEM_BANK_OWNER_state b) = 1 → s.bankOwned.contains b.val = false →
      ∃ t, exec (.bankClearDone b) s = .next t ∧ t = { s with delay := t.delay, bankOwned := s.bankOwned ++ [b.val] } ∧
        (∀ w, w < 65536 → storeGet 0 t.delay (65536 * b.val + w) = 0) ∧
        ∀ a, a / 65536 ≠ b.val → storeGet 0 t.delay a = storeGet 0 s.delay a)) ∧
  (∀ (b : Fin 384) (ch : Fin 16) (warn : Bool) (s : State),
    let free := bankHasLine s b = false ∧ bankHasWindow s b = false
    let othersKept (t : State) := ∀ a, a / 65536 ≠ b.val → storeGet 0 t.delay a = storeGet 0 s.delay a
    let up := reaches s (Reg.MEM_BANK_PWR b) = true
    (up → free → ∃ t, exec (.bankPowerRequest b 2) s = .next t ∧ t.fld (Reg.MEM_BANK_PWR_state b) = 2 ∧
      t.fld (Reg.MEM_BANK_PWR_req b) = 2 ∧ (∀ w, w < 65536 → storeGet 0 t.delay (65536 * b.val + w) = 0) ∧ othersKept t ∧
      regsKept [Reg.MEM_BANK_PWR b] s t ∧
      t = { s with regs := t.regs, delay := t.delay, bankOn := t.bankOn, bankFill := t.bankFill }) ∧
    (up → free → s.fld (Reg.MEM_BANK_PWR_state b) = 0 → ∃ t, exec (.bankPowerRequest b 1) s = .next t ∧
      t.fld (Reg.MEM_BANK_PWR_state b) = 1 ∧ t.delay = s.delay ∧ regsKept [Reg.MEM_BANK_PWR b] s t) ∧
    (up → s.fld (Reg.MEM_BANK_PWR_state b) = 1 → s.bankOn.contains b.val = false → ∃ t, exec (.bankPowerRequest b 0) s = .next t ∧
      t.bankOn = s.bankOn ++ [b.val] ∧ t.delay = s.delay ∧ t.fld (Reg.MEM_BANK_PWR_state b) = 1 ∧
      regsKept [Reg.MEM_BANK_PWR b] s t) ∧
    (up → s.fld (Reg.MEM_BANK_PWR_state b) = 2 → s.bankFill.contains b.val = false → ∃ t, exec (.bankPowerRequest b 0) s = .next t ∧
      t.bankFill = s.bankFill ++ [b.val] ∧ t.fld (Reg.MEM_BANK_PWR_state b) = 2 ∧ regsKept [Reg.MEM_BANK_PWR b] s t) ∧
    (up → ¬ free → ∀ r : Word, r = 1 ∨ r = 2 → ∃ t, exec (.bankPowerRequest b r) s = .next t ∧
      t.fld (Reg.MEM_BANK_PWR_refused b) = 1 ∧ t.fld (Reg.MEM_BANK_PWR_state b) = s.fld (Reg.MEM_BANK_PWR_state b) ∧
      onlyRegs [Reg.MEM_BANK_PWR b] s t) ∧
    (s.bankFill.contains b.val = true → ∃ t, exec (.bankZeroFillDone b) s = .next t ∧
      (∀ w, w < 65536 → storeGet 0 t.delay (65536 * b.val + w) = 0) ∧ othersKept t ∧ t.bankOn = s.bankOn ++ [b.val] ∧
      t.bankFill.contains b.val = false ∧ t = { s with delay := t.delay, bankOn := t.bankOn, bankFill := t.bankFill }) ∧
    (s.tickOn = true → s.fld Reg.MEM_DRAM_STAT_train = 2 → ch.val = s.retrainCh → s.retrainDue ≤ s.tick →
      ∃ t, exec (.dramRetrain ch warn) s = .next t ∧
      t.fld Reg.MEM_DRAM_STAT_retrain = (s.fld Reg.MEM_DRAM_STAT_retrain + 1) % 2 ^ Reg.MEM_DRAM_STAT_retrain.w ∧
      t.fld ⟨Reg.DRAM_MARGIN_WARN, ch.val, 1⟩ = warn.toNat ∧
      (warn = true → t.fld ⟨Reg.DRAM_MARGIN_WARN, 16 + ch.val, 1⟩ = 1) ∧
      t.retrainCh = (ch.val + 1) % 16 ∧
      t.retrainDue = s.tick + (if s.fld Reg.TICK_RATE_family = 0 then 96 else 88) * 2 ^ s.fld Reg.TICK_RATE_mult ∧
      t = { s with regs := t.regs, retrainCh := t.retrainCh, retrainDue := t.retrainDue } ∧
      regsKept [Reg.MEM_DRAM_STAT, Reg.DRAM_MARGIN_WARN] s t) ∧
    (ch.val ≠ s.retrainCh ∨ s.tick < s.retrainDue → exec (.dramRetrain ch warn) s = .next s) ∧
    exec .dramRefresh s = .next s)

/-- For every state in which PART_RESET is reached, and every word v, which names partition p: with go at 0 it shows p
alone (and clears refused where it says so). With go at 1: where p is not 0, exists, the device is in RUN and no reset
or graft of p is pending, a single device or owner adds a reset of p with boundary tick + 1 + pl and shows p in
PART_RESET; on a single device, where that is the next boundary, p's engines abort at once; an owner that leads a
follower puts the reset on the control stream. Nothing else changes. A follower instead relays the request. With a
reset or graft of p pending the request shows p and sets absorbed alone; in the other cases it sets refused and
changes nothing else. For every partition p whose pending reset is due: PARTITION_RESET answers the next state in
which no unreleased lease and no unflipped group of p is left, no group is added or removed, PART_STAT.resets has
counted one up, PART_RESET_TICK shows this tick, the operation and PART_RESET_DONE hold the boundary c at which it
completes (the next boundary, or the second after the last echo or undo booked), and no parameter, delay or DRAM word
has changed. GRAFT_RESET does the same for a graft that is due, shows GRAFT_LOADING and its boundary in
ESP_GRAFT_TICK. PARTITION_RESET_COMPLETE at or after c, and GRAFT_COMPLETE likewise, remove the operation, start the
partition's engines and change no group or lease; the partition's mute ends with the launch tick after this boundary.
GRAFT_COMPLETE makes the composite structure the running one, with the bank owners that stand. (Derived from
09_partitions_and_thorn.md R216, 09_partitions_and_thorn.md R219, 09_partitions_and_thorn.md R217,
07_parameters_and_commit.md R181, 07_parameters_and_commit.md R183, 07_parameters_and_commit.md R184, 08_espalier.md
R210.) -/
def Obligations.PartitionResetsAreScheduledAndThenRestart : Prop :=
  (∀ (v : Word) (s : State),
    let go : Prop := bitsOf v 31 1 = 1
    let p := bitsOf v 0 8
    let fits := p ≠ 0 ∧ (s.part p).isSome = true ∧ s.boot = bootRun
    reaches s Reg.PART_RESET = true →
    (go → fits → s.partOp p = none → s.follows = false → ∃ t, exec (.partResetRequest v) s = .next t ∧
      t.fld Reg.PART_RESET_partition = p ∧
      t.partOps = s.partOps ++ [(⟨p, false, s.tick + 1 + s.pl, none, 0⟩ : PartOp)] ∧
      t.ctlOut = s.ctlOut ++ (if s.leads then [.partReset (s.twin.ctlSeq + 1) p (s.tick + 1 + s.pl)] else []) ∧
      (s.twinMode = false → ∀ e ∈ s.partEngines p, (t.engine e).aborted = true ∧ (t.engine e).cut = true) ∧
      (s.twinMode = true → t.eng = s.eng) ∧
      t = { s with regs := t.regs, eng := t.eng, partOps := t.partOps, ctlOut := t.ctlOut, twin := t.twin } ∧
      t.twin = { s.twin with ctlSeq := s.twin.ctlSeq + s.leads.toNat, sent := t.twin.sent, sentTo := t.twin.sentTo } ∧
      regsKept [Reg.PART_RESET] s t) ∧
    (go → fits → s.partOp p = none → s.follows = true → ∃ t, exec (.partResetRequest v) s = .next t ∧
      t.fld Reg.PART_RESET_partition = p ∧
      t = { s with regs := t.regs, ctlOut := s.ctlOut ++ [.relayReset p], twin := t.twin } ∧
      t.twin = { s.twin with sent := t.twin.sent, sentTo := t.twin.sentTo } ∧ regsKept [Reg.PART_RESET] s t) ∧
    (go → fits → s.partOp p ≠ none → ∃ t, exec (.partResetRequest v) s = .next t ∧ t.fld (Reg.PART_STAT_absorbed p) = 1 ∧
      t.fld Reg.PART_RESET_partition = p ∧ onlyRegs [Reg.PART_RESET, Reg.PART_STAT p] s t) ∧
    (go → ¬ fits → ∃ t, exec (.partResetRequest v) s = .next t ∧ t.fld Reg.PART_RESET_refused = 1 ∧
      onlyFlds [Reg.PART_RESET_refused] s t) ∧
    (¬ go → ∃ t, exec (.partResetRequest v) s = .next t ∧ t.fld Reg.PART_RESET_partition = p ∧
      onlyFlds [Reg.PART_RESET_partition, Reg.PART_RESET_refused] s t)) ∧
  (∀ (p : Fin 256) (o : PartOp) (s : State), s.partOp p.val = some o →
    let undone (t : State) := (∀ e ∈ t.leases, e.2.part = p.val → e.2.relAt ≠ none) ∧
      (∀ g ∈ t.groups, g.part = p.val → g.phase ≠ .staged) ∧ t.groups.length = s.groups.length ∧
      t.fld (Reg.PART_STAT_resets p) = (s.fld (Reg.PART_STAT_resets p) + 1) % 2 ^ (Reg.PART_STAT_resets p).w ∧
      t.pstA = s.pstA ∧ t.pstB = s.pstB ∧ t.delay = s.delay ∧ t.dram = s.dram
    let ended (t : State) := t.partOp p = none ∧ storeGet 0 t.muteEnd p = s.tick + 1 ∧ t.groups = s.groups ∧ t.leases = s.leases
    let c' (t : State) := match lastEcho t p s.tick with | some e => max (s.tick + 1) (e + 2) | none => s.tick + 1
    (o.graft = false → o.done = none → o.start ≤ s.tick → ∃ t, exec (.partitionReset p) s = .next t ∧ undone t ∧
      t.reg Reg.PART_RESET_TICK = BitVec.ofNat 32 s.tick ∧ t.partOp p = some { o with done := some (c' t) } ∧
      t.reg Reg.PART_RESET_DONE = BitVec.ofNat 32 (c' t)) ∧
    (o.graft = true → o.done = none → o.start ≤ s.tick → ∃ t, exec (.graftReset p) s = .next t ∧ undone t ∧
      t.fld Reg.ESP_STAT_state = 3 ∧ t.reg Reg.ESP_GRAFT_TICK = BitVec.ofNat 32 s.tick ∧
      t.partOp p = some { o with done := some (max (s.tick + graftTicks s o.bytes) (c' t)) }) ∧
    (∀ c, o.graft = false → o.done = some c → c ≤ s.tick → ∃ t, exec (.partitionResetComplete p) s = .next t ∧ ended t ∧
      t.str = s.str ∧ ∀ e ∈ s.partEngines p, t.engine e = (s.engine e).start ∧
        (s.engState e = engHalt → t.engState e = engRun)) ∧
    (∀ c, o.graft = true → o.done = some c → c ≤ s.tick → ∃ t, exec (.graftComplete p) s = .next t ∧ ended t ∧
      t.graftNew = none ∧ t.fld Reg.ESP_STAT_state = 0 ∧ t.reg Reg.ESP_GRAFT_DONE = BitVec.ofNat 32 s.tick ∧
      ∀ n bl, s.graftNew = some (n, bl) → t.str = { n with handed := s.str.handed }))

/-- For every slot, partition and state in which ESP_LOAD_CTL is reached: with ESP_STAT.state not IDLE each request sets
busy_ign and starts nothing. In IDLE, VERIFY_SLOT starts in every state, VERIFY_GRAFT in RUN, and GRAFT in RUN at a
device that does not follow and whose partition has no reset or graft pending: the verification in progress is then
the request with ESP_GRAFT_SRC as it stands and ESP_STAT.state is VERIFYING. In the other cases refused_state is set
and nothing starts. No running structure, group, lease or memory word changes. (The model's choices: a follower
refuses a GRAFT, log entry 39; VERIFY_SLOT reads the flash that boot_src names, log entry 56.) For every state outside
VERIFY with a verification o in progress: a VERIFY_SLOT or VERIFY_GRAFT ends with result passed (1) exactly where the
verifier accepts the slot's bundle or the graft image, else refused (2), ESP_STAT.state IDLE, nothing in progress and
the running structure unchanged. A GRAFT whose image the verifier refuses ends so too; one that it accepts, with no
reset of its partition pending, is pending for boundary tick + 2 + pl with the composite structure held beside the
running one, and ESP_STAT.state shows it. In VERIFY a bundle that is refused is a counted failure, and one that is
accepted becomes the running structure in LOAD (that it does so when V1 passes is the model's choice, log entry 83).
(Derived from 08_espalier.md R209, 08_espalier.md R210, 09_partitions_and_thorn.md R219, 08_espalier.md R204,
08_espalier.md R205, 08_espalier.md R208.) -/
def Obligations.VerificationsStartWhenIdleAndEndWithTheirVerdict : Prop :=
  (∀ (slot : Fin 2) (part : Fin 256) (s : State),
    let kept (t : State) := t = { s with regs := t.regs, espOp := t.espOp }
    reaches s Reg.ESP_LOAD_CTL = true →
    (s.fld Reg.ESP_STAT_state ≠ 0 →
      (∃ t, exec (.verifySlot slot) s = .next t ∧ t.fld Reg.ESP_STAT_busy_ign = 1 ∧ t.espOp = s.espOp ∧ kept t) ∧
      (∃ t, exec (.verifyGraft part) s = .next t ∧ t.fld Reg.ESP_STAT_busy_ign = 1 ∧ t.espOp = s.espOp ∧ kept t) ∧
      (∃ t, exec (.graft part) s = .next t ∧ t.fld Reg.ESP_STAT_busy_ign = 1 ∧ t.espOp = s.espOp ∧ kept t)) ∧
    (s.fld Reg.ESP_STAT_state = 0 →
      (∃ t, exec (.verifySlot slot) s = .next t ∧ t.fld Reg.ESP_STAT_state = 1 ∧
        t.espOp = some ⟨0, slot.val, 0, (s.reg Reg.ESP_GRAFT_SRC).toNat⟩ ∧ kept t) ∧
      (s.boot = bootRun → ∃ t, exec (.verifyGraft part) s = .next t ∧ t.fld Reg.ESP_STAT_state = 1 ∧
        t.espOp = some ⟨1, 0, part.val, (s.reg Reg.ESP_GRAFT_SRC).toNat⟩ ∧ kept t) ∧
      (s.boot = bootRun → s.partOp part = none → s.follows = false → ∃ t, exec (.graft part) s = .next t ∧
        t.fld Reg.ESP_STAT_state = 1 ∧ t.fld Reg.ESP_STAT_graft_part = part.val ∧
        t.espOp = some ⟨2, 0, part.val, (s.reg Reg.ESP_GRAFT_SRC).toNat⟩ ∧ kept t) ∧
      (s.boot ≠ bootRun → ∃ t, exec (.verifyGraft part) s = .next t ∧ t.fld Reg.ESP_STAT_refused_state = 1 ∧
        t.espOp = s.espOp ∧ kept t) ∧
      (s.boot ≠ bootRun ∨ s.partOp part ≠ none ∨ s.follows = true → ∃ t, exec (.graft part) s = .next t ∧
        t.fld Reg.ESP_STAT_refused_state = 1 ∧ t.espOp = s.espOp ∧ kept t))) ∧
  ((∀ (o : EspOp) (s : State), s.boot ≠ bootVerify → s.espOp = some o →
    (o.op = 0 → ∃ t, exec (.verifyComplete none) s = .next t ∧ t.espOp = none ∧ t.fld Reg.ESP_STAT_state = 0 ∧ t.str = s.str ∧
      t.fld Reg.ESP_STAT_result =
        (match verifyBundle s (slotImg s.bootFlash o.slot) with | .ok _ => 1 | .error _ => 2)) ∧
    (o.op = 1 → ∃ t, exec (.verifyComplete none) s = .next t ∧ t.espOp = none ∧ t.fld Reg.ESP_STAT_state = 0 ∧ t.str = s.str ∧
      t.fld Reg.ESP_STAT_result = (match verifyGraftImg s o.part o.src with | .ok _ => 1 | .error _ => 2)) ∧
    (∀ g, o.op = 2 → verifyGraftImg s o.part o.src = .ok g → s.partOp o.part = none →
      ∃ t, exec (.verifyComplete none) s = .next t ∧ t.espOp = none ∧ t.str = s.str ∧ t.fld Reg.ESP_STAT_state = 2 ∧
        t.partOps = s.partOps ++ [(⟨o.part, true, s.tick + 2 + s.pl, none, g.bytes⟩ : PartOp)] ∧
        t.graftNew = some (g.str, g.blocks)) ∧
    (∀ e, o.op = 2 → verifyGraftImg s o.part o.src = .error e →
      ∃ t, exec (.verifyComplete none) s = .next t ∧ t.espOp = none ∧ t.str = s.str ∧ t.fld Reg.ESP_STAT_state = 0 ∧
        t.fld Reg.ESP_STAT_result = 2 ∧ t.partOps = s.partOps)) ∧
    (∀ (s : State), s.boot = bootVerify →
      (∀ q, verifyBundle s (slotImg s.bootFlash (s.fld Reg.BOOT_CAUSE_slot)) = .ok q →
        ∃ t, exec (.verifyComplete none) s = .next t ∧ t.boot = bootLoad ∧ t.str = q.str ∧ t.phases = [] ∧
          t.fld Reg.ESP_STAT_result = 1) ∧
      ∀ e, verifyBundle s (slotImg s.bootFlash (s.fld Reg.BOOT_CAUSE_slot)) = .error e →
        ∃ u, exec (.verifyComplete none) s = .next (countedFailure u 2 (e.step * 256 + e.part * 16 + e.code)) ∧
          u.fld Reg.ESP_STAT_result = 2))

/-- For every source, register word and state: REF_LOSS of the current source that meets its loss criterion, in ACQUIRE or
LOCKED, answers a state in HOLDOVER with holdover_entered and ref_lost set and the source no longer valid; from an
ACQUIRE that has not reached LOCKED the word frozen first is the control word again. PTP_DCO is lost and valid by its
servo's last update, its valid bit and its steering alone. The loss of a source that PLL-A does not use leaves its
state and control word. SOURCE_VALID_AGAIN of the source that HOLDOVER waits for and against which no criterion of
Table 02.4 stands (AES3: the lock of its receiver; the Pleach link: its alignment), not frozen by software, answers
ACQUIRE with the control word as it was. ALT_FALLBACK takes the valid alternate source, sets fallback, enters ACQUIRE
and keeps the control word. REF_REVERT, and a CLK_REFSEL write, where CLK_REFSEL is reached, that names another
source, set holdover_entered and cur_src, and answer ACQUIRE where the new source is valid and not frozen, else
HOLDOVER (the model's choices: a write that names another receiver or multiple makes that source not valid, log entry
113; a source valid again ends HOLDOVER, log entry 73). None changes the tick, a delay word, an engine or any other
register. (Derived from 02_clocks_and_tick.md R25, 02_clocks_and_tick.md R26, 02_clocks_and_tick.md R27,
02_clocks_and_tick.md R28.) -/
def Obligations.SourceChangesPassThroughHoldover : Prop :=
  ∀ (src : Fin 5) (v : Word) (s : State),
    let n := src.val
    let quiet (t : State) := t = { s with regs := t.regs, clk := t.clk, freeCtr := t.freeCtr } ∧
      regsKept [Reg.CLK_STAT, Reg.CLK_PLLA_DCO, Reg.CLK_REFSEL] s t
    let cur := s.fld Reg.CLK_STAT_cur_src
    let ptpOk : Prop := s.clk.servoMs < 2000 ∧ s.fld Reg.NET_PTP_CTL_valid = 1 ∧ (s.reg Reg.NET_PTP_ADJ).toInt.natAbs ≤ 858993
    (n ≠ 0 → (n = 1 → ¬ ptpOk) →
      ∃ t, exec (.refLoss src) s = .next t ∧ quiet t ∧ srcValid t n = false ∧ t.fld Reg.CLK_STAT_cur_src = cur ∧
        (n = cur → s.plla = pllaAcquire ∨ s.plla = pllaLocked → t.plla = pllaHoldover ∧
          t.fld Reg.CLK_STAT_holdover_entered = 1 ∧ t.fld Reg.CLK_STAT_ref_lost = 1 ∧
          (s.plla = pllaAcquire → s.clk.hadLock = false → t.dco = clampDco s.clk.frozen)) ∧
        (n ≠ cur → t.plla = s.plla ∧ t.dco = s.dco)) ∧
    let fit : Prop := (n = 1 → ptpOk) ∧ (n = 3 → s.fld (Reg.AES_RX_STAT_lock (s.fld Reg.CLK_REFSEL_aes_rx)) = 1) ∧
      (n = 4 → s.fld Reg.TWN_LINK_aligned = 1)
    (srcValid s n = false → (n = 1 ∨ n = 3 ∨ n = 4) → ¬ fit → exec (.sourceValidAgain src) s = .next s) ∧
    (srcValid s n = false → fit → n = cur → s.plla = pllaHoldover → s.fld Reg.CLK_PLLA_CTL_freeze = 0 →
      ∃ t, exec (.sourceValidAgain src) s = .next t ∧ quiet t ∧ srcValid t n = true ∧ t.plla = pllaAcquire ∧ t.dco = s.dco) ∧
    (s.plla = pllaHoldover → s.fld Reg.CLK_REFSEL_alt_en = 1 → s.fld Reg.CLK_PLLA_CTL_freeze = 0 →
      cur ≠ s.fld Reg.CLK_REFSEL_alt_sel → srcValid s (s.fld Reg.CLK_REFSEL_alt_sel) = true →
      (s.fld Reg.CLK_REFSEL_alt_sel = 0 ∨ 1000 ≤ storeGet 0 s.clk.validMs (s.fld Reg.CLK_REFSEL_alt_sel)) →
      ∃ t, exec .altFallback s = .next t ∧ quiet t ∧ t.plla = pllaAcquire ∧ t.fld Reg.CLK_STAT_fallback = 1 ∧
        t.fld Reg.CLK_STAT_cur_src = s.fld Reg.CLK_REFSEL_alt_sel ∧ t.dco = s.dco) ∧
    (s.fld Reg.CLK_REFSEL_revert = 1 → cur ≠ s.fld Reg.CLK_REFSEL_sel → srcValid s (s.fld Reg.CLK_REFSEL_sel) = true →
      (s.fld Reg.CLK_REFSEL_sel = 0 ∨ 10000 ≤ storeGet 0 s.clk.validMs (s.fld Reg.CLK_REFSEL_sel)) →
      ∃ t, exec .refRevert s = .next t ∧ quiet t ∧ t.fld Reg.CLK_STAT_holdover_entered = 1 ∧
        t.fld Reg.CLK_STAT_cur_src = s.fld Reg.CLK_REFSEL_sel ∧
        t.plla = (if s.fld Reg.CLK_PLLA_CTL_freeze = 0 then pllaAcquire else pllaHoldover)) ∧
    (reaches s Reg.CLK_REFSEL = true → ∃ t, exec (.clkRefselWrite v) s = .next t ∧ quiet t ∧
      (bitsOf v 0 3 < 5 → t.fld Reg.CLK_REFSEL_sel = bitsOf v 0 3) ∧
      (bitsOf v 0 3 < 5 → bitsOf v 0 3 ≠ s.fld Reg.CLK_REFSEL_sel → t.fld Reg.CLK_STAT_holdover_entered = 1 ∧
        t.fld Reg.CLK_STAT_cur_src = bitsOf v 0 3 ∧
        t.plla = (if srcValid t (bitsOf v 0 3) = true ∧ s.fld Reg.CLK_PLLA_CTL_freeze = 0 then pllaAcquire
          else pllaHoldover)))

/-- For every measured phase error, register word and state whose control word lies within ±858,993: PLLA_UPDATE answers a
state whose word lies within the clamp; in FREE and HOLDOVER the word is unchanged; in ACQUIRE with a slew limit it
changes by at most the limit's share of the update and what earlier updates left unused; from LOCKED an error beyond
±50 ns leaves LOCKED for ACQUIRE (the model's choice, log entry 71) and a smaller one does not, where the error is
NET_MEDIA_ERR while PLL-A follows PTP_DCO and the media origin is set (log entry 144), and the measured one otherwise.
PLLA_LOCK in ACQUIRE on a source, once the phase error has stayed within ±50 ns for the time of R24, answers LOCKED,
notes that this source has reached it, and changes nothing else. A CLK_PLLA_CTL write, where the register is reached,
that leaves freeze as it is keeps PLL-A's state and word; one that sets freeze enters HOLDOVER; one that clears it
enters ACQUIRE where the source is valid. Nothing else changes. (Derived from 02_clocks_and_tick.md R23,
02_clocks_and_tick.md R24, 02_clocks_and_tick.md R26, 02_clocks_and_tick.md R28, 02_clocks_and_tick.md R29,
13_network_audio_and_time.md R308.) -/
def Obligations.PllAKeepsItsWordWithinItsLimits : Prop :=
  ∀ (err : Int) (v : Word) (s : State), s.dco.natAbs ≤ 858993 →
    let quiet (as : List Nat) (t : State) := t = { s with regs := t.regs, clk := t.clk, freeCtr := t.freeCtr } ∧ regsKept as s t
    let fz := s.fld Reg.CLK_PLLA_CTL_freeze
    let error : Int := if s.fld Reg.CLK_STAT_cur_src = 1 ∧ s.tickOn = true ∧ s.net.orgSet = true
      then (s.reg Reg.NET_MEDIA_ERR).toInt else err
    (∃ t, exec (.pllaUpdate err) s = .next t ∧ quiet [Reg.CLK_STAT, Reg.CLK_PLLA_DCO] t ∧ t.dco.natAbs ≤ 858993 ∧
      (s.plla = pllaFree ∨ s.plla = pllaHoldover → t.dco = s.dco ∧ t.plla = s.plla) ∧
      (s.plla = pllaAcquire → s.fld Reg.CLK_PLLA_CTL_slew ≠ 0 →
        (t.dco - s.dco).natAbs ≤ (s.clk.slewAcc + slewUnits (s.fld Reg.CLK_PLLA_CTL_slew)) / 10 ^ 10) ∧
      (s.plla = pllaLocked → t.plla = if error.natAbs ≤ 50 then pllaLocked else pllaAcquire)) ∧
    (s.plla = pllaAcquire → s.fld Reg.CLK_STAT_cur_src ≠ 0 →
      lockMs (if s.fld Reg.CLK_PLLA_CTL_acq_fast = 1 then 6 else s.clk.bw) ≤ s.clk.inBandMs →
      ∃ u, exec .pllaLock s = .next { u with clk := { s.clk with hadLock := true } } ∧ u.plla = pllaLocked ∧
        onlyFlds [Reg.CLK_STAT_plla_state] s u) ∧
    (reaches s Reg.CLK_PLLA_CTL = true → ∃ t, exec (.pllaCtlWrite v) s = .next t ∧ quiet [Reg.CLK_STAT, Reg.CLK_PLLA_DCO, Reg.CLK_PLLA_CTL] t ∧
      t.fld Reg.CLK_PLLA_CTL_freeze = bitsOf v 8 1 ∧ t.fld Reg.CLK_PLLA_CTL_acq_fast = bitsOf v 9 1 ∧
      (bitsOf v 0 3 < 7 → t.fld Reg.CLK_PLLA_CTL_bw = bitsOf v 0 3) ∧
      (bitsOf v 4 3 < 5 → t.fld Reg.CLK_PLLA_CTL_slew = bitsOf v 4 3) ∧
      (bitsOf v 8 1 = fz → t.plla = s.plla ∧ t.dco = s.dco ∧ t.clk = s.clk) ∧
      (fz = 0 → bitsOf v 8 1 = 1 → t.plla = pllaHoldover ∧ t.fld Reg.CLK_STAT_holdover_entered = 1) ∧
      (fz = 1 → bitsOf v 8 1 = 0 → srcValid s (s.fld Reg.CLK_STAT_cur_src) = true → t.plla = pllaAcquire ∧ t.dco = s.dco))

/-- For every output, path, word and state in which the registers are reached (R265, R369): CLK_OUT_CONFIG of a divisor
sets div_m1 to the word's low 16 bits, 0 counting as 1; of the control it sets en, inv and the delays; CLK_WCLK_CONFIG
sets en and dly. Each answers a next state in which no other register and none of the outputs in force has changed.
VTUNE_WARN shows the warning, sets vtune_seen with it, and takes no other action. TICK_COUNT_READ by a path answers
the low 32 bits of the tick count to that path and latches the high 32 bits in the path's holding register: the
supervisor's cores share one, PCIe and the local bus have their own and keep theirs. (Derived from
02_clocks_and_tick.md R32, 02_clocks_and_tick.md R34, 02_clocks_and_tick.md R35, 02_clocks_and_tick.md R40,
11_start_and_recovery.md R265, 17_host_and_control_ports.md R369.) -/
def Obligations.ClockOutputSettingsWaitForTheBoundary : Prop :=
  ∀ (n : Fin 8) (v : Word) (near : Bool) (path : Path) (s : State), accessible s path Reg.TICK_COUNT0 →
    reaches s (Reg.CLK_OUT_CTL n) = true → reaches s Reg.CLK_WCLK_CTL = true →
    (∃ t, exec (.clkOutConfig n true v) s = .next t ∧ onlyFlds [Reg.CLK_OUT_DIV_div_m1 n] s t ∧
      t.fld (Reg.CLK_OUT_DIV_div_m1 n) = if bitsOf v 0 16 = 0 then 1 else bitsOf v 0 16) ∧
    (∃ t, exec (.clkOutConfig n false v) s = .next t ∧ onlyRegs [Reg.CLK_OUT_CTL n] s t ∧
      t.fld (Reg.CLK_OUT_CTL_en n) = bitsOf v 0 1 ∧ t.fld (Reg.CLK_OUT_CTL_inv n) = bitsOf v 1 1 ∧
      t.fld (Reg.CLK_OUT_CTL_dly_fine n) = bitsOf v 4 4 ∧ t.fld (Reg.CLK_OUT_CTL_dly_coarse n) = bitsOf v 8 12) ∧
    (∃ t, exec (.clkWclkConfig v) s = .next t ∧ onlyFlds [Reg.CLK_WCLK_CTL_en, Reg.CLK_WCLK_CTL_dly] s t ∧
      t.fld Reg.CLK_WCLK_CTL_en = bitsOf v 0 1 ∧ t.fld Reg.CLK_WCLK_CTL_dly = bitsOf v 16 16) ∧
    (∃ t, exec (.vtuneWarn near) s = .next t ∧ onlyFlds [Reg.CLK_STAT_vtune_warn, Reg.CLK_STAT_vtune_seen] s t ∧
      t.fld Reg.CLK_STAT_vtune_warn = near.toNat ∧ (near = true → t.fld Reg.CLK_STAT_vtune_seen = 1) ∧
      (near = false → t.fld Reg.CLK_STAT_vtune_seen = s.fld Reg.CLK_STAT_vtune_seen)) ∧
    (∃ t, exec (.tickCountRead path) s = .next t ∧ t = { s with tickHold := t.tickHold, readData := t.readData } ∧
      storeGet 0 t.readData (match path with | .sv0 => 0 | .sv1 => 1 | .pcie => 2 | .lb => 3) = BitVec.ofNat 32 s.tick ∧
      ∀ q, storeGet 0 t.tickHold (holdNum q) =
        if q = path ∨ ((q = .sv0 ∨ q = .sv1) ∧ (path = .sv0 ∨ path = .sv1)) then BitVec.ofNat 32 (s.tick / 2 ^ 32)
        else storeGet 0 s.tickHold (holdNum q))

/-- For every fault source and state with no fault in this start and no cause recorded: SELF_DETECTED_FAULT of a cluster,
PLL-B, a watched rail or a sensor answers a state with TWN_STAT.alive 0. In VERIFY, LOAD, RIPENING and RUN the cause
stands in BOOT_CAUSE and the boot record's newest entry; while proving, the failure is counted, the outputs float, and
the device is in WAIT_HOST or COPPICE; otherwise BOOT_STATE stays in a hold with that cause, and the outputs float but
for a cluster fault of a single device. In COLD while proving the failure is counted and COPPICE entered at the limit.
In any other state the outputs float and BOOT_STATE and boot record stay. After a first fault, every further one
leaves BOOT_STATE, boot record, outputs and hold. A lost PLL-B that is the first fault stops the tick. FAULT_HOLD_END
restarts the device from COLD, with the next number that the boot record holds, for cause 11 once sensor 0 reads 100
°C or less and for cause 10 once the supplies are in range; before that it changes nothing. CORE_SUPPLY_LOSS turns
domain SV off and puts the AON LDO in low-power mode where lp_en is set. (The model's choices: the cause shows at
once, log entry 29; the states in which Table 11.2 has no transition, log entry 133.) (Derived from
10_twin_operation.md R243, 11_start_and_recovery.md R268, 11_start_and_recovery.md R270, 02_clocks_and_tick.md R33,
16_power_and_monitoring.md R360.) -/
def Obligations.SelfDetectedFaultsAreRaisedOncePerStart : Prop :=
  ∀ (src : FaultSrc) (s : State),
    let cause : Nat := match src with | .cluster .. => 8 | .pllbUnlock | .xtalLost => 9 | .supply _ => 10 | .thermal _ => 11
    let clus : Bool := match src with | .cluster .. => true | _ => false
    let watched : Prop := match src with | .supply k => railWatched s k = true | _ => True
    let live : Prop := s.boot = bootVerify ∨ s.boot = bootLoad ∨ s.boot = bootRipening ∨ s.boot = bootRun
    (s.faultStart = false → s.nv.pend = none → watched → live →
      ∃ t, exec (.selfDetectedFault src) s = .next t ∧ t.fld Reg.TWN_STAT_alive = 0 ∧
        (∃ e, t.nv.log.head? = some e ∧ e.cause = cause ∧ e.state = s.boot ∧
          e.counted = (s.fld Reg.BOOT_STATE_proving == 1)) ∧ t.fld Reg.BOOT_CAUSE_cause = cause ∧
        (s.fld Reg.BOOT_STATE_proving = 1 → (t.boot = bootWaitHost ∨ t.boot = bootCoppice) ∧
          t.nv.startFails = min 7 (s.nv.startFails + 1) ∧ t.floated = true) ∧
        (s.fld Reg.BOOT_STATE_proving ≠ 1 → t.boot = s.boot ∧ t.hold = some cause ∧ t.nv.startFails = s.nv.startFails ∧
          t.floated = (if clus = true ∧ s.twinMode = false then s.floated else true))) ∧
    (s.faultStart = false → s.nv.pend = none → watched → s.boot = bootCold → s.fld Reg.BOOT_STATE_proving = 1 →
      ∃ t, exec (.selfDetectedFault src) s = .next t ∧ t.fld Reg.TWN_STAT_alive = 0 ∧ t.floated = true ∧
        (∃ e, t.nv.log.head? = some e ∧ e.cause = cause ∧ e.state = bootCold ∧ e.counted = true) ∧
        t.nv.startFails = min 7 (s.nv.startFails + 1) ∧
        t.boot = if s.failLimit ≤ min 7 (s.nv.startFails + 1) then bootCoppice else bootCold) ∧
    (s.faultStart = false → watched → ¬ live → (s.boot = bootCold → s.fld Reg.BOOT_STATE_proving ≠ 1) →
      ∃ t, exec (.selfDetectedFault src) s = .next t ∧ t.fld Reg.TWN_STAT_alive = 0 ∧ t.floated = true ∧ t.boot = s.boot ∧
        t.nv = s.nv ∧ t.hold = s.hold) ∧
    (s.faultStart = true → ∃ t, exec (.selfDetectedFault src) s = .next t ∧ t.boot = s.boot ∧ t.nv = s.nv ∧
      t.floated = s.floated ∧ t.hold = s.hold ∧ t.faultStart = true) ∧
    (∀ xtal, ∃ t, exec (.pllbUnlock xtal) s = .next t ∧ exec (.selfDetectedFault (if xtal then .xtalLost else .pllbUnlock)) s = .next t ∧
      (s.faultStart = false → t.tickOn = false)) ∧
    (∀ c, s.hold = some c → (c = 11 ∧ 800 < tempOf s 0) ∨ (c = 10 ∧ (s.railsOut ≠ [] ∨ s.coreOut = true)) →
      exec .faultHoldEnd s = .next s) ∧
    (∀ c, s.hold = some c → (c = 11 → tempOf s 0 ≤ 800) → (c = 10 → s.railsOut = [] ∧ s.coreOut = false) → ∃ t, exec .faultHoldEnd s = .next t ∧ t.boot = bootCold ∧
      t.hold = none ∧ t.faultStart = false ∧ t.otp = s.otp ∧ t.flash = s.flash ∧ t.keys = s.keys ∧
      t.nv.startNo = s.bootRead.startNo + 1 ∧ t.nv.startFails = s.bootRead.startFails) ∧
    (∃ t, exec .coreSupplyLoss s = .next t ∧ t.fld (Reg.PWR_DOM_CTL_state 1) = 2 ∧
      t.fld Reg.PWR_AON_LDO_lp_active = s.fld Reg.PWR_AON_LDO_lp_en ∧
      t = { s with regs := t.regs, sv := t.sv, coreOut := true, freeCtr := t.freeCtr })

/-- For every state, the boot record being what the newest of its two copies with a good CRC holds (START_FAILS 0, slot A
and no last-known-good slot without one), and a change of the record being what is read next: AON_RESET answers COLD
with the next start number, proving, HOST_WAIT from OTP, cause INTERRUPTED and one more failure where the last start
was left begun, else the recorded cause or POWER_ON, and OTP, flash and keys kept. SUPPLIES_READY in COLD answers
COPPICE where START_FAILS has reached its limit or no owner key is programmed, else VERIFY with the start marked
begun; in another state it notes the supplies in range, ends the LDO's low-power mode and, but for the hold after
THERMAL_CRIT, turns domain SV on, nothing else. (The model's choices: the cause shown is that of the record, log entry
29; OTP, flash and key commands in progress are dropped, log entry 34.) In LOAD, L1 ends when every sensor lies in the
window, L2 with PLL-B's lock and band shown, every LOCK field closed and DRAM in training, L3 with trained DRAM and
placed firmware, L4 with the newest readable generation or settings_none, and L5 with the firmware's ready report;
each adds its number to the phases that have ended, and L1 and L5 change nothing else. (Derived from
11_start_and_recovery.md R261, 11_start_and_recovery.md R262, 11_start_and_recovery.md R263, 11_start_and_recovery.md
R269, 11_start_and_recovery.md R283, 11_start_and_recovery.md Table 11.3.) -/
def Obligations.StartRunsItsPhasesInOrder : Prop :=
  ∀ (strap : BitVec 9) (band : Fin 16) (s : State),
    let load (ps : List Nat) : Prop := s.boot = bootLoad ∧ s.phases = ps
    let nv := s.bootRead
    (∃ t, exec (.aonReset strap) s = .next t ∧ t.boot = bootCold ∧ t.fld Reg.BOOT_STATE_proving = 1 ∧
      t.nv.startNo = nv.startNo + 1 ∧ t.otp = s.otp ∧ t.flash = s.flash ∧ t.keys = s.keys ∧ t.strap = strap ∧
      t.fld Reg.HOST_WAIT_wait = s.otp.hostWait.getD 100 % 2 ^ Reg.HOST_WAIT_wait.w ∧
      (nv.begun = true → t.fld Reg.BOOT_CAUSE_cause = 13 ∧ t.nv.startFails = min 7 (nv.startFails + 1)) ∧
      (nv.begun = false → t.nv.startFails = nv.startFails ∧ (nv.pend = none → t.fld Reg.BOOT_CAUSE_cause = 0) ∧
        ∀ c k d, nv.pend = some (c, k, d) → c < 32 → t.fld Reg.BOOT_CAUSE_cause = c)) ∧
    (∀ n, (s.setNv n).nv = n ∧ (s.setNv n).bootRead = n) ∧
    (s.bootCopy 0 = none → s.bootCopy 1 = none → nv.startFails = 0 ∧ nv.slotActive = 0 ∧ nv.slotLkg = 3) ∧
    (s.boot ≠ bootCold → ∃ t, exec .suppliesReady s = .next t ∧
      t.fld (Reg.PWR_DOM_CTL_state 1) = (if s.hold = some 11 then s.fld (Reg.PWR_DOM_CTL_state 1) else 0) ∧
      t.fld Reg.PWR_AON_LDO_lp_active = 0 ∧
      t = { s with regs := t.regs, sv := t.sv, coreOut := false, railsOut := [], freeCtr := t.freeCtr } ∧
      regsKept [Reg.PWR_AON_LDO, Reg.PWR_DOM_CTL 1, Reg.PWR_RESID 1 0, Reg.PWR_RESID 1 1, Reg.PWR_RESID 1 2] s t) ∧
    (s.boot = bootCold → s.fld Reg.ESP_STAT_state = 4 → s.hold ≠ some 11 → ∃ t, exec .suppliesReady s = .next t ∧ t.otp = s.otp ∧
      t.fld (Reg.PWR_DOM_CTL_state 1) = 0 ∧ t.nv.startFails = s.nv.startFails ∧
      (s.failLimit ≤ s.nv.startFails ∨ s.otp.keyProg = [] → t.boot = bootCoppice) ∧
      (s.nv.startFails < s.failLimit → s.otp.keyProg ≠ [] → t.boot = bootVerify ∧ t.nv.begun = true)) ∧
    (load [] → tjOk s = true → exec .tjWindowReached s = .next { s with phases := [1] }) ∧
    (load [1] → ∃ t, exec (.pllbLock band) s = .next t ∧ t.phases = [1, 2] ∧ t.locked = true ∧
      t.fld Reg.CLK_STAT_pllb_lock = 1 ∧ t.fld Reg.CLK_STAT_pllb_band = band.val ∧
      t.fld Reg.MEM_DRAM_STAT_train = 1 ∧ t.str = s.str ∧ t.delay = s.delay) ∧
    (∀ x y, load [1, 2] → slotFirmware s (s.fld Reg.BOOT_CAUSE_slot) = some (x, y) →
      ∃ t, exec (.dramTrainingDone 0) s = .next t ∧ t = endPhase ((placeImages (loadImage s) x y).setFld Reg.MEM_DRAM_STAT_train 2) 3 ∧
        t.fld Reg.MEM_DRAM_STAT_train = 2) ∧
    (load [1, 2, 3] → newestReadable s = none → s.str.settingsRequired = false →
      ∃ t, exec .settingsApplied s = .next t ∧ t.phases = [1, 2, 3, 4] ∧ t.fld Reg.BOOT_STATE_settings_none = 1 ∧
        t.pstA = s.pstA ∧ t.pstB = s.pstB) ∧
    (∀ n, load [1, 2, 3] → newestReadable s = some n → exec .settingsApplied s = .next (endPhase (applyGen s n) 4)) ∧
    (load [1, 2, 3, 4] → s.fld Reg.SV_STAT_state = 1 → exec .fwReady s = .next { s with phases := [1, 2, 3, 4, 5] })

/-- For every state with no cause recorded (the cause shows in the record at once: the model's choice, log entry 29): the
end of the 600 s in L1, a DRAM channel that fails training, required settings that none is readable for, and firmware
not ready in time each answer a state in which START_FAILS has gone up by one (at most 7), the boot record's newest
entry shows the cause of Table 11.6 as counted, OTP and flash are unchanged, and BOOT_STATE is COPPICE where
START_FAILS has reached its limit, else WAIT_HOST. AON_BROWNOUT in low-power mode answers COLD with cause 12, whatever
cause the start already has, and counts where it is the first (the model's choice, log entry 146). HOST_WAIT_EXPIRY
with a wait other than 0 restarts with SLOT_ACTIVE at SLOT_LKG, or unchanged where that is none. PROVING_TIMEOUT
clears START_FAILS and ends proving. TWIN_LINK_TIMEOUT lets role B start alone. (Derived from 11_start_and_recovery.md
R263, 11_start_and_recovery.md R268, 11_start_and_recovery.md R269, 11_start_and_recovery.md R270,
11_start_and_recovery.md R271, 11_start_and_recovery.md R272.) -/
def Obligations.FailedStartsAreCountedOnce : Prop :=
  ∀ (failed : BitVec 16) (s : State),
    let fails (c : Instr) (cause : Nat) : Prop := ∃ t, exec c s = .next t ∧ t.nv.startFails = min 7 (s.nv.startFails + 1) ∧
      (∃ e, t.nv.log.head? = some e ∧ e.cause = cause ∧ e.counted = true ∧ e.start = s.nv.startNo) ∧
      t.otp = s.otp ∧ t.flash = s.flash ∧
      t.boot = (if s.failLimit ≤ min 7 (s.nv.startFails + 1) then bootCoppice else bootWaitHost)
    (s.nv.pend = none → s.boot = bootLoad → s.phases = [] → tjOk s = false → fails .tjRangeTimeout 4) ∧
    (s.nv.pend = none → s.boot = bootLoad → s.phases = [1, 2] → failed ≠ 0 → fails (.dramTrainingDone failed) 5) ∧
    (s.nv.pend = none → s.boot = bootLoad → s.phases = [1, 2, 3] → newestReadable s = none →
      s.str.settingsRequired = true → fails .settingsApplied 7) ∧
    (s.nv.pend = none → s.boot = bootLoad → s.phases = [1, 2, 3] → fails .firmwareReadyTimeout 6) ∧
    (s.fld Reg.PWR_AON_LDO_lp_active = 1 → ∃ t, exec .aonBrownout s = .next t ∧ t.boot = bootCold ∧
      t.fld Reg.BOOT_CAUSE_cause = 12 ∧ t.otp = s.otp ∧
      t.nv.startFails = (if s.nv.pend = none then min 7 (s.nv.startFails + 1) else s.nv.startFails)) ∧
    (s.fld Reg.PWR_AON_LDO_lp_active = 0 → exec .aonBrownout s = .next s) ∧
    (s.boot = bootWaitHost → s.fld Reg.HOST_WAIT_wait ≠ 0 → ∃ t, exec .hostWaitExpiry s = .next t ∧ t.boot = bootCold ∧
      t.nv.slotActive = (if s.nv.slotLkg < 2 then s.nv.slotLkg else s.nv.slotActive) ∧
      t.nv.startFails = s.nv.startFails ∧ t.nv.startNo = s.nv.startNo + 1 ∧ t.otp = s.otp) ∧
    (s.boot = bootRun → s.fld Reg.BOOT_STATE_proving = 1 → s.hold = none → ∃ t, exec .provingTimeout s = .next t ∧
      t.nv.startFails = 0 ∧ t.nv.begun = false ∧
      t = { s with regs := t.regs, recs := t.recs, nv := { s.nv with startFails := 0, begun := false } } ∧
      t.fld Reg.START_FAILS_count = 0 ∧ t.fld Reg.BOOT_STATE_proving = 0) ∧
    (s.boot = bootLoad → s.phases.contains 5 = true → s.twinMode = true → s.fld Reg.TWN_STAT_role = 1 →
      s.fld Reg.TWN_LINK_aligned = 0 →
      exec .twinLinkTimeout s = .next { s with twin := { s.twin with soleOk := true } })

/-- For every path and state in which the registers are reached (R265, R369): CONFIRM by PCIe or the local bus in RUN
makes the running start's slot SLOT_LKG, clears START_FAILS, ends proving and confirms the valid generations of the
running image; by the supervisor or elsewhere it sets refused alone. SAVE in RUN with none in progress marks the
chosen slot WRITING, and SAVE_COMPLETE with every block read makes it valid, with the CRC of what it holds, with the
words read. ENTER_COPPICE in RUN or WAIT_HOST answers COPPICE with reason 2, or 3 with no owner key. RESTART in
WAIT_HOST, in RUN, or in COPPICE answers COLD with the next start that the boot record holds; in COPPICE for reason 1
START_FAILS becomes one below its limit; an owner with a ripe partner and a link that is up first requests a handover
8 ticks ahead. In the other states SAVE, ENTER_COPPICE and RESTART set refused alone. SLOT_ACTIVE_WRITE acts in RUN,
WAIT_HOST and COPPICE. (Derived from 11_start_and_recovery.md R273, 11_start_and_recovery.md R274,
11_start_and_recovery.md R277, 11_start_and_recovery.md R278, 11_start_and_recovery.md R279, 11_start_and_recovery.md
R281, 11_start_and_recovery.md R265, 17_host_and_control_ports.md R369.) -/
def Obligations.BootControlActsOnlyInItsStates : Prop :=
  ∀ (path : Path) (v : BitVec 2) (s : State), accessible s path Reg.BOOT_CTL → reaches s Reg.SLOT_ACTIVE = true →
    let refused (c : Instr) : Prop := ∃ t, exec c s = .next t ∧ t.fld Reg.BOOT_CTL_refused = 1 ∧ onlyFlds [Reg.BOOT_CTL_refused] s t
    let owner : Prop := path = .pcie ∨ path = .lb
    let handover : Prop := s.owns = true ∧ s.twin.paired = true ∧ s.twin.partnerRipe = ripeRipe
    let up : Prop := s.fld Reg.TWN_STAT_link_down = 0
    let fresh (t : State) (no fails : Nat) : Prop := t.boot = bootCold ∧ t.nv.startNo = no + 1 ∧ t.nv.startFails = fails ∧
      t.otp = s.otp ∧ t.flash = s.flash ∧ t.tick = 0 ∧ t.tickOn = false
    (s.boot = bootRun → owner → ∃ t, exec (.confirm path) s = .next t ∧ t.nv.slotLkg = s.fld Reg.BOOT_CAUSE_slot ∧
      t.fld Reg.SLOT_LKG_slot = s.fld Reg.BOOT_CAUSE_slot ∧ t.nv.startFails = 0 ∧ t.fld Reg.BOOT_STATE_proving = 0 ∧
      (∀ n, n < 2 → (t.gen n).confirmed = ((s.gen n).confirmed || genValid (s.gen n) && (s.gen n).hash == s.imgHash)) ∧
      t = { s with regs := t.regs, nv := t.nv, recs := t.recs, gens := t.gens }) ∧
    (s.boot ≠ bootRun ∨ ¬ owner → refused (.confirm path)) ∧
    (s.boot = bootRun → s.save = none → ∃ t, exec .save s = .next t ∧ t.fld Reg.BOOT_CTL_save_busy = 1 ∧
      (t.gen (saveSlot s)).writing = true ∧ (t.gen (saveSlot s)).valid = false ∧ t.gen (1 - saveSlot s) = s.gen (1 - saveSlot s) ∧
      t = { s with regs := t.regs, gens := t.gens, save := t.save }) ∧
    (s.boot ≠ bootRun ∨ s.save ≠ none → refused .save) ∧
    (∀ w, s.save = some w → w.left = [] → ∃ t, exec .saveComplete s = .next t ∧ genValid (t.gen w.slot) = true ∧
      (t.gen w.slot).writing = false ∧ (t.gen w.slot).body = w.got ∧ t.save = none ∧ t.fld Reg.BOOT_CTL_save_busy = 0 ∧
      t = { s with regs := t.regs, gens := t.gens, save := none }) ∧
    (s.boot = bootRun ∨ s.boot = bootWaitHost → ∃ t, exec .enterCoppice s = .next t ∧ t.boot = bootCoppice ∧
      t.fld Reg.COPPICE_CAUSE_reason = (if s.otp.keyProg = [] then 3 else 2) ∧ t.otp = s.otp) ∧
    (s.boot ≠ bootRun → s.boot ≠ bootWaitHost → refused .enterCoppice) ∧
    (s.boot = bootWaitHost ∨ (s.boot = bootRun ∧ ¬ (handover ∧ up)) ∨
        (s.boot = bootCoppice ∧ s.fld Reg.COPPICE_CAUSE_reason ≠ 1) →
      ∃ t, exec .restart s = .next t ∧ fresh t s.bootRead.startNo s.bootRead.startFails) ∧
    (s.boot = bootCoppice → s.fld Reg.COPPICE_CAUSE_reason = 1 → ∃ t, exec .restart s = .next t ∧ fresh t s.nv.startNo (s.failLimit - 1)) ∧
    (s.boot = bootRun → handover → up → ∃ t, exec .restart s = .next t ∧ t.boot = bootRun ∧
      t.twin.hoPend = some (s.tick + 8) ∧ t.twin.restartAfterHo = true ∧ t.tick = s.tick) ∧
    (s.boot ≠ bootRun → s.boot ≠ bootWaitHost → s.boot ≠ bootCoppice → refused .restart ∧ exec (.slotActiveWrite v) s = .next s) ∧
    (s.boot = bootRun ∨ s.boot = bootWaitHost ∨ s.boot = bootCoppice → v.toNat < 2 → ∃ t, exec (.slotActiveWrite v) s = .next t ∧
      t.nv = { s.nv with slotActive := v.toNat } ∧ t.fld Reg.SLOT_ACTIVE_slot = v.toNat ∧
      t = { s with regs := t.regs, nv := t.nv, recs := t.recs } ∧ regsKept [Reg.SLOT_ACTIVE] s t)

/-- For every path, argument and state in which BOOT_OTP_CTL is reached: an OTP request by PCIe or the local bus in
WAIT_HOST or COPPICE with none in progress that Table 11.8 allows (an empty key slot, a key that is not the last one
left, a larger min_sec, a field not yet programmed) answers a state that holds the request with BOOT_OTP_DATA as it
stands and shows busy, with OTP unchanged; every other request sets refused and changes nothing else. Reading a key
hash writes BOOT_OTP_DATA alone, and shows the programmed hash's bytes. OTP_PROGRAM_DONE then answers the OTP with
that one field programmed, nothing in progress, and busy cleared. (The model's choices: a request while one is in
progress is refused, log entry 38; the data programmed are those at the go, log entry 47.) (Derived from
11_start_and_recovery.md R282, 11_start_and_recovery.md Table 11.8, 11_start_and_recovery.md Table 11.10.) -/
def Obligations.OtpRequestsAreCheckedAndThenProgrammed : Prop :=
  ∀ (path : Path) (arg : Fin 16) (s : State), accessible s path Reg.BOOT_OTP_CTL →
    let may : Prop := (path = .pcie ∨ path = .lb) ∧ (s.boot = bootWaitHost ∨ s.boot = bootCoppice) ∧ s.otpNext = none
    let d0 := (s.reg (Reg.BOOT_OTP_DATA 0)).toNat
    let asks (c : Instr) (op a : Nat) (ok : Prop) : Prop :=
      (may → ok → ∃ t, exec c s = .next t ∧ t.otpNext = some (otpRequest s op a) ∧ t.fld Reg.BOOT_OTP_CTL_busy = 1 ∧
        t = { s with regs := t.regs, otpNext := t.otpNext } ∧ regsKept [Reg.BOOT_OTP_CTL] s t) ∧
      (¬ (may ∧ ok) → ∃ t, exec c s = .next t ∧ t.fld Reg.BOOT_OTP_CTL_refused = 1 ∧ onlyRegs [Reg.BOOT_OTP_CTL] s t)
    let done (q : OtpReq) (o : Otp) : Prop := s.otpNext = some q → ∃ t, exec .otpProgramDone s = .next t ∧ t.otp = o ∧
      t.otpNext = none ∧ t.fld Reg.BOOT_OTP_CTL_busy = 0 ∧ t = { s with regs := t.regs, otp := o, otpNext := none }
    asks (.otpKeyHashProgram path arg) 0 arg (arg.val < 4 ∧ arg.val ∉ s.otp.keyProg) ∧
    asks (.otpRevoke path arg) 1 arg (arg.val < 4 ∧ arg.val ∉ s.otp.revoked ∧ liveKeys s.otp ≠ [arg.val]) ∧
    asks (.otpMinSecRaise path) 2 0 (s.otp.minSec < d0 % 128 ∧ d0 % 128 ≤ 64) ∧
    asks (.otpFailLimit path) 3 0 (s.otp.failLimit = none ∧ 2 ≤ d0 % 8) ∧
    asks (.otpHostWaitDefault path) 4 0 (s.otp.hostWait = none) ∧
    asks (.otpStubEntry path arg) 5 arg (storeFind s.otp.stub arg = none) ∧
    asks (.otpStubConfig path) 6 0 (s.otp.stubCfg = none) ∧
    asks (.otpBootSrc path) 7 0 (s.otp.bootSrc = none) ∧
    (may → arg.val < 4 → ∃ t, exec (.otpKeyHashRead path arg) s = .next t ∧
      t = { s with regs := t.regs, freeCtr := t.freeCtr } ∧
      (arg.val ∈ s.otp.keyProg → ∀ n, n < 8 → t.reg (Reg.BOOT_OTP_DATA n) =
        BitVec.ofNat 32 (leNat (((beBytes 32 (storeGet 0 s.otp.keyHash arg).toNat).drop (4 * n)).take 4)))) ∧
    (∀ q : OtpReq,
      (q.op = 0 → q.arg < 4 → q.arg ∉ s.otp.keyProg →
        done q { s.otp with keyHash := storeSet 0 s.otp.keyHash q.arg q.hash, keyProg := s.otp.keyProg ++ [q.arg] }) ∧
      (q.op = 1 → q.arg < 4 → q.arg ∉ s.otp.revoked → liveKeys s.otp ≠ [q.arg] →
        done q { s.otp with revoked := s.otp.revoked ++ [q.arg] }) ∧
      (q.op = 2 → s.otp.minSec < q.d0 % 128 → q.d0 % 128 ≤ 64 → done q { s.otp with minSec := q.d0 % 128 }) ∧
      (q.op = 3 → s.otp.failLimit = none → 2 ≤ q.d0 % 8 → done q { s.otp with failLimit := some (q.d0 % 8) }) ∧
      (q.op = 4 → s.otp.hostWait = none → done q { s.otp with hostWait := some (q.d0 % 65536) }) ∧
      (q.op = 5 → storeFind s.otp.stub q.arg = none →
        done q { s.otp with stub := storeIns q.arg (BitVec.ofNat 64 (q.d0 + q.d1 * 2 ^ 32)) s.otp.stub }) ∧
      (q.op = 6 → s.otp.stubCfg = none → done q { s.otp with stubCfg := some (q.d0 % 16) }) ∧
      (q.op = 7 → s.otp.bootSrc = none → done q { s.otp with bootSrc := some (q.d0 % 2) }))

/-- For every state: PL_ALIVE_FALL at a serving twin without a fault makes an owner SOLE and unpaired, and arms a twin
that does not own, which is to take ownership at its next boundary, keeps the groups of policy mute floated unless it
is ripe, and sends a takeover notice where the link still shows the partner owning; else the control stream begins
anew (the model's choice, log entry 134). At a faulted or not serving twin it changes partner_alive alone. HO_GO of
the owner, where TWN_CTL is reached, books a handover at TWN_HO_TICK and tells the partner, in the link frame of this
tick where no earlier item waits and it fits, or sets ho_refused; of another twin it does nothing. PLANNED_HANDOVER
when due takes both roles from the owner, which keeps driving the frames that begin before H, and gives them to its
paired partner that has not faulted, which enters RUN from RIPENING; both count the handover; before it is due it does
nothing. TAKEOVER_NOTICE makes an owner give up at its next boundary. LATE_LINK_ALIGN does so in role B alone, which
then is to yield. (Derived from 10_twin_operation.md R244, 10_twin_operation.md R246, 10_twin_operation.md R247,
10_twin_operation.md R251, 11_start_and_recovery.md R267.) -/
def Obligations.OwnershipMovesByTakeoverHandoverOrYield : Prop :=
  ∀ (s : State),
    let quiet (t : State) : Prop := t = { s with regs := t.regs, sv := t.sv, twin := t.twin, ctlOut := t.ctlOut }
    let live : Prop := s.twinMode = true ∧ s.serving = true ∧ s.faultStart = false
    let counted (t : State) : Prop :=
      t.fld Reg.TWN_STAT_handovers = (s.fld Reg.TWN_STAT_handovers + 1) % 2 ^ Reg.TWN_STAT_handovers.w
    (s.fld Reg.TWN_STAT_partner_alive = 1 → live → s.owns = true → ∃ t, exec .plAliveFall s = .next t ∧ quiet t ∧
      t.fld Reg.TWN_STAT_partner_alive = 0 ∧ t.owns = true ∧ t.twin.paired = false ∧ t.ripe = ripeSole ∧ t.twin.ownNext = s.twin.ownNext ∧ t.ctlOut = []) ∧
    (s.fld Reg.TWN_STAT_partner_alive = 1 → live → s.owns = false → ∃ t, exec .plAliveFall s = .next t ∧ quiet t ∧
      t.fld Reg.TWN_STAT_partner_alive = 0 ∧ t.owns = false ∧ t.twin.armed = true ∧ t.twin.ownNext = some true ∧
      t.twin.kept = (if s.ripe = ripeRipe then [] else unripeMuted s) ∧
      t.ctlOut = (if partnerShown s then s.ctlOut ++ [.takeover] else [])) ∧
    (s.fld Reg.TWN_STAT_partner_alive = 1 → ¬ live → ∃ t, exec .plAliveFall s = .next t ∧
      t = { s with regs := t.regs, sv := t.sv } ∧ t.fld Reg.TWN_STAT_partner_alive = 0 ∧ regsKept [Reg.TWN_STAT] s t) ∧
    (reaches s Reg.TWN_CTL = true → s.owns = true → handoverAccepted s (s.reg Reg.TWN_HO_TICK) = true →
      let h := s.tick + aheadOf s (s.reg Reg.TWN_HO_TICK)
      ∃ t, exec .hoGo s = .next t ∧ sendsItems [.handover h] { s with twin := { s.twin with hoPend := some h } } t ∧
        ∀ x, s.twin.sent = some x → x.upTo = s.twin.acked + s.ctlOut.length → Config.ctlBytes (.handover h) ≤ x.room →
          ∃ y, t.twin.sent = some y ∧ y.frame.items = x.frame.items ++ [.handover h]) ∧
    (reaches s Reg.TWN_CTL = true → s.owns = true → handoverAccepted s (s.reg Reg.TWN_HO_TICK) = false → ∃ t, exec .hoGo s = .next t ∧
      t.fld Reg.TWN_STAT_ho_refused = 1 ∧ t = { s with regs := t.regs, sv := t.sv } ∧ regsKept [Reg.TWN_STAT] s t) ∧
    (s.owns = false → exec .hoGo s = .next s) ∧
    (∀ h, s.twin.hoPend = some h → h ≤ s.tick → s.owns = true → ∃ t, exec .plannedHandover s = .next t ∧
      t = { s with regs := t.regs, sv := t.sv, twin := { s.twin with hoPend := none, ownUntil := h }, io := t.io } ∧
      t.owns = false ∧ counted t ∧ regsKept [Reg.TWN_STAT] s t ∧
      t.io = { s.io with tdmDrives := if h = 0 then [] else s.io.tdmDrives }) ∧
    (∀ h, s.twin.hoPend = some h → h ≤ s.tick → s.owns = false → s.twin.paired = true → s.faultStart = false → ∃ t, exec .plannedHandover s = .next t ∧
      t.owns = true ∧ counted t ∧ t.twin.hoPend = none ∧ t.twin.paired = true ∧
      t.boot = (if s.boot = bootRipening then bootRun else s.boot)) ∧
    ((∀ h, s.twin.hoPend = some h → s.tick < h) → exec .plannedHandover s = .next s) ∧
    exec .takeoverNotice s = .next (if s.owns then { s with twin := { s.twin with ownNext := some false } } else s) ∧
    exec .lateLinkAlign s = .next (if s.twinMode = true ∧ s.owns = true ∧ s.twin.partnerOwner = true ∧ s.fld Reg.TWN_STAT_role = 1
      then { s with twin := { s.twin with ownNext := some false, yield := true } } else s)

/-- For every frame and state: LINK_FRAME, with the PLEACH domain on, at a twin that serves or is in LOAD counts one that
fails its CRC and takes nothing of it; one of this twin's own role sets role_clash, and makes an owner give up at its
next boundary and another float its outputs; of another role, the heartbeat shows the partner and clears link_down,
the image verdict is shown, a differing tick count sets tick_mismatch and detaches a paired follower, items that the
partner acknowledges are dropped, and of a frame without a gap the items not taken before are taken in order. Before
the tick runs such a frame also shows the lanes up and aligned, and a twin in LOAD answers it with a heartbeat (the
model's choice, log entry 157). Elsewhere it does nothing. LINK_DOWN after two silent ticks of a living partner sets
link_down and leaves the pair, ownership unchanged, and the control stream begins anew, its items void (the model's
choice, log entry 134); SKEW_ERROR after 16 ticks makes the twin that follows leave. DETACH_NOTICE and FOLLOWER_DETACH
set a follower to leave at its boundary. TWIN_LEAVE, where TWN_CTL is reached, answers DETACHED, and does nothing at
the owner of a paired partner. (Derived from 10_twin_operation.md R232, 10_twin_operation.md R233,
10_twin_operation.md R234, 10_twin_operation.md R235, 10_twin_operation.md R239, 10_twin_operation.md R248,
10_twin_operation.md R236, 11_start_and_recovery.md R265.) -/
def Obligations.LinkSupervisionDetachesOneTwin : Prop :=
  ∀ (f : LinkFrame) (last : Word) (s : State),
    let hears : Prop := s.twinMode = true ∧ s.domOn 13 = true ∧ (s.serving = true ∨ s.boot = bootLoad)
    let left (ctl : List CtlItem) (t : State) : Prop := t.twin.paired = false ∧
      t.ripe = (if s.owns then ripeSole else ripeDetached) ∧ t.owns = s.owns ∧
      t = { s with regs := t.regs, sv := t.sv, twin := t.twin, ctlOut := ctl } ∧ regsKept [Reg.TWN_STAT] s t
    let fresh := if s.twin.rxSeq + 1 < f.seq then [] else f.items.drop (s.twin.rxSeq + 1 - f.seq)
    (hears → f.crcOk = false → exec (.linkFrame f) s = .next (s.satInc Reg.TWN_LINK_crc_err)) ∧
    (hears → f.crcOk = true → f.roleB.toNat = s.fld Reg.TWN_STAT_role → ∃ t, exec (.linkFrame f) s = .next t ∧
      t.fld Reg.TWN_LINK_role_clash = 1 ∧ t.twin.ownNext = (if s.owns then some false else s.twin.ownNext) ∧
      t.twin.rxSeq = s.twin.rxSeq ∧
      t = { s with regs := t.regs, sv := t.sv, twin := t.twin, floated := s.floated || !s.owns } ∧
      regsKept [Reg.TWN_STAT, Reg.TWN_LINK] s t) ∧
    (hears → f.crcOk = true → f.roleB.toNat ≠ s.fld Reg.TWN_STAT_role →
      ∃ u, exec (.linkFrame f) s = .next (twnEvent s (loadAnswer (fresh.foldl linkItem u))) ∧ u.fld Reg.TWN_LINK_role_clash = 0 ∧
        u.fld Reg.TWN_STAT_link_down = 0 ∧ u.twin.silent = 0 ∧ u.twin.partnerBoot = f.boot ∧ u.twin.partnerRipe = f.ripe ∧
        u.twin.partnerOwner = f.owner ∧ u.twin.partnerFault = f.fault ∧ u.owns = s.owns ∧
        u.twin.image = imageVerdict (heartbeat s f) f ∧
        u.fld Reg.TWN_STAT_mismatch = (if u.twin.image = 2 then 1 else 0) ∧
        u.fld Reg.TWN_STAT_mixed = (if u.twin.image = 1 then 1 else 0) ∧
        (s.twin.paired = true → s.tickOn = true → f.tick ≠ BitVec.ofNat 32 s.tick → u.fld Reg.TWN_STAT_tick_mismatch = 1 ∧
          u.twin.paired = s.owns) ∧
        (f.tick = BitVec.ofNat 32 s.tick → u.twin.paired = s.twin.paired) ∧
        u.twin.rxSeq = s.twin.rxSeq + fresh.length ∧ u.ctlOut = s.ctlOut.drop (f.acked - s.twin.acked) ∧
        u = { s with regs := u.regs, twin := u.twin, floated := u.floated, ctlOut := u.ctlOut }) ∧
    (∀ u : State, (u.tickOn = true → loadAnswer u = u) ∧
      (u.tickOn = false → (loadAnswer u).fld Reg.TWN_LINK_lanes_up = 15 ∧ (loadAnswer u).fld Reg.TWN_LINK_aligned = 1 ∧
        (u.twinMode = true → u.boot = bootLoad → u.domOn 13 = true → ∃ x, (loadAnswer u).twin.sent = some x ∧
          x.frame.tick = BitVec.ofNat 32 u.twin.loadFrames ∧ x.frame.boot = Fin.ofNat 8 bootLoad ∧ x.frame.items = [] ∧
          (x.frame.roleB = true ↔ u.fld Reg.TWN_STAT_role = 1)) ∧
        loadAnswer u = { u with regs := (loadAnswer u).regs, twin := (loadAnswer u).twin } ∧ regsKept [Reg.TWN_LINK] u (loadAnswer u))) ∧
    (¬ hears → exec (.linkFrame f) s = .next s) ∧
    (2 ≤ s.twin.silent → s.fld Reg.TWN_STAT_partner_alive = 1 → s.fld Reg.TWN_STAT_link_down = 0 → s.twin.paired = true →
      ∃ t, exec .linkDown s = .next t ∧ t.fld Reg.TWN_STAT_link_down = 1 ∧ left [] t) ∧
    (s.twin.silent < 2 → exec .linkDown s = .next s) ∧
    (16 ≤ s.twin.skewTicks → s.twin.paired = true → tickFollower s = true →
      ∃ t, exec .skewError s = .next t ∧ t.fld Reg.TWN_STAT_skew_err = 1 ∧ left s.ctlOut t) ∧
    (s.twin.skewTicks < 16 → exec .skewError s = .next s) ∧
    exec (.detachNotice last) s = .next (if s.follows then { s with twin := { s.twin with detach := some last.toNat } } else s) ∧
    exec (.followerDetach last) s = .next (if s.follows then { s with twin := { s.twin with detach := some last.toNat } } else s) ∧
    (s.owns = true → s.twin.paired = true → exec .twinLeave s = .next s) ∧
    (reaches s Reg.TWN_CTL = true → s.owns = false ∨ s.twin.paired = false → ∃ t, exec .twinLeave s = .next t ∧ t.twin.paired = false ∧ t.ripe = ripeDetached ∧
      t.twin.hoPend = none ∧ t = { s with regs := t.regs, sv := t.sv, twin := t.twin } ∧ regsKept [Reg.TWN_STAT] s t)

/-- For every state: JOIN_REQUEST with the link up and aligned, the ticks within 20 ns and images known to be equal or
compatible moves a joiner in RIPENING, or a detached twin in RUN without a fault, to JOINING, dropping the groups,
leases and writes it held (log entry 131), and makes an owner in RUN name a joining tick at least 8 ticks away; at a
paired twin it does nothing. COPY_SET_TRANSFER while COPYING, for an engine of the set chosen for this tick that is
not equal yet and with the words of that set, writes them, notes every engine of the set equal and no other, and
changes no register; else it does nothing. BULK_LINE_COPY of a tier-2 line whose writer is equal writes each of the
words at its place and makes the line's age its length. BECOME_RIPE with everything equal answers RIPE, and RUN from
RIPENING; else it does nothing. DIVERGE_MUTE_END ends a group's mute with the current tick after 1,024 matches;
DIV_CLR, where TWN_CTL is reached, ends every mute with the last launched tick and clears the counts. (Derived from
10_twin_operation.md R241, 10_twin_operation.md R252, 10_twin_operation.md R254, 10_twin_operation.md R255,
10_twin_operation.md R256, 10_twin_operation.md R257.) -/
def Obligations.JoinersCopyConvergeAndRipen : Prop :=
  ∀ (j : BitVec 64) (e : EngNo) (ws : List CopyWord) (c : ClNo) (line : Fin 1024) (bulk : List Word) (g : Fin 256) (s : State),
    let able : Prop := s.twinMode = true ∧ s.fld Reg.TWN_STAT_link_down = 0 ∧ s.fld Reg.TWN_LINK_aligned = 1 ∧
      skewHigh s = false ∧ s.twin.image < 2 ∧ s.fld Reg.TWN_LINK_role_clash = 0 ∧ s.twin.paired = false
    (able → s.owns = false → s.boot = bootRipening ∨ (s.boot = bootRun ∧ s.ripe = ripeDetached ∧ s.faultStart = false) →
      ∃ t, exec (.joinRequest j) s = .next t ∧ t.ripe = ripeJoining ∧ regsKept [Reg.TWN_STAT] s t ∧
      t = { s with regs := t.regs, sv := t.sv, groups := [], leases := [], partOps := [], held := [], cluWrites := [],
                   net := { s.net with writes := [] }, twin := { s.twin with taken := [], params := [] } }) ∧
    (able → s.owns = true → s.boot = bootRun → s.twin.joinTick = none → s.tick + 8 ≤ j.toNat →
      ∃ t, exec (.joinRequest j) s = .next t ∧
        sendsItems [.joinTick j.toNat] { s with twin := { s.twin with joinTick := some j.toNat } } t) ∧
    (s.twin.paired = true → exec (.joinRequest j) s = .next s) ∧
    (let es := s.twin.copyNow
     let copies : Prop := s.ripe = ripeCopying ∧ es.contains e.val = true ∧ s.eqSince e = 0 ∧
       ws.map copyName = (readSet s es).map copyName
     (copies → ∃ t, exec (.copySetTransfer e ws) s = .next t ∧ t = markEqual (ws.foldl writeCopyWord s) es ∧
       t.regs = s.regs ∧ t.dram = s.dram ∧ t.delay = s.delay ∧
       ∀ x, t.eqSince x = if x ∈ es then s.tick + 1 else s.eqSince x) ∧
     (¬ copies → exec (.copySetTransfer e ws) s = .next s)) ∧
    (∀ r, s.line c line = some r → r.tier = 2 → s.ripe = ripeCopying ∨ s.ripe = ripeConverging →
      s.eqSince (16 * c.val + r.writer) ≠ 0 → ∃ t, exec (.bulkLineCopy c line bulk) s = .next t ∧ t.regs = s.regs ∧
      t.delay = s.delay ∧ t.lineAge r = r.length ∧ t.twin.bulkDone = s.twin.bulkDone ++ [1024 * c.val + line.val] ∧
      (∀ i w, i < r.length → bulk[i]? = some w → storeGet 0 t.dram (r.base + i) = w) ∧
      ∀ a, a < r.base ∨ r.base + r.length ≤ a → storeGet 0 t.dram a = storeGet 0 s.dram a) ∧
    (ripeNow s = true → ∃ t, exec .becomeRipe s = .next t ∧ t.ripe = ripeRipe ∧
      t.boot = (if s.boot = bootRipening then bootRun else s.boot) ∧ t.twin.copyFrom = none) ∧
    (ripeNow s = false → exec .becomeRipe s = .next s) ∧
    (∃ t, exec (.divergeMuteEnd g) s = .next t ∧ t = { s with twin := { s.twin with muteTo := t.twin.muteTo } } ∧
      ∀ x, storeGet 0 t.twin.muteTo x = if x = g.val ∧ 1024 ≤ storeGet 0 s.twin.matched g ∧ storeGet 0 s.twin.muteFrom g ≠ 0 ∧
        storeGet 0 s.twin.muteTo g = 0 then s.tick + 1 else storeGet 0 s.twin.muteTo x) ∧
    (reaches s Reg.TWN_CTL = true → ∃ t, exec .divClr s = .next t ∧ t = { s with twin := { s.twin with muteTo := t.twin.muteTo, matched := [] } } ∧
      ∀ x, storeGet 0 t.twin.muteTo x = if storeGet 0 s.twin.muteFrom x ≠ 0 ∧ storeGet 0 s.twin.muteTo x = 0
        then s.io.launched + 1 else storeGet 0 s.twin.muteTo x)

/-- For every state in which the tick runs and no restart waits for a handover or a yield, TICK_BOUNDARY answers the
boundary work of a state whose tick count is one more and runs; while the tick does not run it answers the state
itself. TICK_GENERATOR_START after L5 of a single device answers the boundary work of a state at tick 0 in RUN with L6
ended; of role B, without a clash of roles, with an aligned running partner that does not start cold at this very
tick, it begins in RIPENING as a twin that owns nothing; two twins with equal or compatible images that start cold as
a pair begin in RUN, paired and RIPE, role A owning. JOIN_TICK at a joiner in JOINING with a joining tick J answers
the boundary work of a state at tick J, paired and COPYING. In each case the state answered is at that very tick with
the tick running, unless a first instruction fetch of the tick finds an uncorrectable error or an injection of kind 5
is armed (the fault that follows is what the fetch brings). Before L5 has ended, and without a joining tick, the two
do nothing. (Derived from 02_clocks_and_tick.md R39, 02_clocks_and_tick.md R41, 11_start_and_recovery.md R261,
11_start_and_recovery.md R266, 10_twin_operation.md R252.) -/
def Obligations.TickCountStartsAtZeroAndAdvancesByOne : Prop :=
  ∀ (pins : TickPins) (common : Bool) (s : State),
    let works (u t : State) (peers : Bool) (n : Nat) : Prop := u.tick = n ∧ u.tickOn = true ∧
      ((∀ x ∈ pins.fetch, ∀ up, x.2 ≠ .bad up) →
        (∀ q ∈ (boundarySteps u peers).str.progs, (boundarySteps u peers).fld (Reg.ENG_FINJ_arm (q.engine / 16)) = 0 ∨
          (boundarySteps u peers).fld (Reg.ENG_FINJ_kind (q.engine / 16)) ≠ 5) → t.tick = n ∧ t.tickOn = true)
    (s.tickOn = true → s.twin.yield = false → s.twin.restartAfterHo = false → ∃ u peers,
      exec (.tickBoundary pins) s = .next (boundaryWork u pins peers) ∧ works u (boundaryWork u pins peers) peers (s.tick + 1)) ∧
    (s.tickOn = false → exec (.tickBoundary pins) s = .next s) ∧
    (s.boot = bootLoad → s.phases = [1, 2, 3, 4, 5] → s.twinMode = false →
      ∃ u, exec (.tickGeneratorStart pins common) s = .next (twnEvent s (boundaryWork u pins false)) ∧
        works u (twnEvent s (boundaryWork u pins false)) false 0 ∧
        u.boot = bootRun ∧ u.phases = [1, 2, 3, 4, 5, 6] ∧ u.fld Reg.ESP_STAT_state = 0) ∧
    (s.boot = bootLoad → s.phases = [1, 2, 3, 4, 5] → s.twinMode = true → s.fld Reg.TWN_STAT_role = 1 →
      s.fld Reg.TWN_LINK_role_clash = 0 → pins.aligned = true → common = false ∨ 2 ≤ s.twin.image →
      s.twin.partnerBoot = bootRun ∨ s.twin.partnerBoot = bootRipening →
      ∃ u, exec (.tickGeneratorStart pins common) s = .next (twnEvent s (boundaryWork u pins false)) ∧
        works u (twnEvent s (boundaryWork u pins false)) false 0 ∧
        u.boot = bootRipening ∧ u.owns = false ∧ u.ripe = ripeDetached) ∧
    (s.boot = bootLoad → s.phases = [1, 2, 3, 4, 5] → s.twinMode = true → s.fld Reg.TWN_LINK_role_clash = 0 → pins.aligned = true →
      common = true → s.twin.image < 2 → s.fld Reg.TWN_STAT_role < 2 →
      ∃ u, exec (.tickGeneratorStart pins common) s = .next (twnEvent s (boundaryWork u pins false)) ∧
        works u (twnEvent s (boundaryWork u pins false)) false 0 ∧
        u.boot = bootRun ∧ u.twin.paired = true ∧ u.ripe = ripeRipe ∧ u.owns = (s.fld Reg.TWN_STAT_role == 0)) ∧
    (s.boot ≠ bootLoad ∨ 5 ∉ s.phases → exec (.tickGeneratorStart pins common) s = .next s) ∧
    (∀ j, s.twin.joinTick = some j → s.tickOn = true → s.ripe = ripeJoining → s.owns = false →
      ∃ u, exec (.joinTick pins) s = .next (boundaryWork u pins false) ∧ works u (boundaryWork u pins false) false j ∧
        u.twin.paired = true ∧ u.ripe = ripeCopying ∧ u.twin.matched = [] ∧ u.twin.eqFrom = [] ∧ u.owns = false) ∧
    (s.twin.joinTick = none → exec (.joinTick pins) s = .next s)

/-- For every cluster and state with the tick running and this tick's guard not yet run, TICK_GUARD without findings
answers a state in which every engine of the cluster has closed its program window with what was in flight completed,
its out and in windows have swapped buffers, FLG is ORed into ENG_FLAGS, its write-back queue is empty and both scrub
pointers have moved by 64 words; engines of other clusters are as they were; a second guard of the cluster in the tick
does nothing. A corrected finding where this guard looks counts in ce_data, ce_prog or MEM_DLY_ECC.ce and, for an
engine, sets its ENG_FLAGS.ce, and nothing else differs; a corrected window word, and a finding where the guard does
not look, change nothing. The first uncorrectable finding among any is the cluster's fault, with its kind, unit,
cycle, tick and address in ENG_FAULT, unless one is recorded, which then shows more; it drops PL_ALIVE.
CAPTURE_INSTANT of a single device makes the TDM and Quickset samples latched since the last one the tick's input
words and empties the latch; that of a twin takes the network words of the tick before, a follower's from its owner
or, with input_own set, its own, keeps those captured now, and shares them in an owner's frame where they fit.
LAUNCH_INSTANT makes the words the guards formed those that leave in the launch tick that begins, and without a fault
mute changes no register. Neither acts while the tick does not run. JTAG_INSTRUCTION changes only whether test logic
is active. (That the scrubbers move on while queued write-backs are served beside them is the model's choice, log
entry 14.) (Derived from 06_exchange_and_rate_domains.md R134, 06_exchange_and_rate_domains.md R141,
06_exchange_and_rate_domains.md R142, 06_exchange_and_rate_domains.md R143, 03_engine_datapath.md R67,
03_engine_datapath.md R69, 03_engine_datapath.md R71, 09_partitions_and_thorn.md R222, 10_twin_operation.md R237.) -/
def Obligations.GuardsSwapWindowsAndInstantsMoveWords : Prop :=
  ∀ (c : ClNo) (finds : List Finding) (test : Bool) (s : State),
    (s.tickOn = true → swapped s c = false → ∃ t, exec (.tickGuard c []) s = .next t ∧ swapped t c = true ∧ t.tick = s.tick ∧
      (∀ i : Fin 16, let e := 16 * c.val + i.val
        (t.engine e).win = false ∧ (t.engine e).used = [] ∧ (t.engine e).wbq = [] ∧
        (t.engine e).outFront = (s.engine e).drain.outBack ∧ (t.engine e).outBack = (s.engine e).drain.outFront ∧
        (t.engine e).inBack = (s.engine e).drain.inFront ∧ (t.engine e).inFront = (s.engine e).drain.inBack ∧
        (t.engine e).scrubData = ((s.engine e).drain.scrubData + 64) % 65536 ∧
        (t.engine e).scrubProg = ((s.engine e).drain.scrubProg + 64) % 24576 ∧
        t.reg (Reg.ENG_FLAGS c i) = s.reg (Reg.ENG_FLAGS c i) ||| (s.engine e).drain.flg.setWidth 32) ∧
      ∀ e, e / 16 ≠ c.val → t.engine e = s.engine e) ∧
    (s.tickOn = false ∨ swapped s c = true → exec (.tickGuard c finds) s = .next s) ∧
    (∀ f : Finding, s.tickOn = true → swapped s c = false → ∃ u, exec (.tickGuard c []) s = .next u ∧
      ∃ t, exec (.tickGuard c [f]) s = .next t ∧
        let flag (e : Fin 16) := Reg.ENG_FLAGS_ce c e
        let counts (g : Fld) (fs : List Fld) : Prop := t.fld g = min (2 ^ g.w - 1) (u.fld g + 1) ∧ onlyFlds (g :: fs) u t
        (findingSeen s c f = false → t = u) ∧
        (findingSeen s c f = true → f.corrected = true → match f.place with
          | .data e _ => counts (Reg.ENG_ECC_CNT_ce_data c) [flag e] ∧ t.fld (flag e) = 1
          | .prog e _ _ => counts (Reg.ENG_ECC_CNT_ce_prog c) [flag e] ∧ t.fld (flag e) = 1
          | .delay _ _ => counts (Reg.MEM_DLY_ECC_ce c) []
          | .window _ _ => t = u)) ∧
    (∀ (f : Finding) (before after : List Finding), s.tickOn = true → swapped s c = false → findingSeen s c f = true →
      f.corrected = false → (∀ g ∈ before, findingSeen s c g = true → g.corrected = true) →
      ∃ t, exec (.tickGuard c (before ++ f :: after)) s = .next t ∧ swapped t c = true ∧ t.fld Reg.TWN_STAT_alive = (if s.faultStart then
          s.fld Reg.TWN_STAT_alive else 0) ∧ t.fld (Reg.ENG_FAULT_valid c) = 1 ∧
        (s.fld (Reg.ENG_FAULT_valid c) = 1 → t.fld (Reg.ENG_FAULT_more c) = 1 ∧ t.reg (Reg.ENG_FAULT_ADDR c) = s.reg (Reg.ENG_FAULT_ADDR c) ∧
          t.reg (Reg.ENG_FAULT_TICK c) = s.reg (Reg.ENG_FAULT_TICK c)) ∧
        (s.fld (Reg.ENG_FAULT_valid c) = 0 → let w : Nat × Nat × Nat := match f.place with
            | .data e a => (2, e.val, a.toNat)
            | .prog e a up => (3, e.val, 2 * a.val + up.toNat)
            | .delay b a => (4, b.val, a.toNat)
            | .window e a => (5, e.val, a.val)
          t.fld (Reg.ENG_FAULT_kind c) = w.1 ∧ t.fld (Reg.ENG_FAULT_unit c) = w.2.1 ∧ t.fld (Reg.ENG_FAULT_cycle c) = f.cycle.toNat ∧
          (t.reg (Reg.ENG_FAULT_ADDR c)).toNat = w.2.2 ∧ t.reg (Reg.ENG_FAULT_TICK c) = BitVec.ofNat 32 s.tick)) ∧
    (s.tickOn = true → s.twinMode = false → ∃ t, exec .captureInstant s = .next t ∧ t.io.inNow = [] ∧ t.regs = s.regs ∧
      t.eng = s.eng ∧ (∀ port slot j, port < 32 → slot < 16 → j < 4 →
        storeGet 0 t.io.inTick (chanKey 1 port slot j) = storeGet 0 s.io.inNow (chanKey 1 port slot j)) ∧
      ∀ lane j, lane < 16 → j < 16 →
        storeGet 0 t.io.inTick (chanKey 3 0 lane j) = storeGet 0 s.io.inNow (chanKey 3 0 lane j)) ∧
    (s.tickOn = true → s.twinMode = true →
      let follows := usesOwner s
      let net : Store Word := if follows then s.twin.ownerNet.getD s.io.netHeld else s.io.netHeld
      ∃ t, exec .captureInstant s = .next t ∧ t.io.inNow = [] ∧ t.eng = s.eng ∧ t.twin.ownerNet = none ∧
        (∀ k, k < chanKey 1 0 0 0 → storeGet 0 t.io.inTick k = storeGet 0 net k ∧
          storeGet 0 t.io.netHeld k = storeGet 0 (captureNet s).io.inNow k) ∧
        (∀ port slot j, port < 32 → slot < 16 → j < 4 → (∀ e ∈ net, e.1 < chanKey 1 0 0 0) →
          storeGet 0 t.io.inTick (chanKey 1 port slot j) = storeGet 0 s.io.inNow (chanKey 1 port slot j)) ∧
        (follows = true ∧ s.twin.ownerNet = none → t.fld Reg.TWN_STAT_input_own = 1 ∧ onlyFlds [Reg.TWN_STAT_input_own] s { s with regs := t.regs }) ∧
        (¬ (follows = true ∧ s.twin.ownerNet = none) → t.regs = s.regs) ∧
        t.twin.sent = s.twin.sent.map (fun x =>
          if s.owns = true ∧ 48 + 4 * t.io.netHeld.length ≤ frameRoom s - copyBytes x.copy then
            { x with frame := { x.frame with net := t.io.netHeld } } else x)) ∧
    (s.tickOn = true → ∃ t, exec .launchInstant s = .next t ∧ t.io.outNow = s.io.outNext ∧ t.io.muteNow = s.io.muteNext ∧
      t.io.outNext = [] ∧ t.io.muteNext = [] ∧ t.io.launched = s.tick + 1 ∧ t.eng = s.eng ∧
      (s.faultLoad = false → t.regs = s.regs)) ∧
    (s.tickOn = false → exec .captureInstant s = .next s ∧ exec .launchInstant s = .next s) ∧
    exec (.jtagInstruction test) s = .next { s with jtag := test }

/-- For every port, slot and frame of a group with its domain on: TDM_SLOT_INPUT keeps the received word in LOCKED with no
frame-sync error pending and 0 in SEARCH, and changes no other sample; the first word of a slave's frame in LOCKED
with a missing or misplaced frame sync counts in fs_err and gives 0. A group that is OFF takes nothing.
TDM_SLOT_OUTPUT floats a ball that is not LOCKED, floated by the device or without an output route, and in twin mode
one that this twin did not drive as its frame started, and else sends the launch tick's word in the upper bits of its
slot, 0 under the fault mute and in a slot that no record routes, with the frame's last bit 0 in twin mode. TDM_LOCK
after 16 good frames in SEARCH answers LOCKED and starts the counts again; TDM_UNLOCK of a slave after four bad ones
or a lost clock answers SEARCH with unlock_seen, and clk_lost in the second case. (Derived from
12_serial_audio_ports.md R286, 12_serial_audio_ports.md R288, 10_twin_operation.md R249.) -/
def Obligations.TdmGroupsFrameAndCarryTheirSlots : Prop :=
  ∀ (port : Fin 32) (slot : Fin 16) (j : Fin 4) (raw : Word) (fs : Option (BitVec 8)) (first lost : Bool) (g : Fin 4) (s : State),
    let p := port.val / 8
    let st := s.fld (Reg.TDM_GSTAT_state p)
    let bad : Prop := first = true ∧ s.fld (Reg.TDM_GCFG_master p) = 0 ∧ fsGoodAt fs = false
    (s.domOn 14 = true → st = 1 ∨ st = 2 → ∃ t, exec (.tdmSlotInput port slot j raw fs first) s = .next t ∧
      t = { s with regs := t.regs, io := t.io } ∧ regsKept [Reg.TDM_GSTAT p] s t ∧
      (st = 1 ∨ bad → storeGet 0 t.io.inNow (chanKey 1 port slot j) = 0) ∧
      (st = 2 → first = false ∨ s.fld (Reg.TDM_GCFG_master p) ≠ 0 → storeGet 0 t.io.inNow (chanKey 1 port slot j) =
        (if storeGet 0 s.io.fsBad p = 0 then raw else 0)) ∧
      (st = 2 → first = true → fsGoodAt fs = true → s.fld (Reg.TDM_GCFG_master p) = 0 →
        storeGet 0 t.io.inNow (chanKey 1 port slot j) = raw ∧ storeGet 0 t.io.fsBad p = 0) ∧
      (st = 2 → bad → storeGet 0 t.io.fsBad p = storeGet 0 s.io.fsBad p + 1 ∧
        t.fld (Reg.TDM_GSTAT_fs_err p) = min 65535 (s.fld (Reg.TDM_GSTAT_fs_err p) + 1)) ∧
      ∀ k, k ≠ chanKey 1 port slot j → storeGet 0 t.io.inNow k = storeGet 0 s.io.inNow k) ∧
    (st = 0 ∨ s.domOn 14 = false → exec (.tdmSlotInput port slot j raw fs first) s = .next s) ∧
    (∃ t, exec (.tdmSlotOutput port slot j) s = .next t ∧
      let out := storeGet none t.io.tdmOut (16 * port.val + slot.val)
      let routed := s.str.io.any (fun r => r.dir == 1 && r.kind == 1 && r.port == port.val)
      let driven : Bool := if slot = 0 then drives s 1 port 0 s.launchTick else storeGet false s.io.tdmDrives (16 * port.val + slot.val)
      let carried : Word := match outRec s 1 port slot with
        | none => 0
        | some r => (if faultMuted s 1 port slot then 0 else storeGet 0 s.io.outNow (chanKey 1 port slot j)) <<< (32 - r.wordBits)
      (faultMuted s 1 port slot = false →
        t = { s with io := { s.io with tdmOut := t.io.tdmOut, tdmDrives := t.io.tdmDrives } }) ∧
      (slot ≠ 0 → t.io.tdmDrives = s.io.tdmDrives) ∧
      (slot = 0 → ∀ i, i < 16 → storeGet false t.io.tdmDrives (16 * port.val + i) = drives s 1 port i s.launchTick) ∧
      (st ≠ 2 ∨ s.domOn 14 = false ∨ s.floated = true ∨ (s.twinMode = true ∧ driven = false) ∨ routed = false → out = none) ∧
      (st = 2 → s.domOn 14 = true → s.floated = false → s.twinMode = false ∨ driven = true → routed = true →
        out = some (if s.twinMode = true ∧ slot.val + 1 = 2 ^ s.fld (Reg.TDM_GCFG_slots_log2 p) then carried &&& 0xFFFFFFFE
          else carried))) ∧
    (s.fld (Reg.TDM_GSTAT_state g) = 1 → 16 ≤ storeGet 0 s.io.fsGood g → ∃ t, exec (.tdmLock g) s = .next t ∧
      t.fld (Reg.TDM_GSTAT_state g) = 2 ∧ storeGet 0 t.io.fsBad g = 0 ∧ storeGet 0 t.io.fsGood g = 0 ∧ t = { s with regs := t.regs, io := t.io } ∧
      regsKept [Reg.TDM_GSTAT g] s t) ∧
    (storeGet 0 s.io.fsGood g < 16 → exec (.tdmLock g) s = .next s) ∧
    (s.fld (Reg.TDM_GSTAT_state g) = 2 → s.fld (Reg.TDM_GCFG_master g) = 0 → lost = true ∨ 4 ≤ storeGet 0 s.io.fsBad g →
      ∃ t, exec (.tdmUnlock g lost) s = .next t ∧ t.fld (Reg.TDM_GSTAT_state g) = 1 ∧
      t.fld (Reg.TDM_GSTAT_unlock_seen g) = 1 ∧ (lost = true → t.fld (Reg.TDM_GSTAT_clk_lost g) = 1) ∧
      storeGet 0 t.io.fsGood g = 0 ∧ t = { s with regs := t.regs, io := t.io } ∧ regsKept [Reg.TDM_GSTAT g] s t) ∧
    (lost = false → storeGet 0 s.io.fsBad g < 4 → exec (.tdmUnlock g lost) s = .next s)

/-- For every AES3 port and state: a good subframe of a locked receiver becomes its channel's sample by R144 with b = 24;
a parity error keeps the last good sample and counts one, a biphase fault of subframe A counts two and one in bp_err;
either way the sample goes to the ASRC; V sets v_seen and no sample. A good channel-status block of A is shown, with
cs_new where it differs; one that fails sets cs_crc and is not shown. AES_RX_LOCK answers lock with the ASRC
acquiring, ASRC_LOCK with a ratio in range LOCKED with ratio and rate, and ASRC_UNLOCK UNLOCKED with the flag of its
reason. AES_TX_FRAME of a driven transmitter sends the words of the launch tick 0 under the fault mute, with V as the
guard's mutes, Z at every 192nd frame; one that is not driven floats and starts a new block next. (The model's
choices: the CRCC as PRESUMED in log entry 15, the biphase fault counted at subframe A, log entry 74, and UNLOCKED
going to LOCKED directly, log entry 126.) (Derived from 12_serial_audio_ports.md R290, 12_serial_audio_ports.md R291,
12_serial_audio_ports.md R292, 12_serial_audio_ports.md R293, 06_exchange_and_rate_domains.md R148.) -/
def Obligations.AesReceiversRepeatAndTransmittersCount : Prop :=
  ∀ (n : Fin 8) (chB v par bp : Bool) (audio : BitVec 24) (ratio : Half) (rate : Fin 9) (bytes : List Byte) (i : Fin 4) (s : State),
    let key := 2 * n.val + chB.toNat
    let locked : Prop := s.fld (Reg.AES_RX_STAT_lock n) = 1
    let quiet (t : State) : Prop := t = { s with regs := t.regs, io := t.io }
    let again (t : State) (k : Nat) : Prop := (∀ i, storeGet 0 t.io.aesPrev i = storeGet 0 s.io.aesPrev i) ∧
      (storeGet [] t.io.asrcRx k).head? = some (storeGet 0 s.io.aesPrev k)
    let word (c j : Nat) : Word := if faultMuted s 2 n c then 0 else storeGet 0 s.io.outNow (chanKey 2 n c j)
    let muted (c j : Nat) : Bool := s.io.muteNow.contains (chanKey 2 n c j) || faultMuted s 2 n c
    (locked → s.domOn 16 = true →
      (∃ t, exec (.aesRxSubframe n chB audio v false false) s = .next t ∧ quiet t ∧
        storeGet 0 t.io.aesPrev key = BitVec.ofInt 32 (audio.toInt * 16) ∧
        (storeGet [] t.io.asrcRx key).head? = some (BitVec.ofInt 32 (audio.toInt * 16)) ∧
        (∀ k, k ≠ key → storeGet 0 t.io.aesPrev k = storeGet 0 s.io.aesPrev k) ∧
        t.fld (Reg.AES_RX_STAT_v_seen n) = max v.toNat (s.fld (Reg.AES_RX_STAT_v_seen n))) ∧
      (∃ t, exec (.aesRxSubframe n chB audio v true false) s = .next t ∧ quiet t ∧ again t key ∧
        t.fld (Reg.AES_RX_STAT_par_err n) = min 65535 (s.fld (Reg.AES_RX_STAT_par_err n) + 1)) ∧
      (∃ t, exec (.aesRxSubframe n false audio v par true) s = .next t ∧ quiet t ∧ again t (2 * n.val) ∧
        t.fld (Reg.AES_RX_STAT_par_err n) = min 65535 (s.fld (Reg.AES_RX_STAT_par_err n) + 2) ∧
        t.fld (Reg.AES_RX_STAT_bp_err n) = min 255 (s.fld (Reg.AES_RX_STAT_bp_err n) + 1))) ∧
    (locked → s.domOn 16 = true → ∃ t, exec (.aesRxSubframe n true audio v par true) s = .next t ∧ quiet t ∧
      again t (2 * n.val + 1) ∧ t.fld (Reg.AES_RX_STAT_par_err n) = s.fld (Reg.AES_RX_STAT_par_err n)) ∧
    (s.fld (Reg.AES_RX_STAT_lock n) = 0 → exec (.aesRxSubframe n chB audio v par bp) s = .next s) ∧
    (locked → bytes.length = 24 → bytes.getD 23 0 = aesCrcc (bytes.take 23) → ∃ t,
      exec (.aesCsBlock n false bytes) s = .next t ∧ (∀ w, w < 6 → t.reg (Reg.AES_RX_CS n w) = csWord bytes w) ∧
      ((∃ w, w < 6 ∧ s.reg (Reg.AES_RX_CS n w) ≠ csWord bytes w) → t.fld (Reg.AES_RX_STAT_cs_new n) = 1) ∧
      t.fld (Reg.AES_RX_STAT_pro n) = (bytes.getD 0 0).toNat % 2 ∧ t = { s with regs := t.regs }) ∧
    (locked → bytes.length = 24 → bytes.getD 23 0 ≠ aesCrcc (bytes.take 23) → ∃ t,
      exec (.aesCsBlock n chB bytes) s = .next t ∧ t.fld (Reg.AES_RX_STAT_cs_crc n) = 1 ∧
      onlyFlds [Reg.AES_RX_STAT_cs_crc n] s t) ∧
    (cfgByte s 2 n 0 = 1 → s.fld (Reg.AES_RX_STAT_lock n) = 0 → s.domOn 16 = true → ∃ t, exec (.aesRxLock n) s = .next t ∧
      t.fld (Reg.AES_RX_STAT_lock n) = 1 ∧ t.fld (Reg.AES_ASRC_STAT_state n) = 1 ∧
      onlyFlds [Reg.AES_RX_STAT_lock n, Reg.AES_ASRC_STAT_state n] s { t with io := s.io } ∧ storeGet [] t.io.asrcRx (2 * n.val) = [] ∧
      storeGet [] t.io.asrcRx (2 * n.val + 1) = []) ∧
    (locked → s.fld (Reg.AES_ASRC_STAT_state n) ≠ 2 → 2048 ≤ ratio.toNat → ratio.toNat ≤ 32768 → rate ≠ 0 → ∃ t,
      exec (.asrcLock n ratio rate) s = .next t ∧ quiet t ∧ t.fld (Reg.AES_ASRC_STAT_state n) = 2 ∧
      t.fld (Reg.AES_ASRC_STAT_ratio n) = ratio.toNat ∧ t.fld (Reg.AES_ASRC_STAT_rate n) = rate.val ∧
      storeGet 0 t.io.asrcTicks n = 0) ∧
    (locked → ∃ t, exec (.asrcUnlock n true false) s = .next t ∧ quiet t ∧ storeGet 0 t.io.asrcTicks n = 0 ∧
      t.fld (Reg.AES_ASRC_STAT_state n) = 0 ∧ t.fld (Reg.AES_RX_STAT_lock n) = 0 ∧ t.fld (Reg.AES_RX_STAT_lock_lost n) = 1 ∧
      t.fld (Reg.AES_ASRC_STAT_unlock n) = 1) ∧
    (s.fld (Reg.AES_ASRC_STAT_state n) ≠ 0 → ∃ t, exec (.asrcUnlock n false true) s = .next t ∧ quiet t ∧ storeGet 0 t.io.asrcTicks n = 0 ∧
      t.fld (Reg.AES_ASRC_STAT_state n) = 0 ∧ t.fld (Reg.AES_ASRC_STAT_oor n) = 1) ∧
    (txDrives s n = false → ∃ t, exec (.aesTxFrame n i) s = .next t ∧ quiet t ∧ storeGet none t.io.aesOut n = none ∧
      storeGet 0 t.io.aesBlock n = 0 ∧ t.fld (Reg.AES_TX_STAT_drive n) = 0) ∧
    (txDrives s n = true → i.val < txQ s n → ∃ t f, exec (.aesTxFrame n i) s = .next t ∧
      (faultMuted s 2 n 0 = false → faultMuted s 2 n 1 = false → quiet t) ∧
      t.fld (Reg.AES_TX_STAT_drive n) = 1 ∧ storeGet none t.io.aesOut n = some f ∧
      f.wordA = word 0 i ∧ f.wordB = word 1 i ∧ f.vA = muted 0 i ∧ f.vB = muted 1 i ∧
      f.z = (storeGet 0 s.io.aesBlock n % 192 == 0) ∧ storeGet 0 t.io.aesBlock n = storeGet 0 s.io.aesBlock n % 192 + 1) ∧
    (txDrives s n = true → txQ s n ≤ i.val → ∃ t, exec (.aesTxFrame n i) s = .next t ∧ t = { s with regs := t.regs } ∧
      t.fld (Reg.AES_TX_STAT_drive n) = 1)

/-- For every lane, sample, word and state in LOCKED with its domain on, in a frame whose sync holds: a word with a wrong
sync, odd parity or stop bit 1 supplies 0 to the mixer and the window, increments frame_err up to 0xFFFF and sets err;
a good word with valid 0 supplies 0 and sets inval; a good word with valid 1 supplies its 24 bits by R144. A good word
whose seq does not follow the lane's last good one increments seq_err and is used; the first after LOCKED is not
compared. In SEARCH, and after a frame start that failed its check, every word is a framing error. An absent or
misplaced frame sync of a slave counts in fs_err. With the port OFF a word changes nothing. QS_LOCK enters LOCKED
after 16 good frames and returns to SEARCH after four bad ones or a lost clock. A QS_DO lane without a QSMIX record,
and every lane while the domain is off, floats, and every word that a driven, guarded lane sends in LOCKED passes
these checks and carries seq as R296 gives it. (Derived from 12_serial_audio_ports.md R295, 12_serial_audio_ports.md
R296, 06_exchange_and_rate_domains.md R144.) -/
def Obligations.QuicksetInputWordsAreCheckedByWord : Prop :=
  ∀ (lane j : Fin 16) (raw : Word) (fs : Option (BitVec 8)) (first lost : Bool) (s : State),
    let st := s.fld Reg.QS_STAT_state
    let last := storeGet 0 s.io.qsSeq lane
    let took (t : State) (v : Word) : Prop := storeGet 0 t.io.qsIn lane = v ∧
      storeGet 0 t.io.inNow (chanKey 3 0 lane j) = v ∧ t = { s with regs := t.regs, io := t.io } ∧
      (∀ l, l ≠ lane.val → storeGet 0 t.io.qsIn l = storeGet 0 s.io.qsIn l) ∧
      regsKept [Reg.QS_STAT, Reg.QS_LANE_STAT lane] s t
    (s.domOn 15 = true → st = 2 → first = false → storeGet 0 s.io.fsBad 4 = 0 →
      (qsWordGood raw = false → ∃ t, exec (.qsInputWord lane j raw fs first) s = .next t ∧ took t 0 ∧
        t.fld (Reg.QS_LANE_STAT_frame_err lane) = min 65535 (s.fld (Reg.QS_LANE_STAT_frame_err lane) + 1) ∧
        t.fld (Reg.QS_LANE_STAT_err lane) = 1 ∧ t.io.qsSeq = s.io.qsSeq) ∧
      (qsWordGood raw = true → ∃ t, exec (.qsInputWord lane j raw fs first) s = .next t ∧
        took t (if bitsOf raw 4 1 = 1 then BitVec.ofInt 32 (raw.toInt / 256 * 16) else 0) ∧
        t.fld (Reg.QS_LANE_STAT_frame_err lane) = s.fld (Reg.QS_LANE_STAT_frame_err lane) ∧
        (bitsOf raw 4 1 = 0 → t.fld (Reg.QS_LANE_STAT_inval lane) = 1) ∧
        storeGet 0 t.io.qsSeq lane = bitsOf raw 2 2 + 1 ∧
        t.fld (Reg.QS_LANE_STAT_seq_err lane) =
          (if last ≠ 0 ∧ bitsOf raw 2 2 ≠ last % 4 then min 255 (s.fld (Reg.QS_LANE_STAT_seq_err lane) + 1)
           else s.fld (Reg.QS_LANE_STAT_seq_err lane)))) ∧
    (s.domOn 15 = true → st = 1 → ∃ t, exec (.qsInputWord lane j raw fs first) s = .next t ∧ took t 0 ∧
      t.fld (Reg.QS_LANE_STAT_frame_err lane) = min 65535 (s.fld (Reg.QS_LANE_STAT_frame_err lane) + 1)) ∧
    (s.domOn 15 = true → st ≠ 0 → first = false → storeGet 0 s.io.fsBad 4 ≠ 0 → ∃ t, exec (.qsInputWord lane j raw fs first) s = .next t ∧
      took t 0 ∧ t.fld (Reg.QS_LANE_STAT_frame_err lane) = min 65535 (s.fld (Reg.QS_LANE_STAT_frame_err lane) + 1) ∧
      t.fld (Reg.QS_LANE_STAT_err lane) = 1 ∧ t.io.qsSeq = s.io.qsSeq) ∧
    (s.domOn 15 = true → st = 2 → first = true → s.fld Reg.QS_CFG_master = 0 → fsGoodAt fs = true → ∃ t u,
      exec (.qsInputWord lane j raw fs first) s = .next t ∧ storeGet 0 t.io.fsBad 4 = 0 ∧
      exec (.qsInputWord lane j raw fs false) { s with io := { s.io with fsBad := t.io.fsBad } } = .next u ∧
      t = { u with regs := t.regs } ∧ (∀ d, fs = some d → t.fld Reg.QS_STAT_phase_dev = d.toNat) ∧
      regsKept [Reg.QS_STAT] u t) ∧
    (s.domOn 15 = true → st ≠ 0 → first = true → s.fld Reg.QS_CFG_master = 0 → fsGoodAt fs = false → ∃ t,
      exec (.qsInputWord lane j raw fs first) s = .next t ∧ took t 0 ∧
      t.fld Reg.QS_STAT_fs_err = min 65535 (s.fld Reg.QS_STAT_fs_err + 1)) ∧
    (st = 0 ∨ s.domOn 15 = false → exec (.qsInputWord lane j raw fs first) s = .next s) ∧
    (s.fld Reg.QS_CFG_master = 0 → st = 1 → 16 ≤ storeGet 0 s.io.fsGood 4 → ∃ t, exec (.qsLock lost) s = .next t ∧
      t.fld Reg.QS_STAT_state = 2 ∧ t.io.qsSeq = [] ∧ storeGet 0 t.io.fsBad 4 = 0 ∧ onlyFlds [Reg.QS_STAT_state] s { t with io := s.io }) ∧
    (s.fld Reg.QS_CFG_master = 0 → st = 2 → lost = true ∨ 4 ≤ storeGet 0 s.io.fsBad 4 → ∃ t, exec (.qsLock lost) s = .next t ∧
      t.fld Reg.QS_STAT_state = 1 ∧ (lost = true → t.fld Reg.QS_STAT_clk_lost = 1) ∧ storeGet 0 t.io.fsGood 4 = 0 ∧
      t = { s with regs := t.regs, io := t.io }) ∧
    (s.domOn 15 = true → j.val < s.qsPerTick → s.str.qsmix.find? (fun r => r.output == lane.val) = none → ∃ t,
      exec (.qsOutputWord lane j) s = .next t ∧ storeGet none t.io.qsOut lane = none ∧
      (twinGroup s 3 0 lane = none → t = { s with io := { s.io with qsOut := t.io.qsOut } })) ∧
    (s.domOn 15 = false → j.val < s.qsPerTick → ∃ t, exec (.qsOutputWord lane j) s = .next t ∧ storeGet none t.io.qsOut lane = none ∧
      t = { s with io := { s.io with qsOut := t.io.qsOut } } ∧
      ∀ l, l ≠ lane.val → storeGet none t.io.qsOut l = storeGet none s.io.qsOut l) ∧
    (s.qsPerTick ≤ j.val → exec (.qsOutputWord lane j) s = .next s) ∧
    (s.domOn 15 = true → j.val < s.qsPerTick → (s.str.qsmix.find? (fun r => r.output == lane.val)).isSome = true →
      (guardOf s 3 0 lane).isSome = true → st = 2 → drives s 3 0 lane (qsLaunch s j) = true → ∃ t w,
      exec (.qsOutputWord lane j) s = .next t ∧ storeGet none t.io.qsOut lane = some w ∧ qsWordGood w = true ∧
      bitsOf w 2 2 = (s.tick * s.qsPerTick + j.val) % 4 ∧
      ∀ l, l ≠ lane.val → storeGet none t.io.qsOut l = storeGet none s.io.qsOut l)

/-- For every frame and state with domain NET on and the port's link up: a frame with a bad FCS counts in crc_err; one
that is too long, a pause frame or one for this port that fits no class counts in rx_drop; one for another station is
ignored; a PTP message goes to the supervisor with event 3 and its timestamp on a port with ptp_en unless the firmware
restarts, and else without (log entry 140); ARP, ICMP and IGMP go to it with event 4. A datagram for the port's own
address that a session filter matches joins the session engine's queue with its partition, address and port, or counts
in SES_CNT0.rx_drop where 64 KiB are full, and in SES_CNT1.overlap where more filters match; one too long counts in
rx_drop; one that no filter takes and a stream's leg matches counts on that leg. With the link down nothing changes.
NET_LINK_CHANGE shows the link, with link_lost as it goes; NET_FALLBACK after 2 s without a link takes 1000BASE-X, and
then the configured mode again. (Derived from 13_network_audio_and_time.md R298, 13_network_audio_and_time.md R299,
13_network_audio_and_time.md R303, 17_host_and_control_ports.md R376.) -/
def Obligations.NetworkFramesAreClassedOnce : Prop :=
  ∀ (f : EthFrame) (up : Bool) (s : State),
    let p := f.port.val
    let on : Prop := s.domOn 11 = true ∧ s.fld (Reg.NET_PORT_STAT_link p) = 1
    let taken : Prop := f.fcsOk = true ∧ f.len ≤ 1522 ∧ macIsOurs p f.mac = true
    let counts (c : Fld) (u t : State) : Prop := onlyFlds [c] u t ∧ t.fld c = min (2 ^ c.w - 1) (u.fld c + 1)
    let media (d : Udp) : Prop := taken ∧ f.body = .udp d ∧ d.dport ≠ 319 ∧ d.dport ≠ 320 ∧ d.frag = false
    (on → f.fcsOk = false → ∃ t, exec (.ethFrameRx f) s = .next t ∧ counts (Reg.NET_PORT_STAT_crc_err p) s t) ∧
    (on → f.fcsOk = true → 1522 < f.len ∨ f.body = .pause → ∃ t, exec (.ethFrameRx f) s = .next t ∧
      counts (Reg.NET_PORT_STAT_rx_drop p) s t) ∧
    (on → taken → frameClassed s p f.body = false → ∃ t, exec (.ethFrameRx f) s = .next t ∧
      counts (Reg.NET_PORT_STAT_rx_drop p) s t) ∧
    (on → f.fcsOk = true → f.len ≤ 1522 → f.body ≠ .pause → macIsOurs p f.mac = false → exec (.ethFrameRx f) s = .next s) ∧
    (on → taken → f.body = .arp ∨ f.body = .icmp ∨ f.body = .igmp →
      exec (.ethFrameRx f) s = .next (raiseEvent (passSv s ⟨p, none, f.body⟩) 4)) ∧
    (∀ d, on → taken → f.body = .udp d → d.dport = 319 ∨ d.dport = 320 →
      exec (.ethFrameRx f) s = .next (if s.fld Reg.SV_STAT_state ≠ 2 ∧ (s.portCfg 0 p).any (fun r => r.byte 2 / 4 % 2 == 1)
        then raiseEvent (passSv s ⟨p, some (ptpStamp s p f.ns.toNat), f.body⟩) 3 else passSv s ⟨p, none, f.body⟩)) ∧
    (∀ d part more, on → media d → d.dst.toNat = ownIp s p → filterMatch s p d = some (part, more) →
      let u := if more then s.satInc Reg.SES_CNT1_overlap else s
      (d.payload.length ≤ 1472 → audonBytes s + d.payload.length ≤ 65536 →
        exec (.ethFrameRx f) s = .next { u with net := { s.net with
          audonIn := s.net.audonIn ++ [(part, d.src.toNat * 65536 + d.sport.toNat, d.payload)] } }) ∧
      (d.payload.length ≤ 1472 → 65536 < audonBytes s + d.payload.length → ∃ t, exec (.ethFrameRx f) s = .next t ∧
        counts Reg.SES_CNT0_rx_drop u t) ∧
      (1472 < d.payload.length → ∃ t, exec (.ethFrameRx f) s = .next t ∧ counts (Reg.NET_PORT_STAT_rx_drop p) s t)) ∧
    (∀ d key leg ts body, on → media d → (d.dst.toNat = ownIp s p → filterMatch s p d = none) →
      streamMatch s p d = some (key, leg, ts, body) → ∃ t, exec (.ethFrameRx f) s = .next t ∧
      t = { s with net := t.net } ∧ (t.cnt key).leg0 = ((s.cnt key).leg leg).leg0 ∧
      (t.cnt key).leg1 = ((s.cnt key).leg leg).leg1 ∧ ∀ r ∈ s.net.rx, r ∈ t.net.rx) ∧
    (s.domOn 11 = false ∨ s.fld (Reg.NET_PORT_STAT_link p) = 0 → exec (.ethFrameRx f) s = .next s) ∧
    (∃ t, exec (.netLinkChange f.port up) s = .next t ∧ t.fld (Reg.NET_PORT_STAT_link p) = up.toNat ∧
      (up = false → s.fld (Reg.NET_PORT_STAT_link p) = 1 → t.fld (Reg.NET_PORT_STAT_link_lost p) = 1) ∧
      t = { s with regs := t.regs, net := t.net } ∧ regsKept [Reg.NET_PORT_STAT p] s t) ∧
    (∀ r, s.portCfg 0 p = some r → r.byte 2 % 2 = 1 → 2 ≤ r.byte 0 → s.fld (Reg.NET_PORT_STAT_link p) = 0 →
      2000 ≤ storeGet 0 s.net.downMs p → ∃ t, exec (.netFallback f.port) s = .next t ∧
      t.fld (Reg.NET_PORT_STAT_fallback p) = 1 - s.fld (Reg.NET_PORT_STAT_fallback p) ∧
      t.fld (Reg.NET_PORT_STAT_mode p) = (if s.fld (Reg.NET_PORT_STAT_fallback p) = 0 then 1
        else r.byte 0 % 2 ^ (Reg.NET_PORT_STAT_mode p).w) ∧
      storeGet 0 t.net.downMs p = 0 ∧ t = { s with regs := t.regs, net := t.net } ∧ regsKept [Reg.NET_PORT_STAT p] s t)

/-- For every state: with NET_STR_CMD reached, STREAM_ENTRY_READ copies the selected entry into NET_STRW with op 0 and
status 0 and changes nothing else. STREAM_ENTRY_WRITE of NET_STRW shows the status of R301; with status 0 it books the
entry for boundary tick + 2 + pl, shows that boundary in NET_STR_TICK and sends it to a paired follower, and with any
other status it changes NET_STR_CMD alone; no entry in force changes. STREAM_ENTRY_APPLY puts every booked entry that
is due in force, the last booked one of each index, empties the buffers of due receive entries, and keeps the bookings
that are not due. A NET_CTL write, reached, shows the transmit mode and leaves the mode in force. A register that is
not reached takes none of these. For every stream index and state: where domain NET is on, the stream has a due packet
and no other due packet goes before it on one of its ports, STREAM_PACKET_TX sends it once on each leg that the entry
names and this device sends, with the launched samples of its N indexes, removes those samples, and changes neither
entries nor received samples nor anything outside the network part; else it changes nothing. PTP_ADJ_WRITE sets the
rate correction, clamped to ±2,147,484, and marks a servo update; PTP_STEP_WRITE moves the PHC by the signed
nanoseconds, modulo 2^48 seconds; PTP_VALID_WRITE sets the valid bit alone; a PTP register that is not reached takes
nothing. (Derived from 13_network_audio_and_time.md R301, 13_network_audio_and_time.md R302,
13_network_audio_and_time.md R307, 13_network_audio_and_time.md R306, 13_network_audio_and_time.md R310.) -/
def Obligations.StreamEntriesApplyLaterAndDuePacketsGoOut : Prop :=
  (∀ (v : Word) (s : State),
    let tx := s.fld Reg.NET_STR_SEL_tx == 1
    let e := (List.range 8).map (fun w => s.reg (Reg.NET_STRW w))
    let status := entryStatus s tx (selKey s) e
    let b := s.tick + 2 + s.pl
    let cmd := reaches s Reg.NET_STR_CMD = true
    (reaches s Reg.NET_STR_CMD = false → exec .streamEntryRead s = .next s ∧ exec .streamEntryWrite s = .next s) ∧
    (reaches s Reg.NET_CTL = false → exec (.netTxModeWrite v) s = .next s) ∧
    (cmd → ∃ t, exec .streamEntryRead s = .next t ∧ t = { s with regs := t.regs } ∧ t.fld Reg.NET_STR_CMD_status = 0 ∧ t.fld Reg.NET_STR_CMD_op = 0 ∧
      (∀ w, w < 8 → t.reg (Reg.NET_STRW w) = (s.entry (selKey s)).getD w 0) ∧
      regsKept ([Reg.NET_STR_CMD] ++ (List.range 8).map Reg.NET_STRW) s t) ∧
    (cmd → status = 0 → ∃ t, exec .streamEntryWrite s = .next t ∧ t.fld Reg.NET_STR_CMD_status = 0 ∧
      t.fld Reg.NET_STR_CMD_op = 1 ∧ t.reg Reg.NET_STR_TICK = BitVec.ofNat 32 b ∧ t.net = { s.net with writes := s.net.writes ++ [(b, selKey s, e)] } ∧
      sendsItems (if s.leads then [.stream (s.twin.ctlSeq + 1) (selKey s) b e] else [])
        { s with regs := t.regs, net := t.net, twin := { s.twin with ctlSeq := s.twin.ctlSeq + s.leads.toNat } } t ∧ regsKept [Reg.NET_STR_CMD, Reg.NET_STR_TICK] s t) ∧
    (cmd → status ≠ 0 → ∃ t, exec .streamEntryWrite s = .next t ∧ t.fld Reg.NET_STR_CMD_status = status ∧
      t.fld Reg.NET_STR_CMD_op = 1 ∧ onlyFlds [Reg.NET_STR_CMD_status, Reg.NET_STR_CMD_op] s t) ∧
    (∃ t, exec .streamEntryApply s = .next t ∧ t = { s with net := t.net } ∧
      t.net.writes = s.net.writes.filter (fun w => decide (s.tick < w.1)) ∧
      (∀ key, t.entry key = (s.net.writes.filter (fun w => decide (w.1 ≤ s.tick) && w.2.1 == key)).foldl (fun _ w => w.2.2)
        (s.entry key)) ∧
      (∀ w ∈ s.net.writes, w.1 ≤ s.tick → w.2.1 < 512 → ∀ r ∈ t.net.rx, r.entry ≠ w.2.1) ∧
      t.net.sent = s.net.sent ∧ t.net.audonIn = s.net.audonIn) ∧
    (reaches s Reg.NET_CTL = true → ∃ t, exec (.netTxModeWrite v) s = .next t ∧ t.fld Reg.NET_CTL_tx_mode = bitsOf v 0 1 ∧ t.net.txMode = s.net.txMode ∧
      t.net.entries = s.net.entries ∧ (bitsOf v 1 1 = 0 → onlyFlds [Reg.NET_CTL_tx_mode] s t))) ∧
  (∀ (index : Fin 512) (v : Word) (s : State),
    let due := duePackets s
    let chosen := due.find? (fun x => x.1 % 1024 == 512 + index.val && !due.any (fun y => goesBefore y x))
    (s.domOn 11 = false ∨ chosen = none → exec (.streamPacketTx index) s = .next s) ∧
    (∀ key e first last, s.domOn 11 = true → chosen = some (key, e, first, last) →
      let mine (t : Nat × Nat × List Word) : Bool := t.1 == key && decide (first ≤ t.2.1 ∧ t.2.1 < first + strN e)
      let ws := (s.net.tx.filter mine).flatMap (fun t => t.2.2)
      let legs := [0, 1].filter (fun l => strDst e l != 0 && sendsLeg s l (first / strK s e))
      ∃ t, exec (.streamPacketTx index) s = .next t ∧ t = { s with net := t.net } ∧
        t.net.sent = s.net.sent ++ legs.map (fun l => packetOf s e l first ws) ∧
        t.net.tx = s.net.tx.filter (fun x => !mine x) ∧ t.net.entries = s.net.entries ∧ t.net.rx = s.net.rx) ∧
    (reaches s Reg.NET_PTP_ADJ = true → ∃ t, exec (.ptpAdjWrite v) s = .next t ∧
      t.reg Reg.NET_PTP_ADJ = BitVec.ofInt 32 (max (-2147484) (min 2147484 v.toInt)) ∧
      t = { s with regs := t.regs, clk := { s.clk with servoMs := 0 } } ∧ regsKept [Reg.NET_PTP_ADJ] s t) ∧
    (reaches s Reg.NET_PTP_STEP = true → ∃ t, exec (.ptpStepWrite v) s = .next t ∧ (phcNs t : Int) = ((phcNs s : Int) + v.toInt) % (2 ^ 48 * 10 ^ 9) ∧
      t = { s with net := { s.net with sec := t.net.sec, ns := t.net.ns } }) ∧
    (reaches s Reg.NET_PTP_ADJ = false → exec (.ptpAdjWrite v) s = .next s) ∧
    (reaches s Reg.NET_PTP_STEP = false → exec (.ptpStepWrite v) s = .next s) ∧
    (reaches s Reg.NET_PTP_CTL = false → exec (.ptpValidWrite v) s = .next s) ∧
    (reaches s Reg.NET_PTP_CTL = true → ∃ t, exec (.ptpValidWrite v) s = .next t ∧ t.fld Reg.NET_PTP_CTL_valid = bitsOf v 0 1 ∧
      onlyFlds [Reg.NET_PTP_CTL_valid] s t))

/-- For each of the eight operations of Table 17.8, every session number, request number and state: in a session that is
not open it counts in SES_CNT0.auth_fail and changes nothing else; with a nonzero flags byte it is answered with
status 2, and for a COMMIT the index of its first malformed entry or 0xFFFFFFFF, and changes no group, lease,
partition operation or parameter; a follower relays a COMMIT, a lease operation or a RESET, and a READ until it is
RIPE, to the leader and changes nothing else. PING is answered with status 0 and the tick, and CLOSE marks the session
as ending and is answered with status 0; neither changes a group, a lease or a parameter. (Derived from
17_host_and_control_ports.md R379, 17_host_and_control_ports.md R381, 17_host_and_control_ports.md R382,
07_parameters_and_commit.md R185.) -/
def Obligations.SessionRequestsAreRefusedRelayedOrServed : Prop :=
  ∀ (n : Fin 4096) (id : Word) (fl : Byte) (q : AudonReq) (s : State),
    let calm (t : State) : Prop := t.groups = s.groups ∧ t.leases = s.leases ∧ t.partOps = s.partOps ∧ dataKept s t
    (storeFind s.sessions n = none → ∃ t, exec (audonCommand n id fl q) s = .next t ∧ onlyFlds [Reg.SES_CNT0_auth_fail] s t ∧
      t.fld Reg.SES_CNT0_auth_fail =
        min (2 ^ Reg.SES_CNT0_auth_fail.w - 1) (s.fld Reg.SES_CNT0_auth_fail + 1)) ∧
    (∀ e, storeFind s.sessions n = some e →
      (fl ≠ 0 → ∃ t, exec (audonCommand n id fl q) s = .next t ∧ answered s t n e (reqOp q) id.toNat
        { status := 2, arg := match q with
            | .commit _ _ es => (es.findIdx? (fun x => !(decide (x.word.toNat < 64) && decide (x.rsv = 0)))).getD 0xFFFFFFFF
            | _ => 0 } ∧ calm t) ∧
      (fl = 0 → relays s q = true → ∃ t, exec (audonCommand n id fl q) s = .next t ∧
        sendsItems [.relay e.part n e.epoch id.toNat q] s t) ∧
      (∃ t, exec (.ping n id 0) s = .next t ∧ answered s t n e 8 id.toNat { status := 0, tickA := s.tick } ∧ calm t) ∧
      (∃ t f, exec (.close n id 0) s = .next t ∧ answered s t n e 7 id.toNat { status := 0 } ∧ calm t ∧
        storeFind t.sessions n = some f ∧ f.ending = true ∧ f.epoch = e.epoch)) ∧
    (s.follows = true → relays s .reset = true ∧ (∀ g h es, relays s (.commit g h es) = true) ∧
      (∀ d bs, relays s (.acquire d bs) = true) ∧ (∀ h d, relays s (.renew h d) = true) ∧ (∀ h, relays s (.release h) = true) ∧
      ∀ b f r c, relays s (.read b f r c) = (s.ripe != ripeRipe))

/-- For every open session of a device that does not follow, and every COMMIT with flags 0: a group sequence number that
the session's remembered answers hold is answered as before and books nothing. Otherwise a partition whose state
forbids it, an entry outside the windows, a malformed entry, a lease handle that is not held, and a block under
another lease are answered with the status of Table 07.3 and book nothing. A group that passes every check is appended
with all its words, staged from no word, and answered with status 0, this tick, and T = x + 2 + ceil(W/S) + pl; the
session remembers the answer; a device that leads a follower appends the same group, forwards it under the next item
number and withholds that answer instead. With no room it is answered with status 1 and books nothing. In every case
no parameter, flip bit, memory word or engine changes. (Derived from 07_parameters_and_commit.md R161,
07_parameters_and_commit.md R162, 07_parameters_and_commit.md R163, 07_parameters_and_commit.md R164,
07_parameters_and_commit.md R169, 07_parameters_and_commit.md Table 07.3.) -/
def Obligations.CommitsBookTheirFlipOrChangeNothing : Prop :=
  ∀ (n : Fin 4096) (id seq h : Word) (es : List RawEntry) (e : Session) (s : State),
    storeFind s.sessions n = some e → s.follows = false →
    let p := e.part
    let who : SessId := ⟨n, e.epoch, false⟩
    let os := rawOffers s p es
    let ents := os.map Offer.entry
    let promise := s.tick + 2 + groupTicks os.length (s.share p) + s.pl
    let answer (r : Reply) (gs : List Group) : Prop := ∃ t, exec (.commit n id 0 seq h es) s = .next t ∧
      answered s t n e 1 id.toNat r ∧ t.groups = gs ∧ t.leases = s.leases ∧ dataKept s t ∧
      (r.status = 0 → rememberedFor t who seq.toNat = some ⟨who, seq.toNat, r.tickA, r.tickB⟩)
    let books (own : Option (Nat × Nat)) : Prop :=
      (step8 s p ents s.tick = true → s.leads = false → answer { status := 0, tickA := s.tick, tickB := promise }
        (s.groups ++ [newGroup s p who seq.toNat own ents])) ∧
      (step8 s p ents s.tick = true → s.leads = true →
        let item := s.twin.ctlSeq + 1
        ∃ t, exec (.commit n id 0 seq h es) s = .next t ∧
          sendsItems [.group item p who s.tick promise own ents]
            { s with groups := s.groups ++ [newGroup s p who seq.toNat own ents], twin := { s.twin with ctlSeq := item },
                     held := s.held ++ [⟨item, s.tick, .session n 1 id.toNat, { status := 0, tickA := s.tick, tickB := promise },
                       some ⟨who, seq.toNat, s.tick, promise⟩⟩] } t) ∧
      (step8 s p ents s.tick = false → answer { status := 1, tickA := s.tick, tickB := s.retry (step8 s p ents) } s.groups)
    (∀ r, rememberedFor s who seq.toNat = some r → ∃ t, exec (.commit n id 0 seq h es) s = .next t ∧
      answered s t n e 1 id.toNat { status := 0, tickA := r.ta, tickB := r.tick } ∧ t.groups = s.groups ∧ dataKept s t) ∧
    (rememberedFor s who seq.toNat = none →
      (s.boot ≠ bootRun → answer { refuseState s p 0 0 with tickA := s.tick } s.groups) ∧
      (s.boot = bootRun → s.partOp p ≠ none → answer { refuseState s p 1 0 with tickA := s.tick } s.groups) ∧
      (checkState s p = none →
        (∀ i, os.findIdx? (fun o => o.block.isNone) = some i → answer { status := 3, arg := i, tickA := s.tick } s.groups) ∧
        (checkWindows os = none →
          (∀ r, checkForm s p os = some r → answer { r with tickA := s.tick } s.groups) ∧
          (checkForm s p os = none →
            (bitsOf h 15 1 = 1 → heldLease s who h = none → answer { status := 5, tickA := s.tick } s.groups) ∧
            (bitsOf h 15 1 = 0 → (∀ r, checkLeases s none os = some r → answer { r with tickA := s.tick } s.groups) ∧
              (checkLeases s none os = none → books none)) ∧
            ∀ i l, heldLease s who h = some (i, l) → checkLeases s (some i) os = none →
              (l.endTick ≤ promise → answer { refuseState s p 2 l.endTick with tickA := s.tick } s.groups) ∧
              (promise < l.endTick → books (some (i, l.serial)))))))

/-- For every open session of a device that does not follow, in RUN with no reset or graft of its partition pending: READ
of a block in its windows answers the committed words and changes nothing; one with fields out of range answers status
2. LEASE_ACQUIRE of blocks in its windows that no lease holds, with room, grants one lease of exactly those blocks
ending at this tick plus the duration, clears their broken flags and answers its handle, end and the flags that stood;
without room it answers status 1. LEASE_RENEW by the holder moves the end tick; LEASE_RELEASE ends the lease at the
next boundary; without the lease both answer status 5. RESET of its own partition, not 0, books a reset for boundary
tick + 1 + pl and answers that and its completion. Groups stand throughout. A device that leads a follower does the
same, forwards what it granted, renewed, released or booked as the next item, and withholds that answer (R185).
(Derived from 07_parameters_and_commit.md R175, 07_parameters_and_commit.md R179, 07_parameters_and_commit.md R180,
07_parameters_and_commit.md R185, 09_partitions_and_thorn.md R216, 09_partitions_and_thorn.md R219.) -/
def Obligations.ReadsLeasesAndResetsAnswerAsTheirRulesSay : Prop :=
  ∀ (n : Fin 4096) (id h d : Word) (b : Half) (first rsv : Byte) (count : Half) (bs : List Half) (e : Session) (s : State),
    storeFind s.sessions n = some e → s.follows = false → checkState s e.part = none →
    let p := e.part
    let who : SessId := ⟨n, e.epoch, false⟩
    let os : List Offer := bs.map (fun x => ⟨x.toNat, windowBlock s p x.toNat, true, 0, 0⟩)
    let blocks := os.map (fun o => o.block.getD 0)
    let quota := ((s.part p).map (·.leaseQuota)).getD 0
    let answer (c : Instr) (op : Nat) (r : Reply) (kept : State → Prop) : Prop := ∃ t, exec c s = .next t ∧
      answered s t n e op id.toNat r ∧ t.groups = s.groups ∧ kept t ∧ t.pstA = s.pstA ∧ t.pstB = s.pstB ∧ t.delay = s.delay
    let accepts (c : Instr) (op : Nat) (r : Reply) (item : Nat → CtlItem) (kept : State → Prop) : Prop :=
      (s.leads = false → answer c op r kept) ∧
      (s.leads = true → let k := s.twin.ctlSeq + 1
        ∃ t, exec c s = .next t ∧ kept t ∧ t.groups = s.groups ∧ t.pstA = s.pstA ∧ t.pstB = s.pstB ∧ t.delay = s.delay ∧
          t.held = s.held ++ [⟨k, s.tick, .session n op id.toNat, r, none⟩] ∧ t.twin.ctlSeq = k ∧ t.ctlOut = s.ctlOut ++ [item k] ∧
          t.sessions = s.sessions ∧ t.bellOut = s.bellOut ∧ t.udpOut = s.udpOut)
    let same (t : State) : Prop := t.leases = s.leases ∧ t.partOps = s.partOps ∧ t.eng = s.eng
    (∀ blk, windowBlock s p b.toNat = some blk →
      let good : Prop := 1 ≤ count.toNat ∧ count.toNat ≤ 64 ∧ first.toNat + count.toNat ≤ 64 ∧ rsv = 0
      (good → answer (.audonRead n id 0 b first rsv count) 2
        { status := 0, data := (List.range count.toNat).map (fun i => s.current blk (first.toNat + i)) } same) ∧
      (¬ good → answer (.audonRead n id 0 b first rsv count) 2 { status := 2 } same)) ∧
    (windowBlock s p b.toNat = none → answer (.audonRead n id 0 b first rsv count) 2 { status := 3 } same) ∧
    (checkWindows os = none → 1 ≤ bs.length → bs.length ≤ 64 → 1 ≤ d.toNat → d.toNat ≤ 1048575 → quota ≠ 0 →
      checkLeases s none os = none →
      (leaseRoom s p who quota blocks s.tick = true → ∃ i l, storeFind s.leases i = none ∧
        l.part = p ∧ l.who = who ∧ l.blocks = blocks ∧ l.endTick = s.tick + d.toNat ∧ l.relAt = none ∧
        accepts (.leaseAcquire n id 0 d bs) 3 ⟨0, i + 32768 + l.serial * 65536, 0, s.tick + d.toNat,
            [BitVec.ofNat 32 (brokenMask s blocks), BitVec.ofNat 32 (brokenMask s blocks / 2 ^ 32)]⟩ (fun k => .lease k i l)
          (fun t => t.leases = storeIns i l s.leases ∧ (∀ x ∈ blocks, storeGet false t.broken x = false) ∧
            ∀ x, x ∉ blocks → storeGet false t.broken x = storeGet false s.broken x)) ∧
      (leaseRoom s p who quota blocks s.tick = false → answer (.leaseAcquire n id 0 d bs) 3
        { status := 1, tickB := s.retry (leaseRoom s p who quota blocks) } same)) ∧
    (∀ i l, heldLease s who h = some (i, l) →
      (1 ≤ d.toNat → d.toNat ≤ 1048575 → (∀ g ∈ s.groups, g.lease = some (i, l.serial) → g.tick < s.tick + d.toNat) →
        accepts (.leaseRenew n id 0 h d) 4 { status := 0, tickB := s.tick + d.toNat }
          (fun k => .lease k i { l with endTick := s.tick + d.toNat })
          (fun t => t.leases = storeIns i { l with endTick := s.tick + d.toNat } s.leases)) ∧
      accepts (.leaseRelease n id 0 h) 5 { status := 0, tickB := s.tick + 1 } (fun k => .lease k i { l with relAt := some (s.tick + 1) })
        (fun t => t.leases = storeIns i { l with relAt := some (s.tick + 1) } s.leases)) ∧
    (heldLease s who h = none → answer (.leaseRelease n id 0 h) 5 { status := 5 } same) ∧
    (p ≠ 0 → (s.part p).isSome = true → accepts (.audonReset n id 0) 6
      { status := 0, tickA := s.tick + 1 + s.pl, tickB := resetDone s p (s.tick + 1 + s.pl) } (fun k => .partReset k p (s.tick + 1 + s.pl))
      (fun t => t.leases = s.leases ∧ t.partOps = s.partOps ++ [(⟨p, false, s.tick + 1 + s.pl, none, 0⟩ : PartOp)]))

/-- For every state: GROUP_FLIP moves every due group to its echo phase and flips exactly the blocks that due groups name,
so that a block that one due group names shows its other copy, and writes no copy. LEASE_EXPIRY of a lease whose end
tick has come frees the entry, flags its blocks as broken, discards its unflipped groups and sets CMT_STAT.discard if
there was one; a released lease whose boundary has come is freed and its groups stand; before its time nothing
happens. GAIN_CELL_TIMEOUT steps a pending cell whose deadline has come to its target and counts it, and does nothing
else. LEASE_SEL_WRITE, where LEASE_SEL is reached, latches the selected entry's end tick, serial and, for at most 64
blocks, its session, partition and block count into LEASE_TBL, and 0 of a free entry. (Derived from
07_parameters_and_commit.md R155, 07_parameters_and_commit.md R172, 07_parameters_and_commit.md R177,
07_parameters_and_commit.md R179, 07_parameters_and_commit.md R180, 07_parameters_and_commit.md R181,
07_parameters_and_commit.md R183.) -/
def Obligations.FlipsLeasesAndCellsActAtTheirBoundary : Prop :=
  ∀ (i : Fin 16384) (cell : Fin 4096) (v : Word) (s : State),
    (let due (g : Group) : Bool := g.phase == GroupPhase.staged && decide (g.tick ≤ s.tick)
     ∃ t, exec .groupFlip s = .next t ∧ t = { s with regs := t.regs, io := t.io, groups := t.groups } ∧
      t.groups = s.groups.map (fun g => if due g then { g with phase := .echo } else g) ∧
      (∀ b, ((s.groups.filter due).filter (fun g => groupNames g b)).length = 1 →
        t.flip b = 1 - s.flip b ∧ ∀ w, t.current b w = s.pstAt (1 - s.flip b) b w) ∧
      ∀ b, (∀ g ∈ s.groups, due g = true → groupNames g b = false) → t.flip b = s.flip b ∧ ∀ w, t.current b w = s.current b w) ∧
    (∀ l, storeFind s.leases i = some l → l.relAt = none → l.endTick ≤ s.tick → ∃ t, exec (.leaseExpiry i) s = .next t ∧
      t.leases = storeDel s.leases i ∧ (∀ b ∈ l.blocks, storeGet false t.broken b = true) ∧
      (∀ b, b ∉ l.blocks → storeGet false t.broken b = storeGet false s.broken b) ∧
      (∀ g ∈ t.groups, g.lease = some (i.val, l.serial) → g.who = l.who → g.phase ≠ .staged) ∧ t.groups.length = s.groups.length ∧
      ((∃ g ∈ s.groups, g.phase = .staged ∧ g.lease = some (i.val, l.serial) ∧ g.who = l.who) → t.fld Reg.CMT_STAT_discard = 1) ∧
      t = { s with regs := t.regs, groups := t.groups, leases := t.leases, broken := t.broken }) ∧
    (∀ l r, storeFind s.leases i = some l → l.relAt = some r → r ≤ s.tick →
      exec (.leaseExpiry i) s = .next { s with leases := storeDel s.leases i }) ∧
    (∀ l, storeFind s.leases i = some l → s.tick < leaseEnds l → exec (.leaseExpiry i) s = .next s) ∧
    (storeFind s.leases i = none → exec (.leaseExpiry i) s = .next s) ∧
    (let c := s.cell cell
     (c.pending = true → c.crossed = false → c.deadline ≤ s.tick → ∃ t, exec (.gainCellTimeout cell) s = .next t ∧
      t.cell cell = { c with current := c.target, pending := false } ∧ (∀ x, x ≠ cell.val → t.cell x = s.cell x) ∧
      t.fld Reg.CMT_GC_STAT_timeouts = min (2 ^ Reg.CMT_GC_STAT_timeouts.w - 1) (s.fld Reg.CMT_GC_STAT_timeouts + 1) ∧
      t = { s with regs := t.regs, cells := t.cells }) ∧
     (c.pending = false ∨ c.crossed = true ∨ s.tick < c.deadline → exec (.gainCellTimeout cell) s = .next s)) ∧
    (reaches s Reg.LEASE_SEL = false → exec (.leaseSelWrite v) s = .next s) ∧
    (∀ l, reaches s Reg.LEASE_SEL = true → storeFind s.leases (bitsOf v 0 14) = some l → ∃ t, exec (.leaseSelWrite v) s = .next t ∧
      t.reg Reg.LEASE_TBL0 = BitVec.ofNat 32 l.endTick ∧ bitsOf (t.reg Reg.LEASE_TBL1) 0 16 = l.serial % 65536 ∧
      (l.blocks.length ≤ 64 → l.part < 256 → t.fld Reg.LEASE_TBL2_valid = 1 ∧ t.fld Reg.LEASE_TBL2_blocks = l.blocks.length ∧
        t.fld Reg.LEASE_TBL2_session = l.who.num % 4096 ∧ t.fld Reg.LEASE_TBL2_partition = l.part) ∧
      t.fld Reg.LEASE_SEL_index = bitsOf v 0 14 ∧
      onlyRegs [Reg.LEASE_SEL, Reg.LEASE_TBL0, Reg.LEASE_TBL1, Reg.LEASE_TBL2] s t) ∧
    (reaches s Reg.LEASE_SEL = true → storeFind s.leases (bitsOf v 0 14) = none → ∃ t, exec (.leaseSelWrite v) s = .next t ∧ t.reg Reg.LEASE_TBL0 = 0 ∧
      t.reg Reg.LEASE_TBL1 = 0 ∧ t.reg Reg.LEASE_TBL2 = 0 ∧ t.fld Reg.LEASE_SEL_index = bitsOf v 0 14 ∧
      onlyRegs [Reg.LEASE_SEL, Reg.LEASE_TBL0, Reg.LEASE_TBL1, Reg.LEASE_TBL2] s t)

/-- For every word and state: where it is reached, CMT_SUBMIT with go while busy changes nothing, and without go sets
offset and count alone. With go on a follower it shows busy and relays the entries. On a device that does not follow,
a group of partition 0 that passes every check is appended with T = x + 2 + ceil(W/S) + pl; without a follower it is
shown as valid with status 0 and T, and with one it is forwarded, the answer is withheld and busy stays; one without
room shows status 1, busy clear again. FOLLOWER_CONFIRM removes every withheld answer up to its number and keeps the
later ones; a single one to an open session is sent to it. REPLICA_LATE with an answer due sends those of ticks
before, sets replica_late, sends a detach notice and splits the pair at the next boundary; with none due it does
nothing. (Derived from 07_parameters_and_commit.md R159, 07_parameters_and_commit.md R185, 07_parameters_and_commit.md
R186, 10_twin_operation.md R248.) -/
def Obligations.SubmissionsAndRepliesWaitForTheFollower : Prop :=
  ∀ (v seq : Word) (s : State),
    let off := bitsOf v 16 12
    let n := bitsOf v 0 12 + 1
    let es := if off + n ≤ 4096 then submitEntries s off (n - 1) else []
    let os := submitOffers s es
    let ents := os.map Offer.entry
    let promise := s.tick + 2 + groupTicks n (s.share 0) + s.pl
    let go : Prop := reaches s Reg.CMT_SUBMIT = true ∧ bitsOf v 31 1 = 1
    let shown (t : State) (status tick : Nat) : Prop := t.fld Reg.CMT_SUBMIT_busy = 0 ∧ t.fld Reg.CMT_SUBMIT_RES_valid = 1 ∧
      t.fld Reg.CMT_SUBMIT_RES_status = status ∧ t.reg Reg.CMT_SUBMIT_TICK = BitVec.ofNat 32 tick ∧ t.leases = s.leases ∧
      dataKept s t
    let asks : Prop := go ∧ s.fld Reg.CMT_SUBMIT_busy = 0 ∧ s.follows = false ∧ checkState s 0 = none ∧
      off + n ≤ 4096 ∧ checkWindows os = none ∧ checkForm s 0 os = none ∧ checkLeases s none os = none
    (go → s.fld Reg.CMT_SUBMIT_busy = 1 → exec (.cmtSubmit v) s = .next s) ∧
    (reaches s Reg.CMT_SUBMIT = false → exec (.cmtSubmit v) s = .next s) ∧
    (reaches s Reg.CMT_SUBMIT = true → bitsOf v 31 1 = 0 → ∃ t, exec (.cmtSubmit v) s = .next t ∧ t.fld Reg.CMT_SUBMIT_offset = off ∧
      onlyFlds [Reg.CMT_SUBMIT_offset, Reg.CMT_SUBMIT_count_m1] s t) ∧
    (go → s.fld Reg.CMT_SUBMIT_busy = 0 → s.follows = true → ∃ t, exec (.cmtSubmit v) s = .next t ∧
      t.fld Reg.CMT_SUBMIT_busy = 1 ∧ t.fld Reg.CMT_SUBMIT_RES_valid = 0 ∧
      sendsItems [.submit es n] { s with regs := t.regs } t) ∧
    (asks → step8 s 0 ents s.tick = true → ∃ t g, exec (.cmtSubmit v) s = .next t ∧
      (s.leads = false → shown t 0 promise) ∧
      (s.leads = true → let k := s.twin.ctlSeq + 1
        t.fld Reg.CMT_SUBMIT_busy = 1 ∧ t.fld Reg.CMT_SUBMIT_RES_valid = 0 ∧ t.leases = s.leases ∧ dataKept s t ∧ t.twin.ctlSeq = k ∧
        t.ctlOut = s.ctlOut ++ [.group k 0 ⟨4096, 0, false⟩ s.tick promise none ents] ∧
        t.held = s.held ++ [⟨k, s.tick, .submit, { status := 0, tickB := promise }, none⟩]) ∧
      t.groups = s.groups ++ [g] ∧ g.part = 0 ∧ g.ents = ents ∧ g.tick = promise ∧ g.phase = .staged ∧ g.nStaged = 0 ∧
      g.waiting = s.leads) ∧
    (asks → step8 s 0 ents s.tick = false → ∃ t, exec (.cmtSubmit v) s = .next t ∧
      shown t 1 (s.retry (step8 s 0 ents)) ∧ t.groups = s.groups) ∧
    (∃ t, exec (.followerConfirm seq) s = .next t ∧ t.held = s.held.filter (fun h => decide (seq.toNat < h.ctl)) ∧
      t.twin.ctlConfirmed = max s.twin.ctlConfirmed seq.toNat ∧ t.groups.length = s.groups.length ∧ t.leases = s.leases ∧
      dataKept s t ∧
      ∀ h k op id e, s.held.filter (fun x => decide (x.ctl ≤ seq.toNat)) = [h] → h.asker = .session k op id →
        storeFind s.sessions k = some e → h.reply.status < 16 → answered s t k e op id h.reply) ∧
    ((∃ h ∈ s.held, h.ta + 1 ≤ s.tick) → ∃ t, exec .replicaLate s = .next t ∧
      t.held = s.held.filter (fun h => decide (s.tick < h.ta + 1)) ∧ t.fld Reg.CMT_STAT_replica_late = 1 ∧
      t.ctlOut.getLast? = some .detach ∧ t.twin.splitAt = some (s.tick + 1) ∧ t.groups = s.groups ∧ t.leases = s.leases) ∧
    ((∀ h ∈ s.held, s.tick < h.ta + 1) → exec .replicaLate s = .next s)

/-- For every core that issues and whose code at its pc spells the instruction, every register pair, immediate and state:
ADD, ADC, SUB, SBC, AND, OR, XOR, SHL, SHR, SAR, NOT, NEG, ADDI, ADDW, SUBW, ANDW, ORW and XORW write Wd and Z and N
from the result, C and V as Tables 14.4 and 14.5 give them; CMP, TST, CMPW and TSTW write the flags alone; MOV, MOVI,
MOVW, BREV and SWAB write Wd alone; PAR writes Wd and Z; NOP writes nothing. Operands are the registers as they stand
once the results due at this issue are visible; with none in flight, as they stand. Every other register of the core,
its memory, the other core and the rest of the device stay; results in flight to other registers stay in flight; the
pc moves on by the instruction's words, or to the target of the branch whose delay slot this was. Where the code at
the pc spells another instruction, or the core does not issue, the command changes nothing. (The model's choices: a
shift leaves V, and flags that a row does not name stay as visible then, log entry 42; a code that spells another
command does nothing, log entry 43.) (Derived from 14_supervisor_core.md R317, 14_supervisor_core.md Table 14.4,
14_supervisor_core.md Table 14.5, 14_supervisor_core.md R321.) -/
def Obligations.SupervisorAluWritesItsResultAndFlags : Prop :=
  ∀ (c : Fin 2) (d w : Fin 16) (i8 : Byte) (i16 : Half) (s : State),
    let x := (s.core c).age
    let a := x.wAt d
    let b := x.wAt w
    let n := b.toNat % 16
    let k := x.cy.toNat
    let beyond (z : Int) : Bool := decide (z < -32768 ∨ 32767 < z)
    let sum (p q : Half) (k : Nat) : Half × Bool × Bool :=
      (p + q + BitVec.ofNat 16 k, decide (65536 ≤ p.toNat + q.toNat + k), beyond (p.toInt + q.toInt + k))
    let dif (p q : Half) (k : Nat) : Half × Bool × Bool :=
      (p - q - BitVec.ofNat 16 k, decide (q.toNat + k ≤ p.toNat), beyond (p.toInt - q.toInt - k))
    let shf (r : Half) (out : Bool) : Half × Bool × Bool := (r, if n = 0 then x.cy else out, x.v)
    let ends (len : Nat) (t : State) : Prop := onlyCore c s t ∧
      t.core c = { x with w := (t.core c).w, flags := (t.core c).flags, fly := (t.core c).fly, pc := (t.core c).pc, slot := none } ∧
      (t.core c).pc = (match x.slot with | some (some g) => g | _ => x.pc + BitVec.ofNat 24 len)
    let kept (es : List SvEff) (t : State) : Prop :=
      (t.core c).fly = x.fly.filter (fun p => es.all (fun e => !(p.left == 0 && p.eff.same e)))
    let others (t : State) : Prop := ∀ j, j ≠ d.val → (t.core c).wAt j = x.wAt j
    let flagged (t : State) (r : Half × Bool × Bool) : Prop := (t.core c).z = (r.1 == 0) ∧ (t.core c).n = r.1.msb ∧
      (t.core c).cy = r.2.1 ∧ (t.core c).v = r.2.2
    (∀ q ∈ [(Instr.svAdd c d w, 1, sum a b 0), (.svAdc c d w, 1, sum a b k), (.svSub c d w, 1, dif a b 0),
        (.svSbc c d w, 1, dif a b (1 - k)), (.svAnd c d w, 1, (a &&& b, false, false)), (.svOr c d w, 1, (a ||| b, false, false)),
        (.svXor c d w, 1, (a ^^^ b, false, false)), (.svShl c d w, 1, shf (a <<< n) (a.getLsbD (16 - n))),
        (.svShr c d w, 1, shf (a >>> n) (a.getLsbD (n - 1))), (.svSar c d w, 1, shf (a.sshiftRight n) (a.getLsbD (n - 1))),
        (.svNot c d, 1, (~~~a, x.cy, x.v)), (.svNeg c d, 1, dif 0 a 0), (.svAddi c d i8, 1, sum a (i8.signExtend 16) 0),
        (.svAddw c d i16, 2, sum a i16 0), (.svSubw c d i16, 2, dif a i16 0), (.svAndw c d i16, 2, (a &&& i16, false, false)),
        (.svOrw c d i16, 2, (a ||| i16, false, false)), (.svXorw c d i16, 2, (a ^^^ i16, false, false))],
      svSpells s c q.1 = true → ∃ t, exec q.1 s = .next t ∧ ends q.2.1 t ∧ kept [.w d 0, .flags 0] t ∧ others t ∧ (t.core c).wAt d = q.2.2.1 ∧
        flagged t q.2.2) ∧
    (∀ q ∈ [(Instr.svCmp c d w, 1, dif a b 0), (.svTst c d w, 1, (a &&& b, false, false)), (.svCmpw c d i16, 2, dif a i16 0),
        (.svTstw c d i16, 2, (a &&& i16, false, false))],
      svSpells s c q.1 = true → ∃ t, exec q.1 s = .next t ∧ ends q.2.1 t ∧ kept [.flags 0] t ∧ (t.core c).w = x.w ∧ flagged t q.2.2) ∧
    (∀ q ∈ [(Instr.svMov c d w, 1, b), (.svMovi c d i8, 1, i8.signExtend 16), (.svMovw c d i16, 2, i16),
        (.svBrev c d, 1, a.reverse), (.svSwab c d, 1, (a <<< 8) ||| (a >>> 8))],
      svSpells s c q.1 = true → ∃ t, exec q.1 s = .next t ∧ ends q.2.1 t ∧ kept [.w d 0] t ∧ others t ∧ (t.core c).wAt d = q.2.2 ∧
        (t.core c).flags = x.flags) ∧
    (svSpells s c (.svPar c d) = true → ∃ t, exec (.svPar c d) s = .next t ∧ ends 1 t ∧ kept [.w d 0, .flags 0] t ∧ others t ∧
      (t.core c).wAt d = BitVec.ofNat 16 (((List.range 16).filter (fun i => a.getLsbD i)).length % 2) ∧
      (t.core c).z = ((t.core c).wAt d == 0) ∧ (t.core c).n = x.n ∧ (t.core c).cy = x.cy ∧ (t.core c).v = x.v) ∧
    (svSpells s c (.svNop c) = true → ∃ t, exec (.svNop c) s = .next t ∧ ends 1 t ∧ (t.core c).fly = x.fly ∧ (t.core c).w = x.w ∧ (t.core c).flags = x.flags) ∧
    (∀ i ∈ [Instr.svAdd c d w, .svAdc c d w, .svSub c d w, .svSbc c d w, .svAnd c d w, .svOr c d w, .svXor c d w, .svShl c d w,
        .svShr c d w, .svSar c d w, .svNot c d, .svNeg c d, .svAddi c d i8, .svAddw c d i16, .svSubw c d i16, .svAndw c d i16,
        .svOrw c d i16, .svXorw c d i16, .svCmp c d w, .svTst c d w, .svCmpw c d i16, .svTstw c d i16, .svMov c d w,
        .svMovi c d i8, .svMovw c d i16, .svBrev c d, .svSwab c d, .svPar c d, .svNop c],
      svSpells s c i = false → exec i s = .next s) ∧
    ((s.core c).fly = [] → x = s.core c)

/-- For every core that issues, whose code spells the instruction, operands and state: MUL, MULHU and MULHS put bits 15:0
or 31:16 of the product and its Z and N, with C and V clear, in flight at distance 2; MOVB, ADDB, SETBL, SETBH and
SETB write their B register at once, and for address generation at distance 2; BLO and BHI write Wd from a base
register; CRC16, CRC16B, and on an even W CRC32, CRC32B, fold the data bytes into their state, low byte first; MFS
reads FLAGS, CORE_ID, EVT, EVEN and, with nothing in flight, CRCP and CRCM; MTS writes CRCP and CRCM at distance 1,
FLAGS and EVEN at once, clears EVT bits written as 1 and leaves CORE_ID; WAIT waits exactly when no enabled event is
pending; SIG sets event 9 in the other core. An odd CRC32 state stops the core with cause 4, a special register from 7
on with cause 2. An event sets its bit in both cores, XCORE in the one named; a due result becomes visible; an
uncorrectable error of the next fetch stops the core, running firmware or the ROM. (The model's choices: events in
both cores, log entry 16; cause 2 for MFS and MTS, and the fetch's finding as an operand of SV_DELAYED_RESULT, log
entry 44.) (Derived from 14_supervisor_core.md R317, 14_supervisor_core.md R319, 14_supervisor_core.md R320,
14_supervisor_core.md R321, 14_supervisor_core.md R323, 14_supervisor_core.md Table 14.7, 14_supervisor_core.md Table
14.9.) -/
def Obligations.SupervisorMovesProductsAndSpecialRegisters : Prop :=
  ∀ (c : Fin 2) (d w idx : Fin 16) (g h : Fin 8) (a24 : Addr24) (s : State),
    let x := (s.core c).age
    let a := x.wAt d
    let b := x.wAt w
    let bytes (both : Bool) : List Byte := if both then [b.setWidth 8, (b >>> 8).setWidth 8] else [b.setWidth 8]
    let poly : Word := (x.crcpHi.setWidth 32 <<< 16) ||| x.crcpLo.setWidth 32
    let pair (y : SvCore) : Word := ((y.wAt (d + 1)).setWidth 32 <<< 16) ||| (y.wAt d).setWidth 32
    let live : Prop := s.svStop = none
    ((∀ q ∈ [(Instr.svMul c d w, a * b), (.svMulhu c d w, BitVec.ofNat 16 (a.toNat * b.toNat / 65536)),
          (.svMulhs c d w, BitVec.ofInt 16 (a.toInt * b.toInt / 65536))],
        svSpells s c q.1 = true → ∃ t, exec q.1 s = .next t ∧ svMoves c x 1 s t ∧ (t.core c).w = x.w ∧ (t.core c).flags = x.flags ∧
          (t.core c).fly = x.fly ++ [⟨2, false, .w d q.2⟩, ⟨2, false, .flags (svFlags (q.2 == 0) q.2.msb false false)⟩]) ∧
      (∀ q ∈ [(Instr.svMovb c g h, 1, x.bAt h), (.svAddb c g w, 1, x.bAt g + b.signExtend 24),
          (.svSetbl c g w, 1, (x.bAt g &&& 0xFF0000) ||| b.setWidth 24),
          (.svSetbh c g w, 1, (x.bAt g &&& 0x00FFFF) ||| (b.setWidth 24 <<< 16)), (.svSetb c g a24, 2, a24)],
        svSpells s c q.1 = true → ∃ t, exec q.1 s = .next t ∧ svMoves c x q.2.1 s t ∧ (t.core c).bAt g = q.2.2 ∧
          (∀ j, j ≠ g.val → (t.core c).bAt j = x.bAt j) ∧ (t.core c).bAddr = x.bAddr ∧ (t.core c).w = x.w ∧
          (t.core c).flags = x.flags ∧ (t.core c).fly.getLast? = some ⟨2, false, .bAddr g q.2.2⟩) ∧
      (∀ q ∈ [(Instr.svBlo c d h, (x.baseAt h).setWidth 16), (.svBhi c d h, (x.baseAt h >>> 16).setWidth 16),
          (.svCrc16 c d w, (bytes true).foldl (svCrcByte x.crcpLo x.crcm) a),
          (.svCrc16b c d w, (bytes false).foldl (svCrcByte x.crcpLo x.crcm) a)],
        svSpells s c q.1 = true → ∃ t, exec q.1 s = .next t ∧ svMoves c x 1 s t ∧ (t.core c).wAt d = q.2 ∧ (t.core c).b = x.b ∧
          (t.core c).flags = x.flags ∧ ∀ j, j ≠ d.val → (t.core c).wAt j = x.wAt j) ∧
      (∀ q ∈ [(Instr.svCrc32 c d w, true), (.svCrc32b c d w, false)],
        (d.val % 2 = 0 → svSpells s c q.1 = true → ∃ t, exec q.1 s = .next t ∧ svMoves c x 1 s t ∧
          pair (t.core c) = (bytes q.2).foldl (svCrcByte poly x.crcm) (pair x) ∧ (t.core c).flags = x.flags ∧
          ∀ j, j ≠ d.val → j ≠ d.val + 1 → (t.core c).wAt j = x.wAt j) ∧
        (d.val % 2 = 1 → svSpells s c q.1 = true → live → ∃ t, exec q.1 s = .next t ∧ svStops c 4 s t)) ∧
      (∀ q ∈ [(3, x.flags.setWidth 16), (4, BitVec.ofNat 16 c.val), (5, x.evt), (6, x.even)], idx.val = q.1 →
        svSpells s c (.svMfs c d idx) = true → ∃ t, exec (.svMfs c d idx) s = .next t ∧ svMoves c x 1 s t ∧ (t.core c).wAt d = q.2 ∧ (t.core c).flags = x.flags) ∧
      (∀ q ∈ [(0, x.crcpLo), (1, x.crcpHi), (2, BitVec.ofNat 16 x.crcm.toNat)], idx.val = q.1 → x.fly = [] →
        svSpells s c (.svMfs c d idx) = true → ∃ t, exec (.svMfs c d idx) s = .next t ∧ svMoves c x 1 s t ∧
          (t.core c).wAt d = q.2 ∧ (t.core c).flags = x.flags) ∧
      (∀ q ∈ [(0, SvEff.crcpLo b), (1, .crcpHi b), (2, .crcm (b.getLsbD 0))], idx.val = q.1 →
        svSpells s c (.svMts c idx w) = true → ∃ t, exec (.svMts c idx w) s = .next t ∧ svMoves c x 1 s t ∧ (t.core c).fly = x.fly ++ [⟨1, false, q.2⟩] ∧
          (t.core c).w = x.w) ∧
      (∀ q ∈ [(3, b.setWidth 4, x.evt, x.even), (4, x.flags, x.evt, x.even), (5, x.flags, x.evt &&& ~~~b, x.even),
          (6, x.flags, x.evt, b)], idx.val = q.1 →
        svSpells s c (.svMts c idx w) = true → ∃ t, exec (.svMts c idx w) s = .next t ∧ svMoves c x 1 s t ∧ (t.core c).w = x.w ∧ (t.core c).flags = q.2.1 ∧
          (t.core c).evt = q.2.2.1 ∧ (t.core c).even = q.2.2.2) ∧
      (7 ≤ idx.val → live → ∀ i ∈ [Instr.svMfs c d idx, .svMts c idx w], svSpells s c i = true → ∃ t, exec i s = .next t ∧ svStops c 2 s t) ∧
      (x.slot = none → svSpells s c (.svWait c) = true → ∃ t, exec (.svWait c) s = .next t ∧ svMoves c x 1 s t ∧ (t.core c).w = x.w ∧
        (t.core c).waiting = (x.evt &&& x.even == 0)) ∧
      (svSpells s c (.svSig c) = true → ∃ t, exec (.svSig c) s = .next t ∧ t = { s with sv := t.sv } ∧ (t.core c).pc = svNextPc x 1 ∧ (t.core c).w = x.w ∧
        t.core (1 - c.val) = (s.core (1 - c.val)).event 9)) ∧
    (∀ n : Fin 14, ∃ t, exec (.svEvent c n) s = .next t ∧ t = { s with sv := t.sv } ∧
      ∀ k : Fin 2, (t.core k).evt = (s.core k).evt ||| (if n = 9 ∧ k ≠ c then 0 else BitVec.ofNat 16 (2 ^ n.val)) ∧
        (n = 9 → k ≠ c → t.core k = s.core k) ∧ (t.core k).pc = (s.core k).pc ∧
        ((t.core k).evt &&& (s.core k).even ≠ 0 → n ≠ 9 ∨ k = c → (t.core k).waiting = false)) ∧
    (∀ i ∈ [Instr.svMul c d w, .svMulhu c d w, .svMulhs c d w, .svMovb c g h, .svAddb c g w, .svSetbl c g w, .svSetbh c g w,
        .svSetb c g a24, .svBlo c d h, .svBhi c d h, .svCrc16 c d w, .svCrc16b c d w, .svCrc32 c d w, .svCrc32b c d w,
        .svMfs c d idx, .svMts c idx w, .svWait c, .svSig c], svSpells s c i = false → exec i s = .next s) ∧
    (svRuns s c = true → live → (s.core c).fly = [] → ∃ t, exec (.svDelayedResult c .uncorrectable) s = .next t ∧
      (t.core c).on = false ∧ t.svStop.map (fun k => k.2.1) = some 6) ∧
    (∀ p n v, (s.core c).fly = [p] → p.left = 0 → p.eff = .w n v → ∃ t, exec (.svDelayedResult c .clean) s = .next t ∧ onlyCore c s t ∧
      (t.core c).wAt n = v ∧ (t.core c).fly = [] ∧ (t.core c).pc = (s.core c).pc ∧ ∀ j, j ≠ n → (t.core c).wAt j = (s.core c).wAt j)

/-- For every core, whose code spells the access where it is a load or store, operands and state: a load writes what a
read of its address answers at the distance of its place; from own local memory that is the word, at distance 2, with
a corrected error counted; from the mailbox, with nothing in flight, it writes W at once, and from an unlisted address
it gives 0 and sets bad_addr; an uncorrectable load stops the core. A store writes exactly its word of own local
memory or the mailbox, and a protected word is kept and sets wp; one that meets an uncorrectable error keeps the word
and stops the core (of a plain store the model's choice, log entry 161). LDB, of protected words too, and STB take
bits 15:0 from one word and 23:16 from the next; an LDB of the mailbox reaches address generation of the next
instruction. Corrected errors of every word read or merged are counted, an uncorrectable one stops the core. A low-
word window read latches the upper half, a low-word write fills the buffer alone, a high-word write performs the one
32-bit write and clears the buffer. CORE_STOP stops a running core exactly for what it has fetched, and names its
first cause. A code that spells another command changes nothing. (Derived from 14_supervisor_core.md R312,
14_supervisor_core.md R313, 14_supervisor_core.md R314, 14_supervisor_core.md R315, 14_supervisor_core.md R316,
14_supervisor_core.md R321, 14_supervisor_core.md R323.) -/
def Obligations.SupervisorLoadsStoresAndWindowWords : Prop :=
  ∀ (c : Fin 2) (m : SvMem) (ecc ecc2 : Ecc) (g h : Fin 8) (disp v : Half) (r : BitVec 21) (s : State),
    let x := (s.core c).age
    let u := onCore c SvCore.age s
    let ea := (x.baseAt (svmBase m) + svmDisp m).toNat
    let eb := x.baseAt h + disp.signExtend 24
    let word (a : Nat) : Half := storeGet 0 x.mem a
    let live : Prop := s.svStop = none
    let ce (n : Nat) : Nat := min (2 ^ Reg.SV_STAT_ce.w - 1) (s.fld Reg.SV_STAT_ce + n)
    let one (e : Ecc) : Nat := if e = .corrected then 1 else 0
    let reg := svmReg m
    let path : Path := if c = 0 then .sv0 else .sv1
    let win := (s.reg (Reg.SV_CWIN c)).toNat + 4 * r.toNat
    let ends (y : State) : State := onCore c (fun x => x.advance (svmLen m)) y
    (svSpells s c (.svLd c m ecc) = true →
      (ecc = .clean → exec (.svLd c m ecc) s =
        .next (ends (onCore c (fun y => y.put (loadDist c ea) true (.w reg (svRead u c ea).2)) (svRead u c ea).1))) ∧
      (ecc = .clean → ea < 0x80000 → ∃ t, exec (.svLd c m ecc) s = .next t ∧ svMoves c x (svmLen m) s t ∧
        (t.core c).fly = x.fly ++ [⟨2, true, .w reg (word ea)⟩] ∧ (t.core c).w = x.w ∧ (t.core c).mem = x.mem) ∧
      (ecc = .corrected → ea < 0x80000 → ∃ t, exec (.svLd c m ecc) s = .next t ∧
        (t.core c).fly = x.fly ++ [⟨2, true, .w reg (word ea)⟩] ∧
        t.fld Reg.SV_STAT_ce = ce 1 ∧
        t = { s with regs := t.regs, sv := t.sv } ∧ regsKept [Reg.SV_STAT] s t) ∧
      (ecc = .clean → 0x200000 ≤ ea → ea < 0x220000 → x.fly = [] → ∃ t, exec (.svLd c m ecc) s = .next t ∧
        svMoves c x (svmLen m) s t ∧ (t.core c).wAt reg = s.mbxAt (ea - 0x200000) ∧ ∀ j, j ≠ reg → (t.core c).wAt j = x.wAt j) ∧
      (ecc = .clean → 0x600000 ≤ ea → ea < 0x800000 → x.fly = [] →
        ∃ t, exec (.svLd c m ecc) s = .next t ∧ (t.core c).wAt reg = 0 ∧
        t.fld Reg.SV_STAT_bad_addr = 1 ∧ t = { s with regs := t.regs, sv := t.sv } ∧ regsKept [Reg.SV_STAT] s t) ∧
      (ecc = .uncorrectable → ea < 0x80000 → live → ∃ t, exec (.svLd c m ecc) s = .next t ∧ (t.core c).on = false ∧
        t.svStop = some (c.val, 6, decide (ea < x.protWords)) ∧ (t.core c).w = x.w)) ∧
    (svSpells s c (.svSt c m ecc) = true →
      exec (.svSt c m ecc) s = .next (ends (svStore u c ea (x.wAt reg) ecc)) ∧
      (ea < 0x80000 → x.protWords ≤ ea → ecc ≠ .uncorrectable → ∃ t, exec (.svSt c m ecc) s = .next t ∧
        (ecc = .clean → svMoves c x (svmLen m) s t) ∧ t = { s with regs := t.regs, sv := t.sv } ∧ regsKept [Reg.SV_STAT] s t ∧
        t.fld Reg.SV_STAT_ce = ce (one ecc) ∧
        (∀ a, storeGet 0 (t.core c).mem a = if a = ea then x.wAt reg else word a) ∧ (t.core c).w = x.w) ∧
      (ea < 0x80000 → ecc = .uncorrectable → live → ∃ t, exec (.svSt c m ecc) s = .next t ∧ (t.core c).mem = x.mem ∧
        (t.core c).on = false ∧ t.svStop = some (c.val, 6, decide (ea < x.protWords))) ∧
      (ea < x.protWords → ea < 0x80000 → ecc ≠ .uncorrectable → ∃ t, exec (.svSt c m ecc) s = .next t ∧ t.fld Reg.SV_STAT_wp = 1 ∧
        (t.core c).mem = x.mem ∧ t = { s with regs := t.regs, sv := t.sv } ∧ regsKept [Reg.SV_STAT] s t) ∧
      (0x400000 ≤ ea → ea < 0x480000 → ecc = .uncorrectable → live → ∃ t, exec (.svSt c m ecc) s = .next t ∧
        (t.core c).mem = x.mem ∧ (t.core c).on = false ∧ t.svStop = some (c.val, 6, decide (ea - 0x400000 < x.protWords))) ∧
      (0x200000 ≤ ea → ea < 0x220000 → ecc ≠ .uncorrectable → ∃ t, exec (.svSt c m ecc) s = .next t ∧ (t.core c).mem = x.mem ∧
        t = { s with sv := t.sv, mbx := t.mbx } ∧
        ∀ a, t.mbxAt a = if a = ea - 0x200000 then x.wAt reg else s.mbxAt a)) ∧
    (eb.toNat + 1 < 0x80000 →
      (svSpells s c (.svStb c g h disp ecc ecc2) = true → x.protWords ≤ eb.toNat → ecc ≠ .uncorrectable → ecc2 ≠ .uncorrectable →
        ∃ t, exec (.svStb c g h disp ecc ecc2) s = .next t ∧ (ecc = .clean → ecc2 = .clean → svMoves c x 2 s t) ∧
        t = { s with regs := t.regs, sv := t.sv } ∧ regsKept [Reg.SV_STAT] s t ∧ t.fld Reg.SV_STAT_ce = ce (one ecc + one ecc2) ∧
        ∀ a, storeGet 0 (t.core c).mem a = if a = eb.toNat then (x.bAt g).setWidth 16
          else if a = eb.toNat + 1 then (x.bAt g >>> 16).setWidth 16 else word a) ∧
      (svSpells s c (.svLdb c g h disp (ecc, ecc2)) = true →
        (ecc ≠ .uncorrectable → ecc2 ≠ .uncorrectable → ∃ t, ∃ p : Addr24, exec (.svLdb c g h disp (ecc, ecc2)) s = .next t ∧
          (ecc = .clean → ecc2 = .clean → svMoves c x 2 s t) ∧ t = { s with regs := t.regs, sv := t.sv } ∧
          regsKept [Reg.SV_STAT] s t ∧ t.fld Reg.SV_STAT_ce = ce (one ecc + one ecc2) ∧
          (t.core c).fly = x.fly ++ [⟨2, true, .b g p⟩, ⟨2, true, .bAddr g p⟩] ∧
          p.setWidth 16 = word eb.toNat ∧ (p >>> 16).setWidth 8 = (word (eb.toNat + 1)).setWidth 8) ∧
        (ecc = .uncorrectable ∨ ecc2 = .uncorrectable → live → ∃ t, exec (.svLdb c g h disp (ecc, ecc2)) s = .next t ∧
          (t.core c).on = false ∧ (t.core c).fly = x.fly ∧
          t.svStop = some (c.val, 6, decide (eb.toNat + (if ecc = .uncorrectable then 0 else 1) < x.protWords))))) ∧
    (0x200000 ≤ eb.toNat → eb.toNat + 1 < 0x220000 → x.fly = [] → svSpells s c (.svLdb c g h disp (ecc, ecc2)) = true →
      ecc ≠ .uncorrectable → ecc2 ≠ .uncorrectable → ∃ t, ∃ p : Addr24, exec (.svLdb c g h disp (ecc, ecc2)) s = .next t ∧ svMoves c x 2 s t ∧
      (t.core c).bAt g = p ∧ (t.core c).baseAt g = p ∧ p.setWidth 16 = s.mbxAt (eb.toNat - 0x200000) ∧
      (p >>> 16).setWidth 8 = (s.mbxAt (eb.toNat - 0x200000 + 1)).setWidth 8) ∧
    (∀ i ∈ [Instr.svLd c m ecc, .svSt c m ecc, .svLdb c g h disp (ecc, ecc2), .svStb c g h disp ecc ecc2], svSpells s c i = false →
      exec i s = .next s) ∧
    (svRuns s c = true →
      (∃ t, exec (.svCwinLowRead c r) s = .next t ∧ (t.core c).hold = ((ctlRead s path win).2 >>> 16).setWidth 16) ∧
      (∃ t, exec (.svCwinLowWrite c v) s = .next t ∧ onlyCore c s t ∧ t.core c = { s.core c with wbuf := v }) ∧
      (∃ t u, exec (.svCwinHighWrite c r v) s = .next t ∧ onlyCore c s u ∧ u.core c = { s.core c with wbuf := 0 } ∧
        t = ctlWrite u path win ((v.setWidth 32 <<< 16) ||| (s.core c).wbuf.setWidth 32))) ∧
    ∀ (cause : Fin 8),
      (live → svRuns s c = true → svStopDue s c cause = true → ∃ t p, exec (.coreStop c cause) s = .next t ∧
        t = { s with sv := t.sv, svStop := some (c.val, cause.val, p) } ∧ t.core c = { s.core c with on := false } ∧
        (p = true → cause = 6) ∧ ∀ k, k ≠ c.val → t.core k = s.core k) ∧
      (s.svStop ≠ none ∨ svRuns s c = false ∨ svStopDue s c cause = false → exec (.coreStop c cause) s = .next s)

/-- For every core whose code spells the instruction, operands and state: a BRA, CALL, JMPB or BCC that does not stand in
a delay slot leaves the next instruction in its delay slot with the target if it is taken, a BCC exactly on its
condition of Table 14.6: the address of the branch word + 1 + the sign-extended displacement, or for JMPB the base
register (B7 returns). CALL writes B7 with the address of the instruction after the delay slot, which is one or two
words long. The instruction in the slot, of one or two words (here NOP and MOVW; the statements on the other
instructions give their pc), executes first and the pc then goes to the target, or where the branch is not taken to
the next instruction. A branch, CALL, JMPB or WAIT in a delay slot is a reserved code: a core that no earlier stop has
stopped stops with cause 4 (R323). Condition 15 is reserved too and stops it with cause 2 (the cause is the model's
reading, log entry 44). The rest of the device stays. (Derived from 14_supervisor_core.md R318, 14_supervisor_core.md
R323, 14_supervisor_core.md Table 14.6.) -/
def Obligations.BranchesHaveOneDelaySlot : Prop :=
  ∀ (c : Fin 2) (h : Fin 8) (d : Fin 16) (d10 : BitVec 10) (d7 : BitVec 7) (cond : Fin 16) (imm : Half) (s : State),
    let x := (s.core c).age
    let live : Prop := s.svStop = none
    let slotted (t : State) (go : Option Addr24) : Prop := onlyCore c s t ∧ (t.core c).pc = x.pc + 1 ∧ (t.core c).slot = some go ∧
      (t.core c).w = x.w ∧ (t.core c).flags = x.flags
    (x.slot = none →
      (svSpells s c (.svBra c d10) = true → ∃ t, exec (.svBra c d10) s = .next t ∧ slotted t (some (x.pc + 1 + d10.signExtend 24)) ∧ (t.core c).fly = x.fly) ∧
      (svSpells s c (.svJmpb c h) = true → ∃ t, exec (.svJmpb c h) s = .next t ∧ slotted t (some (x.baseAt h)) ∧ (t.core c).fly = x.fly) ∧
      (svSpells s c (.svCall c d10) = true → ∃ t, exec (.svCall c d10) s = .next t ∧ slotted t (some (x.pc + 1 + d10.signExtend 24)) ∧
        (t.core c).bAt 7 = x.pc + (if twoWords (svFetch s c (x.pc + 1)) then 3 else 2)) ∧
      (∀ q ∈ [(0, x.z), (1, !x.z), (2, x.cy), (3, !x.cy), (4, x.n), (5, !x.n), (6, x.v), (7, !x.v), (8, x.cy && !x.z),
          (9, !x.cy || x.z), (10, x.n == x.v), (11, x.n != x.v), (12, !x.z && x.n == x.v), (13, x.z || x.n != x.v), (14, true)],
        cond.val = q.1 → svSpells s c (.svBcc c cond d7) = true → ∃ t, exec (.svBcc c cond d7) s = .next t ∧ (t.core c).fly = x.fly ∧
          slotted t (if q.2 then some (x.pc + 1 + d7.signExtend 24) else none))) ∧
    (∀ g, x.slot = some (some g) → ∀ i ∈ [Instr.svNop c, .svMovw c d imm], svSpells s c i = true → ∃ t, exec i s = .next t ∧ onlyCore c s t ∧
      (t.core c).pc = g ∧ (t.core c).slot = none ∧ (i = .svMovw c d imm → (t.core c).wAt d = imm)) ∧
    (x.slot = some none → ∀ q ∈ [(Instr.svNop c, 1), (.svMovw c d imm, 2)], svSpells s c q.1 = true → ∃ t, exec q.1 s = .next t ∧ onlyCore c s t ∧
      (t.core c).pc = x.pc + BitVec.ofNat 24 q.2 ∧ (t.core c).slot = none) ∧
    (live → cond = 15 → svSpells s c (.svBcc c cond d7) = true → ∃ t, exec (.svBcc c cond d7) s = .next t ∧ svStops c 2 s t) ∧
    (live → x.slot ≠ none → ∀ i ∈ [Instr.svBra c d10, .svJmpb c h, .svCall c d10, .svWait c, .svBcc c 14 d7],
      svSpells s c i = true → ∃ t, exec i s = .next t ∧ svStops c 4 s t)

/-- For every state: the kick sequence, where its register is reached, starts a new period and changes nothing else; the
first warning of a period sets event 13 in both cores, any other does nothing. A watchdog restart by timeout while the
SV domain is on and no restart is in progress, or after a core stop, stops both cores, drops their window buffers and
results in flight, shows RESTARTING with its cause, core and reload flag, counts modulo 2^16 and ends a flash request
being served as ABORTED; outside L3 to L6 of LOAD nothing else of the device changes, and there it is a counted
failure with cause FW_START. With neither a stop nor a watchdog at work it does nothing. FIRMWARE_ENTRY of a restart
without reload starts both cores at their entries with Table 14.1 set, keeps their protected words and zeroes the
rest; where no restart is pending it does nothing, and a reload without a good signature restarts the device with
cause FW_START. (The model's choices: events in both cores, log entry 16; that failure counts, log entry 26.) (Derived
from 14_supervisor_core.md R327, 14_supervisor_core.md R328, 14_supervisor_core.md R326, 14_supervisor_core.md R331,
14_supervisor_core.md Table 14.14.) -/
def Obligations.WatchdogRestartsBothCoresAndKicksRenewIt : Prop :=
  ∀ (s : State),
    let running : Prop := s.domOn 1 = true ∧ s.fld Reg.SV_STAT_state ≠ 2
    let calm : Prop := s.boot = bootLoad → s.phases.contains 2 = false
    let restarted (t : State) (core cause : Nat) (reload : Bool) : Prop :=
      t.fld Reg.SV_STAT_state = 2 ∧ t.fld Reg.SV_WDT_STAT_core = core % 2 ∧ t.fld Reg.SV_WDT_STAT_cause = cause % 8 ∧
      t.fld Reg.SV_WDT_STAT_reload = reload.toNat ∧ t.fld Reg.SV_WDT_STAT_restarts = (s.fld Reg.SV_WDT_STAT_restarts + 1) % 65536 ∧
      (∀ c : Fin 2, t.core c = { s.core c with on := false, waiting := false, wbuf := 0, hold := 0, fly := [], slot := none }) ∧
      (∀ a, t.mbxAt a = if (s.mbxAt 0x1F000).msb = true ∧ a = 0x1F006 then 4
        else if (s.mbxAt 0x1F000).msb = true ∧ a = 0x1F000 then s.mbxAt 0x1F000 &&& 0x7FFF else s.mbxAt a) ∧
      regsKept [Reg.SV_STAT, Reg.SV_WDT_STAT] s t ∧
      t = { s with regs := t.regs, sv := t.sv, mbx := t.mbx, svStop := none, kick := false, wdtWarned := false }
    (reaches s Reg.SV_WDT_KICK = true → exec .wdtKick s = .next { s with kick := false, wdtWarned := false }) ∧
    (reaches s Reg.SV_WDT_KICK = false → exec .wdtKick s = .next s) ∧
    (running → s.wdtWarned = false → ∃ t, exec .wdtWarn s = .next t ∧ t = { s with sv := t.sv, wdtWarned := true } ∧
      ∀ c : Fin 2, (t.core c).evt = (s.core c).evt ||| 0x2000 ∧ (t.core c).pc = (s.core c).pc) ∧
    (¬ running ∨ s.wdtWarned = true → exec .wdtWarn s = .next s) ∧
    (calm → s.svStop = none → running → ∃ t, exec .watchdogRestart s = .next t ∧ restarted t 0 1 false) ∧
    (∀ c k p, calm → s.svStop = some (c, k, p) →
      ∃ t, exec .watchdogRestart s = .next t ∧ restarted t c k (k == 6 && p)) ∧
    (s.boot = bootLoad → s.phases.contains 2 = true → s.nv.pend = none → running ∨ s.svStop.isSome = true →
      ∃ t e, exec .watchdogRestart s = .next t ∧ t.nv.log.head? = some e ∧ e.cause = 6 ∧ e.counted = true ∧
      t.nv.startFails = min 7 (s.nv.startFails + 1) ∧
      t.boot = if s.failLimit ≤ min 7 (s.nv.startFails + 1) then bootCoppice else bootWaitHost) ∧
    (s.svStop = none → ¬ running → exec .watchdogRestart s = .next s) ∧
    (s.fld Reg.SV_STAT_state = 2 → s.fld Reg.SV_WDT_STAT_reload = 0 → ∃ t, exec .firmwareEntry s = .next t ∧
      t.fld Reg.SV_STAT_state = (if (s.core 0).protWords = 0 ∧ (s.core 1).protWords = 0 then 0 else 1) ∧ regsKept [Reg.SV_STAT] s t ∧
      t = { s with regs := t.regs, sv := t.sv, kick := false, wdtWarned := false } ∧
      ∀ c : Fin 2, (t.core c).pc = BitVec.ofNat 24 (s.core c).entry ∧ (t.core c).on = true ∧ (t.core c).evt = 0 ∧
        (t.core c).flags = 0 ∧ (∀ n, (t.core c).wAt n = 0 ∧ (t.core c).bAt n = 0) ∧ (t.core c).protWords = (s.core c).protWords ∧
        ∀ a, storeGet 0 (t.core c).mem a = if a < (s.core c).protWords then storeGet 0 (s.core c).mem a else 0) ∧
    (s.fld Reg.SV_STAT_state = 2 → s.fld Reg.SV_WDT_STAT_reload = 1 → signedFirmware s s.nv.slotActive = none → s.nv.pend = none →
      ∃ t e, exec .firmwareEntry s = .next t ∧ t.boot = bootCold ∧ t.nv.startFails = min 7 (s.nv.startFails + 1) ∧
        t.nv.log.head? = some e ∧ e.cause = 6 ∧ e.counted = true ∧ t.fld Reg.BOOT_CAUSE_cause = 6) ∧
    (s.fld Reg.SV_STAT_state ≠ 2 → exec .firmwareEntry s = .next s)

/-- For every core and state: where SV_FLASH_CMD is reached, a page program or block erase that a check of R330 refuses
shows the check's status and changes nothing else; one that passes is in progress, with its 256 source bytes, and
shows busy. Its end without a flash error leaves an erased block reading 0xFF, and an erased page reading its source
bytes; with an error it shows status 4. Every byte outside the page or block stays, status and busy are shown and
event 7 is set in both cores; with no command in progress its end does nothing. A flash-service request of the right
op that is served ends with busy clear: refused with its status and flash as it was, or done, with the slot erased, or
its erased bytes written from the service area; bytes outside stay. What is not served changes nothing. (The model's
choices: event 7 in both cores, log entry 16; a request carried out whole, log entry 28; which of several grounds a
refusal shows, log entry 163.) (Derived from 14_supervisor_core.md R330, 14_supervisor_core.md R331,
14_supervisor_core.md Table 14.16, 08_espalier.md R209.) -/
def Obligations.FlashCommandsAreCheckedAndThenChangeTheirBytes : Prop :=
  ∀ (c : Fin 2) (err : Bool) (s : State),
    let a := (s.reg Reg.SV_FLASH_ADDR).toNat
    let src := pageSource s c (s.fld Reg.SV_FLASH_SRC_src)
    let named : Bool := decide (s.fld Reg.SV_FLASH_SRC_src < 0x80000) ||
      decide (0x200000 ≤ s.fld Reg.SV_FLASH_SRC_src ∧ s.fld Reg.SV_FLASH_SRC_src < 0x220000)
    let why (n : Nat) (src : Bool) : Nat :=
      if s.flashOp.isSome then 3 else if 2 ≤ a / 0x4000000 ∨ a % n ≠ 0 ∨ src = false then 2
      else if a / 0x4000000 = s.nv.slotLkg then 1 else if slotRead s (a / 0x4000000) then 3 else 0
    let served (op : Nat) : Prop := serviceOn s = true ∧ serviceBusy s = true ∧ serviceOp s = op
    let ends (t : State) (status : Nat) : Prop := (t.mbxAt 0x1F006) = BitVec.ofNat 16 status ∧ (t.mbxAt 0x1F000).msb = false ∧
      (∀ w, w ≠ 0x1F000 → w ≠ 0x1F006 → t.mbxAt w = s.mbxAt w) ∧
      t = { s with mbx := t.mbx, flash := t.flash, freeCtr := t.freeCtr }
    let away (t : State) (lo n : Nat) : Prop := ∀ i, i < lo ∨ lo + n ≤ i → flashByte t.flash i = flashByte s.flash i
    (reaches s Reg.SV_FLASH_CMD = false → exec (.flashProgramPage c) s = .next s ∧ exec (.flashEraseBlock c) s = .next s) ∧
    (reaches s Reg.SV_FLASH_CMD = true →
      ∀ q ∈ [(Instr.flashProgramPage c, 1, 256, src.isSome, src.getD []), (.flashEraseBlock c, 2, 65536, named, src.getD [])],
      (why q.2.2.1 q.2.2.2.1 = 0 → ∃ t, exec q.1 s = .next t ∧ t.flashOp = some (q.2.1, a, q.2.2.2.2) ∧
        t.fld Reg.SV_FLASH_STAT_busy = 1 ∧ t.fld Reg.SV_FLASH_CMD_op = q.2.1 ∧ regsKept [Reg.SV_FLASH_CMD, Reg.SV_FLASH_STAT] s t ∧
        t = { s with regs := t.regs, flashOp := t.flashOp }) ∧
      (why q.2.2.1 q.2.2.2.1 ≠ 0 → ∃ t, exec q.1 s = .next t ∧ t.fld Reg.SV_FLASH_STAT_status = why q.2.2.1 q.2.2.2.1 ∧
        t.fld Reg.SV_FLASH_STAT_busy = s.fld Reg.SV_FLASH_STAT_busy ∧ onlyRegs [Reg.SV_FLASH_CMD, Reg.SV_FLASH_STAT] s t)) ∧
    (∀ op lo page, s.flashOp = some (op, lo, page) → op = 1 ∨ op = 2 → ∃ t, exec (.flashCmdDone err) s = .next t ∧
      away t lo (if op = 1 then 256 else 65536) ∧ t.fld Reg.SV_FLASH_STAT_busy = 0 ∧
      t.fld Reg.SV_FLASH_STAT_status = (if err then 4 else 0) ∧ regsKept [Reg.SV_FLASH_STAT] s t ∧
      (err = false → op = 2 → ∀ i, i < 65536 → flashByte t.flash (lo + i) = 0xFF) ∧
      (err = false → op = 1 → ∀ i, i < 256 → flashByte s.flash (lo + i) = 0xFF → flashByte t.flash (lo + i) = page.getD i 0xFF) ∧
      (∀ k : Fin 2, (t.core k).evt = (s.core k).evt ||| 0x80 ∧ (t.core k).pc = (s.core k).pc) ∧
      t = { s with regs := t.regs, sv := t.sv, flash := t.flash, freeCtr := t.freeCtr, flashOp := none }) ∧
    (s.flashOp = none → exec (.flashCmdDone err) s = .next s) ∧
    (served 1 → serviceRefusal s false ≠ 0 → ∃ t, exec (.flashServiceErase err) s = .next t ∧ t.flash = s.flash ∧
      ends t (serviceRefusal s false)) ∧
    (served 2 → serviceRefusal s true ≠ 0 → ∃ t, exec (.flashServiceWrite err) s = .next t ∧ t.flash = s.flash ∧
      ends t (serviceRefusal s true)) ∧
    (served 1 → serviceRefusal s false = 0 → ∃ t, exec (.flashServiceErase err) s = .next t ∧ ends t (if err then 3 else 0) ∧
      away t (slotBase (serviceSlot s)) 0x4000000 ∧
      (err = false → ∀ i, i < 0x4000000 → flashByte t.flash (slotBase (serviceSlot s) + i) = 0xFF)) ∧
    (served 2 → serviceRefusal s true = 0 → ∃ t, exec (.flashServiceWrite err) s = .next t ∧ ends t (if err then 3 else 0) ∧
      away t (slotBase (serviceSlot s) + serviceOff s) (serviceLen s) ∧
      (err = false → ∀ i, i < serviceLen s → flashByte s.flash (slotBase (serviceSlot s) + serviceOff s + i) = 0xFF →
        flashByte t.flash (slotBase (serviceSlot s) + serviceOff s + i) = serviceByte s i)) ∧
    (¬ served 1 → exec (.flashServiceErase err) s = .next s) ∧ (¬ served 2 → exec (.flashServiceWrite err) s = .next s)

/-- For every channel and state where the register of the row is reached: a go of an IDLE or FAULT channel with a window
runs it with pending and done 0 (WAIT if its fill rule disables it; fill pacing with lo >= hi faults with DESC, no
window with WINDOW), any other go does nothing; an abort makes it IDLE with result ABORTED, or BUS if it was STOPPED,
keeps HEAD and changes no byte of memory but, where R335 permits, the four of the status at HEAD, which show result
and done; a doorbell makes an EMPTY channel read again; a request adds a pending one, at most 3, wakes a WAIT or EMPTY
channel, and a fourth counts in req_over; the tick request reaches exactly the channels that take it. FILL_DEC
subtracts and applies the fill rule. A bus error stops every channel in RUN, EMPTY or WAIT, records the first error
and counts, and an uncorrectable tier-1 read is a fault of its cluster; a restart resumes the masked stopped channels,
from the supervisor alone, and one that meets a stop is lost. Other channels stay as they are, and so does memory but
for that status. A register that is not reached takes none of these. (The model's choices: pending cleared by a go and
requests ignored in IDLE or FAULT, log entry 58; the findings of an abort's status write as an operand, log entry
165.) (Derived from 15_dma.md R334, 15_dma.md R341, 15_dma.md R342, 15_dma.md R344, 15_dma.md R345, 15_dma.md R346,
15_dma.md R347, 15_dma.md R337, 15_dma.md R335.) -/
def Obligations.DmaCommandsMoveTheirChannelThroughItsStates : Prop :=
  ∀ (n : Fin 32) (v mask : Word) (f : MemFind) (kind : BusError) (ch : Option (Fin 32)) (sp : Fin 3) (addr : BitVec 64)
      (cycle : BitVec 15) (path : Path) (s : State),
    let st := s.chanSt n
    let pace := s.fld (Reg.DMA_CH_CFG_pace n)
    let pend := s.fld (Reg.DMA_CH_STAT_pending n)
    let ctl : Prop := reaches s (Reg.DMA_CH_CTL n) = true
    let own : List Nat := [Reg.DMA_CH_STAT n, Reg.DMA_CH_DONE n, Reg.DMA_CH_FILL n, Reg.DMA_GSTAT]
    let others (t : State) : Prop := ∀ m, m ≠ n.val → t.chan m = s.chan m
    let quiet (t : State) : Prop := t = { s with regs := t.regs, dma := t.dma }
    let windowed : Prop := ∃ w ∈ s.str.wins, w.channel = n.val
    let rests : Prop := st = dmaIdle ∨ st = dmaFault
    let badMarks : Prop := pace = 2 ∧ s.fld (Reg.DMA_CH_MARKS_hi n) ≤ s.fld (Reg.DMA_CH_MARKS_lo n)
    let faulted (t : State) (cause : Nat) : Prop := t.chanSt n = dmaFault ∧ t.fld (Reg.DMA_CH_STAT_cause n) = cause ∧
      t.fld ⟨Reg.DMA_IRQ_STAT, n, 1⟩ = 1 ∧ regsKept (Reg.DMA_IRQ_STAT :: own) s t ∧ others t ∧
      t = { s with regs := t.regs, dma := t.dma, sv := t.sv, msix := t.msix }
    let takes (m : Fin 32) (sel : Nat) : Prop := s.fld (Reg.DMA_CH_CFG_req_sel m) = sel ∧ s.fld (Reg.DMA_CH_CFG_pace m) = 1 ∧
      s.chanSt m ≠ dmaIdle ∧ s.chanSt m ≠ dmaFault ∧ (sel = 0 → (s.chan m).fromTick ≤ s.tick)
    let fill := s.fld (Reg.DMA_CH_FILL_fill n) - bitsOf v 0 24
    let rule := if fill ≤ 256 * s.fld (Reg.DMA_CH_MARKS_lo n) then 1 else if 256 * s.fld (Reg.DMA_CH_MARKS_hi n) ≤ fill then 0
      else s.fld (Reg.DMA_CH_FILL_enabled n)
    let moving (m : Nat) : Prop := s.chanSt m = dmaRun ∨ s.chanSt m = dmaEmpty ∨ s.chanSt m = dmaWait
    let code : Nat := match kind with | .urOrCa => 1 | .timeout => 2 | .poisoned => 3 | .tier1 => 4 | .dram _ => 5 | .buffer => 6
    (ctl → dmaOn s = true → rests → windowed → ¬ badMarks → ∃ t, exec (.dmaGo n) s = .next t ∧
      t.chanSt n = (if pace = 2 ∧ t.fld (Reg.DMA_CH_FILL_enabled n) ≠ 1 then dmaWait else dmaRun) ∧
      t.chan n = { fromTick := dmaFrom s n } ∧ t.fld (Reg.DMA_CH_STAT_pending n) = 0 ∧ t.done n = 0 ∧ regsKept own s t ∧
      others t ∧ quiet t) ∧
    (ctl → dmaOn s = true → rests → ¬ windowed → ∃ t, exec (.dmaGo n) s = .next t ∧ faulted t 1) ∧
    (ctl → dmaOn s = true → rests → windowed → badMarks → ∃ t, exec (.dmaGo n) s = .next t ∧ faulted t 2) ∧
    (¬ ctl ∨ dmaOn s = false ∨ ¬ rests → exec (.dmaGo n) s = .next s) ∧
    (¬ ctl ∨ st = dmaIdle → exec (.dmaAbort (n, f)) s = .next s) ∧
    (ctl → st ≠ dmaIdle → ∃ t, exec (.dmaAbort (n, f)) s = .next t ∧ t.chanSt n = dmaIdle ∧ t.chan n = {} ∧
      t.fld (Reg.DMA_CH_STAT_cause n) = (if st = dmaStopped then 3 else 4) ∧ others t ∧
      regsKept [Reg.DMA_CH_STAT n, Reg.DMA_GSTAT, Reg.MEM_DRAM_STAT, Reg.MEM_DLY_ECC ((ringAt s n + 24) / 0x40000 / 48)] s t ∧
      (f = {} → regsKept [Reg.DMA_CH_STAT n, Reg.DMA_GSTAT] s t) ∧
      statusAlone n (if st = dmaStopped then 3 else 4) (s.done n) s t ∧ (statusOk s n = false → quiet t) ∧
      (statusOk s n = true → ringSpace s n = 0 → t.dma.host = s.dma.host ++
        [(ringAt s n + 24, wordBytes (BitVec.ofNat 32 ((if st = dmaStopped then 3 else 4) * 2 ^ 28 + s.done n)))]) ∧
      t = { s with regs := t.regs, dma := t.dma, delay := t.delay, dram := t.dram }) ∧
    (ctl → st = dmaEmpty → ∃ t, exec (.dmaDoorbell n) s = .next t ∧ t.chanSt n = dmaRun ∧
      t.chan n = { s.chan n with phase := .fetch, asked := false } ∧ regsKept [Reg.DMA_CH_STAT n, Reg.DMA_GSTAT] s t ∧ others t ∧
      quiet t) ∧
    (¬ ctl ∨ st ≠ dmaEmpty → exec (.dmaDoorbell n) s = .next s) ∧
    (ctl → takes n 1 → ∃ t, exec (.dmaSoftRequest n) s = .next t ∧
      t.fld (Reg.DMA_CH_STAT_pending n) = (if pend < 3 then pend + 1 else pend) ∧
      t.fld (Reg.DMA_CH_STAT_req_over n) = (if pend < 3 then s.fld (Reg.DMA_CH_STAT_req_over n)
        else min 255 (s.fld (Reg.DMA_CH_STAT_req_over n) + 1)) ∧
      t.chanSt n = (if st = dmaWait ∨ st = dmaEmpty then dmaRun else st) ∧
      regsKept [Reg.DMA_CH_STAT n, Reg.DMA_GSTAT] s t ∧ others t ∧ quiet t) ∧
    (¬ ctl ∨ ¬ takes n 1 → exec (.dmaSoftRequest n) s = .next s) ∧
    (s.tickOn = true → ∃ t, exec .dmaTickRequest s = .next t ∧ quiet t ∧
      ∀ m : Fin 32, (takes m 0 → s.fld (Reg.DMA_CH_STAT_pending m) < 3 →
          t.fld (Reg.DMA_CH_STAT_pending m) = s.fld (Reg.DMA_CH_STAT_pending m) + 1) ∧
        (¬ takes m 0 → t.chan m = s.chan m ∧ t.reg (Reg.DMA_CH_STAT m) = s.reg (Reg.DMA_CH_STAT m))) ∧
    (s.tickOn = false → exec .dmaTickRequest s = .next s) ∧
    (reaches s (Reg.DMA_CH_FILL_DEC n) = true → ∃ t, exec (.dmaFillDec n v) s = .next t ∧ t.fld (Reg.DMA_CH_FILL_fill n) = fill ∧
      t.fld (Reg.DMA_CH_FILL_enabled n) = rule ∧
      t.chanSt n = (if pace = 2 ∧ (st = dmaRun ∨ st = dmaWait) then (if rule = 1 then dmaRun else dmaWait) else st) ∧
      regsKept [Reg.DMA_CH_STAT n, Reg.DMA_CH_FILL n, Reg.DMA_GSTAT] s t ∧ t = { s with regs := t.regs }) ∧
    (reaches s (Reg.DMA_CH_FILL_DEC n) = false → exec (.dmaFillDec n v) s = .next s) ∧
    (dmaOn s = true → ∃ t u, exec (.dmaBusError kind ch sp addr cycle) s = .next t ∧
      t = (if code = 4 then clusterFault u (addr.toNat / 0x40000 / 48) 4 (addr.toNat / 0x40000 % 48) (addr.toNat % 0x40000 / 4)
          cycle.toNat false else if kind = .dram true then u.satInc Reg.MEM_DRAM_STAT_retry else u) ∧
      (∀ m : Fin 32, (moving m → u.chanSt m = dmaStopped ∧ (u.chan m).desc = (s.chan m).desc ∧
          u.fld (Reg.DMA_CH_STAT_pending m) = s.fld (Reg.DMA_CH_STAT_pending m)) ∧
        (¬ moving m → u.chanSt m = s.chanSt m ∧ u.chan m = s.chan m) ∧ u.reg (Reg.DMA_CH_HEAD m) = s.reg (Reg.DMA_CH_HEAD m)) ∧
      u.fld Reg.DMA_GSTAT_stops = min 65535 (s.fld Reg.DMA_GSTAT_stops + 1) ∧
      (s.fld Reg.DMA_ERR_valid = 0 → u.fld Reg.DMA_ERR_valid = 1 ∧ u.fld Reg.DMA_ERR_kind = code ∧
        u.fld Reg.DMA_ERR_space = sp.val ∧ u.fld Reg.DMA_ERR_channel = (match ch with | some c => c.val | none => 0x3F) ∧
        u.reg Reg.DMA_ERR_ADDR0 = addr.setWidth 32 ∧ u.reg Reg.DMA_ERR_ADDR1 = (addr >>> 32).setWidth 32) ∧
      (s.fld Reg.DMA_ERR_valid = 1 → u.reg Reg.DMA_ERR = s.reg Reg.DMA_ERR) ∧
      u = { s with regs := u.regs, dma := u.dma, sv := u.sv, msix := u.msix }) ∧
    (dmaOn s = false → exec (.dmaBusError kind ch sp addr cycle) s = .next s) ∧
    (path = .pcie ∨ path = .lb ∨ reaches s Reg.DMA_RESTART = false →
      exec (.dmaRestart path mask false) s = .next s ∧ exec (.dmaRestart path mask true) s = .next s) ∧
    (path = .sv0 ∨ path = .sv1 → reaches s Reg.DMA_RESTART = true →
      (∃ t, exec (.dmaRestart path mask true) s = .next t ∧ t.fld Reg.DMA_GSTAT_restart_lost = 1 ∧
        onlyFlds [Reg.DMA_GSTAT_restart_lost] s t) ∧
      ∃ t, exec (.dmaRestart path mask false) s = .next t ∧ quiet t ∧
        ∀ m : Fin 32, (bitsOf mask m 1 = 1 → s.chanSt m = dmaStopped →
            t.chanSt m = (if (s.chan m).phase = .arrived ∧ (s.chan m).desc.isSome = true then dmaRun
              else if (s.fld (Reg.DMA_CH_CFG_pace m) = 2 ∧ s.fld (Reg.DMA_CH_FILL_enabled m) ≠ 1) ∨ waitsRequest s m = true
              then dmaWait else dmaRun) ∧ (t.chan m).desc = (s.chan m).desc) ∧
          (bitsOf mask m 1 = 0 ∨ s.chanSt m ≠ dmaStopped → t.chanSt m = s.chanSt m ∧ t.chan m = s.chan m))

/-- For every channel, descriptor and state: a beat goes to the ready channel of highest priority, among equals to the one
whose share runs, else the next in turn; a waiting channel counts a conflict. In fetch, a host ring is asked for the
descriptor, an on-chip one read at once; own = 0 empties the channel, a malformed one faults with DESC, a well-formed
one starts to move. In request pacing a pending request starts a burst, which ends in WAIT where none is pending. A
read takes the bytes at the source into the channel buffer, or asks the host, and counts what it finds. A write puts
the buffered bytes in swap order to their place and changes no other byte of memory; the last one waits for its
barrier, or completes: status and own are written, HEAD moves on modulo the ring size. A beat outside the windows is
not issued: the channel faults with WINDOW, and no byte of memory changes but, where R335 permits, the four of the
status at HEAD. Host data for an asked channel goes into the buffer, or as a descriptor. A confirmed barrier
completes, in a STOPPED channel with its first beat after the restart. (The model's choices: the findings as operands,
and a barrier confirmed while STOPPED, log entry 165.) (Derived from 15_dma.md R335, 15_dma.md R336, 15_dma.md R337,
15_dma.md R338, 15_dma.md R339, 15_dma.md R340, 15_dma.md R343, 03_engine_datapath.md R66, 05_delay_memory.md R127.) -/
def Obligations.DmaBeatsReadCheckAndWriteWhatTheirDescriptorNames : Prop :=
  ∀ (n : Fin 32) (meet : BeatMeet) (fs fo : MemFind) (bytes : List Byte) (d : List Word) (s : State),
    let c := s.chan n
    let sp := ringSpace s n
    let at_ := ringAt s n
    let others (t : State) : Prop := ∀ m, m ≠ n.val → t.chan m = s.chan m
    let quiet (t : State) : Prop := t = { s with regs := t.regs, dma := t.dma }
    let pr (m : Nat) : Nat := s.fld (Reg.DMA_CH_CFG_prio m)
    let ready (m : Nat) : Prop := m < 32 ∧ hasBeat s m = true ∧ m ∉ meet.waiting.map (·.val)
    let equal (m : Nat) : Prop := ready m ∧ pr m = pr n
    let last := storeGet 0 s.dma.last (pr n)
    let gets : Prop := dmaOn s = true ∧ ready n ∧ (∀ m, ready m → pr m ≤ pr n) ∧
      (equal last → (s.chan last).share ≠ 0 → n.val = last) ∧
      (equal last ∧ (s.chan last).share ≠ 0 ∨ (last < n.val ∧ ∀ m, equal m → last < m → n.val ≤ m) ∨
        ((∀ m, equal m → m ≤ last) ∧ ∀ m, equal m → n.val ≤ m))
    let issues (t : State) : Prop := exec (.dmaBeat meet) s = .next t ∧ others t ∧ storeGet 0 t.dma.last (pr n) = n.val
    let met (space a words : Nat) (f : MemFind) (t : State) : Prop := meet.waiting = [] →
      (space = 1 → a / 0x40000 < 384 → t.fld (Reg.MEM_DLY_ECC_ce (a / 0x40000 / 48)) =
        min 65535 (s.fld (Reg.MEM_DLY_ECC_ce (a / 0x40000 / 48)) + min f.ce.val words)) ∧
      (space = 2 → t.fld Reg.MEM_DRAM_STAT_link_ce = min 255 (s.fld Reg.MEM_DRAM_STAT_link_ce + min f.ce.val 1) ∧
        t.fld Reg.MEM_DRAM_STAT_retry = min 255 (s.fld Reg.MEM_DRAM_STAT_retry + f.repeated.toNat))
    let pend := s.fld (Reg.DMA_CH_STAT_pending n)
    let paced : Prop := paceOf s n = 1
    let starts : Prop := paced ∧ c.burst = 0 ∧ pend ≠ 0
    let pend' := if starts then pend - 1 else pend
    let burst := if starts then min (4 * (s.fld (Reg.DMA_CH_CFG_burst_m1 n) + 1)) (dLen d - s.done n) else c.burst
    let stop := if paced then min (dLen d) (s.done n + burst) else dLen d
    let moves : Prop := c.phase = .move ∧ c.desc = some d
    let k := writeLen d (s.done n) stop
    let u := swapUnit (dSwap d)
    let full : Prop := k ≠ 0 ∧ (s.done n + k + u - 1) / u * u ≤ c.readPos
    let to_ := if dDstFixed d then dDst d else dDst d + s.done n
    let r := nextRead d c.readPos stop
    let asked : Prop := c.asked = true ∧ s.chanSt n ≠ dmaStopped
    let faulted (t : State) (cause : Nat) : Prop := t.chanSt n = dmaFault ∧ t.fld (Reg.DMA_CH_STAT_cause n) = cause ∧
      t.fld ⟨Reg.DMA_IRQ_STAT, n, 1⟩ = 1 ∧ others t ∧ (cause = 1 → statusAlone n 1 (s.done n) s t) ∧ (cause ≠ 1 → memKept [] s t) ∧
      t = { s with regs := t.regs, dma := t.dma, sv := t.sv, msix := t.msix, delay := t.delay, dram := t.dram }
    let found (ws : List Word) (t : State) : Prop := others t ∧
      (dOwn ws = false → t.chanSt n = dmaEmpty ∧ (t.chan n).asked = false ∧ quiet t) ∧
      (dOwn ws = true → dMalformed ws = true → faulted t 2) ∧
      (dOwn ws = true → dMalformed ws = false → t.done n = 0 ∧ (t.chan n).phase = .move ∧ (t.chan n).desc = some ws ∧
        (t.chan n).buf = [] ∧ (t.chan n).burst = 0 ∧ quiet t)
    let ends : Prop := statusOk s n = true ∧ (dKeep d = true ∨ beatOk s n sp at_ 4 true = true)
    let completes (done : Nat) (t : State) : Prop :=
      t.fld (Reg.DMA_CH_HEAD_head n) =
        (s.fld (Reg.DMA_CH_HEAD_head n) + 1) % (s.fld (Reg.DMA_CH_RING_SIZE_size_m1 n) + 1) ∧
      t.chan n = { fromTick := c.fromTick } ∧ t.done n = 0 ∧ others t ∧
      (sp ≠ 0 → (∀ i, i < 4 → onchipByte t sp (at_ + 24 + i) = (wordBytes (BitVec.ofNat 32 done)).getD i 0) ∧
        (dKeep d = false → ∀ i, i < 4 → onchipByte t sp (at_ + i) = (wordBytes (dW d 0 &&& 0x7FFFFFFF)).getD i 0))
    let hand : List (Nat × Nat × Nat) := [(sp, at_ + 24, 4), (sp, at_, 4)]
    (dmaOn s = false → exec (.dmaBeat meet) s = .next s) ∧
    (dmaOn s = true → (∀ m, ¬ ready m) → (meet.waiting = [] → exec (.dmaBeat meet) s = .next s) ∧
      ∀ m : Fin 32, meet.waiting = [m] → hasBeat s m = true → ∃ t, exec (.dmaBeat meet) s = .next t ∧
        (∀ f, ((nextBeat s m).1 = 1 ∧ f = Reg.MEM_CONFLICT_dma ((nextBeat s m).2 / 0x40000 / 48)) ∨
            ((nextBeat s m).1 = 2 ∧ f = Reg.MEM_DRAM_CONFLICT_dma) →
          t.fld f = min (2 ^ f.w - 1) (s.fld f + 1) ∧ onlyFlds [f] s t) ∧ ((nextBeat s m).1 = 0 → t = s)) ∧
    (gets → ∃ t, issues t) ∧
    (gets → c.phase = .fetch → sp = 0 → beatOk s n 0 at_ 32 false = true →
      ∃ t, issues t ∧ (t.chan n).asked = true ∧ (t.chan n).desc = c.desc ∧ quiet t ∧ (meet.waiting = [] → t.regs = s.regs)) ∧
    (gets → c.phase = .fetch → beatOk s n sp at_ 32 false = false → ∃ t, issues t ∧ faulted t 1) ∧
    (gets → c.phase = .fetch → sp ≠ 0 → beatOk s n sp at_ 32 false = true → ∃ t, issues t ∧ met sp at_ 8 meet.data t ∧
      found (bytesWords ((List.range 32).map (fun i => onchipByte s sp (at_ + i)))) t) ∧
    (gets → moves → ¬ full → beatOk s n (dSrcSpace d) r.1 r.2 false = false → ∃ t, issues t ∧ faulted t 1) ∧
    (gets → moves → ¬ full → beatOk s n (dSrcSpace d) r.1 r.2 false = true → ∃ t, issues t ∧ quiet t ∧
      (t.chan n).desc = some d ∧ (t.chan n).burst = burst ∧ t.fld (Reg.DMA_CH_STAT_pending n) = pend' ∧
      (dSrcSpace d = 0 → (t.chan n).asked = true ∧ (t.chan n).buf = c.buf) ∧
      (dSrcSpace d ≠ 0 → met (dSrcSpace d) r.1 8 meet.data t ∧
        (t.chan n).buf = c.buf ++ (List.range r.2).map (fun i => onchipByte s (dSrcSpace d) (r.1 + i)))) ∧
    (gets → moves → full → beatOk s n (dDstSpace d) to_ k true = false → ∃ t, issues t ∧ faulted t 1) ∧
    (gets → moves → full → beatOk s n (dDstSpace d) to_ k true = true → s.done n + k < dLen d →
      ∃ t, issues t ∧ t.done n = s.done n + k ∧ (t.chan n).desc = some d ∧ (t.chan n).burst = burst - k ∧
        t.fld (Reg.DMA_CH_STAT_pending n) = pend' ∧ (paced → burst = k → pend' = 0 → t.chanSt n = dmaWait) ∧
        (dDstSpace d = 1 ∨ dDstSpace d = 2 → t.dma.host = s.dma.host ∧ ∀ i, i < k →
          onchipByte t (dDstSpace d) (to_ + i) = c.buf.getD (swapIdx (dSwap d) (s.done n + i) - c.bufAt) 0) ∧
        (dDstSpace d = 0 → t.dma.host = s.dma.host ++
          [(to_, (List.range k).map (fun i => c.buf.getD (swapIdx (dSwap d) (s.done n + i) - c.bufAt) 0))]) ∧
        memKept [(dDstSpace d, to_, k)] s t ∧
        t = { s with regs := t.regs, dma := t.dma, delay := t.delay, dram := t.dram, sv := t.sv, msix := t.msix }) ∧
    (gets → moves → full → beatOk s n (dDstSpace d) to_ k true = true → s.done n + k = dLen d →
      (dBarrier d = true → ∃ t, issues t ∧ t.done n = dLen d ∧ (t.chan n).phase = .barrier ∧ (t.chan n).desc = some d ∧
        memKept [(dDstSpace d, to_, k)] s t) ∧
      (dBarrier d = false → ends → ∃ t, issues t ∧ completes (dLen d) t ∧ memKept ((dDstSpace d, to_, k) :: hand) s t)) ∧
    (gets → c.phase = .arrived → c.desc = some d → ends → ∃ t, issues t ∧ completes (s.done n) t ∧ memKept hand s t) ∧
    (¬ asked → exec (.dmaReadData n bytes) s = .next s) ∧
    (asked → moves → ∃ t, exec (.dmaReadData n bytes) s = .next t ∧ others t ∧ t = { s with dma := t.dma } ∧
      t.chan n = { c with buf := c.buf ++ bytes.take (nextRead d c.readPos (moveEnd s n d)).2, asked := false }) ∧
    (asked → c.phase = .fetch → ∃ t, exec (.dmaReadData n bytes) s = .next t ∧ found (bytesWords (bytes.take 32)) t) ∧
    (c.phase = .barrier → c.desc = some d → s.chanSt n ≠ dmaStopped →
      (ends → ∃ t, exec (.dmaBarrierDone (n, fs, fo)) s = .next t ∧ completes (s.done n) t ∧ memKept hand s t ∧
        t.chanSt n = s.chanSt n) ∧
      (¬ ends → ∃ t, exec (.dmaBarrierDone (n, fs, fo)) s = .next t ∧ faulted t 1)) ∧
    (c.phase = .barrier → c.desc = some d → s.chanSt n = dmaStopped → ∃ t, exec (.dmaBarrierDone (n, fs, fo)) s = .next t ∧
      t.chan n = { c with phase := .arrived } ∧ others t ∧ t = { s with dma := t.dma }) ∧
    (c.phase ≠ .barrier ∨ c.desc = none → exec (.dmaBarrierDone (n, fs, fo)) s = .next s)

/-- For every domain and state: a sleep request or an idle timer that is not 0 makes an idle, unpinned, non-cluster domain
that is ON enter its target, unless a wake comes in the same cycle; any other does nothing. Each wake of a needed
domain at RETENTION or OFF shows its source and makes it WAKING, is latched while ENTERING, and does nothing while ON
or WAKING, where the domain is not needed, in the hold after THERMAL_CRIT, and in WAIT_HOST and COPPICE but for PCIE.
An entry that ends without a wake takes its target; a latched one then wakes it, shown as replayed if of class L. Four
parts ready make a waking domain ON (the DRAM trained, its next retraining a period away). Each change sets event 11
in both cores, and adds to the residency of that domain alone, nothing while ticks run. A cluster write is accepted
for tick x + 2 + pl in RUN by an owner, which forwards it where it leads a follower, and refused otherwise; it takes
effect when due, a timer of 1 to 15 as 16; DOMAIN_WAKE of a cluster is such a write with its wake bit. From tick w - 1
on, CLUSTER_RESUME makes a cluster whose wake is due at boundary w ON and awake, and its sleeping engines run.
Requests and writes act only where their register is reached. (The model's choices: events in both cores, log entry
16; CLUSTER_RESUME at the end of tick w - 1, log entry 59; the DRAM lost at OFF, log entry 143; residency without
ticks, log entry 145; the idle condition that the model sees, log entry 147.) (Derived from 16_power_and_monitoring.md
R350, 16_power_and_monitoring.md R351, 16_power_and_monitoring.md R352, 16_power_and_monitoring.md R353,
16_power_and_monitoring.md R354, 16_power_and_monitoring.md R357, 16_power_and_monitoring.md R359.) -/
def Obligations.DomainsSleepWakeAndResumeByTheirRules : Prop :=
  ∀ (d : Fin 17) (k : Fin 3) (c : ClNo) (f : EthFrame) (quiet withWake level last : Bool) (a v : Word) (s : State),
    let st := s.domSt d
    let target := s.fld (Reg.PWR_DOM_CTL_idle_target d)
    let sleeps : Prop := isClusterDom d = false ∧ domPinned s d = false ∧ st = domStOn ∧ targetOk d target = true ∧ quiet = true ∧
      domIdle s d = true ∧ withWake = false
    let evt (t : State) : Prop := ∀ j : Fin 2, (t.core j).evt = (s.core j).evt ||| 0x800 ∧ (t.core j).pc = (s.core j).pc
    let resid (n : Nat) : List Nat := if s.tickOn then [] else [Reg.PWR_RESID n 0, Reg.PWR_RESID n 1, Reg.PWR_RESID n 2]
    let clock (t : State) : Prop := s.tickOn = true → t.freeCtr = s.freeCtr
    let block (t : State) : Prop := t = { s with regs := t.regs, doms := t.doms, sv := t.sv, freeCtr := t.freeCtr } ∧ clock t ∧
      ∀ j, j ≠ d.val → t.dom j = s.dom j
    let there : Prop := reaches s (Reg.PWR_DOM_CTL d) = true
    let entered (t : State) : Prop := t.domSt d = domStEntering ∧ t.dom d = { target := target } ∧ evt t ∧
      regsKept (Reg.PWR_DOM_CTL d :: resid d) s t ∧ block t
    let needed (n : Nat) : Prop := isClusterDom n = false ∧ domNeeded s n = true ∧ s.hold ≠ some 11 ∧
      ((s.boot = bootWaitHost ∨ s.boot = bootCoppice) → n = 12)
    let edge : Prop := s.str.io.any (fun r => r.dir == 0 && r.kind == (activityDom k).2.2) = true ∧
      level.toNat = s.fld (Reg.PWR_DOM_CTL_det_level (activityDom k).1) ∧ ¬ (last = true ∧ s.domSt (activityDom k).1 = domStEntering)
    let classed : Prop := f.fcsOk = true ∧ macIsOurs f.port f.mac = true ∧ frameClassed s f.port f.body = true
    let w := storeGet 0 s.wakeAt c
    let accepts : Prop := s.boot = bootRun ∧ ¬ (s.twinMode = true ∧ s.fld Reg.TWN_STAT_owner = 0)
    (sleeps → (there → ∃ t, exec (.domainSleep d quiet withWake) s = .next t ∧ entered t) ∧
      (s.fld (Reg.PWR_IDLE_TMR_idle d) ≠ 0 → ∃ t, exec (.idleTimerExpiry d quiet withWake) s = .next t ∧ entered t)) ∧
    (¬ there → exec (.domainSleep d quiet withWake) s = .next s ∧ exec (.domainWake d) s = .next s) ∧
    (¬ sleeps → exec (.domainSleep d quiet withWake) s = .next s ∧ exec (.idleTimerExpiry d quiet withWake) s = .next s) ∧
    (s.fld (Reg.PWR_IDLE_TMR_idle d) = 0 → exec (.idleTimerExpiry d quiet withWake) s = .next s) ∧
    (∀ q ∈ [(Instr.domainWake d, d.val, 1, there ∧ isClusterDom d = false), (.dramAccessWake, 10, 2, True), (.netFrameWake f, 11, 3, classed),
        (.pcieLinkWake, 12, 4, True), (.pleachSignalWake, 13, 5, True),
        (.inputActivityWake k level last, (activityDom k).1, (activityDom k).2.1, edge)], q.2.2.2 →
      (needed q.2.1 → s.domSt q.2.1 = domStRet ∨ s.domSt q.2.1 = domStOff → ∃ t, exec q.1 s = .next t ∧
        t.domSt q.2.1 = domStWaking ∧ t.fld (Reg.PWR_WAKE_SRC_src q.2.1) = q.2.2.1 ∧ evt t ∧
        t.dom q.2.1 = { s.dom q.2.1 with left := s.domSt q.2.1, ready := 0 } ∧
        regsKept (Reg.PWR_DOM_CTL q.2.1 :: Reg.PWR_WAKE_SRC q.2.1 :: resid q.2.1) s t ∧ clock t ∧
        t = { s with regs := t.regs, doms := t.doms, sv := t.sv, freeCtr := t.freeCtr }) ∧
      (needed q.2.1 → s.domSt q.2.1 = domStEntering → ∃ t, exec q.1 s = .next t ∧ t = { s with doms := t.doms } ∧
        t.dom q.2.1 = { s.dom q.2.1 with latched := some q.2.2.1 } ∧ ∀ j, j ≠ q.2.1 → t.dom j = s.dom j) ∧
      (¬ needed q.2.1 ∨ s.domSt q.2.1 = domStOn ∨ s.domSt q.2.1 = domStWaking → exec q.1 s = .next s)) ∧
    (¬ classed → exec (.netFrameWake f) s = .next s) ∧ (¬ edge → exec (.inputActivityWake k level last) s = .next s) ∧
    (st = domStEntering → (s.dom d).target = 1 → (s.dom d).latched = none → ∃ t, exec (.domainEntryDone d false) s = .next t ∧
      t.domSt d = domStRet ∧ t.dom d = {} ∧ evt t ∧ regsKept (Reg.PWR_DOM_CTL d :: resid d) s t ∧ block t) ∧
    (st = domStEntering → (s.dom d).target = 2 → (s.dom d).latched = none → ∃ t, exec (.domainEntryDone d false) s = .next t ∧
      t.domSt d = domStOff ∧ t.dom d = {} ∧ evt t ∧ (d = 10 → t.dram = []) ∧ t.delay = s.delay) ∧
    (∀ src, src < 16 → st = domStEntering → (s.dom d).target = 1 → (s.dom d).latched = some src → needed d →
      ∃ t, exec (.domainEntryDone d level) s = .next t ∧ t.domSt d = domStWaking ∧ (src < 8 ∨ 10 < src → t.fld (Reg.PWR_WAKE_SRC_replayed d) = 1) ∧
        (8 ≤ src → src ≤ 10 → t.fld (Reg.PWR_WAKE_SRC_replayed d) = s.fld (Reg.PWR_WAKE_SRC_replayed d)) ∧ t.fld (Reg.PWR_WAKE_SRC_src d) = src ∧ block t) ∧
    (st ≠ domStEntering → exec (.domainEntryDone d level) s = .next s) ∧
    (st = domStWaking → (s.dom d).ready < 3 → ∃ t, exec (.domainPartReady d) s = .next t ∧
      t.dom d = { s.dom d with ready := (s.dom d).ready + 1 } ∧ t.regs = s.regs ∧ block t) ∧
    (st = domStWaking → 3 ≤ (s.dom d).ready → ∃ t, exec (.domainPartReady d) s = .next t ∧ t.domSt d = domStOn ∧ t.dom d = {} ∧
      evt t ∧ (d ≠ 10 → d ≠ 14 → d ≠ 15 → regsKept (Reg.PWR_DOM_CTL d :: resid d) s t ∧ block t) ∧ (d = 10 →
        t.fld Reg.MEM_DRAM_STAT_train = 2 ∧ t.retrainDue = s.tick + retrainPeriod s ∧
        regsKept (Reg.PWR_DOM_CTL d :: Reg.MEM_DRAM_STAT :: resid d) s t ∧
        t = { s with regs := t.regs, doms := t.doms, sv := t.sv, freeCtr := t.freeCtr, retrainDue := t.retrainDue })) ∧
    (st ≠ domStWaking → exec (.domainPartReady d) s = .next s) ∧
    (isClusterDom d = true → exec (.domainWake d) s = exec (.clusterControlWrite (BitVec.ofNat 32 (Reg.PWR_DOM_CTL d))
      (BitVec.ofNat 32 (2 + 256 * target))) s) ∧
    (reaches s a.toNat = false → exec (.clusterControlWrite a v) s = .next s) ∧
    (clusterControl a.toNat = true → reaches s a.toNat = true → accepts → s.leads = true →
      let tick := s.tick + 2 + s.pl
      let u := ({ s with cluWrites := s.cluWrites ++ [(tick, a.toNat, v)],
                         twin := { s.twin with ctlSeq := s.twin.ctlSeq + 1 } } : State).setReg Reg.PWR_PAIR_TICK (BitVec.ofNat 32 tick)
      ∃ t, exec (.clusterControlWrite a v) s = .next t ∧ sendsItems [.cluster (s.twin.ctlSeq + 1) tick a.toNat v] u t) ∧
    (clusterControl a.toNat = true → reaches s a.toNat = true → accepts → s.leads = false → ∃ t, exec (.clusterControlWrite a v) s = .next t ∧
      t.cluWrites = s.cluWrites ++ [(s.tick + 2 + s.pl, a.toNat, v)] ∧
      t.reg Reg.PWR_PAIR_TICK = BitVec.ofNat 32 (s.tick + 2 + s.pl) ∧ regsKept [Reg.PWR_PAIR_TICK] s t ∧
      t = { s with regs := t.regs, cluWrites := t.cluWrites }) ∧
    (clusterControl a.toNat = true → reaches s a.toNat = true → ¬ accepts → ∃ t, exec (.clusterControlWrite a v) s = .next t ∧
      t.fld Reg.PWR_PAIR_refused = 1 ∧ onlyFlds [Reg.PWR_PAIR_refused] s t) ∧
    (clusterControl a.toNat = false → exec (.clusterControlWrite a v) s = .next s) ∧
    (∃ t, exec .clusterControlApply s = .next t ∧ t.cluWrites = s.cluWrites.filter (fun e => decide (s.tick < e.1)) ∧
      ∀ x, x ≤ s.tick → s.cluWrites = [(x, Reg.PWR_IDLE_TMR (c.val + 2), v)] →
        t.reg (Reg.PWR_IDLE_TMR (c.val + 2)) =
          (if bitsOf v 0 24 ≠ 0 ∧ bitsOf v 0 24 < 16 then 16 else BitVec.ofNat 32 (bitsOf v 0 24)) ∧
        regsKept [Reg.PWR_IDLE_TMR (c.val + 2)] s t) ∧
    (w ≠ 0 → w ≤ s.tick + 1 → ∃ t, exec (.clusterResume c) s = .next t ∧ asleep t c = false ∧ t.domSt (c.val + 2) = domStOn ∧
      storeGet 0 t.wakeAt c = 0 ∧ ∀ i, i < 16 → t.engState (16 * c.val + i) =
        (if s.engState (16 * c.val + i) = engAsleep then engRun else s.engState (16 * c.val + i))) ∧
    (w = 0 ∨ s.tick + 1 < w → exec (.clusterResume c) s = .next s)

/-- For every sensor, rail, input, reading and state: a conversion of a sensor that is read shows its temperature as valid
and, from 110 degrees on, THERMAL_WARN; below 125 degrees it restarts the sensor's count, and the second at 125
degrees or more in a row is a fault of cause 11. A watched rail that fails is a fault of cause 10, and MON_SUPPLY
shows every watched rail that has not failed. A comparator that is enabled shows its output; a change in its direction
sets cmp_seen and event 10 and wakes its domain, a sleeping cluster with its first window at tick + 5. A conversion of
an enabled input is GOOD with its code, or SUSPECT when the input moved; with open-wire detection a plain conversion
waits for its test, and a test code more than 0x200 above it shows an open wire, any other makes the plain code good.
Readings of what is disabled, off or unwatched change nothing; a conversion keeps the open flag until a test passes.
(The model's choices: event 10 in both cores, log entry 16; the boundary of a cluster's wake by a comparator, log
entry 59.) (Derived from 16_power_and_monitoring.md R362, 16_power_and_monitoring.md R363, 16_power_and_monitoring.md
R365, 16_power_and_monitoring.md R366, 16_power_and_monitoring.md R367, 16_power_and_monitoring.md R368.) -/
def Obligations.MonitorsRaiseWarningsAndFaultsFromTheirReadings : Prop :=
  ∀ (n : Fin 16) (rail : Fin 9) (m : Fin 8) (temp : Half) (above moved : Bool) (code : BitVec 12) (s : State),
    let hot := storeGet 0 s.hotRun n
    let read : Prop := n = 0 ∨ s.domOn 1 = true
    let shown (t : State) : Prop := t.fld (Reg.MON_TEMP_temp n) = temp.toNat ∧ t.fld (Reg.MON_TEMP_valid n) = 1 ∧
      (880 ≤ temp.toInt → t.fld Reg.MON_THERM_CTL_thermal_warn = 1) ∧
      t = { s with regs := t.regs, sv := t.sv, hotRun := t.hotRun }
    let status := Reg.MON_AMON_DATA_status m
    let fires : Prop := above.toNat = s.fld (Reg.MON_AMON_CTL_cmp_dir m) ∧ above.toNat ≠ s.fld (Reg.MON_AMON_DATA_cmp m)
    let good (t : State) (c : Nat) : Prop := t.fld status = 1 ∧ t.fld (Reg.MON_AMON_DATA_code m) = c ∧
      storeGet false t.amonGood m = true ∧ t = { s with regs := t.regs, amonGood := t.amonGood, amonPlain := t.amonPlain }
    let on : Prop := s.fld (Reg.MON_AMON_CTL_en m) = 1
    let wire := s.fld (Reg.MON_AMON_CTL_owire_en m)
    let p := storeGet 0 s.amonPlain m
    let wake := s.fld (Reg.MON_AMON_CTL_wake_dom m)
    (read → temp.toInt < 1000 → ∃ t, exec (.tempConversion n temp) s = .next t ∧ shown t ∧ storeGet 0 t.hotRun n = 0) ∧
    (read → 1000 ≤ temp.toInt → hot = 0 → ∃ t, exec (.tempConversion n temp) s = .next t ∧ shown t ∧ storeGet 0 t.hotRun n = 1) ∧
    (read → 1000 ≤ temp.toInt → 0 < hot → ∃ t u, exec (.tempConversion n temp) s = .next t ∧ shown u ∧
      storeGet 0 u.hotRun n = hot + 1 ∧ t = raiseFault u 11 n) ∧
    (¬ read → exec (.tempConversion n temp) s = .next s) ∧
    (railWatched s rail = true → ∃ t u, exec (.supplyFault rail) s = .next t ∧ t = raiseFault u 10 rail ∧
      u = { s with railsOut := u.railsOut } ∧ (supplyShow u).getLsbD rail = false ∧
      ∀ k : Fin 9, k ≠ rail → (supplyShow u).getLsbD k = (supplyShow s).getLsbD k) ∧
    (∀ k : Fin 9, (supplyShow s).getLsbD k = (railWatched s k && !s.railsOut.contains k.val)) ∧
    (railWatched s rail = false → exec (.supplyFault rail) s = .next s) ∧
    (s.fld (Reg.MON_AMON_CTL_cmp_en m) = 1 → fires → ∃ t u, exec (.amonComparator m above) s = .next t ∧
      (wake = 0 ∨ 16 < wake → t = u) ∧
      (1 ≤ wake → wake ≤ 16 → isClusterDom wake = false → t = wakeDom u wake 7) ∧
      (isClusterDom wake = true → asleep s (wake - 2) = true → storeGet 0 s.wakeAt (wake - 2) = 0 →
        t.domSt wake = domStWaking ∧ t.fld (Reg.PWR_WAKE_SRC_src wake) = 7 ∧ storeGet 0 t.wakeAt (wake - 2) = s.tick + 5) ∧
      (isClusterDom wake = true → asleep s (wake - 2) = false ∨ storeGet 0 s.wakeAt (wake - 2) ≠ 0 → t = u) ∧ u.fld (Reg.MON_AMON_DATA_cmp m) = above.toNat ∧
      u.fld (Reg.MON_AMON_DATA_cmp_seen m) = 1 ∧ regsKept [Reg.MON_AMON_DATA m] s u ∧ u = { s with regs := u.regs, sv := u.sv } ∧
      ∀ j : Fin 2, (u.core j).evt = (s.core j).evt ||| 0x400) ∧
    (s.fld (Reg.MON_AMON_CTL_cmp_en m) = 1 → ¬ fires → ∃ t, exec (.amonComparator m above) s = .next t ∧
      t.fld (Reg.MON_AMON_DATA_cmp m) = above.toNat ∧ onlyFlds [Reg.MON_AMON_DATA_cmp m] s t) ∧
    (s.fld (Reg.MON_AMON_CTL_cmp_en m) = 0 → exec (.amonComparator m above) s = .next s) ∧
    (on → wire = 0 → ∃ t, exec (.amonConversion m code moved) s = .next t ∧ (moved = false → good t code.toNat) ∧
      (moved = true → t.fld status = 2 ∧ onlyFlds [status] s t)) ∧
    (on → wire = 1 → p = 0 → ∃ t, exec (.amonConversion m code moved) s = .next t ∧ t.fld status = (if moved then 2 else 3) ∧
      storeGet 0 t.amonPlain m = 1 + code.toNat + (if moved then 4096 else 0) ∧ t.fld (Reg.MON_AMON_DATA_code m) =
        s.fld (Reg.MON_AMON_DATA_code m)) ∧
    (on → wire = 1 → 0 < p → p ≤ 4096 → moved = false → ∃ t, exec (.amonConversion m code moved) s = .next t ∧
      storeGet 0 t.amonPlain m = 0 ∧
      (code.toNat ≤ p - 1 + 0x200 → good t (p - 1) ∧ t.fld (Reg.MON_AMON_DATA_open m) = 0) ∧
      (p - 1 + 0x200 < code.toNat → t.fld status = 2 ∧ t.fld (Reg.MON_AMON_DATA_open m) = 1 ∧
        t.fld (Reg.MON_AMON_DATA_open_seen m) = 1)) ∧
    (on → wire = 1 → 0 < p → moved = true ∨ 4096 < p → ∃ t, exec (.amonConversion m code moved) s = .next t ∧
      t.fld status = 2 ∧ storeGet 0 t.amonPlain m = 0) ∧
    (¬ on → exec (.amonConversion m code moved) s = .next s)

/-- For every value, path and state: a bit-set alias write makes word | v and a bit-clear one word & ~v of the one word it
names, in supervisor local memory or, from a path that reaches it, the submission buffer; where a plain write is not
permitted the word stays and the write is flagged; on an uncorrectable error the word stays, and in supervisor memory
the core stops, while a corrected one there counts. A write of MBX_CFG sets its fields from the value; an address that
no register occupies, or that the path does not reach, ignores it; a mailbox word takes the enabled bytes, the others
stay (free where the merge meets an uncorrectable error), but in the service area nothing from a host while a flash
request is busy; a partial PCIe write of a register or an alias is flagged alone. A read of a mailbox word shows it,
TICK_COUNT its low word, an unoccupied address 0; the local bus answers its id and boot state always. The local bus
latches the upper half on a low read, fills its buffer on a low write and writes 32 bits at the pointer on a high
write. Doorbells raise their event, message or pending bit; no message is formed while the PCIE domain is not ON; an
unmasked vector with its pending bit set sends one. A PTP message that firmware hands to a port leaves it, stamped
where it is an event message, with UDP checksum 0 where the hardware changes it. (The model's choices: reads and PTP
messages among the targets of this row, log entries 104 and 156; service requests ignored while busy, log entry 28;
events in both cores, log entry 16; which addresses answer in which phase, log entry 96; what an uncorrectable error
does to a mailbox word, log entry 161.) (Derived from 05_delay_memory.md R132, 05_delay_memory.md R133,
17_host_and_control_ports.md R370, 18_register_index.md R384, 17_host_and_control_ports.md R373,
17_host_and_control_ports.md R375, 17_host_and_control_ports.md R371, 17_host_and_control_ports.md R374,
18_register_index.md R385, 14_supervisor_core.md R331, 17_host_and_control_ports.md R369, 13_network_audio_and_time.md
R309.) -/
def Obligations.AliasAndRegisterWritesReachExactlyTheirWord : Prop :=
  ∀ (clear other hi : Bool) (c : Fin 2) (w : BitVec 19) (o : BitVec 23) (h : Half) (v a : Word) (be : BitVec 4) (path : Path)
    (vec : Fin 64) (ecc : Ecc) (m : PtpSend) (s : State),
    let cmd (t : AliasTarget) : Instr := if clear then .bitClearWrite t else .bitSetWrite t
    let holder : Nat := if other then 1 - c.val else c.val
    let old : Half := storeGet 0 (s.core holder).mem w.toNat
    let mem (t : State) : Prop := ∀ i, storeGet 0 (t.core holder).mem i =
      if i = w.toNat then (if clear then old &&& ~~~h else old ||| h) else storeGet 0 (s.core holder).mem i
    let sv (ecc : Ecc) : Instr := cmd (.svMem c other w h ecc)
    let guarded : Prop := w.toNat < (s.core holder).protWords
    let base : Nat := if clear then 0x2000000 else 0x1800000
    let way (a : Nat) : Prop := accessible s path a
    let at' : Nat := base + o.toNat / 4 * 4
    let sub (k : Nat) : Word := storeGet 0 s.subm k
    let k := (o.toNat - 0x7F8000) / 4
    let put (t : WriteTarget) : Instr := .registerWrite t
    let mw := (a.toNat / 4 * 4 - 0x140000) / 4
    let ptr := s.lb.ptr.toNat
    let open' (k : Nat) : Prop := k < 0xF800 ∨ serviceBusy s = false ∨ path = .sv0 ∨ path = .sv1
    let pm := (ptr / 4 * 4 - 0x140000) / 4
    let bus : Prop := c1Done s = true ∧ inMailbox ptr = true ∧ reaches s ptr = true ∧ ptr % 4 = 0 ∧ (pm < 0xF800 ∨ serviceBusy s = false)
    let shows (t : State) (p : Path) (x : Word) : Prop := t = { s with readData := t.readData } ∧ storeGet 0 t.readData (pathNum p) = x
    let sends : Prop := s.fld Reg.SV_STAT_state ≠ 2 ∧ s.domOn 11 = true ∧ s.fld (Reg.NET_PORT_STAT_link m.port) ≠ 0 ∧
      sendsNothing s = false ∧ (s.portCfg 0 m.port).any (fun r => r.byte 2 / 4 % 2 == 1) = true
    let step : Word := if s.lb.autoinc then s.lb.ptr + 4 else s.lb.ptr
    (svRuns s c = true → ¬ guarded →
      (∃ t, exec (sv .clean) s = .next t ∧ mem t ∧ onlyCore holder s t) ∧
      (∃ t, exec (sv .corrected) s = .next t ∧ mem t ∧ t = { s with regs := t.regs, sv := t.sv } ∧ regsKept [Reg.SV_STAT] s t ∧
        t.fld Reg.SV_STAT_ce = min (2 ^ Reg.SV_STAT_ce.w - 1) (s.fld Reg.SV_STAT_ce + 1))) ∧
    (svRuns s c = true → guarded → ∃ t, exec (sv .clean) s = .next t ∧ t.fld Reg.SV_STAT_wp = 1 ∧ onlyFlds [Reg.SV_STAT_wp] s t) ∧
    (svRuns s c = true → s.svStop = none → ∃ t, exec (sv .uncorrectable) s = .next t ∧
      t.svStop = some (c.val, 6, decide guarded) ∧ (t.core holder).mem = (s.core holder).mem ∧ t.regs = s.regs) ∧
    (svRuns s c = false → exec (sv ecc) s = .next s) ∧
    (way at' → 0x7F8000 ≤ o.toNat → ecc ≠ .uncorrectable → ∃ t, exec (cmd (.params path o v 15 ecc)) s = .next t ∧
      t = { s with subm := t.subm } ∧ ∀ i, storeGet 0 t.subm i = if i = k then (if clear then sub k &&& ~~~v else sub k ||| v) else sub i) ∧
    (way at' → 0x7F8000 ≤ o.toNat → exec (cmd (.params path o v 15 .uncorrectable)) s = .next s) ∧
    (way at' → o.toNat < 0x7F8000 → ∃ t, exec (cmd (.params path o v 15 ecc)) s = .next t ∧
      t.fld Reg.CMT_STAT_wr_denied = 1 ∧ onlyFlds [Reg.CMT_STAT_wr_denied] s t) ∧
    (¬ way at' → exec (cmd (.params path o v be ecc)) s = .next s) ∧ (¬ way (a.toNat / 4 * 4) → exec (put (.ctl path a v be ecc)) s = .next s) ∧
    (way at' → path = .pcie → be ≠ 15 → ∃ t, exec (cmd (.params path o v be ecc)) s = .next t ∧
      t.fld Reg.MBX_STAT_width_err = 1 ∧ onlyFlds [Reg.MBX_STAT_width_err] s t) ∧
    (way Reg.MBX_CFG → ∃ t, exec (put (.ctl path 0x100008 v 15)) s = .next t ∧
      (∀ f ∈ [Reg.MBX_CFG_boot_en, Reg.MBX_CFG_boot_vec, Reg.MBX_CFG_host_en, Reg.MBX_CFG_host_vec],
        t.fld f = bitsOf v f.lo f.w) ∧
      onlyFlds [Reg.MBX_CFG_boot_en, Reg.MBX_CFG_boot_vec, Reg.MBX_CFG_host_en, Reg.MBX_CFG_host_vec] s t) ∧
    (way Reg.MBX_CFG → path = .pcie → be ≠ 15 → ∃ t, exec (put (.ctl path 0x100008 v be)) s = .next t ∧
      t.fld Reg.MBX_STAT_width_err = 1 ∧ onlyFlds [Reg.MBX_STAT_width_err] s t) ∧
    (regRow (a.toNat / 4 * 4) = none → inMailbox (a.toNat / 4 * 4) = false → inParams (a.toNat / 4 * 4) = false →
      inAlias (a.toNat / 4 * 4) = false → exec (put (.ctl path a v be)) s = .next s) ∧
    (way (a.toNat / 4 * 4) → inMailbox (a.toNat / 4 * 4) = true → ¬ open' mw → exec (put (.ctl path a v be ecc)) s = .next s) ∧
    (way (a.toNat / 4 * 4) → inMailbox (a.toNat / 4 * 4) = true → open' mw → path = .pcie → ∃ t, exec (put (.ctl path a v be ecc)) s = .next t ∧
      t = { s with mbx := t.mbx, freeCtr := t.freeCtr } ∧ (ecc ≠ .uncorrectable → t.freeCtr = s.freeCtr) ∧
      (∀ i, i ≠ mw → mbxRead t i = mbxRead s i) ∧ ∀ j : Fin 4, (be.getLsbD j = true → bitsOf (mbxRead t mw) (8 * j) 8 = bitsOf v (8 * j) 8) ∧
        (be.getLsbD j = false → ecc ≠ .uncorrectable → bitsOf (mbxRead t mw) (8 * j) 8 = bitsOf (mbxRead s mw) (8 * j) 8)) ∧
    (way (a.toNat / 4 * 4) → inMailbox (a.toNat / 4 * 4) = true → ecc ≠ .uncorrectable → ∃ t, exec (put (.ctlRead path a ecc)) s = .next t ∧
      shows t path (mbxRead s mw)) ∧
    (path ≠ .pcie → reaches s (a.toNat / 4 * 4) = false → ∃ t, exec (put (.ctlRead path a ecc)) s = .next t ∧ shows t path 0) ∧
    (way Reg.TICK_COUNT0 → ∃ t, exec (put (.ctlRead path (BitVec.ofNat 32 Reg.TICK_COUNT0) .clean)) s = .next t ∧
      storeGet 0 t.readData (pathNum path) = BitVec.ofNat 32 s.tick ∧ storeGet 0 t.tickHold (holdNum path) = BitVec.ofNat 32 (s.tick / 2 ^ 32)) ∧
    (pcieOn s = true → ∃ t, exec (put (.msixRead vec 2)) s = .next t ∧ shows t .pcie (storeGet (0, 0) s.msix.ents vec).2) ∧
    (pcieOn s = true → ∃ t, exec (put (.pbaRead (decide (32 ≤ vec.val)))) s = .next t ∧ t = { s with readData := t.readData } ∧
      (storeGet 0 t.readData (pathNum .pcie)).getLsbD (vec.val % 32) = s.msix.pend.contains vec.val) ∧
    (pcieOn s = false → exec (put (.msixRead vec 2)) s = .next s ∧ exec (put (.pbaRead hi)) s = .next s ∧ exec (put (.pageRead 0 0)) s = .next s ∧
      exec (put (.msix vec 2 v)) s = .next s ∧ exec (.msixUnmask vec) s = .next s) ∧
    (∃ t, exec (put (.lbRead 0 (.alone .clean))) s = .next t ∧ storeGet 0 t.readData (pathNum .lb) = 0x7720) ∧
    (∃ t, exec (put (.lbRead 1 (.alone .clean))) s = .next t ∧ bitsOf (storeGet 0 t.readData (pathNum .lb)) 0 3 = s.boot % 8) ∧
    (sends → ∃ t f, exec (put (.ptp m)) s = .next t ∧ t = { s with net := { s.net with ptpOut := s.net.ptpOut ++ [f] }, sv := t.sv } ∧
      f.port = m.port.val ∧ f.dst = m.dst ∧ f.udp = (if m.event then 319 else 320) ∧ f.noSum = (m.step != .twoStep) ∧
      (m.step = .twoStep → f.body = m.body) ∧ f.stamp = (if m.event then some (ptpStamp s m.port m.ns.toNat) else none) ∧
      (m.event = true → ∀ j : Fin 2, (t.core j).evt = (s.core j).evt ||| 8) ∧ (m.event = false → t.sv = s.sv)) ∧
    (¬ sends → exec (put (.ptp m)) s = .next s) ∧
    (way (a.toNat / 4 * 4) → inMailbox (a.toNat / 4 * 4) = true → open' mw → ∃ t, exec (put (.ctl path a v 15)) s = .next t ∧
      t = { s with mbx := t.mbx } ∧ ∀ i, mbxRead t i = if i = mw then v else mbxRead s i) ∧
    (bus → (∃ t, exec (.lbDataLoRead false (.alone .clean)) s = .next t ∧ t.lb.hold = (mbxRead s pm >>> 16).setWidth 16 ∧
        storeGet 0 t.readData 3 = mbxRead s pm &&& 0xFFFF ∧ t = { s with lb := t.lb, readData := t.readData }) ∧
      (∃ t, exec (.lbDataLoRead true (.alone .clean)) s = .next t ∧ storeGet 0 t.readData 3 = mbxRead s pm >>> 16 ∧ t.lb.ptr = step) ∧
      (∃ t, exec (.lbDataHiWrite h (.alone .clean)) s = .next t ∧ t = { s with lb := t.lb, mbx := t.mbx } ∧
        t.lb = { s.lb with wbuf := 0, busy := false, ptr := step } ∧
        ∀ i, mbxRead t i = if i = pm then (h.setWidth 32 <<< 16) ||| s.lb.wbuf.setWidth 32 else mbxRead s i)) ∧
    (c1Done s = true → exec (.lbDataLoWrite h) s = .next { s with lb := { s.lb with wbuf := h, busy := false } }) ∧
    (c1Done s = false → exec (.lbDataLoWrite h) s = .next s ∧ exec (.lbDataLoRead hi (.alone .clean)) s = .next s ∧
      exec (.lbDataHiWrite h (.alone .clean)) s = .next s) ∧
    (accessible s path Reg.MBX_DB → ∀ q ∈ [(Path.pcie, (2 : Half)), (.lb, 4)], q.1 = path → ∃ t, exec (.mbxDbSv q.1) s = .next t ∧ t = { s with sv := t.sv } ∧
      ∀ j : Fin 2, (t.core j).evt = (s.core j).evt ||| q.2) ∧
    (reaches s Reg.MBX_DB = true → s.fld Reg.MBX_CFG_host_en = 1 → s.domOn 12 = true → storeGet false s.msix.open' (s.fld Reg.MBX_CFG_host_vec) = true → exec .mbxDbHost s =
      .next { s with msix := { s.msix with sent := s.msix.sent ++ [s.fld Reg.MBX_CFG_host_vec] } }) ∧
    (s.fld Reg.MBX_CFG_host_en = 0 ∨ s.domOn 12 = false ∨ reaches s Reg.MBX_DB = false → exec .mbxDbHost s = .next s) ∧
    (reaches s Reg.MBX_DB = true → s.fld Reg.MBX_CFG_host_en = 1 → s.domOn 12 = true → storeGet false s.msix.open' (s.fld Reg.MBX_CFG_host_vec) = false → ∃ t, exec .mbxDbHost s = .next t ∧
      s.fld Reg.MBX_CFG_host_vec ∈ t.msix.pend ∧ t = { s with msix := { s.msix with pend := t.msix.pend } }) ∧
    (∀ p ∈ [Path.sv0, .sv1], exec (.mbxDbSv p) s = .next s) ∧ (¬ accessible s path Reg.MBX_DB → exec (.mbxDbSv path) s = .next s) ∧
    (c1Done s = true → exec (put (.lb 8 h (.alone .clean))) s = .next { s with lb := { s.lb with busy := false, mask := h.setWidth 4 } }) ∧
    (pcieOn s = true → exec (put (.msix vec 2 v)) s = .next { s with msix := { s.msix with
      ents := storeSet (0, 0) s.msix.ents vec ((storeGet (0, 0) s.msix.ents vec).1, v) } }) ∧
    (reaches s Reg.MBX_DB = true → exec .mbxDbLb s = .next { s with lb := { s.lb with svDb := true } }) ∧
    (reaches s Reg.MBX_DB = false → exec .mbxDbLb s = .next s) ∧
    (pcieOn s = true → ∃ t, exec (.msixUnmask vec) s = .next t ∧ t = { s with msix := t.msix } ∧ storeGet false t.msix.open' vec = true ∧
      t.msix.sent = (if vec.val ∈ s.msix.pend then s.msix.sent ++ [vec.val] else s.msix.sent) ∧ vec.val ∉ t.msix.pend ∧
      ∀ x, x ≠ vec.val → (x ∈ t.msix.pend ↔ x ∈ s.msix.pend))

/-- For every cluster and state: MEM_CNT_CLR, CMT_CNT_CLR, PWR_CNT_CLR, ENG_CNT_CLR, ENG_LOG_CLR, TDM_CNT_CLR,
AES_CNT_CLR, QS_CNT_CLR, DMA_CNT_CLR, SES_CNT_CLR and THN_LOG_CLR each make exactly the counters and logs of their
clear bit 0 and leave every other field of every register and the rest of the device as they are, FLG and the samples
included; MON_PEAK_CLR returns the peak temperature to its reset value; NET_CNT_CLR makes the ports' and the streams'
counts 0; each of them only where the register of its clear bit is reached, and otherwise nothing. (Derived from
05_delay_memory.md R117, 07_parameters_and_commit.md R177, 16_power_and_monitoring.md R354, 16_power_and_monitoring.md
R363, 03_engine_datapath.md, 13_network_audio_and_time.md R299, 12_serial_audio_ports.md R288,
12_serial_audio_ports.md R290, 12_serial_audio_ports.md R295, 15_dma.md R341, 17_host_and_control_ports.md R380,
09_partitions_and_thorn.md R228.) -/
def Obligations.CounterClearsZeroTheirFieldsAlone : Prop :=
  ∀ (c : ClNo) (s : State),
    let whole (a : Nat) : Fld := ⟨a, 0, 32⟩
    (∀ q ∈ [(Instr.memCntClr, Reg.MEM_CTL, [Reg.MEM_DRAM_STAT_link_ce, Reg.MEM_DRAM_STAT_retry, whole Reg.MEM_DRAM_CONFLICT] ++
          (List.range 8).map (fun i => whole (Reg.MEM_CONFLICT i)) ++ (List.range 8).map Reg.MEM_DLY_ECC_ce),
        (.cmtCntClr, Reg.CMT_CTL, [Reg.CMT_GC_STAT_timeouts]),
        (.pwrCntClr, Reg.PWR_CTL, Reg.PWR_SIL_STAT_overlap ::
          (List.range 17).flatMap (fun d => (List.range 3).map (fun k => whole (Reg.PWR_RESID d k)))),
        (.engCntClr c, Reg.ENG_CTL c, [whole (Reg.ENG_ECC_CNT c), Reg.ENG_SCRUB_wbq_drop c]),
        (.engLogClr c, Reg.ENG_CTL c, (List.range 16).map (fun i => whole (Reg.ENG_FLAGS c i))),
        (.tdmCntClr, Reg.TDM_CTL, (List.range 4).map Reg.TDM_GSTAT_fs_err),
        (.aesCntClr, Reg.AES_CTL, (List.range 8).map Reg.AES_RX_STAT_par_err ++ (List.range 8).map Reg.AES_RX_STAT_bp_err),
        (.qsCntClr, Reg.QS_CTL, Reg.QS_STAT_fs_err :: (List.range 16).map Reg.QS_LANE_STAT_frame_err ++
          (List.range 16).map Reg.QS_LANE_STAT_seq_err),
        (.dmaCntClr, Reg.DMA_CTL, Reg.DMA_GSTAT_stops :: (List.range 32).map Reg.DMA_CH_STAT_req_over),
        (.sesCntClr, Reg.SES_CFG, [whole Reg.SES_CNT0, whole Reg.SES_CNT1]),
        (.thnLogClr, Reg.THN_CTL, whole Reg.THN_TRIP_WP :: (List.range 16).map Reg.THN_TRIP_LOG1_valid)],
      (reaches s q.2.1 = true → ∃ t, exec q.1 s = .next t ∧ (∀ f ∈ q.2.2, t.fld f = 0) ∧ onlyFlds q.2.2 s t) ∧
      (reaches s q.2.1 = false → exec q.1 s = .next s)) ∧
    (reaches s Reg.MON_THERM_CTL = false → exec .monPeakClr s = .next s) ∧ (reaches s Reg.NET_CTL = false → exec .netCntClr s = .next s) ∧
    (reaches s Reg.MON_THERM_CTL = true → ∃ t, exec .monPeakClr s = .next t ∧ t.reg Reg.MON_TJ_MAX = State.reset.reg Reg.MON_TJ_MAX ∧ onlyRegs [Reg.MON_TJ_MAX] s t) ∧
    (reaches s Reg.NET_CTL = true → ∃ t, exec .netCntClr s = .next t ∧ t.net = { s.net with counts := [] } ∧
      (∀ p : Fin 4, t.fld (Reg.NET_PORT_STAT_rx_drop p) = 0 ∧ t.fld (Reg.NET_PORT_STAT_crc_err p) = 0 ∧
        t.fld (Reg.NET_PORT_STAT_mode p) = s.fld (Reg.NET_PORT_STAT_mode p)) ∧
      t = { s with regs := t.regs, net := t.net })

/-- For every page, values and state: enabling a page of a declared partition that is not enabled sets irq_en and the
assigned ring sizes and, where both rings lie in the partition's host window, en and the four offsets 0, else win_err;
an enabled page stays. Disabling one clears en and stops the rings. A tail write sets tx_tail to its bits 19:4; a page
of no declared partition, and any page while the endpoint does not run, ignores all of these. A request frame is taken
from tx_head while rings run, none waits for an answer and tx_tail is elsewhere; one whose length is below 32 or that
reaches past tx_tail or the ring's end sets fmt_err and stops the rings. The first answer that waits is written at
rx_tail, padded to 16 bytes, once it fits: rx_tail moves on, the answer waits no longer and, with irq_en, one message
goes out; rings that do not run, or no room, leave it waiting. Other pages stay. (The model's choices: one 16-byte
unit of an answer ring stays free, and PAD frames at a ring's end, log entry 41; tx_tail keeps bits 19:4, of which
those below the ring size count, and a ring size above 8 is ignored, log entry 162.) (Derived from
17_host_and_control_ports.md R370, 17_host_and_control_ports.md R371, 17_host_and_control_ports.md R372,
17_host_and_control_ports.md Table 17.3, 17_host_and_control_ports.md R369.) -/
def Obligations.DoorbellPagesRunTheirRings : Prop :=
  ∀ (p : Fin 256) (irq : Bool) (rx tx : BitVec 4) (v : Word) (b : List Byte) (s : State),
    let q := s.page p
    let live : Prop := (s.part p).isSome = true ∧ pcieOn s = true
    let set : Page := { q with irqEn := irq, rxLog2 := if rx.toNat < 9 then rx.toNat else q.rxLog2,
                               txLog2 := if tx.toNat < 9 then tx.toNat else q.txLog2 }
    let fits : Prop := inHostWin s p q.txBase.toNat (4096 * 2 ^ set.txLog2) = true ∧
      inHostWin s p q.rxBase.toNat (4096 * 2 ^ set.rxLog2) = true
    let becomes (i : Instr) (x : Page) : Prop := ∃ t, exec i s = .next t ∧ t = { s with pages := t.pages } ∧ t.page p = x ∧
      ∀ j, j ≠ p.val → t.page j = s.page j
    let n := 4096 * 2 ^ q.rxLog2
    let runs : Prop := q.run = true ∧ s.domOn 12 = true
    let size := 4096 * 2 ^ q.txLog2
    let len := frameNat b 2 2
    let limit := if q.txHead < q.txTail % size then q.txTail % size else size
    let taken : Instr := if frameNat b 1 1 = 0 then .openReq (.bell p b) else .audonFrameVerified (.bell p b)
    let ready : Prop := runs ∧ (s.part p).isSome = true ∧ sesOn s = true ∧ q.txHead ≠ q.txTail % size ∧
      s.bellOut.any (fun a => a.part == p.val) = false
    let waiting := s.bellOut.find? (fun a => a.part == p.val)
    let vec := bitsOf (storeGet {} s.hostWins p : HostWin).cfg 24 6
    (live → q.en = false → fits → becomes (.doorbellEnable p irq rx tx)
      { set with en := true, run := true, txTail := 0, txHead := 0, rxTail := 0, rxHead := 0 }) ∧
    (live → q.en = false → ¬ fits → becomes (.doorbellEnable p irq rx tx) { set with winErr := true }) ∧
    (q.en = true ∨ ¬ live → exec (.doorbellEnable p irq rx tx) s = .next s) ∧
    (live → q.en = true → becomes (.doorbellDisable p irq rx tx) { q with en := false, run := false }) ∧
    (live → q.en = false → becomes (.doorbellDisable p irq rx tx) set) ∧
    (live → becomes (.doorbellTxTail p v) { q with txTail := bitsOf v 4 16 * 16 }) ∧
    (¬ live → exec (.doorbellDisable p irq rx tx) s = .next s ∧ exec (.doorbellTxTail p v) s = .next s) ∧
    (ready → len < 32 ∨ limit < q.txHead + len → becomes taken { q with fmtErr := true, en := false, run := false }) ∧
    (ready → 32 ≤ len → q.txHead + len ≤ limit → frameNat b 1 1 = 0 ∨ (frameNat b 1 1 = 2 ∧ storeFind s.sessions (frameNat b 4 2) = none) →
      ∃ t, exec taken s = .next t ∧ t.page p = { q with txHead := (q.txHead + (len + 15) / 16 * 16) % size } ∧
        t.sessions = s.sessions ∧ t.groups = s.groups) ∧
    (¬ ready → exec taken s = .next s) ∧
    (∀ a, runs → waiting = some a → let len := ((answerFrame a).length + 15) / 16 * 16
      q.rxTail + len ≤ n → len ≤ rxRoom q → ∃ t, exec (.answerWrite p) s = .next t ∧ t.bellOut = s.bellOut.erase a ∧
        t.dma.host = s.dma.host ++ [(q.rxBase.toNat + q.rxTail,
          answerFrame a ++ List.replicate (len - (answerFrame a).length) 0)] ∧
        t.page p = { q with rxTail := (q.rxTail + len) % n } ∧
        (q.irqEn = true → storeGet false s.msix.open' vec = true → t.msix.sent = s.msix.sent ++ [vec]) ∧
        (q.irqEn = false → t.msix = s.msix) ∧
        t = { s with pages := t.pages, bellOut := t.bellOut, dma := t.dma, msix := t.msix }) ∧
    (∀ a, waiting = some a → rxRoom q < (answerFrame a).length → exec (.answerWrite p) s = .next s) ∧
    (¬ runs ∨ waiting = none → exec (.answerWrite p) s = .next s)

/-- For every state in which sessions are served: an authentic UDP OPEN_REQ is held, shown and raises event 5, or counts
in open_drop when 256 are held; one that is not counts in auth_fail. With firmware running the oldest is answered with
R378's status, and only ACCEPTED opens the lowest free number with its epoch increased. A request held for 2 s is
dropped and counted, no younger one. A frame for no open session of its partition and transport counts in auth_fail
alone; one that fails its tag or number is answered REFUSED_AUTH with its number; a good one is handed to its
operation. A session idle for SES_CFG.idle ms ends, if that is not 0. A key write or erase from PCIe or the local bus
in RUN or WAIT_HOST starts, or is refused and changes nothing else, and none is taken from the supervisor or where the
register is not reached; its end sets the slot, clears the data, ends the partition's sessions and discards its held
requests, each counted in auth_fail. (The model's choices: events in both cores, log entry 16; milliseconds counted by
ticks, log entry 76; a malformed header counts in auth_fail, log entry 86; op 0x80 in REFUSED_AUTH, log entry 87;
sessions end when the key write is done, log entry 92; held requests discarded then, log entry 160.) (Derived from
17_host_and_control_ports.md R377, 17_host_and_control_ports.md R378, 17_host_and_control_ports.md R379,
17_host_and_control_ports.md R380, 17_host_and_control_ports.md R381, 17_host_and_control_ports.md R382,
17_host_and_control_ports.md R383.) -/
def Obligations.SessionsOpenAuthenticateAndEnd : Prop :=
  ∀ (n : Fin 4096) (slot : Fin 256) (path : Path) (s : State),
    let served : Prop := s.boot = bootLoad ∨ s.boot = bootRipening ∨ s.boot = bootRun
    let counted (g : Fld) (t : State) : Prop := t.fld g = min 65535 (s.fld g + 1)
    let fromNet (t : State) (r : List (Nat × Nat × List Byte)) : Prop := t.net = { s.net with audonIn := r }
    (∀ a r, served → s.net.audonIn = a :: r → frameNat a.2.2 1 1 = 0 →
      let f : Inbound := ⟨a.1, false, a.2.1, a.2.2⟩
      (openOk s f = true → s.openReqs.length < 256 → ∃ t, exec (.openReq .udp) s = .next t ∧ fromNet t r ∧
        (∃ q, t.openReqs = s.openReqs ++ [q] ∧ q.part = a.1 ∧ q.bell = false ∧ q.addr = a.2.1 ∧ q.ms = 0) ∧
        t.fld Reg.SES_STAT_open_pend = s.openReqs.length + 1 ∧ t.sessions = s.sessions ∧
        ∀ j : Fin 2, (t.core j).evt = (s.core j).evt ||| 0x20) ∧
      (openOk s f = true → 256 ≤ s.openReqs.length → ∃ t, exec (.openReq .udp) s = .next t ∧ fromNet t r ∧
        counted Reg.SES_CNT1_open_drop t ∧ t.openReqs = s.openReqs) ∧
      (openOk s f = false → ∃ t, exec (.openReq .udp) s = .next t ∧ fromNet t r ∧ counted Reg.SES_CNT0_auth_fail t ∧
        t.openReqs = s.openReqs ∧ t.sessions = s.sessions)) ∧
    (¬ served → exec (.openReq .udp) s = .next s ∧ exec (.audonFrameVerified .udp) s = .next s) ∧
    (∀ q rest, s.openReqs = q :: rest → s.fld Reg.SV_STAT_state = 1 →
      let m := ((s.part q.part).map (·.maxSessions)).getD 0
      let st := if s.boot ≠ bootRun then 7 else if m = 0 then 2
        else if m ≤ (s.sessions.filter (fun e => e.2.part == q.part)).length ∨ 4096 ≤ s.sessions.length then 1 else 0
      ∃ t a, exec .openDecision s = .next t ∧ t.openReqs = rest ∧ a.reply.status = st ∧ a.part = q.part ∧ a.addr = q.addr ∧
        (q.bell = true → t.bellOut = s.bellOut ++ [a] ∧ t.udpOut = s.udpOut) ∧
        (q.bell = false → t.udpOut = s.udpOut ++ [a] ∧ t.bellOut = s.bellOut) ∧
        (st ≠ 0 → t.sessions = s.sessions ∧ t.epochs = s.epochs ∧ a.session = 0xFFFF ∧ a.epoch = 0) ∧
        (st = 0 → storeFind s.sessions a.session = none ∧ (∀ k, k < a.session → (storeFind s.sessions k).isSome = true) ∧
          a.epoch = (storeGet 0 s.epochs a.session + 1) % 65536 ∧ storeGet 0 t.epochs a.session = a.epoch ∧
          (∃ e, storeFind t.sessions a.session = some e ∧ e.part = q.part ∧ e.epoch = a.epoch ∧ e.high = 0 ∧ e.txSeq = 0 ∧
            e.bell = q.bell ∧ e.kOut = a.key) ∧
          ∀ k, k ≠ a.session → storeFind t.sessions k = storeFind s.sessions k)) ∧
    (s.openReqs = [] ∨ s.fld Reg.SV_STAT_state ≠ 1 → exec .openDecision s = .next s) ∧
    (∀ q rest, s.openReqs = q :: rest → (2000 ≤ q.ms → ∃ t, exec .openRequestTimeout s = .next t ∧ t.openReqs = rest ∧
        counted Reg.SES_CNT1_open_drop t ∧ t.sessions = s.sessions) ∧
      (q.ms < 2000 → exec .openRequestTimeout s = .next s)) ∧
    (s.openReqs = [] → exec .openRequestTimeout s = .next s) ∧
    (∀ a r, served → s.net.audonIn = a :: r → frameNat a.2.2 1 1 ≠ 0 →
      let b := a.2.2
      let f : Inbound := ⟨a.1, false, a.2.1, b⟩
      let q := frameNat b 8 8
      let k := frameNat b 4 2
      let u : State := { s with net := { s.net with audonIn := r } }
      (headerOk f 2 = false ∨ storeFind s.sessions k = none → ∃ t, exec (.audonFrameVerified .udp) s = .next t ∧ fromNet t r ∧
        counted Reg.SES_CNT0_auth_fail t ∧ t.sessions = s.sessions ∧ t.udpOut = s.udpOut ∧ t.groups = s.groups) ∧
      (∀ e, headerOk f 2 = true → storeFind s.sessions k = some e → e.part ≠ a.1 ∨ e.bell = true →
        ∃ t, exec (.audonFrameVerified .udp) s = .next t ∧ fromNet t r ∧ counted Reg.SES_CNT0_auth_fail t ∧
          t.sessions = s.sessions ∧ t.udpOut = s.udpOut) ∧
      ∀ e, headerOk f 2 = true → storeFind s.sessions k = some e → e.part = a.1 → e.bell = false →
        let good := gcmTag (keyOf e.kIn) (frameNonce q) (b.take 16) ((b.take (b.length - 16)).drop 16) == b.drop (b.length - 16) &&
          seqFresh e q
        (good = false → ∃ t, exec (.audonFrameVerified .udp) s = .next t ∧ counted Reg.SES_CNT0_auth_fail t ∧
          answered s t k e 128 0 { status := 6, arg := q % 2 ^ 32 } ∧ t.groups = s.groups ∧ t.leases = s.leases) ∧
        (good = true → exec (.audonFrameVerified .udp) s = .next (reqAccepted u k e f q))) ∧
    (∀ e, storeFind s.sessions n = some e →
      (s.fld Reg.SES_CFG_idle ≠ 0 → s.fld Reg.SES_CFG_idle ≤ e.idle → ∃ t, exec (.sessionIdleTimeout n) s = .next t ∧
        t.sessions = (if e.ending then s.sessions else storeIns n { e with ending := true } s.sessions) ∧ t.leases = s.leases) ∧
      (s.fld Reg.SES_CFG_idle = 0 ∨ e.idle < s.fld Reg.SES_CFG_idle → exec (.sessionIdleTimeout n) s = .next s)) ∧
    (storeFind s.sessions n = none → exec (.sessionIdleTimeout n) s = .next s) ∧
    (∀ q ∈ [(Instr.keyWrite path slot, (⟨stagedKey s, s.reg Reg.SES_KEY_ID, true⟩ : KeySlot)), (.keyErase path slot, {})],
      let takes : Prop := (s.boot = bootRun ∨ s.boot = bootWaitHost) ∧ s.keyOp = none
      (path = .pcie ∨ path = .lb → accessible s path Reg.SES_KEY_CTL → takes → ∃ t, exec q.1 s = .next t ∧ t.keyOp = some (slot.val, q.2) ∧
        t.fld Reg.SES_KEY_CTL_busy = 1 ∧ t = { s with regs := t.regs, keyOp := t.keyOp } ∧ regsKept [Reg.SES_KEY_CTL] s t) ∧
      (path = .pcie ∨ path = .lb → accessible s path Reg.SES_KEY_CTL → ¬ takes → ∃ t, exec q.1 s = .next t ∧
        t.fld Reg.SES_KEY_CTL_refused = 1 ∧ onlyFlds [Reg.SES_KEY_CTL_refused] s t) ∧
      (¬ accessible s path Reg.SES_KEY_CTL → exec q.1 s = .next s) ∧
      (path = .sv0 ∨ path = .sv1 → exec q.1 s = .next s)) ∧
    (∀ p k, s.keyOp = some (p, k) → ∃ t, exec .keyWriteDone s = .next t ∧ t.keys = storeSet {} s.keys p k ∧ t.keyOp = none ∧
      t.fld Reg.SES_KEY_CTL_busy = 0 ∧ (∀ i : Fin 8, t.reg (Reg.SES_KEY_DATA i) = 0) ∧
      t.openReqs = s.openReqs.filter (fun r => r.part != p) ∧
      t.fld Reg.SES_CNT0_auth_fail = min 65535 (s.fld Reg.SES_CNT0_auth_fail + (s.openReqs.filter (fun r => r.part == p)).length) ∧
      (∀ x e, storeFind t.sessions x = some e → e.part = p → (∃ y, (x, y) ∈ s.sessions ∧ y.part = p) → e.ending = true)) ∧
    (s.keyOp = none → exec .keyWriteDone s = .next s)

/-- For every word v there is a number n, at most 31, that counts the consecutive bits from bit 30 downwards which equal
bit 31; it is 31 for 0 and for 0xFFFF_FFFF. For every engine and state in which the A slot may issue with v in Vd, EXP
puts n in flight to Vd at distance 1, and NORM the word whose value is v times 2 to the n: the product lies within 32
bits, and it is 0 for v = 0 and 0x8000_0000 for v = 0xFFFF_FFFF. (R59.) -/
def Obligations.ExponentOfAWordCountsItsSignBits : Prop :=
  ∀ v : Word, ∃ n : Nat, n ≤ 31 ∧ (∀ i, 31 - n ≤ i → i ≤ 30 → v.getLsbD i = v.getLsbD 31) ∧
    (n < 31 → v.getLsbD (30 - n) ≠ v.getLsbD 31) ∧ (v = 0 ∨ v = 0xFFFFFFFF → n = 31) ∧
    ∃ w : Word, w.toInt = v.toInt * 2 ^ n ∧ (v = 0 → w = 0) ∧ (v = 0xFFFFFFFF → w = 0x80000000) ∧
      ∀ (e : EngNo) (vd : VNo) (s : State),
        let x := (fetched s e [.a]).engine e
        let put (u : Word) : State := afterIssue s e [.a] 1 [.wrV .a (physReg x.rrb vd.val) u]
        x.rd vd.val = v → (slotFree s e (.exp e vd) [.a] = true → exec (.exp e vd) s = .next (put (BitVec.ofNat 32 n))) ∧
          (slotFree s e (.norm e vd) [.a] = true → exec (.norm e vd) s = .next (put w))
end

