-- ==== Sys2Proof/Laws/State.lean ====
section
/-!
SUPPORT. Laws/State.lean: one lemma per field per update of the state, each true by unfolding, so that no proof unfolds a
record update. (`Eq.trans rfl rfl` and not `rfl`, so that simp rewrites with it by congruence and the kernel need not unfold
a register store to check the step.)
-/
namespace Sys2Proof.Machine

/-! ### State.setReg -/

@[simp] theorem State.setReg_pending (s : State) (a : Nat) (v : Word) : (s.setReg a v).pending = s.pending := Eq.trans rfl rfl
@[simp] theorem State.setReg_freeCtr (s : State) (a : Nat) (v : Word) : (s.setReg a v).freeCtr = s.freeCtr := Eq.trans rfl rfl
@[simp] theorem State.setReg_tick (s : State) (a : Nat) (v : Word) : (s.setReg a v).tick = s.tick := Eq.trans rfl rfl
@[simp] theorem State.setReg_tickOn (s : State) (a : Nat) (v : Word) : (s.setReg a v).tickOn = s.tickOn := Eq.trans rfl rfl
@[simp] theorem State.setReg_tickHold (s : State) (a : Nat) (v : Word) : (s.setReg a v).tickHold = s.tickHold := Eq.trans rfl rfl
@[simp] theorem State.setReg_eng (s : State) (a : Nat) (v : Word) : (s.setReg a v).eng = s.eng := Eq.trans rfl rfl
@[simp] theorem State.setReg_hops (s : State) (a : Nat) (v : Word) : (s.setReg a v).hops = s.hops := Eq.trans rfl rfl
@[simp] theorem State.setReg_str (s : State) (a : Nat) (v : Word) : (s.setReg a v).str = s.str := Eq.trans rfl rfl
@[simp] theorem State.setReg_locked (s : State) (a : Nat) (v : Word) : (s.setReg a v).locked = s.locked := Eq.trans rfl rfl
@[simp] theorem State.setReg_pstA (s : State) (a : Nat) (v : Word) : (s.setReg a v).pstA = s.pstA := Eq.trans rfl rfl
@[simp] theorem State.setReg_pstB (s : State) (a : Nat) (v : Word) : (s.setReg a v).pstB = s.pstB := Eq.trans rfl rfl
@[simp] theorem State.setReg_qsA (s : State) (a : Nat) (v : Word) : (s.setReg a v).qsA = s.qsA := Eq.trans rfl rfl
@[simp] theorem State.setReg_qsB (s : State) (a : Nat) (v : Word) : (s.setReg a v).qsB = s.qsB := Eq.trans rfl rfl
@[simp] theorem State.setReg_gcA (s : State) (a : Nat) (v : Word) : (s.setReg a v).gcA = s.gcA := Eq.trans rfl rfl
@[simp] theorem State.setReg_gcB (s : State) (a : Nat) (v : Word) : (s.setReg a v).gcB = s.gcB := Eq.trans rfl rfl
@[simp] theorem State.setReg_subm (s : State) (a : Nat) (v : Word) : (s.setReg a v).subm = s.subm := Eq.trans rfl rfl
@[simp] theorem State.setReg_groups (s : State) (a : Nat) (v : Word) : (s.setReg a v).groups = s.groups := Eq.trans rfl rfl
@[simp] theorem State.setReg_leases (s : State) (a : Nat) (v : Word) : (s.setReg a v).leases = s.leases := Eq.trans rfl rfl
@[simp] theorem State.setReg_leaseSerial (s : State) (a : Nat) (v : Word) : (s.setReg a v).leaseSerial = s.leaseSerial := Eq.trans rfl rfl
@[simp] theorem State.setReg_broken (s : State) (a : Nat) (v : Word) : (s.setReg a v).broken = s.broken := Eq.trans rfl rfl
@[simp] theorem State.setReg_cells (s : State) (a : Nat) (v : Word) : (s.setReg a v).cells = s.cells := Eq.trans rfl rfl
@[simp] theorem State.setReg_remembered (s : State) (a : Nat) (v : Word) : (s.setReg a v).remembered = s.remembered := Eq.trans rfl rfl
@[simp] theorem State.setReg_partOps (s : State) (a : Nat) (v : Word) : (s.setReg a v).partOps = s.partOps := Eq.trans rfl rfl
@[simp] theorem State.setReg_age (s : State) (a : Nat) (v : Word) : (s.setReg a v).age = s.age := Eq.trans rfl rfl
@[simp] theorem State.setReg_delay (s : State) (a : Nat) (v : Word) : (s.setReg a v).delay = s.delay := Eq.trans rfl rfl
@[simp] theorem State.setReg_dram (s : State) (a : Nat) (v : Word) : (s.setReg a v).dram = s.dram := Eq.trans rfl rfl
@[simp] theorem State.setReg_sessions (s : State) (a : Nat) (v : Word) : (s.setReg a v).sessions = s.sessions := Eq.trans rfl rfl
@[simp] theorem State.setReg_epochs (s : State) (a : Nat) (v : Word) : (s.setReg a v).epochs = s.epochs := Eq.trans rfl rfl
@[simp] theorem State.setReg_openReqs (s : State) (a : Nat) (v : Word) : (s.setReg a v).openReqs = s.openReqs := Eq.trans rfl rfl
@[simp] theorem State.setReg_bellOut (s : State) (a : Nat) (v : Word) : (s.setReg a v).bellOut = s.bellOut := Eq.trans rfl rfl
@[simp] theorem State.setReg_udpOut (s : State) (a : Nat) (v : Word) : (s.setReg a v).udpOut = s.udpOut := Eq.trans rfl rfl
@[simp] theorem State.setReg_held (s : State) (a : Nat) (v : Word) : (s.setReg a v).held = s.held := Eq.trans rfl rfl
@[simp] theorem State.setReg_faultStart (s : State) (a : Nat) (v : Word) : (s.setReg a v).faultStart = s.faultStart := Eq.trans rfl rfl
@[simp] theorem State.setReg_faultLoad (s : State) (a : Nat) (v : Word) : (s.setReg a v).faultLoad = s.faultLoad := Eq.trans rfl rfl
@[simp] theorem State.setReg_floated (s : State) (a : Nat) (v : Word) : (s.setReg a v).floated = s.floated := Eq.trans rfl rfl
@[simp] theorem State.setReg_hold (s : State) (a : Nat) (v : Word) : (s.setReg a v).hold = s.hold := Eq.trans rfl rfl
@[simp] theorem State.setReg_nv (s : State) (a : Nat) (v : Word) : (s.setReg a v).nv = s.nv := Eq.trans rfl rfl
@[simp] theorem State.setReg_otp (s : State) (a : Nat) (v : Word) : (s.setReg a v).otp = s.otp := Eq.trans rfl rfl
@[simp] theorem State.setReg_otpNext (s : State) (a : Nat) (v : Word) : (s.setReg a v).otpNext = s.otpNext := Eq.trans rfl rfl
@[simp] theorem State.setReg_strap (s : State) (a : Nat) (v : Word) : (s.setReg a v).strap = s.strap := Eq.trans rfl rfl
@[simp] theorem State.setReg_gens (s : State) (a : Nat) (v : Word) : (s.setReg a v).gens = s.gens := Eq.trans rfl rfl
@[simp] theorem State.setReg_save (s : State) (a : Nat) (v : Word) : (s.setReg a v).save = s.save := Eq.trans rfl rfl
@[simp] theorem State.setReg_phases (s : State) (a : Nat) (v : Word) : (s.setReg a v).phases = s.phases := Eq.trans rfl rfl
@[simp] theorem State.setReg_msFrac (s : State) (a : Nat) (v : Word) : (s.setReg a v).msFrac = s.msFrac := Eq.trans rfl rfl
@[simp] theorem State.setReg_twin (s : State) (a : Nat) (v : Word) : (s.setReg a v).twin = s.twin := Eq.trans rfl rfl
@[simp] theorem State.setReg_ctlOut (s : State) (a : Nat) (v : Word) : (s.setReg a v).ctlOut = s.ctlOut := Eq.trans rfl rfl
@[simp] theorem State.setReg_guards (s : State) (a : Nat) (v : Word) : (s.setReg a v).guards = s.guards := Eq.trans rfl rfl
@[simp] theorem State.setReg_hot (s : State) (a : Nat) (v : Word) : (s.setReg a v).hot = s.hot := Eq.trans rfl rfl
@[simp] theorem State.setReg_silence (s : State) (a : Nat) (v : Word) : (s.setReg a v).silence = s.silence := Eq.trans rfl rfl
@[simp] theorem State.setReg_silent (s : State) (a : Nat) (v : Word) : (s.setReg a v).silent = s.silent := Eq.trans rfl rfl
@[simp] theorem State.setReg_jtag (s : State) (a : Nat) (v : Word) : (s.setReg a v).jtag = s.jtag := Eq.trans rfl rfl
@[simp] theorem State.setReg_amonGood (s : State) (a : Nat) (v : Word) : (s.setReg a v).amonGood = s.amonGood := Eq.trans rfl rfl
@[simp] theorem State.setReg_muteEnd (s : State) (a : Nat) (v : Word) : (s.setReg a v).muteEnd = s.muteEnd := Eq.trans rfl rfl
@[simp] theorem State.setReg_sv (s : State) (a : Nat) (v : Word) : (s.setReg a v).sv = s.sv := Eq.trans rfl rfl
@[simp] theorem State.setReg_kick (s : State) (a : Nat) (v : Word) : (s.setReg a v).kick = s.kick := Eq.trans rfl rfl
@[simp] theorem State.setReg_wdtWarned (s : State) (a : Nat) (v : Word) : (s.setReg a v).wdtWarned = s.wdtWarned := Eq.trans rfl rfl
@[simp] theorem State.setReg_mbx (s : State) (a : Nat) (v : Word) : (s.setReg a v).mbx = s.mbx := Eq.trans rfl rfl
@[simp] theorem State.setReg_flash (s : State) (a : Nat) (v : Word) : (s.setReg a v).flash = s.flash := Eq.trans rfl rfl
@[simp] theorem State.setReg_flashOp (s : State) (a : Nat) (v : Word) : (s.setReg a v).flashOp = s.flashOp := Eq.trans rfl rfl
@[simp] theorem State.setReg_io (s : State) (a : Nat) (v : Word) : (s.setReg a v).io = s.io := Eq.trans rfl rfl
@[simp] theorem State.setReg_clk (s : State) (a : Nat) (v : Word) : (s.setReg a v).clk = s.clk := Eq.trans rfl rfl
@[simp] theorem State.setReg_readData (s : State) (a : Nat) (v : Word) : (s.setReg a v).readData = s.readData := Eq.trans rfl rfl
@[simp] theorem State.setReg_guarded (s : State) (a : Nat) (v : Word) : (s.setReg a v).guarded = s.guarded := Eq.trans rfl rfl
@[simp] theorem State.setReg_scrubRow (s : State) (a : Nat) (v : Word) : (s.setReg a v).scrubRow = s.scrubRow := Eq.trans rfl rfl
@[simp] theorem State.setReg_msix (s : State) (a : Nat) (v : Word) : (s.setReg a v).msix = s.msix := Eq.trans rfl rfl
@[simp] theorem State.setReg_lb (s : State) (a : Nat) (v : Word) : (s.setReg a v).lb = s.lb := Eq.trans rfl rfl
@[simp] theorem State.setReg_pages (s : State) (a : Nat) (v : Word) : (s.setReg a v).pages = s.pages := Eq.trans rfl rfl
@[simp] theorem State.setReg_hostWins (s : State) (a : Nat) (v : Word) : (s.setReg a v).hostWins = s.hostWins := Eq.trans rfl rfl
@[simp] theorem State.setReg_keys (s : State) (a : Nat) (v : Word) : (s.setReg a v).keys = s.keys := Eq.trans rfl rfl
@[simp] theorem State.setReg_keyOp (s : State) (a : Nat) (v : Word) : (s.setReg a v).keyOp = s.keyOp := Eq.trans rfl rfl
@[simp] theorem State.setReg_dma (s : State) (a : Nat) (v : Word) : (s.setReg a v).dma = s.dma := Eq.trans rfl rfl
@[simp] theorem State.setReg_doms (s : State) (a : Nat) (v : Word) : (s.setReg a v).doms = s.doms := Eq.trans rfl rfl
@[simp] theorem State.setReg_bankOwned (s : State) (a : Nat) (v : Word) : (s.setReg a v).bankOwned = s.bankOwned := Eq.trans rfl rfl
@[simp] theorem State.setReg_bankOn (s : State) (a : Nat) (v : Word) : (s.setReg a v).bankOn = s.bankOn := Eq.trans rfl rfl
@[simp] theorem State.setReg_bankFill (s : State) (a : Nat) (v : Word) : (s.setReg a v).bankFill = s.bankFill := Eq.trans rfl rfl
@[simp] theorem State.setReg_hotRun (s : State) (a : Nat) (v : Word) : (s.setReg a v).hotRun = s.hotRun := Eq.trans rfl rfl
@[simp] theorem State.setReg_cluWrites (s : State) (a : Nat) (v : Word) : (s.setReg a v).cluWrites = s.cluWrites := Eq.trans rfl rfl
@[simp] theorem State.setReg_wakeAt (s : State) (a : Nat) (v : Word) : (s.setReg a v).wakeAt = s.wakeAt := Eq.trans rfl rfl
@[simp] theorem State.setReg_amonPlain (s : State) (a : Nat) (v : Word) : (s.setReg a v).amonPlain = s.amonPlain := Eq.trans rfl rfl
@[simp] theorem State.setReg_qspi (s : State) (a : Nat) (v : Word) : (s.setReg a v).qspi = s.qspi := Eq.trans rfl rfl
@[simp] theorem State.setReg_fwVersion (s : State) (a : Nat) (v : Word) : (s.setReg a v).fwVersion = s.fwVersion := Eq.trans rfl rfl
@[simp] theorem State.setReg_svStop (s : State) (a : Nat) (v : Word) : (s.setReg a v).svStop = s.svStop := Eq.trans rfl rfl
@[simp] theorem State.setReg_espOp (s : State) (a : Nat) (v : Word) : (s.setReg a v).espOp = s.espOp := Eq.trans rfl rfl
@[simp] theorem State.setReg_graftNew (s : State) (a : Nat) (v : Word) : (s.setReg a v).graftNew = s.graftNew := Eq.trans rfl rfl
@[simp] theorem State.setReg_net (s : State) (a : Nat) (v : Word) : (s.setReg a v).net = s.net := Eq.trans rfl rfl
@[simp] theorem State.setReg_staged (s : State) (a : Nat) (v : Word) : (s.setReg a v).staged = s.staged := Eq.trans rfl rfl
@[simp] theorem State.setReg_badBursts (s : State) (a : Nat) (v : Word) : (s.setReg a v).badBursts = s.badBursts := Eq.trans rfl rfl
@[simp] theorem State.setReg_retrainCh (s : State) (a : Nat) (v : Word) : (s.setReg a v).retrainCh = s.retrainCh := Eq.trans rfl rfl
@[simp] theorem State.setReg_retrainDue (s : State) (a : Nat) (v : Word) : (s.setReg a v).retrainDue = s.retrainDue := Eq.trans rfl rfl
@[simp] theorem State.setReg_recs (s : State) (a : Nat) (v : Word) : (s.setReg a v).recs = s.recs := Eq.trans rfl rfl
@[simp] theorem State.setReg_coreOut (s : State) (a : Nat) (v : Word) : (s.setReg a v).coreOut = s.coreOut := Eq.trans rfl rfl
@[simp] theorem State.setReg_railsOut (s : State) (a : Nat) (v : Word) : (s.setReg a v).railsOut = s.railsOut := Eq.trans rfl rfl

/-! ### State.setFld -/

@[simp] theorem State.setFld_pending (s : State) (f : Fld) (v : Nat) : (s.setFld f v).pending = s.pending := Eq.trans rfl rfl
@[simp] theorem State.setFld_freeCtr (s : State) (f : Fld) (v : Nat) : (s.setFld f v).freeCtr = s.freeCtr := Eq.trans rfl rfl
@[simp] theorem State.setFld_tick (s : State) (f : Fld) (v : Nat) : (s.setFld f v).tick = s.tick := Eq.trans rfl rfl
@[simp] theorem State.setFld_tickOn (s : State) (f : Fld) (v : Nat) : (s.setFld f v).tickOn = s.tickOn := Eq.trans rfl rfl
@[simp] theorem State.setFld_tickHold (s : State) (f : Fld) (v : Nat) : (s.setFld f v).tickHold = s.tickHold := Eq.trans rfl rfl
@[simp] theorem State.setFld_eng (s : State) (f : Fld) (v : Nat) : (s.setFld f v).eng = s.eng := Eq.trans rfl rfl
@[simp] theorem State.setFld_hops (s : State) (f : Fld) (v : Nat) : (s.setFld f v).hops = s.hops := Eq.trans rfl rfl
@[simp] theorem State.setFld_str (s : State) (f : Fld) (v : Nat) : (s.setFld f v).str = s.str := Eq.trans rfl rfl
@[simp] theorem State.setFld_locked (s : State) (f : Fld) (v : Nat) : (s.setFld f v).locked = s.locked := Eq.trans rfl rfl
@[simp] theorem State.setFld_pstA (s : State) (f : Fld) (v : Nat) : (s.setFld f v).pstA = s.pstA := Eq.trans rfl rfl
@[simp] theorem State.setFld_pstB (s : State) (f : Fld) (v : Nat) : (s.setFld f v).pstB = s.pstB := Eq.trans rfl rfl
@[simp] theorem State.setFld_qsA (s : State) (f : Fld) (v : Nat) : (s.setFld f v).qsA = s.qsA := Eq.trans rfl rfl
@[simp] theorem State.setFld_qsB (s : State) (f : Fld) (v : Nat) : (s.setFld f v).qsB = s.qsB := Eq.trans rfl rfl
@[simp] theorem State.setFld_gcA (s : State) (f : Fld) (v : Nat) : (s.setFld f v).gcA = s.gcA := Eq.trans rfl rfl
@[simp] theorem State.setFld_gcB (s : State) (f : Fld) (v : Nat) : (s.setFld f v).gcB = s.gcB := Eq.trans rfl rfl
@[simp] theorem State.setFld_subm (s : State) (f : Fld) (v : Nat) : (s.setFld f v).subm = s.subm := Eq.trans rfl rfl
@[simp] theorem State.setFld_groups (s : State) (f : Fld) (v : Nat) : (s.setFld f v).groups = s.groups := Eq.trans rfl rfl
@[simp] theorem State.setFld_leases (s : State) (f : Fld) (v : Nat) : (s.setFld f v).leases = s.leases := Eq.trans rfl rfl
@[simp] theorem State.setFld_leaseSerial (s : State) (f : Fld) (v : Nat) : (s.setFld f v).leaseSerial = s.leaseSerial := Eq.trans rfl rfl
@[simp] theorem State.setFld_broken (s : State) (f : Fld) (v : Nat) : (s.setFld f v).broken = s.broken := Eq.trans rfl rfl
@[simp] theorem State.setFld_cells (s : State) (f : Fld) (v : Nat) : (s.setFld f v).cells = s.cells := Eq.trans rfl rfl
@[simp] theorem State.setFld_remembered (s : State) (f : Fld) (v : Nat) : (s.setFld f v).remembered = s.remembered := Eq.trans rfl rfl
@[simp] theorem State.setFld_partOps (s : State) (f : Fld) (v : Nat) : (s.setFld f v).partOps = s.partOps := Eq.trans rfl rfl
@[simp] theorem State.setFld_age (s : State) (f : Fld) (v : Nat) : (s.setFld f v).age = s.age := Eq.trans rfl rfl
@[simp] theorem State.setFld_delay (s : State) (f : Fld) (v : Nat) : (s.setFld f v).delay = s.delay := Eq.trans rfl rfl
@[simp] theorem State.setFld_dram (s : State) (f : Fld) (v : Nat) : (s.setFld f v).dram = s.dram := Eq.trans rfl rfl
@[simp] theorem State.setFld_sessions (s : State) (f : Fld) (v : Nat) : (s.setFld f v).sessions = s.sessions := Eq.trans rfl rfl
@[simp] theorem State.setFld_epochs (s : State) (f : Fld) (v : Nat) : (s.setFld f v).epochs = s.epochs := Eq.trans rfl rfl
@[simp] theorem State.setFld_openReqs (s : State) (f : Fld) (v : Nat) : (s.setFld f v).openReqs = s.openReqs := Eq.trans rfl rfl
@[simp] theorem State.setFld_bellOut (s : State) (f : Fld) (v : Nat) : (s.setFld f v).bellOut = s.bellOut := Eq.trans rfl rfl
@[simp] theorem State.setFld_udpOut (s : State) (f : Fld) (v : Nat) : (s.setFld f v).udpOut = s.udpOut := Eq.trans rfl rfl
@[simp] theorem State.setFld_held (s : State) (f : Fld) (v : Nat) : (s.setFld f v).held = s.held := Eq.trans rfl rfl
@[simp] theorem State.setFld_faultStart (s : State) (f : Fld) (v : Nat) : (s.setFld f v).faultStart = s.faultStart := Eq.trans rfl rfl
@[simp] theorem State.setFld_faultLoad (s : State) (f : Fld) (v : Nat) : (s.setFld f v).faultLoad = s.faultLoad := Eq.trans rfl rfl
@[simp] theorem State.setFld_floated (s : State) (f : Fld) (v : Nat) : (s.setFld f v).floated = s.floated := Eq.trans rfl rfl
@[simp] theorem State.setFld_hold (s : State) (f : Fld) (v : Nat) : (s.setFld f v).hold = s.hold := Eq.trans rfl rfl
@[simp] theorem State.setFld_nv (s : State) (f : Fld) (v : Nat) : (s.setFld f v).nv = s.nv := Eq.trans rfl rfl
@[simp] theorem State.setFld_otp (s : State) (f : Fld) (v : Nat) : (s.setFld f v).otp = s.otp := Eq.trans rfl rfl
@[simp] theorem State.setFld_otpNext (s : State) (f : Fld) (v : Nat) : (s.setFld f v).otpNext = s.otpNext := Eq.trans rfl rfl
@[simp] theorem State.setFld_strap (s : State) (f : Fld) (v : Nat) : (s.setFld f v).strap = s.strap := Eq.trans rfl rfl
@[simp] theorem State.setFld_gens (s : State) (f : Fld) (v : Nat) : (s.setFld f v).gens = s.gens := Eq.trans rfl rfl
@[simp] theorem State.setFld_save (s : State) (f : Fld) (v : Nat) : (s.setFld f v).save = s.save := Eq.trans rfl rfl
@[simp] theorem State.setFld_phases (s : State) (f : Fld) (v : Nat) : (s.setFld f v).phases = s.phases := Eq.trans rfl rfl
@[simp] theorem State.setFld_msFrac (s : State) (f : Fld) (v : Nat) : (s.setFld f v).msFrac = s.msFrac := Eq.trans rfl rfl
@[simp] theorem State.setFld_twin (s : State) (f : Fld) (v : Nat) : (s.setFld f v).twin = s.twin := Eq.trans rfl rfl
@[simp] theorem State.setFld_ctlOut (s : State) (f : Fld) (v : Nat) : (s.setFld f v).ctlOut = s.ctlOut := Eq.trans rfl rfl
@[simp] theorem State.setFld_guards (s : State) (f : Fld) (v : Nat) : (s.setFld f v).guards = s.guards := Eq.trans rfl rfl
@[simp] theorem State.setFld_hot (s : State) (f : Fld) (v : Nat) : (s.setFld f v).hot = s.hot := Eq.trans rfl rfl
@[simp] theorem State.setFld_silence (s : State) (f : Fld) (v : Nat) : (s.setFld f v).silence = s.silence := Eq.trans rfl rfl
@[simp] theorem State.setFld_silent (s : State) (f : Fld) (v : Nat) : (s.setFld f v).silent = s.silent := Eq.trans rfl rfl
@[simp] theorem State.setFld_jtag (s : State) (f : Fld) (v : Nat) : (s.setFld f v).jtag = s.jtag := Eq.trans rfl rfl
@[simp] theorem State.setFld_amonGood (s : State) (f : Fld) (v : Nat) : (s.setFld f v).amonGood = s.amonGood := Eq.trans rfl rfl
@[simp] theorem State.setFld_muteEnd (s : State) (f : Fld) (v : Nat) : (s.setFld f v).muteEnd = s.muteEnd := Eq.trans rfl rfl
@[simp] theorem State.setFld_sv (s : State) (f : Fld) (v : Nat) : (s.setFld f v).sv = s.sv := Eq.trans rfl rfl
@[simp] theorem State.setFld_kick (s : State) (f : Fld) (v : Nat) : (s.setFld f v).kick = s.kick := Eq.trans rfl rfl
@[simp] theorem State.setFld_wdtWarned (s : State) (f : Fld) (v : Nat) : (s.setFld f v).wdtWarned = s.wdtWarned := Eq.trans rfl rfl
@[simp] theorem State.setFld_mbx (s : State) (f : Fld) (v : Nat) : (s.setFld f v).mbx = s.mbx := Eq.trans rfl rfl
@[simp] theorem State.setFld_flash (s : State) (f : Fld) (v : Nat) : (s.setFld f v).flash = s.flash := Eq.trans rfl rfl
@[simp] theorem State.setFld_flashOp (s : State) (f : Fld) (v : Nat) : (s.setFld f v).flashOp = s.flashOp := Eq.trans rfl rfl
@[simp] theorem State.setFld_io (s : State) (f : Fld) (v : Nat) : (s.setFld f v).io = s.io := Eq.trans rfl rfl
@[simp] theorem State.setFld_clk (s : State) (f : Fld) (v : Nat) : (s.setFld f v).clk = s.clk := Eq.trans rfl rfl
@[simp] theorem State.setFld_readData (s : State) (f : Fld) (v : Nat) : (s.setFld f v).readData = s.readData := Eq.trans rfl rfl
@[simp] theorem State.setFld_guarded (s : State) (f : Fld) (v : Nat) : (s.setFld f v).guarded = s.guarded := Eq.trans rfl rfl
@[simp] theorem State.setFld_scrubRow (s : State) (f : Fld) (v : Nat) : (s.setFld f v).scrubRow = s.scrubRow := Eq.trans rfl rfl
@[simp] theorem State.setFld_msix (s : State) (f : Fld) (v : Nat) : (s.setFld f v).msix = s.msix := Eq.trans rfl rfl
@[simp] theorem State.setFld_lb (s : State) (f : Fld) (v : Nat) : (s.setFld f v).lb = s.lb := Eq.trans rfl rfl
@[simp] theorem State.setFld_pages (s : State) (f : Fld) (v : Nat) : (s.setFld f v).pages = s.pages := Eq.trans rfl rfl
@[simp] theorem State.setFld_hostWins (s : State) (f : Fld) (v : Nat) : (s.setFld f v).hostWins = s.hostWins := Eq.trans rfl rfl
@[simp] theorem State.setFld_keys (s : State) (f : Fld) (v : Nat) : (s.setFld f v).keys = s.keys := Eq.trans rfl rfl
@[simp] theorem State.setFld_keyOp (s : State) (f : Fld) (v : Nat) : (s.setFld f v).keyOp = s.keyOp := Eq.trans rfl rfl
@[simp] theorem State.setFld_dma (s : State) (f : Fld) (v : Nat) : (s.setFld f v).dma = s.dma := Eq.trans rfl rfl
@[simp] theorem State.setFld_doms (s : State) (f : Fld) (v : Nat) : (s.setFld f v).doms = s.doms := Eq.trans rfl rfl
@[simp] theorem State.setFld_bankOwned (s : State) (f : Fld) (v : Nat) : (s.setFld f v).bankOwned = s.bankOwned := Eq.trans rfl rfl
@[simp] theorem State.setFld_bankOn (s : State) (f : Fld) (v : Nat) : (s.setFld f v).bankOn = s.bankOn := Eq.trans rfl rfl
@[simp] theorem State.setFld_bankFill (s : State) (f : Fld) (v : Nat) : (s.setFld f v).bankFill = s.bankFill := Eq.trans rfl rfl
@[simp] theorem State.setFld_hotRun (s : State) (f : Fld) (v : Nat) : (s.setFld f v).hotRun = s.hotRun := Eq.trans rfl rfl
@[simp] theorem State.setFld_cluWrites (s : State) (f : Fld) (v : Nat) : (s.setFld f v).cluWrites = s.cluWrites := Eq.trans rfl rfl
@[simp] theorem State.setFld_wakeAt (s : State) (f : Fld) (v : Nat) : (s.setFld f v).wakeAt = s.wakeAt := Eq.trans rfl rfl
@[simp] theorem State.setFld_amonPlain (s : State) (f : Fld) (v : Nat) : (s.setFld f v).amonPlain = s.amonPlain := Eq.trans rfl rfl
@[simp] theorem State.setFld_qspi (s : State) (f : Fld) (v : Nat) : (s.setFld f v).qspi = s.qspi := Eq.trans rfl rfl
@[simp] theorem State.setFld_fwVersion (s : State) (f : Fld) (v : Nat) : (s.setFld f v).fwVersion = s.fwVersion := Eq.trans rfl rfl
@[simp] theorem State.setFld_svStop (s : State) (f : Fld) (v : Nat) : (s.setFld f v).svStop = s.svStop := Eq.trans rfl rfl
@[simp] theorem State.setFld_espOp (s : State) (f : Fld) (v : Nat) : (s.setFld f v).espOp = s.espOp := Eq.trans rfl rfl
@[simp] theorem State.setFld_graftNew (s : State) (f : Fld) (v : Nat) : (s.setFld f v).graftNew = s.graftNew := Eq.trans rfl rfl
@[simp] theorem State.setFld_net (s : State) (f : Fld) (v : Nat) : (s.setFld f v).net = s.net := Eq.trans rfl rfl
@[simp] theorem State.setFld_staged (s : State) (f : Fld) (v : Nat) : (s.setFld f v).staged = s.staged := Eq.trans rfl rfl
@[simp] theorem State.setFld_badBursts (s : State) (f : Fld) (v : Nat) : (s.setFld f v).badBursts = s.badBursts := Eq.trans rfl rfl
@[simp] theorem State.setFld_retrainCh (s : State) (f : Fld) (v : Nat) : (s.setFld f v).retrainCh = s.retrainCh := Eq.trans rfl rfl
@[simp] theorem State.setFld_retrainDue (s : State) (f : Fld) (v : Nat) : (s.setFld f v).retrainDue = s.retrainDue := Eq.trans rfl rfl
@[simp] theorem State.setFld_recs (s : State) (f : Fld) (v : Nat) : (s.setFld f v).recs = s.recs := Eq.trans rfl rfl
@[simp] theorem State.setFld_coreOut (s : State) (f : Fld) (v : Nat) : (s.setFld f v).coreOut = s.coreOut := Eq.trans rfl rfl
@[simp] theorem State.setFld_railsOut (s : State) (f : Fld) (v : Nat) : (s.setFld f v).railsOut = s.railsOut := Eq.trans rfl rfl

/-! ### State.resetReg -/

@[simp] theorem State.resetReg_pending (s : State) (a : Nat) : (s.resetReg a).pending = s.pending := Eq.trans rfl rfl
@[simp] theorem State.resetReg_freeCtr (s : State) (a : Nat) : (s.resetReg a).freeCtr = s.freeCtr := Eq.trans rfl rfl
@[simp] theorem State.resetReg_tick (s : State) (a : Nat) : (s.resetReg a).tick = s.tick := Eq.trans rfl rfl
@[simp] theorem State.resetReg_tickOn (s : State) (a : Nat) : (s.resetReg a).tickOn = s.tickOn := Eq.trans rfl rfl
@[simp] theorem State.resetReg_tickHold (s : State) (a : Nat) : (s.resetReg a).tickHold = s.tickHold := Eq.trans rfl rfl
@[simp] theorem State.resetReg_eng (s : State) (a : Nat) : (s.resetReg a).eng = s.eng := Eq.trans rfl rfl
@[simp] theorem State.resetReg_hops (s : State) (a : Nat) : (s.resetReg a).hops = s.hops := Eq.trans rfl rfl
@[simp] theorem State.resetReg_str (s : State) (a : Nat) : (s.resetReg a).str = s.str := Eq.trans rfl rfl
@[simp] theorem State.resetReg_locked (s : State) (a : Nat) : (s.resetReg a).locked = s.locked := Eq.trans rfl rfl
@[simp] theorem State.resetReg_pstA (s : State) (a : Nat) : (s.resetReg a).pstA = s.pstA := Eq.trans rfl rfl
@[simp] theorem State.resetReg_pstB (s : State) (a : Nat) : (s.resetReg a).pstB = s.pstB := Eq.trans rfl rfl
@[simp] theorem State.resetReg_qsA (s : State) (a : Nat) : (s.resetReg a).qsA = s.qsA := Eq.trans rfl rfl
@[simp] theorem State.resetReg_qsB (s : State) (a : Nat) : (s.resetReg a).qsB = s.qsB := Eq.trans rfl rfl
@[simp] theorem State.resetReg_gcA (s : State) (a : Nat) : (s.resetReg a).gcA = s.gcA := Eq.trans rfl rfl
@[simp] theorem State.resetReg_gcB (s : State) (a : Nat) : (s.resetReg a).gcB = s.gcB := Eq.trans rfl rfl
@[simp] theorem State.resetReg_subm (s : State) (a : Nat) : (s.resetReg a).subm = s.subm := Eq.trans rfl rfl
@[simp] theorem State.resetReg_groups (s : State) (a : Nat) : (s.resetReg a).groups = s.groups := Eq.trans rfl rfl
@[simp] theorem State.resetReg_leases (s : State) (a : Nat) : (s.resetReg a).leases = s.leases := Eq.trans rfl rfl
@[simp] theorem State.resetReg_leaseSerial (s : State) (a : Nat) : (s.resetReg a).leaseSerial = s.leaseSerial := Eq.trans rfl rfl
@[simp] theorem State.resetReg_broken (s : State) (a : Nat) : (s.resetReg a).broken = s.broken := Eq.trans rfl rfl
@[simp] theorem State.resetReg_cells (s : State) (a : Nat) : (s.resetReg a).cells = s.cells := Eq.trans rfl rfl
@[simp] theorem State.resetReg_remembered (s : State) (a : Nat) : (s.resetReg a).remembered = s.remembered := Eq.trans rfl rfl
@[simp] theorem State.resetReg_partOps (s : State) (a : Nat) : (s.resetReg a).partOps = s.partOps := Eq.trans rfl rfl
@[simp] theorem State.resetReg_age (s : State) (a : Nat) : (s.resetReg a).age = s.age := Eq.trans rfl rfl
@[simp] theorem State.resetReg_delay (s : State) (a : Nat) : (s.resetReg a).delay = s.delay := Eq.trans rfl rfl
@[simp] theorem State.resetReg_dram (s : State) (a : Nat) : (s.resetReg a).dram = s.dram := Eq.trans rfl rfl
@[simp] theorem State.resetReg_sessions (s : State) (a : Nat) : (s.resetReg a).sessions = s.sessions := Eq.trans rfl rfl
@[simp] theorem State.resetReg_epochs (s : State) (a : Nat) : (s.resetReg a).epochs = s.epochs := Eq.trans rfl rfl
@[simp] theorem State.resetReg_openReqs (s : State) (a : Nat) : (s.resetReg a).openReqs = s.openReqs := Eq.trans rfl rfl
@[simp] theorem State.resetReg_bellOut (s : State) (a : Nat) : (s.resetReg a).bellOut = s.bellOut := Eq.trans rfl rfl
@[simp] theorem State.resetReg_udpOut (s : State) (a : Nat) : (s.resetReg a).udpOut = s.udpOut := Eq.trans rfl rfl
@[simp] theorem State.resetReg_held (s : State) (a : Nat) : (s.resetReg a).held = s.held := Eq.trans rfl rfl
@[simp] theorem State.resetReg_faultStart (s : State) (a : Nat) : (s.resetReg a).faultStart = s.faultStart := Eq.trans rfl rfl
@[simp] theorem State.resetReg_faultLoad (s : State) (a : Nat) : (s.resetReg a).faultLoad = s.faultLoad := Eq.trans rfl rfl
@[simp] theorem State.resetReg_floated (s : State) (a : Nat) : (s.resetReg a).floated = s.floated := Eq.trans rfl rfl
@[simp] theorem State.resetReg_hold (s : State) (a : Nat) : (s.resetReg a).hold = s.hold := Eq.trans rfl rfl
@[simp] theorem State.resetReg_nv (s : State) (a : Nat) : (s.resetReg a).nv = s.nv := Eq.trans rfl rfl
@[simp] theorem State.resetReg_otp (s : State) (a : Nat) : (s.resetReg a).otp = s.otp := Eq.trans rfl rfl
@[simp] theorem State.resetReg_otpNext (s : State) (a : Nat) : (s.resetReg a).otpNext = s.otpNext := Eq.trans rfl rfl
@[simp] theorem State.resetReg_strap (s : State) (a : Nat) : (s.resetReg a).strap = s.strap := Eq.trans rfl rfl
@[simp] theorem State.resetReg_gens (s : State) (a : Nat) : (s.resetReg a).gens = s.gens := Eq.trans rfl rfl
@[simp] theorem State.resetReg_save (s : State) (a : Nat) : (s.resetReg a).save = s.save := Eq.trans rfl rfl
@[simp] theorem State.resetReg_phases (s : State) (a : Nat) : (s.resetReg a).phases = s.phases := Eq.trans rfl rfl
@[simp] theorem State.resetReg_msFrac (s : State) (a : Nat) : (s.resetReg a).msFrac = s.msFrac := Eq.trans rfl rfl
@[simp] theorem State.resetReg_twin (s : State) (a : Nat) : (s.resetReg a).twin = s.twin := Eq.trans rfl rfl
@[simp] theorem State.resetReg_ctlOut (s : State) (a : Nat) : (s.resetReg a).ctlOut = s.ctlOut := Eq.trans rfl rfl
@[simp] theorem State.resetReg_guards (s : State) (a : Nat) : (s.resetReg a).guards = s.guards := Eq.trans rfl rfl
@[simp] theorem State.resetReg_hot (s : State) (a : Nat) : (s.resetReg a).hot = s.hot := Eq.trans rfl rfl
@[simp] theorem State.resetReg_silence (s : State) (a : Nat) : (s.resetReg a).silence = s.silence := Eq.trans rfl rfl
@[simp] theorem State.resetReg_silent (s : State) (a : Nat) : (s.resetReg a).silent = s.silent := Eq.trans rfl rfl
@[simp] theorem State.resetReg_jtag (s : State) (a : Nat) : (s.resetReg a).jtag = s.jtag := Eq.trans rfl rfl
@[simp] theorem State.resetReg_amonGood (s : State) (a : Nat) : (s.resetReg a).amonGood = s.amonGood := Eq.trans rfl rfl
@[simp] theorem State.resetReg_muteEnd (s : State) (a : Nat) : (s.resetReg a).muteEnd = s.muteEnd := Eq.trans rfl rfl
@[simp] theorem State.resetReg_sv (s : State) (a : Nat) : (s.resetReg a).sv = s.sv := Eq.trans rfl rfl
@[simp] theorem State.resetReg_kick (s : State) (a : Nat) : (s.resetReg a).kick = s.kick := Eq.trans rfl rfl
@[simp] theorem State.resetReg_wdtWarned (s : State) (a : Nat) : (s.resetReg a).wdtWarned = s.wdtWarned := Eq.trans rfl rfl
@[simp] theorem State.resetReg_mbx (s : State) (a : Nat) : (s.resetReg a).mbx = s.mbx := Eq.trans rfl rfl
@[simp] theorem State.resetReg_flash (s : State) (a : Nat) : (s.resetReg a).flash = s.flash := Eq.trans rfl rfl
@[simp] theorem State.resetReg_flashOp (s : State) (a : Nat) : (s.resetReg a).flashOp = s.flashOp := Eq.trans rfl rfl
@[simp] theorem State.resetReg_io (s : State) (a : Nat) : (s.resetReg a).io = s.io := Eq.trans rfl rfl
@[simp] theorem State.resetReg_clk (s : State) (a : Nat) : (s.resetReg a).clk = s.clk := Eq.trans rfl rfl
@[simp] theorem State.resetReg_readData (s : State) (a : Nat) : (s.resetReg a).readData = s.readData := Eq.trans rfl rfl
@[simp] theorem State.resetReg_guarded (s : State) (a : Nat) : (s.resetReg a).guarded = s.guarded := Eq.trans rfl rfl
@[simp] theorem State.resetReg_scrubRow (s : State) (a : Nat) : (s.resetReg a).scrubRow = s.scrubRow := Eq.trans rfl rfl
@[simp] theorem State.resetReg_msix (s : State) (a : Nat) : (s.resetReg a).msix = s.msix := Eq.trans rfl rfl
@[simp] theorem State.resetReg_lb (s : State) (a : Nat) : (s.resetReg a).lb = s.lb := Eq.trans rfl rfl
@[simp] theorem State.resetReg_pages (s : State) (a : Nat) : (s.resetReg a).pages = s.pages := Eq.trans rfl rfl
@[simp] theorem State.resetReg_hostWins (s : State) (a : Nat) : (s.resetReg a).hostWins = s.hostWins := Eq.trans rfl rfl
@[simp] theorem State.resetReg_keys (s : State) (a : Nat) : (s.resetReg a).keys = s.keys := Eq.trans rfl rfl
@[simp] theorem State.resetReg_keyOp (s : State) (a : Nat) : (s.resetReg a).keyOp = s.keyOp := Eq.trans rfl rfl
@[simp] theorem State.resetReg_dma (s : State) (a : Nat) : (s.resetReg a).dma = s.dma := Eq.trans rfl rfl
@[simp] theorem State.resetReg_doms (s : State) (a : Nat) : (s.resetReg a).doms = s.doms := Eq.trans rfl rfl
@[simp] theorem State.resetReg_bankOwned (s : State) (a : Nat) : (s.resetReg a).bankOwned = s.bankOwned := Eq.trans rfl rfl
@[simp] theorem State.resetReg_bankOn (s : State) (a : Nat) : (s.resetReg a).bankOn = s.bankOn := Eq.trans rfl rfl
@[simp] theorem State.resetReg_bankFill (s : State) (a : Nat) : (s.resetReg a).bankFill = s.bankFill := Eq.trans rfl rfl
@[simp] theorem State.resetReg_hotRun (s : State) (a : Nat) : (s.resetReg a).hotRun = s.hotRun := Eq.trans rfl rfl
@[simp] theorem State.resetReg_cluWrites (s : State) (a : Nat) : (s.resetReg a).cluWrites = s.cluWrites := Eq.trans rfl rfl
@[simp] theorem State.resetReg_wakeAt (s : State) (a : Nat) : (s.resetReg a).wakeAt = s.wakeAt := Eq.trans rfl rfl
@[simp] theorem State.resetReg_amonPlain (s : State) (a : Nat) : (s.resetReg a).amonPlain = s.amonPlain := Eq.trans rfl rfl
@[simp] theorem State.resetReg_qspi (s : State) (a : Nat) : (s.resetReg a).qspi = s.qspi := Eq.trans rfl rfl
@[simp] theorem State.resetReg_fwVersion (s : State) (a : Nat) : (s.resetReg a).fwVersion = s.fwVersion := Eq.trans rfl rfl
@[simp] theorem State.resetReg_svStop (s : State) (a : Nat) : (s.resetReg a).svStop = s.svStop := Eq.trans rfl rfl
@[simp] theorem State.resetReg_espOp (s : State) (a : Nat) : (s.resetReg a).espOp = s.espOp := Eq.trans rfl rfl
@[simp] theorem State.resetReg_graftNew (s : State) (a : Nat) : (s.resetReg a).graftNew = s.graftNew := Eq.trans rfl rfl
@[simp] theorem State.resetReg_net (s : State) (a : Nat) : (s.resetReg a).net = s.net := Eq.trans rfl rfl
@[simp] theorem State.resetReg_staged (s : State) (a : Nat) : (s.resetReg a).staged = s.staged := Eq.trans rfl rfl
@[simp] theorem State.resetReg_badBursts (s : State) (a : Nat) : (s.resetReg a).badBursts = s.badBursts := Eq.trans rfl rfl
@[simp] theorem State.resetReg_retrainCh (s : State) (a : Nat) : (s.resetReg a).retrainCh = s.retrainCh := Eq.trans rfl rfl
@[simp] theorem State.resetReg_retrainDue (s : State) (a : Nat) : (s.resetReg a).retrainDue = s.retrainDue := Eq.trans rfl rfl
@[simp] theorem State.resetReg_recs (s : State) (a : Nat) : (s.resetReg a).recs = s.recs := Eq.trans rfl rfl
@[simp] theorem State.resetReg_coreOut (s : State) (a : Nat) : (s.resetReg a).coreOut = s.coreOut := Eq.trans rfl rfl
@[simp] theorem State.resetReg_railsOut (s : State) (a : Nat) : (s.resetReg a).railsOut = s.railsOut := Eq.trans rfl rfl

/-! ### State.wrapInc -/

@[simp] theorem State.wrapInc_pending (s : State) (f : Fld) : (s.wrapInc f).pending = s.pending := Eq.trans rfl rfl
@[simp] theorem State.wrapInc_freeCtr (s : State) (f : Fld) : (s.wrapInc f).freeCtr = s.freeCtr := Eq.trans rfl rfl
@[simp] theorem State.wrapInc_tick (s : State) (f : Fld) : (s.wrapInc f).tick = s.tick := Eq.trans rfl rfl
@[simp] theorem State.wrapInc_tickOn (s : State) (f : Fld) : (s.wrapInc f).tickOn = s.tickOn := Eq.trans rfl rfl
@[simp] theorem State.wrapInc_tickHold (s : State) (f : Fld) : (s.wrapInc f).tickHold = s.tickHold := Eq.trans rfl rfl
@[simp] theorem State.wrapInc_eng (s : State) (f : Fld) : (s.wrapInc f).eng = s.eng := Eq.trans rfl rfl
@[simp] theorem State.wrapInc_hops (s : State) (f : Fld) : (s.wrapInc f).hops = s.hops := Eq.trans rfl rfl
@[simp] theorem State.wrapInc_str (s : State) (f : Fld) : (s.wrapInc f).str = s.str := Eq.trans rfl rfl
@[simp] theorem State.wrapInc_locked (s : State) (f : Fld) : (s.wrapInc f).locked = s.locked := Eq.trans rfl rfl
@[simp] theorem State.wrapInc_pstA (s : State) (f : Fld) : (s.wrapInc f).pstA = s.pstA := Eq.trans rfl rfl
@[simp] theorem State.wrapInc_pstB (s : State) (f : Fld) : (s.wrapInc f).pstB = s.pstB := Eq.trans rfl rfl
@[simp] theorem State.wrapInc_qsA (s : State) (f : Fld) : (s.wrapInc f).qsA = s.qsA := Eq.trans rfl rfl
@[simp] theorem State.wrapInc_qsB (s : State) (f : Fld) : (s.wrapInc f).qsB = s.qsB := Eq.trans rfl rfl
@[simp] theorem State.wrapInc_gcA (s : State) (f : Fld) : (s.wrapInc f).gcA = s.gcA := Eq.trans rfl rfl
@[simp] theorem State.wrapInc_gcB (s : State) (f : Fld) : (s.wrapInc f).gcB = s.gcB := Eq.trans rfl rfl
@[simp] theorem State.wrapInc_subm (s : State) (f : Fld) : (s.wrapInc f).subm = s.subm := Eq.trans rfl rfl
@[simp] theorem State.wrapInc_groups (s : State) (f : Fld) : (s.wrapInc f).groups = s.groups := Eq.trans rfl rfl
@[simp] theorem State.wrapInc_leases (s : State) (f : Fld) : (s.wrapInc f).leases = s.leases := Eq.trans rfl rfl
@[simp] theorem State.wrapInc_leaseSerial (s : State) (f : Fld) : (s.wrapInc f).leaseSerial = s.leaseSerial := Eq.trans rfl rfl
@[simp] theorem State.wrapInc_broken (s : State) (f : Fld) : (s.wrapInc f).broken = s.broken := Eq.trans rfl rfl
@[simp] theorem State.wrapInc_cells (s : State) (f : Fld) : (s.wrapInc f).cells = s.cells := Eq.trans rfl rfl
@[simp] theorem State.wrapInc_remembered (s : State) (f : Fld) : (s.wrapInc f).remembered = s.remembered := Eq.trans rfl rfl
@[simp] theorem State.wrapInc_partOps (s : State) (f : Fld) : (s.wrapInc f).partOps = s.partOps := Eq.trans rfl rfl
@[simp] theorem State.wrapInc_age (s : State) (f : Fld) : (s.wrapInc f).age = s.age := Eq.trans rfl rfl
@[simp] theorem State.wrapInc_delay (s : State) (f : Fld) : (s.wrapInc f).delay = s.delay := Eq.trans rfl rfl
@[simp] theorem State.wrapInc_dram (s : State) (f : Fld) : (s.wrapInc f).dram = s.dram := Eq.trans rfl rfl
@[simp] theorem State.wrapInc_sessions (s : State) (f : Fld) : (s.wrapInc f).sessions = s.sessions := Eq.trans rfl rfl
@[simp] theorem State.wrapInc_epochs (s : State) (f : Fld) : (s.wrapInc f).epochs = s.epochs := Eq.trans rfl rfl
@[simp] theorem State.wrapInc_openReqs (s : State) (f : Fld) : (s.wrapInc f).openReqs = s.openReqs := Eq.trans rfl rfl
@[simp] theorem State.wrapInc_bellOut (s : State) (f : Fld) : (s.wrapInc f).bellOut = s.bellOut := Eq.trans rfl rfl
@[simp] theorem State.wrapInc_udpOut (s : State) (f : Fld) : (s.wrapInc f).udpOut = s.udpOut := Eq.trans rfl rfl
@[simp] theorem State.wrapInc_held (s : State) (f : Fld) : (s.wrapInc f).held = s.held := Eq.trans rfl rfl
@[simp] theorem State.wrapInc_faultStart (s : State) (f : Fld) : (s.wrapInc f).faultStart = s.faultStart := Eq.trans rfl rfl
@[simp] theorem State.wrapInc_faultLoad (s : State) (f : Fld) : (s.wrapInc f).faultLoad = s.faultLoad := Eq.trans rfl rfl
@[simp] theorem State.wrapInc_floated (s : State) (f : Fld) : (s.wrapInc f).floated = s.floated := Eq.trans rfl rfl
@[simp] theorem State.wrapInc_hold (s : State) (f : Fld) : (s.wrapInc f).hold = s.hold := Eq.trans rfl rfl
@[simp] theorem State.wrapInc_nv (s : State) (f : Fld) : (s.wrapInc f).nv = s.nv := Eq.trans rfl rfl
@[simp] theorem State.wrapInc_otp (s : State) (f : Fld) : (s.wrapInc f).otp = s.otp := Eq.trans rfl rfl
@[simp] theorem State.wrapInc_otpNext (s : State) (f : Fld) : (s.wrapInc f).otpNext = s.otpNext := Eq.trans rfl rfl
@[simp] theorem State.wrapInc_strap (s : State) (f : Fld) : (s.wrapInc f).strap = s.strap := Eq.trans rfl rfl
@[simp] theorem State.wrapInc_gens (s : State) (f : Fld) : (s.wrapInc f).gens = s.gens := Eq.trans rfl rfl
@[simp] theorem State.wrapInc_save (s : State) (f : Fld) : (s.wrapInc f).save = s.save := Eq.trans rfl rfl
@[simp] theorem State.wrapInc_phases (s : State) (f : Fld) : (s.wrapInc f).phases = s.phases := Eq.trans rfl rfl
@[simp] theorem State.wrapInc_msFrac (s : State) (f : Fld) : (s.wrapInc f).msFrac = s.msFrac := Eq.trans rfl rfl
@[simp] theorem State.wrapInc_twin (s : State) (f : Fld) : (s.wrapInc f).twin = s.twin := Eq.trans rfl rfl
@[simp] theorem State.wrapInc_ctlOut (s : State) (f : Fld) : (s.wrapInc f).ctlOut = s.ctlOut := Eq.trans rfl rfl
@[simp] theorem State.wrapInc_guards (s : State) (f : Fld) : (s.wrapInc f).guards = s.guards := Eq.trans rfl rfl
@[simp] theorem State.wrapInc_hot (s : State) (f : Fld) : (s.wrapInc f).hot = s.hot := Eq.trans rfl rfl
@[simp] theorem State.wrapInc_silence (s : State) (f : Fld) : (s.wrapInc f).silence = s.silence := Eq.trans rfl rfl
@[simp] theorem State.wrapInc_silent (s : State) (f : Fld) : (s.wrapInc f).silent = s.silent := Eq.trans rfl rfl
@[simp] theorem State.wrapInc_jtag (s : State) (f : Fld) : (s.wrapInc f).jtag = s.jtag := Eq.trans rfl rfl
@[simp] theorem State.wrapInc_amonGood (s : State) (f : Fld) : (s.wrapInc f).amonGood = s.amonGood := Eq.trans rfl rfl
@[simp] theorem State.wrapInc_muteEnd (s : State) (f : Fld) : (s.wrapInc f).muteEnd = s.muteEnd := Eq.trans rfl rfl
@[simp] theorem State.wrapInc_sv (s : State) (f : Fld) : (s.wrapInc f).sv = s.sv := Eq.trans rfl rfl
@[simp] theorem State.wrapInc_kick (s : State) (f : Fld) : (s.wrapInc f).kick = s.kick := Eq.trans rfl rfl
@[simp] theorem State.wrapInc_wdtWarned (s : State) (f : Fld) : (s.wrapInc f).wdtWarned = s.wdtWarned := Eq.trans rfl rfl
@[simp] theorem State.wrapInc_mbx (s : State) (f : Fld) : (s.wrapInc f).mbx = s.mbx := Eq.trans rfl rfl
@[simp] theorem State.wrapInc_flash (s : State) (f : Fld) : (s.wrapInc f).flash = s.flash := Eq.trans rfl rfl
@[simp] theorem State.wrapInc_flashOp (s : State) (f : Fld) : (s.wrapInc f).flashOp = s.flashOp := Eq.trans rfl rfl
@[simp] theorem State.wrapInc_io (s : State) (f : Fld) : (s.wrapInc f).io = s.io := Eq.trans rfl rfl
@[simp] theorem State.wrapInc_clk (s : State) (f : Fld) : (s.wrapInc f).clk = s.clk := Eq.trans rfl rfl
@[simp] theorem State.wrapInc_readData (s : State) (f : Fld) : (s.wrapInc f).readData = s.readData := Eq.trans rfl rfl
@[simp] theorem State.wrapInc_guarded (s : State) (f : Fld) : (s.wrapInc f).guarded = s.guarded := Eq.trans rfl rfl
@[simp] theorem State.wrapInc_scrubRow (s : State) (f : Fld) : (s.wrapInc f).scrubRow = s.scrubRow := Eq.trans rfl rfl
@[simp] theorem State.wrapInc_msix (s : State) (f : Fld) : (s.wrapInc f).msix = s.msix := Eq.trans rfl rfl
@[simp] theorem State.wrapInc_lb (s : State) (f : Fld) : (s.wrapInc f).lb = s.lb := Eq.trans rfl rfl
@[simp] theorem State.wrapInc_pages (s : State) (f : Fld) : (s.wrapInc f).pages = s.pages := Eq.trans rfl rfl
@[simp] theorem State.wrapInc_hostWins (s : State) (f : Fld) : (s.wrapInc f).hostWins = s.hostWins := Eq.trans rfl rfl
@[simp] theorem State.wrapInc_keys (s : State) (f : Fld) : (s.wrapInc f).keys = s.keys := Eq.trans rfl rfl
@[simp] theorem State.wrapInc_keyOp (s : State) (f : Fld) : (s.wrapInc f).keyOp = s.keyOp := Eq.trans rfl rfl
@[simp] theorem State.wrapInc_dma (s : State) (f : Fld) : (s.wrapInc f).dma = s.dma := Eq.trans rfl rfl
@[simp] theorem State.wrapInc_doms (s : State) (f : Fld) : (s.wrapInc f).doms = s.doms := Eq.trans rfl rfl
@[simp] theorem State.wrapInc_bankOwned (s : State) (f : Fld) : (s.wrapInc f).bankOwned = s.bankOwned := Eq.trans rfl rfl
@[simp] theorem State.wrapInc_bankOn (s : State) (f : Fld) : (s.wrapInc f).bankOn = s.bankOn := Eq.trans rfl rfl
@[simp] theorem State.wrapInc_bankFill (s : State) (f : Fld) : (s.wrapInc f).bankFill = s.bankFill := Eq.trans rfl rfl
@[simp] theorem State.wrapInc_hotRun (s : State) (f : Fld) : (s.wrapInc f).hotRun = s.hotRun := Eq.trans rfl rfl
@[simp] theorem State.wrapInc_cluWrites (s : State) (f : Fld) : (s.wrapInc f).cluWrites = s.cluWrites := Eq.trans rfl rfl
@[simp] theorem State.wrapInc_wakeAt (s : State) (f : Fld) : (s.wrapInc f).wakeAt = s.wakeAt := Eq.trans rfl rfl
@[simp] theorem State.wrapInc_amonPlain (s : State) (f : Fld) : (s.wrapInc f).amonPlain = s.amonPlain := Eq.trans rfl rfl
@[simp] theorem State.wrapInc_qspi (s : State) (f : Fld) : (s.wrapInc f).qspi = s.qspi := Eq.trans rfl rfl
@[simp] theorem State.wrapInc_fwVersion (s : State) (f : Fld) : (s.wrapInc f).fwVersion = s.fwVersion := Eq.trans rfl rfl
@[simp] theorem State.wrapInc_svStop (s : State) (f : Fld) : (s.wrapInc f).svStop = s.svStop := Eq.trans rfl rfl
@[simp] theorem State.wrapInc_espOp (s : State) (f : Fld) : (s.wrapInc f).espOp = s.espOp := Eq.trans rfl rfl
@[simp] theorem State.wrapInc_graftNew (s : State) (f : Fld) : (s.wrapInc f).graftNew = s.graftNew := Eq.trans rfl rfl
@[simp] theorem State.wrapInc_net (s : State) (f : Fld) : (s.wrapInc f).net = s.net := Eq.trans rfl rfl
@[simp] theorem State.wrapInc_staged (s : State) (f : Fld) : (s.wrapInc f).staged = s.staged := Eq.trans rfl rfl
@[simp] theorem State.wrapInc_badBursts (s : State) (f : Fld) : (s.wrapInc f).badBursts = s.badBursts := Eq.trans rfl rfl
@[simp] theorem State.wrapInc_retrainCh (s : State) (f : Fld) : (s.wrapInc f).retrainCh = s.retrainCh := Eq.trans rfl rfl
@[simp] theorem State.wrapInc_retrainDue (s : State) (f : Fld) : (s.wrapInc f).retrainDue = s.retrainDue := Eq.trans rfl rfl
@[simp] theorem State.wrapInc_recs (s : State) (f : Fld) : (s.wrapInc f).recs = s.recs := Eq.trans rfl rfl
@[simp] theorem State.wrapInc_coreOut (s : State) (f : Fld) : (s.wrapInc f).coreOut = s.coreOut := Eq.trans rfl rfl
@[simp] theorem State.wrapInc_railsOut (s : State) (f : Fld) : (s.wrapInc f).railsOut = s.railsOut := Eq.trans rfl rfl

/-! ### State.satAdd -/

@[simp] theorem State.satAdd_pending (s : State) (f : Fld) (n : Nat) : (s.satAdd f n).pending = s.pending := Eq.trans rfl rfl
@[simp] theorem State.satAdd_freeCtr (s : State) (f : Fld) (n : Nat) : (s.satAdd f n).freeCtr = s.freeCtr := Eq.trans rfl rfl
@[simp] theorem State.satAdd_tick (s : State) (f : Fld) (n : Nat) : (s.satAdd f n).tick = s.tick := Eq.trans rfl rfl
@[simp] theorem State.satAdd_tickOn (s : State) (f : Fld) (n : Nat) : (s.satAdd f n).tickOn = s.tickOn := Eq.trans rfl rfl
@[simp] theorem State.satAdd_tickHold (s : State) (f : Fld) (n : Nat) : (s.satAdd f n).tickHold = s.tickHold := Eq.trans rfl rfl
@[simp] theorem State.satAdd_eng (s : State) (f : Fld) (n : Nat) : (s.satAdd f n).eng = s.eng := Eq.trans rfl rfl
@[simp] theorem State.satAdd_hops (s : State) (f : Fld) (n : Nat) : (s.satAdd f n).hops = s.hops := Eq.trans rfl rfl
@[simp] theorem State.satAdd_str (s : State) (f : Fld) (n : Nat) : (s.satAdd f n).str = s.str := Eq.trans rfl rfl
@[simp] theorem State.satAdd_locked (s : State) (f : Fld) (n : Nat) : (s.satAdd f n).locked = s.locked := Eq.trans rfl rfl
@[simp] theorem State.satAdd_pstA (s : State) (f : Fld) (n : Nat) : (s.satAdd f n).pstA = s.pstA := Eq.trans rfl rfl
@[simp] theorem State.satAdd_pstB (s : State) (f : Fld) (n : Nat) : (s.satAdd f n).pstB = s.pstB := Eq.trans rfl rfl
@[simp] theorem State.satAdd_qsA (s : State) (f : Fld) (n : Nat) : (s.satAdd f n).qsA = s.qsA := Eq.trans rfl rfl
@[simp] theorem State.satAdd_qsB (s : State) (f : Fld) (n : Nat) : (s.satAdd f n).qsB = s.qsB := Eq.trans rfl rfl
@[simp] theorem State.satAdd_gcA (s : State) (f : Fld) (n : Nat) : (s.satAdd f n).gcA = s.gcA := Eq.trans rfl rfl
@[simp] theorem State.satAdd_gcB (s : State) (f : Fld) (n : Nat) : (s.satAdd f n).gcB = s.gcB := Eq.trans rfl rfl
@[simp] theorem State.satAdd_subm (s : State) (f : Fld) (n : Nat) : (s.satAdd f n).subm = s.subm := Eq.trans rfl rfl
@[simp] theorem State.satAdd_groups (s : State) (f : Fld) (n : Nat) : (s.satAdd f n).groups = s.groups := Eq.trans rfl rfl
@[simp] theorem State.satAdd_leases (s : State) (f : Fld) (n : Nat) : (s.satAdd f n).leases = s.leases := Eq.trans rfl rfl
@[simp] theorem State.satAdd_leaseSerial (s : State) (f : Fld) (n : Nat) : (s.satAdd f n).leaseSerial = s.leaseSerial := Eq.trans rfl rfl
@[simp] theorem State.satAdd_broken (s : State) (f : Fld) (n : Nat) : (s.satAdd f n).broken = s.broken := Eq.trans rfl rfl
@[simp] theorem State.satAdd_cells (s : State) (f : Fld) (n : Nat) : (s.satAdd f n).cells = s.cells := Eq.trans rfl rfl
@[simp] theorem State.satAdd_remembered (s : State) (f : Fld) (n : Nat) : (s.satAdd f n).remembered = s.remembered := Eq.trans rfl rfl
@[simp] theorem State.satAdd_partOps (s : State) (f : Fld) (n : Nat) : (s.satAdd f n).partOps = s.partOps := Eq.trans rfl rfl
@[simp] theorem State.satAdd_age (s : State) (f : Fld) (n : Nat) : (s.satAdd f n).age = s.age := Eq.trans rfl rfl
@[simp] theorem State.satAdd_delay (s : State) (f : Fld) (n : Nat) : (s.satAdd f n).delay = s.delay := Eq.trans rfl rfl
@[simp] theorem State.satAdd_dram (s : State) (f : Fld) (n : Nat) : (s.satAdd f n).dram = s.dram := Eq.trans rfl rfl
@[simp] theorem State.satAdd_sessions (s : State) (f : Fld) (n : Nat) : (s.satAdd f n).sessions = s.sessions := Eq.trans rfl rfl
@[simp] theorem State.satAdd_epochs (s : State) (f : Fld) (n : Nat) : (s.satAdd f n).epochs = s.epochs := Eq.trans rfl rfl
@[simp] theorem State.satAdd_openReqs (s : State) (f : Fld) (n : Nat) : (s.satAdd f n).openReqs = s.openReqs := Eq.trans rfl rfl
@[simp] theorem State.satAdd_bellOut (s : State) (f : Fld) (n : Nat) : (s.satAdd f n).bellOut = s.bellOut := Eq.trans rfl rfl
@[simp] theorem State.satAdd_udpOut (s : State) (f : Fld) (n : Nat) : (s.satAdd f n).udpOut = s.udpOut := Eq.trans rfl rfl
@[simp] theorem State.satAdd_held (s : State) (f : Fld) (n : Nat) : (s.satAdd f n).held = s.held := Eq.trans rfl rfl
@[simp] theorem State.satAdd_faultStart (s : State) (f : Fld) (n : Nat) : (s.satAdd f n).faultStart = s.faultStart := Eq.trans rfl rfl
@[simp] theorem State.satAdd_faultLoad (s : State) (f : Fld) (n : Nat) : (s.satAdd f n).faultLoad = s.faultLoad := Eq.trans rfl rfl
@[simp] theorem State.satAdd_floated (s : State) (f : Fld) (n : Nat) : (s.satAdd f n).floated = s.floated := Eq.trans rfl rfl
@[simp] theorem State.satAdd_hold (s : State) (f : Fld) (n : Nat) : (s.satAdd f n).hold = s.hold := Eq.trans rfl rfl
@[simp] theorem State.satAdd_nv (s : State) (f : Fld) (n : Nat) : (s.satAdd f n).nv = s.nv := Eq.trans rfl rfl
@[simp] theorem State.satAdd_otp (s : State) (f : Fld) (n : Nat) : (s.satAdd f n).otp = s.otp := Eq.trans rfl rfl
@[simp] theorem State.satAdd_otpNext (s : State) (f : Fld) (n : Nat) : (s.satAdd f n).otpNext = s.otpNext := Eq.trans rfl rfl
@[simp] theorem State.satAdd_strap (s : State) (f : Fld) (n : Nat) : (s.satAdd f n).strap = s.strap := Eq.trans rfl rfl
@[simp] theorem State.satAdd_gens (s : State) (f : Fld) (n : Nat) : (s.satAdd f n).gens = s.gens := Eq.trans rfl rfl
@[simp] theorem State.satAdd_save (s : State) (f : Fld) (n : Nat) : (s.satAdd f n).save = s.save := Eq.trans rfl rfl
@[simp] theorem State.satAdd_phases (s : State) (f : Fld) (n : Nat) : (s.satAdd f n).phases = s.phases := Eq.trans rfl rfl
@[simp] theorem State.satAdd_msFrac (s : State) (f : Fld) (n : Nat) : (s.satAdd f n).msFrac = s.msFrac := Eq.trans rfl rfl
@[simp] theorem State.satAdd_twin (s : State) (f : Fld) (n : Nat) : (s.satAdd f n).twin = s.twin := Eq.trans rfl rfl
@[simp] theorem State.satAdd_ctlOut (s : State) (f : Fld) (n : Nat) : (s.satAdd f n).ctlOut = s.ctlOut := Eq.trans rfl rfl
@[simp] theorem State.satAdd_guards (s : State) (f : Fld) (n : Nat) : (s.satAdd f n).guards = s.guards := Eq.trans rfl rfl
@[simp] theorem State.satAdd_hot (s : State) (f : Fld) (n : Nat) : (s.satAdd f n).hot = s.hot := Eq.trans rfl rfl
@[simp] theorem State.satAdd_silence (s : State) (f : Fld) (n : Nat) : (s.satAdd f n).silence = s.silence := Eq.trans rfl rfl
@[simp] theorem State.satAdd_silent (s : State) (f : Fld) (n : Nat) : (s.satAdd f n).silent = s.silent := Eq.trans rfl rfl
@[simp] theorem State.satAdd_jtag (s : State) (f : Fld) (n : Nat) : (s.satAdd f n).jtag = s.jtag := Eq.trans rfl rfl
@[simp] theorem State.satAdd_amonGood (s : State) (f : Fld) (n : Nat) : (s.satAdd f n).amonGood = s.amonGood := Eq.trans rfl rfl
@[simp] theorem State.satAdd_muteEnd (s : State) (f : Fld) (n : Nat) : (s.satAdd f n).muteEnd = s.muteEnd := Eq.trans rfl rfl
@[simp] theorem State.satAdd_sv (s : State) (f : Fld) (n : Nat) : (s.satAdd f n).sv = s.sv := Eq.trans rfl rfl
@[simp] theorem State.satAdd_kick (s : State) (f : Fld) (n : Nat) : (s.satAdd f n).kick = s.kick := Eq.trans rfl rfl
@[simp] theorem State.satAdd_wdtWarned (s : State) (f : Fld) (n : Nat) : (s.satAdd f n).wdtWarned = s.wdtWarned := Eq.trans rfl rfl
@[simp] theorem State.satAdd_mbx (s : State) (f : Fld) (n : Nat) : (s.satAdd f n).mbx = s.mbx := Eq.trans rfl rfl
@[simp] theorem State.satAdd_flash (s : State) (f : Fld) (n : Nat) : (s.satAdd f n).flash = s.flash := Eq.trans rfl rfl
@[simp] theorem State.satAdd_flashOp (s : State) (f : Fld) (n : Nat) : (s.satAdd f n).flashOp = s.flashOp := Eq.trans rfl rfl
@[simp] theorem State.satAdd_io (s : State) (f : Fld) (n : Nat) : (s.satAdd f n).io = s.io := Eq.trans rfl rfl
@[simp] theorem State.satAdd_clk (s : State) (f : Fld) (n : Nat) : (s.satAdd f n).clk = s.clk := Eq.trans rfl rfl
@[simp] theorem State.satAdd_readData (s : State) (f : Fld) (n : Nat) : (s.satAdd f n).readData = s.readData := Eq.trans rfl rfl
@[simp] theorem State.satAdd_guarded (s : State) (f : Fld) (n : Nat) : (s.satAdd f n).guarded = s.guarded := Eq.trans rfl rfl
@[simp] theorem State.satAdd_scrubRow (s : State) (f : Fld) (n : Nat) : (s.satAdd f n).scrubRow = s.scrubRow := Eq.trans rfl rfl
@[simp] theorem State.satAdd_msix (s : State) (f : Fld) (n : Nat) : (s.satAdd f n).msix = s.msix := Eq.trans rfl rfl
@[simp] theorem State.satAdd_lb (s : State) (f : Fld) (n : Nat) : (s.satAdd f n).lb = s.lb := Eq.trans rfl rfl
@[simp] theorem State.satAdd_pages (s : State) (f : Fld) (n : Nat) : (s.satAdd f n).pages = s.pages := Eq.trans rfl rfl
@[simp] theorem State.satAdd_hostWins (s : State) (f : Fld) (n : Nat) : (s.satAdd f n).hostWins = s.hostWins := Eq.trans rfl rfl
@[simp] theorem State.satAdd_keys (s : State) (f : Fld) (n : Nat) : (s.satAdd f n).keys = s.keys := Eq.trans rfl rfl
@[simp] theorem State.satAdd_keyOp (s : State) (f : Fld) (n : Nat) : (s.satAdd f n).keyOp = s.keyOp := Eq.trans rfl rfl
@[simp] theorem State.satAdd_dma (s : State) (f : Fld) (n : Nat) : (s.satAdd f n).dma = s.dma := Eq.trans rfl rfl
@[simp] theorem State.satAdd_doms (s : State) (f : Fld) (n : Nat) : (s.satAdd f n).doms = s.doms := Eq.trans rfl rfl
@[simp] theorem State.satAdd_bankOwned (s : State) (f : Fld) (n : Nat) : (s.satAdd f n).bankOwned = s.bankOwned := Eq.trans rfl rfl
@[simp] theorem State.satAdd_bankOn (s : State) (f : Fld) (n : Nat) : (s.satAdd f n).bankOn = s.bankOn := Eq.trans rfl rfl
@[simp] theorem State.satAdd_bankFill (s : State) (f : Fld) (n : Nat) : (s.satAdd f n).bankFill = s.bankFill := Eq.trans rfl rfl
@[simp] theorem State.satAdd_hotRun (s : State) (f : Fld) (n : Nat) : (s.satAdd f n).hotRun = s.hotRun := Eq.trans rfl rfl
@[simp] theorem State.satAdd_cluWrites (s : State) (f : Fld) (n : Nat) : (s.satAdd f n).cluWrites = s.cluWrites := Eq.trans rfl rfl
@[simp] theorem State.satAdd_wakeAt (s : State) (f : Fld) (n : Nat) : (s.satAdd f n).wakeAt = s.wakeAt := Eq.trans rfl rfl
@[simp] theorem State.satAdd_amonPlain (s : State) (f : Fld) (n : Nat) : (s.satAdd f n).amonPlain = s.amonPlain := Eq.trans rfl rfl
@[simp] theorem State.satAdd_qspi (s : State) (f : Fld) (n : Nat) : (s.satAdd f n).qspi = s.qspi := Eq.trans rfl rfl
@[simp] theorem State.satAdd_fwVersion (s : State) (f : Fld) (n : Nat) : (s.satAdd f n).fwVersion = s.fwVersion := Eq.trans rfl rfl
@[simp] theorem State.satAdd_svStop (s : State) (f : Fld) (n : Nat) : (s.satAdd f n).svStop = s.svStop := Eq.trans rfl rfl
@[simp] theorem State.satAdd_espOp (s : State) (f : Fld) (n : Nat) : (s.satAdd f n).espOp = s.espOp := Eq.trans rfl rfl
@[simp] theorem State.satAdd_graftNew (s : State) (f : Fld) (n : Nat) : (s.satAdd f n).graftNew = s.graftNew := Eq.trans rfl rfl
@[simp] theorem State.satAdd_net (s : State) (f : Fld) (n : Nat) : (s.satAdd f n).net = s.net := Eq.trans rfl rfl
@[simp] theorem State.satAdd_staged (s : State) (f : Fld) (n : Nat) : (s.satAdd f n).staged = s.staged := Eq.trans rfl rfl
@[simp] theorem State.satAdd_badBursts (s : State) (f : Fld) (n : Nat) : (s.satAdd f n).badBursts = s.badBursts := Eq.trans rfl rfl
@[simp] theorem State.satAdd_retrainCh (s : State) (f : Fld) (n : Nat) : (s.satAdd f n).retrainCh = s.retrainCh := Eq.trans rfl rfl
@[simp] theorem State.satAdd_retrainDue (s : State) (f : Fld) (n : Nat) : (s.satAdd f n).retrainDue = s.retrainDue := Eq.trans rfl rfl
@[simp] theorem State.satAdd_recs (s : State) (f : Fld) (n : Nat) : (s.satAdd f n).recs = s.recs := Eq.trans rfl rfl
@[simp] theorem State.satAdd_coreOut (s : State) (f : Fld) (n : Nat) : (s.satAdd f n).coreOut = s.coreOut := Eq.trans rfl rfl
@[simp] theorem State.satAdd_railsOut (s : State) (f : Fld) (n : Nat) : (s.satAdd f n).railsOut = s.railsOut := Eq.trans rfl rfl

/-! ### State.satInc -/

@[simp] theorem State.satInc_pending (s : State) (f : Fld) : (s.satInc f).pending = s.pending := by unfold State.satInc; split <;> rfl
@[simp] theorem State.satInc_freeCtr (s : State) (f : Fld) : (s.satInc f).freeCtr = s.freeCtr := by unfold State.satInc; split <;> rfl
@[simp] theorem State.satInc_tick (s : State) (f : Fld) : (s.satInc f).tick = s.tick := by unfold State.satInc; split <;> rfl
@[simp] theorem State.satInc_tickOn (s : State) (f : Fld) : (s.satInc f).tickOn = s.tickOn := by unfold State.satInc; split <;> rfl
@[simp] theorem State.satInc_tickHold (s : State) (f : Fld) : (s.satInc f).tickHold = s.tickHold := by unfold State.satInc; split <;> rfl
@[simp] theorem State.satInc_eng (s : State) (f : Fld) : (s.satInc f).eng = s.eng := by unfold State.satInc; split <;> rfl
@[simp] theorem State.satInc_hops (s : State) (f : Fld) : (s.satInc f).hops = s.hops := by unfold State.satInc; split <;> rfl
@[simp] theorem State.satInc_str (s : State) (f : Fld) : (s.satInc f).str = s.str := by unfold State.satInc; split <;> rfl
@[simp] theorem State.satInc_locked (s : State) (f : Fld) : (s.satInc f).locked = s.locked := by unfold State.satInc; split <;> rfl
@[simp] theorem State.satInc_pstA (s : State) (f : Fld) : (s.satInc f).pstA = s.pstA := by unfold State.satInc; split <;> rfl
@[simp] theorem State.satInc_pstB (s : State) (f : Fld) : (s.satInc f).pstB = s.pstB := by unfold State.satInc; split <;> rfl
@[simp] theorem State.satInc_qsA (s : State) (f : Fld) : (s.satInc f).qsA = s.qsA := by unfold State.satInc; split <;> rfl
@[simp] theorem State.satInc_qsB (s : State) (f : Fld) : (s.satInc f).qsB = s.qsB := by unfold State.satInc; split <;> rfl
@[simp] theorem State.satInc_gcA (s : State) (f : Fld) : (s.satInc f).gcA = s.gcA := by unfold State.satInc; split <;> rfl
@[simp] theorem State.satInc_gcB (s : State) (f : Fld) : (s.satInc f).gcB = s.gcB := by unfold State.satInc; split <;> rfl
@[simp] theorem State.satInc_subm (s : State) (f : Fld) : (s.satInc f).subm = s.subm := by unfold State.satInc; split <;> rfl
@[simp] theorem State.satInc_groups (s : State) (f : Fld) : (s.satInc f).groups = s.groups := by unfold State.satInc; split <;> rfl
@[simp] theorem State.satInc_leases (s : State) (f : Fld) : (s.satInc f).leases = s.leases := by unfold State.satInc; split <;> rfl
@[simp] theorem State.satInc_leaseSerial (s : State) (f : Fld) : (s.satInc f).leaseSerial = s.leaseSerial := by unfold State.satInc; split <;> rfl
@[simp] theorem State.satInc_broken (s : State) (f : Fld) : (s.satInc f).broken = s.broken := by unfold State.satInc; split <;> rfl
@[simp] theorem State.satInc_cells (s : State) (f : Fld) : (s.satInc f).cells = s.cells := by unfold State.satInc; split <;> rfl
@[simp] theorem State.satInc_remembered (s : State) (f : Fld) : (s.satInc f).remembered = s.remembered := by unfold State.satInc; split <;> rfl
@[simp] theorem State.satInc_partOps (s : State) (f : Fld) : (s.satInc f).partOps = s.partOps := by unfold State.satInc; split <;> rfl
@[simp] theorem State.satInc_age (s : State) (f : Fld) : (s.satInc f).age = s.age := by unfold State.satInc; split <;> rfl
@[simp] theorem State.satInc_delay (s : State) (f : Fld) : (s.satInc f).delay = s.delay := by unfold State.satInc; split <;> rfl
@[simp] theorem State.satInc_dram (s : State) (f : Fld) : (s.satInc f).dram = s.dram := by unfold State.satInc; split <;> rfl
@[simp] theorem State.satInc_sessions (s : State) (f : Fld) : (s.satInc f).sessions = s.sessions := by unfold State.satInc; split <;> rfl
@[simp] theorem State.satInc_epochs (s : State) (f : Fld) : (s.satInc f).epochs = s.epochs := by unfold State.satInc; split <;> rfl
@[simp] theorem State.satInc_openReqs (s : State) (f : Fld) : (s.satInc f).openReqs = s.openReqs := by unfold State.satInc; split <;> rfl
@[simp] theorem State.satInc_bellOut (s : State) (f : Fld) : (s.satInc f).bellOut = s.bellOut := by unfold State.satInc; split <;> rfl
@[simp] theorem State.satInc_udpOut (s : State) (f : Fld) : (s.satInc f).udpOut = s.udpOut := by unfold State.satInc; split <;> rfl
@[simp] theorem State.satInc_held (s : State) (f : Fld) : (s.satInc f).held = s.held := by unfold State.satInc; split <;> rfl
@[simp] theorem State.satInc_faultStart (s : State) (f : Fld) : (s.satInc f).faultStart = s.faultStart := by unfold State.satInc; split <;> rfl
@[simp] theorem State.satInc_faultLoad (s : State) (f : Fld) : (s.satInc f).faultLoad = s.faultLoad := by unfold State.satInc; split <;> rfl
@[simp] theorem State.satInc_floated (s : State) (f : Fld) : (s.satInc f).floated = s.floated := by unfold State.satInc; split <;> rfl
@[simp] theorem State.satInc_hold (s : State) (f : Fld) : (s.satInc f).hold = s.hold := by unfold State.satInc; split <;> rfl
@[simp] theorem State.satInc_nv (s : State) (f : Fld) : (s.satInc f).nv = s.nv := by unfold State.satInc; split <;> rfl
@[simp] theorem State.satInc_otp (s : State) (f : Fld) : (s.satInc f).otp = s.otp := by unfold State.satInc; split <;> rfl
@[simp] theorem State.satInc_otpNext (s : State) (f : Fld) : (s.satInc f).otpNext = s.otpNext := by unfold State.satInc; split <;> rfl
@[simp] theorem State.satInc_strap (s : State) (f : Fld) : (s.satInc f).strap = s.strap := by unfold State.satInc; split <;> rfl
@[simp] theorem State.satInc_gens (s : State) (f : Fld) : (s.satInc f).gens = s.gens := by unfold State.satInc; split <;> rfl
@[simp] theorem State.satInc_save (s : State) (f : Fld) : (s.satInc f).save = s.save := by unfold State.satInc; split <;> rfl
@[simp] theorem State.satInc_phases (s : State) (f : Fld) : (s.satInc f).phases = s.phases := by unfold State.satInc; split <;> rfl
@[simp] theorem State.satInc_msFrac (s : State) (f : Fld) : (s.satInc f).msFrac = s.msFrac := by unfold State.satInc; split <;> rfl
@[simp] theorem State.satInc_twin (s : State) (f : Fld) : (s.satInc f).twin = s.twin := by unfold State.satInc; split <;> rfl
@[simp] theorem State.satInc_ctlOut (s : State) (f : Fld) : (s.satInc f).ctlOut = s.ctlOut := by unfold State.satInc; split <;> rfl
@[simp] theorem State.satInc_guards (s : State) (f : Fld) : (s.satInc f).guards = s.guards := by unfold State.satInc; split <;> rfl
@[simp] theorem State.satInc_hot (s : State) (f : Fld) : (s.satInc f).hot = s.hot := by unfold State.satInc; split <;> rfl
@[simp] theorem State.satInc_silence (s : State) (f : Fld) : (s.satInc f).silence = s.silence := by unfold State.satInc; split <;> rfl
@[simp] theorem State.satInc_silent (s : State) (f : Fld) : (s.satInc f).silent = s.silent := by unfold State.satInc; split <;> rfl
@[simp] theorem State.satInc_jtag (s : State) (f : Fld) : (s.satInc f).jtag = s.jtag := by unfold State.satInc; split <;> rfl
@[simp] theorem State.satInc_amonGood (s : State) (f : Fld) : (s.satInc f).amonGood = s.amonGood := by unfold State.satInc; split <;> rfl
@[simp] theorem State.satInc_muteEnd (s : State) (f : Fld) : (s.satInc f).muteEnd = s.muteEnd := by unfold State.satInc; split <;> rfl
@[simp] theorem State.satInc_sv (s : State) (f : Fld) : (s.satInc f).sv = s.sv := by unfold State.satInc; split <;> rfl
@[simp] theorem State.satInc_kick (s : State) (f : Fld) : (s.satInc f).kick = s.kick := by unfold State.satInc; split <;> rfl
@[simp] theorem State.satInc_wdtWarned (s : State) (f : Fld) : (s.satInc f).wdtWarned = s.wdtWarned := by unfold State.satInc; split <;> rfl
@[simp] theorem State.satInc_mbx (s : State) (f : Fld) : (s.satInc f).mbx = s.mbx := by unfold State.satInc; split <;> rfl
@[simp] theorem State.satInc_flash (s : State) (f : Fld) : (s.satInc f).flash = s.flash := by unfold State.satInc; split <;> rfl
@[simp] theorem State.satInc_flashOp (s : State) (f : Fld) : (s.satInc f).flashOp = s.flashOp := by unfold State.satInc; split <;> rfl
@[simp] theorem State.satInc_io (s : State) (f : Fld) : (s.satInc f).io = s.io := by unfold State.satInc; split <;> rfl
@[simp] theorem State.satInc_clk (s : State) (f : Fld) : (s.satInc f).clk = s.clk := by unfold State.satInc; split <;> rfl
@[simp] theorem State.satInc_readData (s : State) (f : Fld) : (s.satInc f).readData = s.readData := by unfold State.satInc; split <;> rfl
@[simp] theorem State.satInc_guarded (s : State) (f : Fld) : (s.satInc f).guarded = s.guarded := by unfold State.satInc; split <;> rfl
@[simp] theorem State.satInc_scrubRow (s : State) (f : Fld) : (s.satInc f).scrubRow = s.scrubRow := by unfold State.satInc; split <;> rfl
@[simp] theorem State.satInc_msix (s : State) (f : Fld) : (s.satInc f).msix = s.msix := by unfold State.satInc; split <;> rfl
@[simp] theorem State.satInc_lb (s : State) (f : Fld) : (s.satInc f).lb = s.lb := by unfold State.satInc; split <;> rfl
@[simp] theorem State.satInc_pages (s : State) (f : Fld) : (s.satInc f).pages = s.pages := by unfold State.satInc; split <;> rfl
@[simp] theorem State.satInc_hostWins (s : State) (f : Fld) : (s.satInc f).hostWins = s.hostWins := by unfold State.satInc; split <;> rfl
@[simp] theorem State.satInc_keys (s : State) (f : Fld) : (s.satInc f).keys = s.keys := by unfold State.satInc; split <;> rfl
@[simp] theorem State.satInc_keyOp (s : State) (f : Fld) : (s.satInc f).keyOp = s.keyOp := by unfold State.satInc; split <;> rfl
@[simp] theorem State.satInc_dma (s : State) (f : Fld) : (s.satInc f).dma = s.dma := by unfold State.satInc; split <;> rfl
@[simp] theorem State.satInc_doms (s : State) (f : Fld) : (s.satInc f).doms = s.doms := by unfold State.satInc; split <;> rfl
@[simp] theorem State.satInc_bankOwned (s : State) (f : Fld) : (s.satInc f).bankOwned = s.bankOwned := by unfold State.satInc; split <;> rfl
@[simp] theorem State.satInc_bankOn (s : State) (f : Fld) : (s.satInc f).bankOn = s.bankOn := by unfold State.satInc; split <;> rfl
@[simp] theorem State.satInc_bankFill (s : State) (f : Fld) : (s.satInc f).bankFill = s.bankFill := by unfold State.satInc; split <;> rfl
@[simp] theorem State.satInc_hotRun (s : State) (f : Fld) : (s.satInc f).hotRun = s.hotRun := by unfold State.satInc; split <;> rfl
@[simp] theorem State.satInc_cluWrites (s : State) (f : Fld) : (s.satInc f).cluWrites = s.cluWrites := by unfold State.satInc; split <;> rfl
@[simp] theorem State.satInc_wakeAt (s : State) (f : Fld) : (s.satInc f).wakeAt = s.wakeAt := by unfold State.satInc; split <;> rfl
@[simp] theorem State.satInc_amonPlain (s : State) (f : Fld) : (s.satInc f).amonPlain = s.amonPlain := by unfold State.satInc; split <;> rfl
@[simp] theorem State.satInc_qspi (s : State) (f : Fld) : (s.satInc f).qspi = s.qspi := by unfold State.satInc; split <;> rfl
@[simp] theorem State.satInc_fwVersion (s : State) (f : Fld) : (s.satInc f).fwVersion = s.fwVersion := by unfold State.satInc; split <;> rfl
@[simp] theorem State.satInc_svStop (s : State) (f : Fld) : (s.satInc f).svStop = s.svStop := by unfold State.satInc; split <;> rfl
@[simp] theorem State.satInc_espOp (s : State) (f : Fld) : (s.satInc f).espOp = s.espOp := by unfold State.satInc; split <;> rfl
@[simp] theorem State.satInc_graftNew (s : State) (f : Fld) : (s.satInc f).graftNew = s.graftNew := by unfold State.satInc; split <;> rfl
@[simp] theorem State.satInc_net (s : State) (f : Fld) : (s.satInc f).net = s.net := by unfold State.satInc; split <;> rfl
@[simp] theorem State.satInc_staged (s : State) (f : Fld) : (s.satInc f).staged = s.staged := by unfold State.satInc; split <;> rfl
@[simp] theorem State.satInc_badBursts (s : State) (f : Fld) : (s.satInc f).badBursts = s.badBursts := by unfold State.satInc; split <;> rfl
@[simp] theorem State.satInc_retrainCh (s : State) (f : Fld) : (s.satInc f).retrainCh = s.retrainCh := by unfold State.satInc; split <;> rfl
@[simp] theorem State.satInc_retrainDue (s : State) (f : Fld) : (s.satInc f).retrainDue = s.retrainDue := by unfold State.satInc; split <;> rfl
@[simp] theorem State.satInc_recs (s : State) (f : Fld) : (s.satInc f).recs = s.recs := by unfold State.satInc; split <;> rfl
@[simp] theorem State.satInc_coreOut (s : State) (f : Fld) : (s.satInc f).coreOut = s.coreOut := by unfold State.satInc; split <;> rfl
@[simp] theorem State.satInc_railsOut (s : State) (f : Fld) : (s.satInc f).railsOut = s.railsOut := by unfold State.satInc; split <;> rfl

/-! ### State.setEngine -/

@[simp] theorem State.setEngine_pending (s : State) (e : Nat) (x : Engine) : (s.setEngine e x).pending = s.pending := Eq.trans rfl rfl
@[simp] theorem State.setEngine_regs (s : State) (e : Nat) (x : Engine) : (s.setEngine e x).regs = s.regs := Eq.trans rfl rfl
@[simp] theorem State.setEngine_freeCtr (s : State) (e : Nat) (x : Engine) : (s.setEngine e x).freeCtr = s.freeCtr := Eq.trans rfl rfl
@[simp] theorem State.setEngine_tick (s : State) (e : Nat) (x : Engine) : (s.setEngine e x).tick = s.tick := Eq.trans rfl rfl
@[simp] theorem State.setEngine_tickOn (s : State) (e : Nat) (x : Engine) : (s.setEngine e x).tickOn = s.tickOn := Eq.trans rfl rfl
@[simp] theorem State.setEngine_tickHold (s : State) (e : Nat) (x : Engine) : (s.setEngine e x).tickHold = s.tickHold := Eq.trans rfl rfl
@[simp] theorem State.setEngine_hops (s : State) (e : Nat) (x : Engine) : (s.setEngine e x).hops = s.hops := Eq.trans rfl rfl
@[simp] theorem State.setEngine_str (s : State) (e : Nat) (x : Engine) : (s.setEngine e x).str = s.str := Eq.trans rfl rfl
@[simp] theorem State.setEngine_locked (s : State) (e : Nat) (x : Engine) : (s.setEngine e x).locked = s.locked := Eq.trans rfl rfl
@[simp] theorem State.setEngine_pstA (s : State) (e : Nat) (x : Engine) : (s.setEngine e x).pstA = s.pstA := Eq.trans rfl rfl
@[simp] theorem State.setEngine_pstB (s : State) (e : Nat) (x : Engine) : (s.setEngine e x).pstB = s.pstB := Eq.trans rfl rfl
@[simp] theorem State.setEngine_qsA (s : State) (e : Nat) (x : Engine) : (s.setEngine e x).qsA = s.qsA := Eq.trans rfl rfl
@[simp] theorem State.setEngine_qsB (s : State) (e : Nat) (x : Engine) : (s.setEngine e x).qsB = s.qsB := Eq.trans rfl rfl
@[simp] theorem State.setEngine_gcA (s : State) (e : Nat) (x : Engine) : (s.setEngine e x).gcA = s.gcA := Eq.trans rfl rfl
@[simp] theorem State.setEngine_gcB (s : State) (e : Nat) (x : Engine) : (s.setEngine e x).gcB = s.gcB := Eq.trans rfl rfl
@[simp] theorem State.setEngine_subm (s : State) (e : Nat) (x : Engine) : (s.setEngine e x).subm = s.subm := Eq.trans rfl rfl
@[simp] theorem State.setEngine_groups (s : State) (e : Nat) (x : Engine) : (s.setEngine e x).groups = s.groups := Eq.trans rfl rfl
@[simp] theorem State.setEngine_leases (s : State) (e : Nat) (x : Engine) : (s.setEngine e x).leases = s.leases := Eq.trans rfl rfl
@[simp] theorem State.setEngine_leaseSerial (s : State) (e : Nat) (x : Engine) : (s.setEngine e x).leaseSerial = s.leaseSerial := Eq.trans rfl rfl
@[simp] theorem State.setEngine_broken (s : State) (e : Nat) (x : Engine) : (s.setEngine e x).broken = s.broken := Eq.trans rfl rfl
@[simp] theorem State.setEngine_cells (s : State) (e : Nat) (x : Engine) : (s.setEngine e x).cells = s.cells := Eq.trans rfl rfl
@[simp] theorem State.setEngine_remembered (s : State) (e : Nat) (x : Engine) : (s.setEngine e x).remembered = s.remembered := Eq.trans rfl rfl
@[simp] theorem State.setEngine_partOps (s : State) (e : Nat) (x : Engine) : (s.setEngine e x).partOps = s.partOps := Eq.trans rfl rfl
@[simp] theorem State.setEngine_age (s : State) (e : Nat) (x : Engine) : (s.setEngine e x).age = s.age := Eq.trans rfl rfl
@[simp] theorem State.setEngine_delay (s : State) (e : Nat) (x : Engine) : (s.setEngine e x).delay = s.delay := Eq.trans rfl rfl
@[simp] theorem State.setEngine_dram (s : State) (e : Nat) (x : Engine) : (s.setEngine e x).dram = s.dram := Eq.trans rfl rfl
@[simp] theorem State.setEngine_sessions (s : State) (e : Nat) (x : Engine) : (s.setEngine e x).sessions = s.sessions := Eq.trans rfl rfl
@[simp] theorem State.setEngine_epochs (s : State) (e : Nat) (x : Engine) : (s.setEngine e x).epochs = s.epochs := Eq.trans rfl rfl
@[simp] theorem State.setEngine_openReqs (s : State) (e : Nat) (x : Engine) : (s.setEngine e x).openReqs = s.openReqs := Eq.trans rfl rfl
@[simp] theorem State.setEngine_bellOut (s : State) (e : Nat) (x : Engine) : (s.setEngine e x).bellOut = s.bellOut := Eq.trans rfl rfl
@[simp] theorem State.setEngine_udpOut (s : State) (e : Nat) (x : Engine) : (s.setEngine e x).udpOut = s.udpOut := Eq.trans rfl rfl
@[simp] theorem State.setEngine_held (s : State) (e : Nat) (x : Engine) : (s.setEngine e x).held = s.held := Eq.trans rfl rfl
@[simp] theorem State.setEngine_faultStart (s : State) (e : Nat) (x : Engine) : (s.setEngine e x).faultStart = s.faultStart := Eq.trans rfl rfl
@[simp] theorem State.setEngine_faultLoad (s : State) (e : Nat) (x : Engine) : (s.setEngine e x).faultLoad = s.faultLoad := Eq.trans rfl rfl
@[simp] theorem State.setEngine_floated (s : State) (e : Nat) (x : Engine) : (s.setEngine e x).floated = s.floated := Eq.trans rfl rfl
@[simp] theorem State.setEngine_hold (s : State) (e : Nat) (x : Engine) : (s.setEngine e x).hold = s.hold := Eq.trans rfl rfl
@[simp] theorem State.setEngine_nv (s : State) (e : Nat) (x : Engine) : (s.setEngine e x).nv = s.nv := Eq.trans rfl rfl
@[simp] theorem State.setEngine_otp (s : State) (e : Nat) (x : Engine) : (s.setEngine e x).otp = s.otp := Eq.trans rfl rfl
@[simp] theorem State.setEngine_otpNext (s : State) (e : Nat) (x : Engine) : (s.setEngine e x).otpNext = s.otpNext := Eq.trans rfl rfl
@[simp] theorem State.setEngine_strap (s : State) (e : Nat) (x : Engine) : (s.setEngine e x).strap = s.strap := Eq.trans rfl rfl
@[simp] theorem State.setEngine_gens (s : State) (e : Nat) (x : Engine) : (s.setEngine e x).gens = s.gens := Eq.trans rfl rfl
@[simp] theorem State.setEngine_save (s : State) (e : Nat) (x : Engine) : (s.setEngine e x).save = s.save := Eq.trans rfl rfl
@[simp] theorem State.setEngine_phases (s : State) (e : Nat) (x : Engine) : (s.setEngine e x).phases = s.phases := Eq.trans rfl rfl
@[simp] theorem State.setEngine_msFrac (s : State) (e : Nat) (x : Engine) : (s.setEngine e x).msFrac = s.msFrac := Eq.trans rfl rfl
@[simp] theorem State.setEngine_twin (s : State) (e : Nat) (x : Engine) : (s.setEngine e x).twin = s.twin := Eq.trans rfl rfl
@[simp] theorem State.setEngine_ctlOut (s : State) (e : Nat) (x : Engine) : (s.setEngine e x).ctlOut = s.ctlOut := Eq.trans rfl rfl
@[simp] theorem State.setEngine_guards (s : State) (e : Nat) (x : Engine) : (s.setEngine e x).guards = s.guards := Eq.trans rfl rfl
@[simp] theorem State.setEngine_hot (s : State) (e : Nat) (x : Engine) : (s.setEngine e x).hot = s.hot := Eq.trans rfl rfl
@[simp] theorem State.setEngine_silence (s : State) (e : Nat) (x : Engine) : (s.setEngine e x).silence = s.silence := Eq.trans rfl rfl
@[simp] theorem State.setEngine_silent (s : State) (e : Nat) (x : Engine) : (s.setEngine e x).silent = s.silent := Eq.trans rfl rfl
@[simp] theorem State.setEngine_jtag (s : State) (e : Nat) (x : Engine) : (s.setEngine e x).jtag = s.jtag := Eq.trans rfl rfl
@[simp] theorem State.setEngine_amonGood (s : State) (e : Nat) (x : Engine) : (s.setEngine e x).amonGood = s.amonGood := Eq.trans rfl rfl
@[simp] theorem State.setEngine_muteEnd (s : State) (e : Nat) (x : Engine) : (s.setEngine e x).muteEnd = s.muteEnd := Eq.trans rfl rfl
@[simp] theorem State.setEngine_sv (s : State) (e : Nat) (x : Engine) : (s.setEngine e x).sv = s.sv := Eq.trans rfl rfl
@[simp] theorem State.setEngine_kick (s : State) (e : Nat) (x : Engine) : (s.setEngine e x).kick = s.kick := Eq.trans rfl rfl
@[simp] theorem State.setEngine_wdtWarned (s : State) (e : Nat) (x : Engine) : (s.setEngine e x).wdtWarned = s.wdtWarned := Eq.trans rfl rfl
@[simp] theorem State.setEngine_mbx (s : State) (e : Nat) (x : Engine) : (s.setEngine e x).mbx = s.mbx := Eq.trans rfl rfl
@[simp] theorem State.setEngine_flash (s : State) (e : Nat) (x : Engine) : (s.setEngine e x).flash = s.flash := Eq.trans rfl rfl
@[simp] theorem State.setEngine_flashOp (s : State) (e : Nat) (x : Engine) : (s.setEngine e x).flashOp = s.flashOp := Eq.trans rfl rfl
@[simp] theorem State.setEngine_io (s : State) (e : Nat) (x : Engine) : (s.setEngine e x).io = s.io := Eq.trans rfl rfl
@[simp] theorem State.setEngine_clk (s : State) (e : Nat) (x : Engine) : (s.setEngine e x).clk = s.clk := Eq.trans rfl rfl
@[simp] theorem State.setEngine_readData (s : State) (e : Nat) (x : Engine) : (s.setEngine e x).readData = s.readData := Eq.trans rfl rfl
@[simp] theorem State.setEngine_guarded (s : State) (e : Nat) (x : Engine) : (s.setEngine e x).guarded = s.guarded := Eq.trans rfl rfl
@[simp] theorem State.setEngine_scrubRow (s : State) (e : Nat) (x : Engine) : (s.setEngine e x).scrubRow = s.scrubRow := Eq.trans rfl rfl
@[simp] theorem State.setEngine_msix (s : State) (e : Nat) (x : Engine) : (s.setEngine e x).msix = s.msix := Eq.trans rfl rfl
@[simp] theorem State.setEngine_lb (s : State) (e : Nat) (x : Engine) : (s.setEngine e x).lb = s.lb := Eq.trans rfl rfl
@[simp] theorem State.setEngine_pages (s : State) (e : Nat) (x : Engine) : (s.setEngine e x).pages = s.pages := Eq.trans rfl rfl
@[simp] theorem State.setEngine_hostWins (s : State) (e : Nat) (x : Engine) : (s.setEngine e x).hostWins = s.hostWins := Eq.trans rfl rfl
@[simp] theorem State.setEngine_keys (s : State) (e : Nat) (x : Engine) : (s.setEngine e x).keys = s.keys := Eq.trans rfl rfl
@[simp] theorem State.setEngine_keyOp (s : State) (e : Nat) (x : Engine) : (s.setEngine e x).keyOp = s.keyOp := Eq.trans rfl rfl
@[simp] theorem State.setEngine_dma (s : State) (e : Nat) (x : Engine) : (s.setEngine e x).dma = s.dma := Eq.trans rfl rfl
@[simp] theorem State.setEngine_doms (s : State) (e : Nat) (x : Engine) : (s.setEngine e x).doms = s.doms := Eq.trans rfl rfl
@[simp] theorem State.setEngine_bankOwned (s : State) (e : Nat) (x : Engine) : (s.setEngine e x).bankOwned = s.bankOwned := Eq.trans rfl rfl
@[simp] theorem State.setEngine_bankOn (s : State) (e : Nat) (x : Engine) : (s.setEngine e x).bankOn = s.bankOn := Eq.trans rfl rfl
@[simp] theorem State.setEngine_bankFill (s : State) (e : Nat) (x : Engine) : (s.setEngine e x).bankFill = s.bankFill := Eq.trans rfl rfl
@[simp] theorem State.setEngine_hotRun (s : State) (e : Nat) (x : Engine) : (s.setEngine e x).hotRun = s.hotRun := Eq.trans rfl rfl
@[simp] theorem State.setEngine_cluWrites (s : State) (e : Nat) (x : Engine) : (s.setEngine e x).cluWrites = s.cluWrites := Eq.trans rfl rfl
@[simp] theorem State.setEngine_wakeAt (s : State) (e : Nat) (x : Engine) : (s.setEngine e x).wakeAt = s.wakeAt := Eq.trans rfl rfl
@[simp] theorem State.setEngine_amonPlain (s : State) (e : Nat) (x : Engine) : (s.setEngine e x).amonPlain = s.amonPlain := Eq.trans rfl rfl
@[simp] theorem State.setEngine_qspi (s : State) (e : Nat) (x : Engine) : (s.setEngine e x).qspi = s.qspi := Eq.trans rfl rfl
@[simp] theorem State.setEngine_fwVersion (s : State) (e : Nat) (x : Engine) : (s.setEngine e x).fwVersion = s.fwVersion := Eq.trans rfl rfl
@[simp] theorem State.setEngine_svStop (s : State) (e : Nat) (x : Engine) : (s.setEngine e x).svStop = s.svStop := Eq.trans rfl rfl
@[simp] theorem State.setEngine_espOp (s : State) (e : Nat) (x : Engine) : (s.setEngine e x).espOp = s.espOp := Eq.trans rfl rfl
@[simp] theorem State.setEngine_graftNew (s : State) (e : Nat) (x : Engine) : (s.setEngine e x).graftNew = s.graftNew := Eq.trans rfl rfl
@[simp] theorem State.setEngine_net (s : State) (e : Nat) (x : Engine) : (s.setEngine e x).net = s.net := Eq.trans rfl rfl
@[simp] theorem State.setEngine_staged (s : State) (e : Nat) (x : Engine) : (s.setEngine e x).staged = s.staged := Eq.trans rfl rfl
@[simp] theorem State.setEngine_badBursts (s : State) (e : Nat) (x : Engine) : (s.setEngine e x).badBursts = s.badBursts := Eq.trans rfl rfl
@[simp] theorem State.setEngine_retrainCh (s : State) (e : Nat) (x : Engine) : (s.setEngine e x).retrainCh = s.retrainCh := Eq.trans rfl rfl
@[simp] theorem State.setEngine_retrainDue (s : State) (e : Nat) (x : Engine) : (s.setEngine e x).retrainDue = s.retrainDue := Eq.trans rfl rfl
@[simp] theorem State.setEngine_recs (s : State) (e : Nat) (x : Engine) : (s.setEngine e x).recs = s.recs := Eq.trans rfl rfl
@[simp] theorem State.setEngine_coreOut (s : State) (e : Nat) (x : Engine) : (s.setEngine e x).coreOut = s.coreOut := Eq.trans rfl rfl
@[simp] theorem State.setEngine_railsOut (s : State) (e : Nat) (x : Engine) : (s.setEngine e x).railsOut = s.railsOut := Eq.trans rfl rfl

/-! ### State.setEngState -/

@[simp] theorem State.setEngState_pending (s : State) (e v : Nat) : (s.setEngState e v).pending = s.pending := Eq.trans rfl rfl
@[simp] theorem State.setEngState_freeCtr (s : State) (e v : Nat) : (s.setEngState e v).freeCtr = s.freeCtr := Eq.trans rfl rfl
@[simp] theorem State.setEngState_tick (s : State) (e v : Nat) : (s.setEngState e v).tick = s.tick := Eq.trans rfl rfl
@[simp] theorem State.setEngState_tickOn (s : State) (e v : Nat) : (s.setEngState e v).tickOn = s.tickOn := Eq.trans rfl rfl
@[simp] theorem State.setEngState_tickHold (s : State) (e v : Nat) : (s.setEngState e v).tickHold = s.tickHold := Eq.trans rfl rfl
@[simp] theorem State.setEngState_eng (s : State) (e v : Nat) : (s.setEngState e v).eng = s.eng := Eq.trans rfl rfl
@[simp] theorem State.setEngState_hops (s : State) (e v : Nat) : (s.setEngState e v).hops = s.hops := Eq.trans rfl rfl
@[simp] theorem State.setEngState_str (s : State) (e v : Nat) : (s.setEngState e v).str = s.str := Eq.trans rfl rfl
@[simp] theorem State.setEngState_locked (s : State) (e v : Nat) : (s.setEngState e v).locked = s.locked := Eq.trans rfl rfl
@[simp] theorem State.setEngState_pstA (s : State) (e v : Nat) : (s.setEngState e v).pstA = s.pstA := Eq.trans rfl rfl
@[simp] theorem State.setEngState_pstB (s : State) (e v : Nat) : (s.setEngState e v).pstB = s.pstB := Eq.trans rfl rfl
@[simp] theorem State.setEngState_qsA (s : State) (e v : Nat) : (s.setEngState e v).qsA = s.qsA := Eq.trans rfl rfl
@[simp] theorem State.setEngState_qsB (s : State) (e v : Nat) : (s.setEngState e v).qsB = s.qsB := Eq.trans rfl rfl
@[simp] theorem State.setEngState_gcA (s : State) (e v : Nat) : (s.setEngState e v).gcA = s.gcA := Eq.trans rfl rfl
@[simp] theorem State.setEngState_gcB (s : State) (e v : Nat) : (s.setEngState e v).gcB = s.gcB := Eq.trans rfl rfl
@[simp] theorem State.setEngState_subm (s : State) (e v : Nat) : (s.setEngState e v).subm = s.subm := Eq.trans rfl rfl
@[simp] theorem State.setEngState_groups (s : State) (e v : Nat) : (s.setEngState e v).groups = s.groups := Eq.trans rfl rfl
@[simp] theorem State.setEngState_leases (s : State) (e v : Nat) : (s.setEngState e v).leases = s.leases := Eq.trans rfl rfl
@[simp] theorem State.setEngState_leaseSerial (s : State) (e v : Nat) : (s.setEngState e v).leaseSerial = s.leaseSerial := Eq.trans rfl rfl
@[simp] theorem State.setEngState_broken (s : State) (e v : Nat) : (s.setEngState e v).broken = s.broken := Eq.trans rfl rfl
@[simp] theorem State.setEngState_cells (s : State) (e v : Nat) : (s.setEngState e v).cells = s.cells := Eq.trans rfl rfl
@[simp] theorem State.setEngState_remembered (s : State) (e v : Nat) : (s.setEngState e v).remembered = s.remembered := Eq.trans rfl rfl
@[simp] theorem State.setEngState_partOps (s : State) (e v : Nat) : (s.setEngState e v).partOps = s.partOps := Eq.trans rfl rfl
@[simp] theorem State.setEngState_age (s : State) (e v : Nat) : (s.setEngState e v).age = s.age := Eq.trans rfl rfl
@[simp] theorem State.setEngState_delay (s : State) (e v : Nat) : (s.setEngState e v).delay = s.delay := Eq.trans rfl rfl
@[simp] theorem State.setEngState_dram (s : State) (e v : Nat) : (s.setEngState e v).dram = s.dram := Eq.trans rfl rfl
@[simp] theorem State.setEngState_sessions (s : State) (e v : Nat) : (s.setEngState e v).sessions = s.sessions := Eq.trans rfl rfl
@[simp] theorem State.setEngState_epochs (s : State) (e v : Nat) : (s.setEngState e v).epochs = s.epochs := Eq.trans rfl rfl
@[simp] theorem State.setEngState_openReqs (s : State) (e v : Nat) : (s.setEngState e v).openReqs = s.openReqs := Eq.trans rfl rfl
@[simp] theorem State.setEngState_bellOut (s : State) (e v : Nat) : (s.setEngState e v).bellOut = s.bellOut := Eq.trans rfl rfl
@[simp] theorem State.setEngState_udpOut (s : State) (e v : Nat) : (s.setEngState e v).udpOut = s.udpOut := Eq.trans rfl rfl
@[simp] theorem State.setEngState_held (s : State) (e v : Nat) : (s.setEngState e v).held = s.held := Eq.trans rfl rfl
@[simp] theorem State.setEngState_faultStart (s : State) (e v : Nat) : (s.setEngState e v).faultStart = s.faultStart := Eq.trans rfl rfl
@[simp] theorem State.setEngState_faultLoad (s : State) (e v : Nat) : (s.setEngState e v).faultLoad = s.faultLoad := Eq.trans rfl rfl
@[simp] theorem State.setEngState_floated (s : State) (e v : Nat) : (s.setEngState e v).floated = s.floated := Eq.trans rfl rfl
@[simp] theorem State.setEngState_hold (s : State) (e v : Nat) : (s.setEngState e v).hold = s.hold := Eq.trans rfl rfl
@[simp] theorem State.setEngState_nv (s : State) (e v : Nat) : (s.setEngState e v).nv = s.nv := Eq.trans rfl rfl
@[simp] theorem State.setEngState_otp (s : State) (e v : Nat) : (s.setEngState e v).otp = s.otp := Eq.trans rfl rfl
@[simp] theorem State.setEngState_otpNext (s : State) (e v : Nat) : (s.setEngState e v).otpNext = s.otpNext := Eq.trans rfl rfl
@[simp] theorem State.setEngState_strap (s : State) (e v : Nat) : (s.setEngState e v).strap = s.strap := Eq.trans rfl rfl
@[simp] theorem State.setEngState_gens (s : State) (e v : Nat) : (s.setEngState e v).gens = s.gens := Eq.trans rfl rfl
@[simp] theorem State.setEngState_save (s : State) (e v : Nat) : (s.setEngState e v).save = s.save := Eq.trans rfl rfl
@[simp] theorem State.setEngState_phases (s : State) (e v : Nat) : (s.setEngState e v).phases = s.phases := Eq.trans rfl rfl
@[simp] theorem State.setEngState_msFrac (s : State) (e v : Nat) : (s.setEngState e v).msFrac = s.msFrac := Eq.trans rfl rfl
@[simp] theorem State.setEngState_twin (s : State) (e v : Nat) : (s.setEngState e v).twin = s.twin := Eq.trans rfl rfl
@[simp] theorem State.setEngState_ctlOut (s : State) (e v : Nat) : (s.setEngState e v).ctlOut = s.ctlOut := Eq.trans rfl rfl
@[simp] theorem State.setEngState_guards (s : State) (e v : Nat) : (s.setEngState e v).guards = s.guards := Eq.trans rfl rfl
@[simp] theorem State.setEngState_hot (s : State) (e v : Nat) : (s.setEngState e v).hot = s.hot := Eq.trans rfl rfl
@[simp] theorem State.setEngState_silence (s : State) (e v : Nat) : (s.setEngState e v).silence = s.silence := Eq.trans rfl rfl
@[simp] theorem State.setEngState_silent (s : State) (e v : Nat) : (s.setEngState e v).silent = s.silent := Eq.trans rfl rfl
@[simp] theorem State.setEngState_jtag (s : State) (e v : Nat) : (s.setEngState e v).jtag = s.jtag := Eq.trans rfl rfl
@[simp] theorem State.setEngState_amonGood (s : State) (e v : Nat) : (s.setEngState e v).amonGood = s.amonGood := Eq.trans rfl rfl
@[simp] theorem State.setEngState_muteEnd (s : State) (e v : Nat) : (s.setEngState e v).muteEnd = s.muteEnd := Eq.trans rfl rfl
@[simp] theorem State.setEngState_sv (s : State) (e v : Nat) : (s.setEngState e v).sv = s.sv := Eq.trans rfl rfl
@[simp] theorem State.setEngState_kick (s : State) (e v : Nat) : (s.setEngState e v).kick = s.kick := Eq.trans rfl rfl
@[simp] theorem State.setEngState_wdtWarned (s : State) (e v : Nat) : (s.setEngState e v).wdtWarned = s.wdtWarned := Eq.trans rfl rfl
@[simp] theorem State.setEngState_mbx (s : State) (e v : Nat) : (s.setEngState e v).mbx = s.mbx := Eq.trans rfl rfl
@[simp] theorem State.setEngState_flash (s : State) (e v : Nat) : (s.setEngState e v).flash = s.flash := Eq.trans rfl rfl
@[simp] theorem State.setEngState_flashOp (s : State) (e v : Nat) : (s.setEngState e v).flashOp = s.flashOp := Eq.trans rfl rfl
@[simp] theorem State.setEngState_io (s : State) (e v : Nat) : (s.setEngState e v).io = s.io := Eq.trans rfl rfl
@[simp] theorem State.setEngState_clk (s : State) (e v : Nat) : (s.setEngState e v).clk = s.clk := Eq.trans rfl rfl
@[simp] theorem State.setEngState_readData (s : State) (e v : Nat) : (s.setEngState e v).readData = s.readData := Eq.trans rfl rfl
@[simp] theorem State.setEngState_guarded (s : State) (e v : Nat) : (s.setEngState e v).guarded = s.guarded := Eq.trans rfl rfl
@[simp] theorem State.setEngState_scrubRow (s : State) (e v : Nat) : (s.setEngState e v).scrubRow = s.scrubRow := Eq.trans rfl rfl
@[simp] theorem State.setEngState_msix (s : State) (e v : Nat) : (s.setEngState e v).msix = s.msix := Eq.trans rfl rfl
@[simp] theorem State.setEngState_lb (s : State) (e v : Nat) : (s.setEngState e v).lb = s.lb := Eq.trans rfl rfl
@[simp] theorem State.setEngState_pages (s : State) (e v : Nat) : (s.setEngState e v).pages = s.pages := Eq.trans rfl rfl
@[simp] theorem State.setEngState_hostWins (s : State) (e v : Nat) : (s.setEngState e v).hostWins = s.hostWins := Eq.trans rfl rfl
@[simp] theorem State.setEngState_keys (s : State) (e v : Nat) : (s.setEngState e v).keys = s.keys := Eq.trans rfl rfl
@[simp] theorem State.setEngState_keyOp (s : State) (e v : Nat) : (s.setEngState e v).keyOp = s.keyOp := Eq.trans rfl rfl
@[simp] theorem State.setEngState_dma (s : State) (e v : Nat) : (s.setEngState e v).dma = s.dma := Eq.trans rfl rfl
@[simp] theorem State.setEngState_doms (s : State) (e v : Nat) : (s.setEngState e v).doms = s.doms := Eq.trans rfl rfl
@[simp] theorem State.setEngState_bankOwned (s : State) (e v : Nat) : (s.setEngState e v).bankOwned = s.bankOwned := Eq.trans rfl rfl
@[simp] theorem State.setEngState_bankOn (s : State) (e v : Nat) : (s.setEngState e v).bankOn = s.bankOn := Eq.trans rfl rfl
@[simp] theorem State.setEngState_bankFill (s : State) (e v : Nat) : (s.setEngState e v).bankFill = s.bankFill := Eq.trans rfl rfl
@[simp] theorem State.setEngState_hotRun (s : State) (e v : Nat) : (s.setEngState e v).hotRun = s.hotRun := Eq.trans rfl rfl
@[simp] theorem State.setEngState_cluWrites (s : State) (e v : Nat) : (s.setEngState e v).cluWrites = s.cluWrites := Eq.trans rfl rfl
@[simp] theorem State.setEngState_wakeAt (s : State) (e v : Nat) : (s.setEngState e v).wakeAt = s.wakeAt := Eq.trans rfl rfl
@[simp] theorem State.setEngState_amonPlain (s : State) (e v : Nat) : (s.setEngState e v).amonPlain = s.amonPlain := Eq.trans rfl rfl
@[simp] theorem State.setEngState_qspi (s : State) (e v : Nat) : (s.setEngState e v).qspi = s.qspi := Eq.trans rfl rfl
@[simp] theorem State.setEngState_fwVersion (s : State) (e v : Nat) : (s.setEngState e v).fwVersion = s.fwVersion := Eq.trans rfl rfl
@[simp] theorem State.setEngState_svStop (s : State) (e v : Nat) : (s.setEngState e v).svStop = s.svStop := Eq.trans rfl rfl
@[simp] theorem State.setEngState_espOp (s : State) (e v : Nat) : (s.setEngState e v).espOp = s.espOp := Eq.trans rfl rfl
@[simp] theorem State.setEngState_graftNew (s : State) (e v : Nat) : (s.setEngState e v).graftNew = s.graftNew := Eq.trans rfl rfl
@[simp] theorem State.setEngState_net (s : State) (e v : Nat) : (s.setEngState e v).net = s.net := Eq.trans rfl rfl
@[simp] theorem State.setEngState_staged (s : State) (e v : Nat) : (s.setEngState e v).staged = s.staged := Eq.trans rfl rfl
@[simp] theorem State.setEngState_badBursts (s : State) (e v : Nat) : (s.setEngState e v).badBursts = s.badBursts := Eq.trans rfl rfl
@[simp] theorem State.setEngState_retrainCh (s : State) (e v : Nat) : (s.setEngState e v).retrainCh = s.retrainCh := Eq.trans rfl rfl
@[simp] theorem State.setEngState_retrainDue (s : State) (e v : Nat) : (s.setEngState e v).retrainDue = s.retrainDue := Eq.trans rfl rfl
@[simp] theorem State.setEngState_recs (s : State) (e v : Nat) : (s.setEngState e v).recs = s.recs := Eq.trans rfl rfl
@[simp] theorem State.setEngState_coreOut (s : State) (e v : Nat) : (s.setEngState e v).coreOut = s.coreOut := Eq.trans rfl rfl
@[simp] theorem State.setEngState_railsOut (s : State) (e v : Nat) : (s.setEngState e v).railsOut = s.railsOut := Eq.trans rfl rfl

/-! ### State.setCore -/

@[simp] theorem State.setCore_pending (s : State) (c : Nat) (x : SvCore) : (s.setCore c x).pending = s.pending := Eq.trans rfl rfl
@[simp] theorem State.setCore_regs (s : State) (c : Nat) (x : SvCore) : (s.setCore c x).regs = s.regs := Eq.trans rfl rfl
@[simp] theorem State.setCore_freeCtr (s : State) (c : Nat) (x : SvCore) : (s.setCore c x).freeCtr = s.freeCtr := Eq.trans rfl rfl
@[simp] theorem State.setCore_tick (s : State) (c : Nat) (x : SvCore) : (s.setCore c x).tick = s.tick := Eq.trans rfl rfl
@[simp] theorem State.setCore_tickOn (s : State) (c : Nat) (x : SvCore) : (s.setCore c x).tickOn = s.tickOn := Eq.trans rfl rfl
@[simp] theorem State.setCore_tickHold (s : State) (c : Nat) (x : SvCore) : (s.setCore c x).tickHold = s.tickHold := Eq.trans rfl rfl
@[simp] theorem State.setCore_eng (s : State) (c : Nat) (x : SvCore) : (s.setCore c x).eng = s.eng := Eq.trans rfl rfl
@[simp] theorem State.setCore_hops (s : State) (c : Nat) (x : SvCore) : (s.setCore c x).hops = s.hops := Eq.trans rfl rfl
@[simp] theorem State.setCore_str (s : State) (c : Nat) (x : SvCore) : (s.setCore c x).str = s.str := Eq.trans rfl rfl
@[simp] theorem State.setCore_locked (s : State) (c : Nat) (x : SvCore) : (s.setCore c x).locked = s.locked := Eq.trans rfl rfl
@[simp] theorem State.setCore_pstA (s : State) (c : Nat) (x : SvCore) : (s.setCore c x).pstA = s.pstA := Eq.trans rfl rfl
@[simp] theorem State.setCore_pstB (s : State) (c : Nat) (x : SvCore) : (s.setCore c x).pstB = s.pstB := Eq.trans rfl rfl
@[simp] theorem State.setCore_qsA (s : State) (c : Nat) (x : SvCore) : (s.setCore c x).qsA = s.qsA := Eq.trans rfl rfl
@[simp] theorem State.setCore_qsB (s : State) (c : Nat) (x : SvCore) : (s.setCore c x).qsB = s.qsB := Eq.trans rfl rfl
@[simp] theorem State.setCore_gcA (s : State) (c : Nat) (x : SvCore) : (s.setCore c x).gcA = s.gcA := Eq.trans rfl rfl
@[simp] theorem State.setCore_gcB (s : State) (c : Nat) (x : SvCore) : (s.setCore c x).gcB = s.gcB := Eq.trans rfl rfl
@[simp] theorem State.setCore_subm (s : State) (c : Nat) (x : SvCore) : (s.setCore c x).subm = s.subm := Eq.trans rfl rfl
@[simp] theorem State.setCore_groups (s : State) (c : Nat) (x : SvCore) : (s.setCore c x).groups = s.groups := Eq.trans rfl rfl
@[simp] theorem State.setCore_leases (s : State) (c : Nat) (x : SvCore) : (s.setCore c x).leases = s.leases := Eq.trans rfl rfl
@[simp] theorem State.setCore_leaseSerial (s : State) (c : Nat) (x : SvCore) : (s.setCore c x).leaseSerial = s.leaseSerial := Eq.trans rfl rfl
@[simp] theorem State.setCore_broken (s : State) (c : Nat) (x : SvCore) : (s.setCore c x).broken = s.broken := Eq.trans rfl rfl
@[simp] theorem State.setCore_cells (s : State) (c : Nat) (x : SvCore) : (s.setCore c x).cells = s.cells := Eq.trans rfl rfl
@[simp] theorem State.setCore_remembered (s : State) (c : Nat) (x : SvCore) : (s.setCore c x).remembered = s.remembered := Eq.trans rfl rfl
@[simp] theorem State.setCore_partOps (s : State) (c : Nat) (x : SvCore) : (s.setCore c x).partOps = s.partOps := Eq.trans rfl rfl
@[simp] theorem State.setCore_age (s : State) (c : Nat) (x : SvCore) : (s.setCore c x).age = s.age := Eq.trans rfl rfl
@[simp] theorem State.setCore_delay (s : State) (c : Nat) (x : SvCore) : (s.setCore c x).delay = s.delay := Eq.trans rfl rfl
@[simp] theorem State.setCore_dram (s : State) (c : Nat) (x : SvCore) : (s.setCore c x).dram = s.dram := Eq.trans rfl rfl
@[simp] theorem State.setCore_sessions (s : State) (c : Nat) (x : SvCore) : (s.setCore c x).sessions = s.sessions := Eq.trans rfl rfl
@[simp] theorem State.setCore_epochs (s : State) (c : Nat) (x : SvCore) : (s.setCore c x).epochs = s.epochs := Eq.trans rfl rfl
@[simp] theorem State.setCore_openReqs (s : State) (c : Nat) (x : SvCore) : (s.setCore c x).openReqs = s.openReqs := Eq.trans rfl rfl
@[simp] theorem State.setCore_bellOut (s : State) (c : Nat) (x : SvCore) : (s.setCore c x).bellOut = s.bellOut := Eq.trans rfl rfl
@[simp] theorem State.setCore_udpOut (s : State) (c : Nat) (x : SvCore) : (s.setCore c x).udpOut = s.udpOut := Eq.trans rfl rfl
@[simp] theorem State.setCore_held (s : State) (c : Nat) (x : SvCore) : (s.setCore c x).held = s.held := Eq.trans rfl rfl
@[simp] theorem State.setCore_faultStart (s : State) (c : Nat) (x : SvCore) : (s.setCore c x).faultStart = s.faultStart := Eq.trans rfl rfl
@[simp] theorem State.setCore_faultLoad (s : State) (c : Nat) (x : SvCore) : (s.setCore c x).faultLoad = s.faultLoad := Eq.trans rfl rfl
@[simp] theorem State.setCore_floated (s : State) (c : Nat) (x : SvCore) : (s.setCore c x).floated = s.floated := Eq.trans rfl rfl
@[simp] theorem State.setCore_hold (s : State) (c : Nat) (x : SvCore) : (s.setCore c x).hold = s.hold := Eq.trans rfl rfl
@[simp] theorem State.setCore_nv (s : State) (c : Nat) (x : SvCore) : (s.setCore c x).nv = s.nv := Eq.trans rfl rfl
@[simp] theorem State.setCore_otp (s : State) (c : Nat) (x : SvCore) : (s.setCore c x).otp = s.otp := Eq.trans rfl rfl
@[simp] theorem State.setCore_otpNext (s : State) (c : Nat) (x : SvCore) : (s.setCore c x).otpNext = s.otpNext := Eq.trans rfl rfl
@[simp] theorem State.setCore_strap (s : State) (c : Nat) (x : SvCore) : (s.setCore c x).strap = s.strap := Eq.trans rfl rfl
@[simp] theorem State.setCore_gens (s : State) (c : Nat) (x : SvCore) : (s.setCore c x).gens = s.gens := Eq.trans rfl rfl
@[simp] theorem State.setCore_save (s : State) (c : Nat) (x : SvCore) : (s.setCore c x).save = s.save := Eq.trans rfl rfl
@[simp] theorem State.setCore_phases (s : State) (c : Nat) (x : SvCore) : (s.setCore c x).phases = s.phases := Eq.trans rfl rfl
@[simp] theorem State.setCore_msFrac (s : State) (c : Nat) (x : SvCore) : (s.setCore c x).msFrac = s.msFrac := Eq.trans rfl rfl
@[simp] theorem State.setCore_twin (s : State) (c : Nat) (x : SvCore) : (s.setCore c x).twin = s.twin := Eq.trans rfl rfl
@[simp] theorem State.setCore_ctlOut (s : State) (c : Nat) (x : SvCore) : (s.setCore c x).ctlOut = s.ctlOut := Eq.trans rfl rfl
@[simp] theorem State.setCore_guards (s : State) (c : Nat) (x : SvCore) : (s.setCore c x).guards = s.guards := Eq.trans rfl rfl
@[simp] theorem State.setCore_hot (s : State) (c : Nat) (x : SvCore) : (s.setCore c x).hot = s.hot := Eq.trans rfl rfl
@[simp] theorem State.setCore_silence (s : State) (c : Nat) (x : SvCore) : (s.setCore c x).silence = s.silence := Eq.trans rfl rfl
@[simp] theorem State.setCore_silent (s : State) (c : Nat) (x : SvCore) : (s.setCore c x).silent = s.silent := Eq.trans rfl rfl
@[simp] theorem State.setCore_jtag (s : State) (c : Nat) (x : SvCore) : (s.setCore c x).jtag = s.jtag := Eq.trans rfl rfl
@[simp] theorem State.setCore_amonGood (s : State) (c : Nat) (x : SvCore) : (s.setCore c x).amonGood = s.amonGood := Eq.trans rfl rfl
@[simp] theorem State.setCore_muteEnd (s : State) (c : Nat) (x : SvCore) : (s.setCore c x).muteEnd = s.muteEnd := Eq.trans rfl rfl
@[simp] theorem State.setCore_kick (s : State) (c : Nat) (x : SvCore) : (s.setCore c x).kick = s.kick := Eq.trans rfl rfl
@[simp] theorem State.setCore_wdtWarned (s : State) (c : Nat) (x : SvCore) : (s.setCore c x).wdtWarned = s.wdtWarned := Eq.trans rfl rfl
@[simp] theorem State.setCore_mbx (s : State) (c : Nat) (x : SvCore) : (s.setCore c x).mbx = s.mbx := Eq.trans rfl rfl
@[simp] theorem State.setCore_flash (s : State) (c : Nat) (x : SvCore) : (s.setCore c x).flash = s.flash := Eq.trans rfl rfl
@[simp] theorem State.setCore_flashOp (s : State) (c : Nat) (x : SvCore) : (s.setCore c x).flashOp = s.flashOp := Eq.trans rfl rfl
@[simp] theorem State.setCore_io (s : State) (c : Nat) (x : SvCore) : (s.setCore c x).io = s.io := Eq.trans rfl rfl
@[simp] theorem State.setCore_clk (s : State) (c : Nat) (x : SvCore) : (s.setCore c x).clk = s.clk := Eq.trans rfl rfl
@[simp] theorem State.setCore_readData (s : State) (c : Nat) (x : SvCore) : (s.setCore c x).readData = s.readData := Eq.trans rfl rfl
@[simp] theorem State.setCore_guarded (s : State) (c : Nat) (x : SvCore) : (s.setCore c x).guarded = s.guarded := Eq.trans rfl rfl
@[simp] theorem State.setCore_scrubRow (s : State) (c : Nat) (x : SvCore) : (s.setCore c x).scrubRow = s.scrubRow := Eq.trans rfl rfl
@[simp] theorem State.setCore_msix (s : State) (c : Nat) (x : SvCore) : (s.setCore c x).msix = s.msix := Eq.trans rfl rfl
@[simp] theorem State.setCore_lb (s : State) (c : Nat) (x : SvCore) : (s.setCore c x).lb = s.lb := Eq.trans rfl rfl
@[simp] theorem State.setCore_pages (s : State) (c : Nat) (x : SvCore) : (s.setCore c x).pages = s.pages := Eq.trans rfl rfl
@[simp] theorem State.setCore_hostWins (s : State) (c : Nat) (x : SvCore) : (s.setCore c x).hostWins = s.hostWins := Eq.trans rfl rfl
@[simp] theorem State.setCore_keys (s : State) (c : Nat) (x : SvCore) : (s.setCore c x).keys = s.keys := Eq.trans rfl rfl
@[simp] theorem State.setCore_keyOp (s : State) (c : Nat) (x : SvCore) : (s.setCore c x).keyOp = s.keyOp := Eq.trans rfl rfl
@[simp] theorem State.setCore_dma (s : State) (c : Nat) (x : SvCore) : (s.setCore c x).dma = s.dma := Eq.trans rfl rfl
@[simp] theorem State.setCore_doms (s : State) (c : Nat) (x : SvCore) : (s.setCore c x).doms = s.doms := Eq.trans rfl rfl
@[simp] theorem State.setCore_bankOwned (s : State) (c : Nat) (x : SvCore) : (s.setCore c x).bankOwned = s.bankOwned := Eq.trans rfl rfl
@[simp] theorem State.setCore_bankOn (s : State) (c : Nat) (x : SvCore) : (s.setCore c x).bankOn = s.bankOn := Eq.trans rfl rfl
@[simp] theorem State.setCore_bankFill (s : State) (c : Nat) (x : SvCore) : (s.setCore c x).bankFill = s.bankFill := Eq.trans rfl rfl
@[simp] theorem State.setCore_hotRun (s : State) (c : Nat) (x : SvCore) : (s.setCore c x).hotRun = s.hotRun := Eq.trans rfl rfl
@[simp] theorem State.setCore_cluWrites (s : State) (c : Nat) (x : SvCore) : (s.setCore c x).cluWrites = s.cluWrites := Eq.trans rfl rfl
@[simp] theorem State.setCore_wakeAt (s : State) (c : Nat) (x : SvCore) : (s.setCore c x).wakeAt = s.wakeAt := Eq.trans rfl rfl
@[simp] theorem State.setCore_amonPlain (s : State) (c : Nat) (x : SvCore) : (s.setCore c x).amonPlain = s.amonPlain := Eq.trans rfl rfl
@[simp] theorem State.setCore_qspi (s : State) (c : Nat) (x : SvCore) : (s.setCore c x).qspi = s.qspi := Eq.trans rfl rfl
@[simp] theorem State.setCore_fwVersion (s : State) (c : Nat) (x : SvCore) : (s.setCore c x).fwVersion = s.fwVersion := Eq.trans rfl rfl
@[simp] theorem State.setCore_svStop (s : State) (c : Nat) (x : SvCore) : (s.setCore c x).svStop = s.svStop := Eq.trans rfl rfl
@[simp] theorem State.setCore_espOp (s : State) (c : Nat) (x : SvCore) : (s.setCore c x).espOp = s.espOp := Eq.trans rfl rfl
@[simp] theorem State.setCore_graftNew (s : State) (c : Nat) (x : SvCore) : (s.setCore c x).graftNew = s.graftNew := Eq.trans rfl rfl
@[simp] theorem State.setCore_net (s : State) (c : Nat) (x : SvCore) : (s.setCore c x).net = s.net := Eq.trans rfl rfl
@[simp] theorem State.setCore_staged (s : State) (c : Nat) (x : SvCore) : (s.setCore c x).staged = s.staged := Eq.trans rfl rfl
@[simp] theorem State.setCore_badBursts (s : State) (c : Nat) (x : SvCore) : (s.setCore c x).badBursts = s.badBursts := Eq.trans rfl rfl
@[simp] theorem State.setCore_retrainCh (s : State) (c : Nat) (x : SvCore) : (s.setCore c x).retrainCh = s.retrainCh := Eq.trans rfl rfl
@[simp] theorem State.setCore_retrainDue (s : State) (c : Nat) (x : SvCore) : (s.setCore c x).retrainDue = s.retrainDue := Eq.trans rfl rfl
@[simp] theorem State.setCore_recs (s : State) (c : Nat) (x : SvCore) : (s.setCore c x).recs = s.recs := Eq.trans rfl rfl
@[simp] theorem State.setCore_coreOut (s : State) (c : Nat) (x : SvCore) : (s.setCore c x).coreOut = s.coreOut := Eq.trans rfl rfl
@[simp] theorem State.setCore_railsOut (s : State) (c : Nat) (x : SvCore) : (s.setCore c x).railsOut = s.railsOut := Eq.trans rfl rfl

end Sys2Proof.Machine
end

