-- ==== Sys2Proof/Laws/Access.lean ====
section
/-!
SUPPORT. Laws/Access.lean: what the gates of an access do (R265, R369), what a change of a power domain's state leaves alone, and what a
protected read answers, each said once.
-/
namespace Sys2Proof.Machine

/-! ### Gates -/

@[simp] theorem gated_reached {s t : State} {a : Nat} (h : reaches s a = true) : gated s a t = t := by simp [gated, h]

@[simp] theorem gated_unreached {s t : State} {a : Nat} (h : reaches s a = false) : gated s a t = s := by simp [gated, h]

theorem gatedBy_local {s t : State} {path : Path} {a : Nat} (h : path ≠ .pcie) : gatedBy s path a t = gated s a t := by
  simp [gatedBy, h]

theorem gatedBy_pcie_on {s t : State} {a : Nat} (h : s.fld (Reg.PWR_DOM_CTL_state 12) = 0) :
    gatedBy s .pcie a t = gated s a t := by simp [gatedBy, h]

theorem gatedBy_pcie_off {s t : State} {a : Nat} (h : s.fld (Reg.PWR_DOM_CTL_state 12) ≠ 0) : gatedBy s .pcie a t = s := by
  simp [gatedBy, h]

@[simp] theorem overPcie_on {s t : State} (h : pcieOn s = true) : overPcie s t = t := by simp [overPcie, h]

@[simp] theorem overPcie_off {s t : State} (h : pcieOn s = false) : overPcie s t = s := by simp [overPcie, h]

/-- What a path reaches, C1 has ended for. -/
theorem c1Done_of_reaches {s : State} {a : Nat} (h : reaches s a = true) : c1Done s = true := by
  simp only [reaches, Bool.and_eq_true] at h
  exact h.1

/-! ### Events and domain states -/

/-- An event changes the cores alone. -/
theorem raiseEvent_frame (s : State) (n : Nat) : raiseEvent s n = { s with sv := (raiseEvent s n).sv } := rfl

/-- A domain that is in the state already raises no event. -/
@[simp] theorem setDomSt_same {s : State} {d v : Nat} (h : s.domSt d = v) : s.setDomSt d v = s := by simp [State.setDomSt, h]

/-- From `s` to `t` registers, cores and the counter of free values alone differ. -/
def onlyShown (s t : State) : Prop := ∃ r c n, t = { s with regs := r, sv := c, freeCtr := n }

/-- What differs is then what `t` shows. -/
theorem onlyShown_frame {s t : State} (h : onlyShown s t) : t = { s with regs := t.regs, sv := t.sv, freeCtr := t.freeCtr } := by
  obtain ⟨r, c, n, h⟩ := h
  subst h
  rfl

theorem onlyShown_refl (s : State) : onlyShown s s := ⟨s.regs, s.sv, s.freeCtr, rfl⟩

theorem onlyShown_setFld {s t : State} (h : onlyShown s t) (f : Fld) (v : Nat) : onlyShown s (t.setFld f v) := by
  obtain ⟨r, c, n, h⟩ := h
  subst h
  exact ⟨_, _, _, rfl⟩

theorem onlyShown_satAdd {s t : State} (h : onlyShown s t) (f : Fld) (k : Nat) : onlyShown s (t.satAdd f k) := onlyShown_setFld h _ _

theorem onlyShown_freeCtr {s t : State} (h : onlyShown s t) (k : Nat) : onlyShown s { t with freeCtr := k } := by
  obtain ⟨r, c, n, h⟩ := h
  subst h
  exact ⟨_, _, _, rfl⟩

theorem onlyShown_raiseEvent {s t : State} (h : onlyShown s t) (k : Nat) : onlyShown s (raiseEvent t k) := by
  obtain ⟨r, c, n, h⟩ := h
  subst h
  exact ⟨_, _, _, rfl⟩

/-- While ticks run, no time passes outside them. -/
@[simp] theorem passDom_tick {s : State} (h : s.tickOn = true) (d : Nat) : passDom s d = s := by simp [passDom, h]

/-- Time that passes changes registers and the counter of free values alone. -/
theorem onlyShown_passDom (s : State) (d : Nat) : onlyShown s (passDom s d) := by
  unfold passDom
  split
  · exact onlyShown_refl s
  · exact onlyShown_freeCtr (onlyShown_satAdd (onlyShown_refl s) _ _) _

/-- A change of a domain's state changes registers, cores and the counter of free values alone. -/
theorem onlyShown_setDomSt (s : State) (d v : Nat) : onlyShown s (s.setDomSt d v) := by
  unfold State.setDomSt
  split
  · exact onlyShown_refl s
  · exact onlyShown_raiseEvent (onlyShown_setFld (onlyShown_passDom s d) _ _) _

/-! ### Protected reads -/

@[simp] theorem eccRead_clean (r : State × Word) : eccRead .clean r = r := rfl

@[simp] theorem eccRead_corrected (r : State × Word) : eccRead .corrected r = r := rfl

/-- The word behind an uncorrectable error is a fresh free value. -/
theorem eccRead_uncorrectable (r : State × Word) : eccRead .uncorrectable r =
    ({ r.1 with freeCtr := r.1.freeCtr + 1 }, Config.freeValue r.1.freeCtr) := rfl

end Sys2Proof.Machine
end

