-- ==== Sys2Proof/Laws/KeptCore.lean ====
section
/-!
SUPPORT. Laws/KeptCore.lean: no operation of the block changes the queue of waiting commands or the owner OTP (R282 names the
one command that programs OTP): one lemma per operation, in the order of the model's files.
-/
namespace Sys2Proof.Machine

/-- The queue of commands and the owner OTP. -/
def State.kept (s : State) : List Instr × Otp := (s.pending, s.otp)

/-- An outcome keeps what `s` holds of them. -/
def keptBy (s : State) : Host.Outcome State Fault Refusal → Prop
  | .next t => t.kept = s.kept
  | .fault _ => True
  | .refused _ => True

@[simp] theorem keptBy_next (s t : State) : keptBy s (.next t) ↔ t.kept = s.kept := Iff.rfl
@[simp] theorem keptBy_refused (s : State) (r : Refusal) : keptBy s (.refused r) ↔ True := Iff.rfl

@[simp] theorem keptBy_ite (s : State) (c : Prop) [Decidable c] (a b : Host.Outcome State Fault Refusal)
    (ha : keptBy s a) (hb : keptBy s b) : keptBy s (if c then a else b) := by split <;> assumption

/-- A conditional of two states that both keep what `s` holds. -/
@[simp] theorem kept_ite (s : State) (c : Prop) [Decidable c] (a b : State) (ha : a.kept = s.kept) (hb : b.kept = s.kept) :
    (if c then a else b).kept = s.kept := by split <;> assumption

/-- A fold whose every step keeps them. -/
@[simp] theorem kept_foldl {α : Type} (f : State → α → State) (h : ∀ s a, (f s a).kept = s.kept) (l : List α) (s : State) :
    (l.foldl f s).kept = s.kept := by
  induction l generalizing s with
  | nil => rfl
  | cons a l ih => rw [List.foldl_cons, ih, h]

/-- The same for a fold that carries something beside the state. -/
theorem kept_foldPair {α β : Type} (f : State × β → α → State × β) (h : ∀ x a, (f x a).1.kept = x.1.kept) (l : List α)
    (x : State × β) : (l.foldl f x).1.kept = x.1.kept := by
  induction l generalizing x with
  | nil => rfl
  | cons a l ih => rw [List.foldl_cons, ih, h]
@[simp] theorem kept_mk {a0} {a1} {a2} {a3} {a4} {a5} {a6} {a7} {a8} {a9} {a10} {a11} {a12} {a13} {a14} {a15} {a16}
    {a17} {a18} {a19} {a20} {a21} {a22} {a23} {a24} {a25} {a26} {a27} {a28} {a29} {a30} {a31} {a32} {a33} {a34} {a35}
    {a36} {a37} {a38} {a39} {a40} {a41} {a42} {a43} {a44} {a45} {a46} {a47} {a48} {a49} {a50} {a51} {a52} {a53} {a54}
    {a55} {a56} {a57} {a58} {a59} {a60} {a61} {a62} {a63} {a64} {a65} {a66} {a67} {a68} {a69} {a70} {a71} {a72} {a73}
    {a74} {a75} {a76} {a77} {a78} {a79} {a80} {a81} {a82} {a83} {a84} {a85} {a86} {a87} {a88} {a89} {a90} {a91} {a92} :
    (State.mk a0 a1 a2 a3 a4 a5 a6 a7 a8 a9 a10 a11 a12 a13 a14 a15 a16 a17 a18 a19 a20 a21 a22 a23 a24 a25 a26 a27
    a28 a29 a30 a31 a32 a33 a34 a35 a36 a37 a38 a39 a40 a41 a42 a43 a44 a45 a46 a47 a48 a49 a50 a51 a52 a53 a54 a55
    a56 a57 a58 a59 a60 a61 a62 a63 a64 a65 a66 a67 a68 a69 a70 a71 a72 a73 a74 a75 a76 a77 a78 a79 a80 a81 a82 a83
    a84 a85 a86 a87 a88 a89 a90 a91 a92).kept =
    (a0, a43) := Eq.trans rfl rfl

@[simp] theorem kept_eta (s : State) : (s.pending, s.otp) = s.kept := Eq.trans rfl rfl

/-! ### Machine/Ops.lean -/

@[simp] theorem kept_State_setReg (s : State) (a : Nat) (v : Word) : (State.setReg s a v).kept = s.kept := by
  simp [State.setReg]

@[simp] theorem kept_State_setFld (s : State) (f : Fld) (v : Nat) : (State.setFld s f v).kept = s.kept := by
  simp [State.setFld]

@[simp] theorem kept_State_satInc (s : State) (f : Fld) : (State.satInc s f).kept = s.kept := by
  unfold State.satInc; (repeat' split) <;> simp

@[simp] theorem kept_State_satAdd (s : State) (f : Fld) (n : Nat) : (State.satAdd s f n).kept = s.kept := by
  simp [State.satAdd]

@[simp] theorem kept_State_wrapInc (s : State) (f : Fld) : (State.wrapInc s f).kept = s.kept := by
  simp [State.wrapInc]

@[simp] theorem kept_State_resetReg (s : State) (a : Nat) : (State.resetReg s a).kept = s.kept := by
  simp [State.resetReg]

/-! ### Machine/Host.lean -/

@[simp] theorem kept_State_setCore (s : State) (c : Nat) (x : SvCore) : (State.setCore s c x).kept = s.kept := by
  simp [State.setCore]

@[simp] theorem kept_raiseEvent (s : State) (n : Nat) : (raiseEvent s n).kept = s.kept := by
  simp [raiseEvent]

@[simp] theorem kept_twnEvent (old new : State) : (twnEvent old new).kept = new.kept := by
  unfold twnEvent; split <;> simp

@[simp] theorem kept_sendMsix (s : State) (v : Nat) : (sendMsix s v).kept = s.kept := by
  unfold sendMsix; (repeat' split) <;> simp

@[simp] theorem kept_bootEvent (s : State) : (bootEvent s).kept = s.kept := by
  unfold bootEvent; dsimp only; (repeat' split) <;> simp_all

/-! ### Machine/SelfFault.lean -/

@[simp] theorem kept_State_setNv (s : State) (n : BootNv) : (State.setNv s n).kept = s.kept := by
  simp [State.setNv]

@[simp] theorem kept_State_setBoot (s : State) (b : Nat) : (State.setBoot s b).kept = s.kept := by
  unfold State.setBoot; dsimp only; (repeat' split) <;> simp_all

@[simp] theorem kept_gated (s t : State) (a : Nat) (h : t.kept = s.kept) : (gated s a t).kept = s.kept := by
  unfold gated; split <;> simp [h]

@[simp] theorem kept_gatedBy (s t : State) (path : Path) (a : Nat) (h : t.kept = s.kept) : (gatedBy s path a t).kept = s.kept := by
  unfold gatedBy; split <;> simp [h]

@[simp] theorem kept_State_setDom (s : State) (d : Nat) (x : Dom) : (State.setDom s d x).kept = s.kept := by
  simp [State.setDom]

@[simp] theorem kept_passDom (s : State) (d : Nat) : (passDom s d).kept = s.kept := by
  unfold passDom; split <;> simp

@[simp] theorem kept_passTime (s : State) : (passTime s).kept = s.kept := by simp [passTime]

@[simp] theorem kept_State_setDomSt (s : State) (d v : Nat) : (State.setDomSt s d v).kept = s.kept := by
  unfold State.setDomSt; split <;> simp

@[simp] theorem kept_keepResid (old new : State) : (keepResid old new).kept = new.kept := by simp [keepResid]

@[simp] theorem kept_showSupplies (s : State) : (showSupplies s).kept = s.kept := by unfold showSupplies; split <;> simp

@[simp] theorem kept_State_survivors (s : State) : (State.survivors s).kept = s.kept := by
  simp [State.survivors]

@[simp] theorem kept_State_keepRws (old new : State) : (State.keepRws old new).kept = new.kept := by
  simp [State.keepRws]

@[simp] theorem kept_showRecs (s : State) (n : Nat) (l : List BootEntry) : (showRecs s n l).kept = s.kept := by
  induction l generalizing s n with
  | nil => rfl
  | cons e l ih => unfold showRecs; split <;> simp [ih]

@[simp] theorem kept_showGens (s : State) : (showGens s).kept = s.kept := by simp [showGens]

@[simp] theorem kept_showBoot (s : State) : (showBoot s).kept = s.kept := by simp [showBoot]

@[simp] theorem kept_showCause (s : State) (e : BootEntry) : (showCause s e).kept = s.kept := by
  simp [showCause]

@[simp] theorem kept_pushEntry (s : State) (e : BootEntry) : (pushEntry s e).kept = s.kept := by
  simp [pushEntry]

@[simp] theorem kept_pcieKeptOn (s : State) : (pcieKeptOn s).kept = s.kept := by simp [pcieKeptOn]

@[simp] theorem kept_phaseC1 (s : State) (own : Option BootEntry) : (phaseC1 s own).kept = s.kept := by
  simp [phaseC1]

@[simp] theorem kept_restart (s : State) (own : Option Nat) : (restart s own).kept = s.kept := by
  unfold restart; (repeat' split) <;> simp

@[simp] theorem kept_floatOutputs (s : State) : (floatOutputs s).kept = s.kept := by simp [floatOutputs]

@[simp] theorem kept_recordCause (s : State) (cause : Nat) (counted : Bool) (detail : Nat) : (recordCause s cause counted detail).kept = s.kept := by
  unfold recordCause; (repeat' split) <;> simp

@[simp] theorem kept_recordBrownout (s : State) : (recordBrownout s).kept = s.kept := by
  unfold recordBrownout; dsimp only; split <;> simp

@[simp] theorem kept_domsOff (s : State) (keep : List Nat) : (domsOff s keep).kept = s.kept := by
  unfold domsOff
  exact kept_foldl _ (fun s d => by split <;> simp) _ _

@[simp] theorem kept_showNoSessions (s : State) : (showNoSessions s).kept = s.kept := by simp [showNoSessions]

@[simp] theorem kept_sessionsStop (s : State) : (sessionsStop s).kept = s.kept := by simp [sessionsStop]

@[simp] theorem kept_startStub (s : State) : (startStub s).kept = s.kept := by
  unfold startStub; (repeat' split) <;> simp

@[simp] theorem kept_runStub (s : State) : (runStub s).kept = s.kept := by
  unfold runStub; (repeat' split) <;> simp

@[simp] theorem kept_enterCoppice (s : State) (reason : Nat) : (enterCoppice s reason).kept = s.kept := by
  simp [enterCoppice]

@[simp] theorem kept_enterWaitHost (s : State) : (enterWaitHost s).kept = s.kept := by simp [enterWaitHost]

@[simp] theorem kept_countFailure (s : State) (cause : Nat) (detail : Nat) : (countFailure s cause detail).kept = s.kept := by
  simp [countFailure]

@[simp] theorem kept_countedFailure (s : State) (cause : Nat) (detail : Nat) : (countedFailure s cause detail).kept = s.kept := by
  unfold countedFailure; dsimp only; (repeat' split) <;> simp_all

@[simp] theorem kept_markFault (s : State) : (markFault s).kept = s.kept := by simp [markFault]

@[simp] theorem kept_holdFault (s : State) (cause : Nat) (detail : Nat) : (holdFault s cause detail).kept = s.kept := by
  unfold holdFault; dsimp only; (repeat' split) <;> simp

@[simp] theorem kept_faultActs (s : State) (cause : Nat) (detail : Nat) : (faultActs s cause detail).kept = s.kept := by
  unfold faultActs; dsimp only; (repeat' split) <;> simp

@[simp] theorem kept_raiseFault (s : State) (cause : Nat) (detail : Nat) : (raiseFault s cause detail).kept = s.kept := by
  unfold raiseFault; split <;> simp

@[simp] theorem kept_recordEngFault (s : State) (c : Nat) (kind : Nat) (unit : Nat) (addr : Nat) (cycle : Nat) (inj : Bool) : (recordEngFault s c kind unit addr cycle inj).kept = s.kept := by
  unfold recordEngFault; (repeat' split) <;> simp

@[simp] theorem kept_clusterFault (s : State) (c : Nat) (kind : Nat) (unit : Nat) (addr : Nat) (cycle : Nat) (inj : Bool) : (clusterFault s c kind unit addr cycle inj).kept = s.kept := by
  simp [clusterFault]

/-! ### Machine/EngineCore.lean -/

@[simp] theorem kept_State_setEngine (s : State) (e : Nat) (x : Engine) : (State.setEngine s e x).kept = s.kept := by
  simp [State.setEngine]

@[simp] theorem kept_State_setEngState (s : State) (e : Nat) (v : Nat) : (State.setEngState s e v).kept = s.kept := by
  simp [State.setEngState]

@[simp] theorem kept_correctedError (s : State) (e : Nat) (data : Bool) : (correctedError s e data).kept = s.kept := by
  simp [correctedError]

@[simp] theorem kept_queueWriteBack (s : State) (e : Nat) (a : Nat) : (queueWriteBack s e a).kept = s.kept := by
  unfold queueWriteBack; dsimp only; (repeat' split) <;> simp_all

@[simp] theorem kept_disarm (s : State) (e : Nat) : (disarm s e).kept = s.kept := by simp [disarm]

@[simp] theorem kept_fetchFinding (s : State) (e : Nat) (f : Fetch) : (fetchFinding s e f).kept = s.kept := by
  unfold fetchFinding; (repeat' split) <;> simp

@[simp] theorem kept_fetchWord (s : State) (e : Nat) (f : Fetch) : (fetchWord s e f).kept = s.kept := by
  unfold fetchWord; dsimp only; (repeat' split) <;> simp_all

@[simp] theorem kept_issueSlots (s : State) (e : Nat) (slots : List Slot) : (issueSlots s e slots).kept = s.kept := by
  simp [issueSlots]

@[simp] theorem kept_slotOp (s : State) (e : EngNo) (i : Instr) (slots : List Slot) (f : Engine → Engine) : (slotOp s e i slots f).kept = s.kept := by
  unfold slotOp; (repeat' split) <;> simp

@[simp] theorem kept_endCycle (s : State) (e : Nat) : (endCycle s e).kept = s.kept := by simp [endCycle]

@[simp] theorem kept_openCycle (s : State) (e : Nat) (f : Fetch) : (openCycle s e f).kept = s.kept := by
  unfold openCycle; (repeat' split) <;> simp

/-! ### Machine/Params.lean -/

@[simp] theorem kept_State_setFlip (s : State) (b : Nat) (v : Nat) : (State.setFlip s b v).kept = s.kept := by
  simp [State.setFlip]

@[simp] theorem kept_putEngineCopy (s : State) (e : Nat) (p : Nat) (c : Nat) (w : Nat) (v : Word) : (putEngineCopy s e p c w v).kept = s.kept := by
  simp [putEngineCopy]

@[simp] theorem kept_writeCopy (s : State) (c : Nat) (b : Nat) (w : Nat) (v : Word) : (writeCopy s c b w v).kept = s.kept := by
  unfold writeCopy; dsimp only; (repeat' split) <;> simp_all

@[simp] theorem kept_writeBoth (s : State) (b : Nat) (w : Nat) (v : Word) : (writeBoth s b w v).kept = s.kept := by
  simp [writeBoth]

/-! ### Machine/Delay.lean -/

@[simp] theorem kept_State_setAge (s : State) (r : LineRec) (v : Nat) : (State.setAge s r v).kept = s.kept := by
  simp [State.setAge]

@[simp] theorem kept_putLineWord (s : State) (r : LineRec) (p : Nat) (v : Word) : (putLineWord s r p v).kept = s.kept := by
  unfold putLineWord; (repeat' split) <;> simp

@[simp] theorem kept_pointCheck (s : State) (e : Nat) (r : LineRec) (j : Nat) (x1 : Ecc) : (pointCheck s e r j x1).kept = s.kept := by
  unfold pointCheck; (repeat' split) <;> simp

@[simp] theorem kept_burstCheck (s : State) (e : Nat) (r : LineRec) (tp : Nat) (j : Nat) : (burstCheck s e r tp j).kept = s.kept := by
  unfold burstCheck; dsimp only; (repeat' split) <;> simp_all

@[simp] theorem kept_tapChecks (s : State) (e : Nat) (w : Word) (ecc : List Ecc) : (tapChecks s e w ecc).kept = s.kept := by
  unfold tapChecks; (repeat' split) <;> simp

/-! ### Machine/EngineX.lean -/

@[simp] theorem kept_xOp (e : EngNo) (i : Instr) (f : Engine → Engine) (s : State) : (xOp e i f s).kept = s.kept := by
  simp [xOp]

@[simp] theorem kept_execXnop (e : EngNo) (s : State) : keptBy s (execXnop e s) := by
  simp [execXnop]

@[simp] theorem kept_execRot (e : EngNo) (s : State) : keptBy s (execRot e s) := by
  simp [execRot]

@[simp] theorem kept_execPhase (e : EngNo) (s : State) : keptBy s (execPhase e s) := by
  simp [execPhase]

@[simp] theorem kept_execLoop (e : EngNo) (rot : Bool) (lenM1 : Fin 64) (cntM1 : Fin 1024) (s : State) : keptBy s (execLoop e rot lenM1 cntM1 s) := by
  simp [execLoop]

@[simp] theorem kept_execRep (e : EngNo) (cntM1 : Fin 32768) (s : State) : keptBy s (execRep e cntM1 s) := by
  simp [execRep]

@[simp] theorem kept_execEndProg (e : EngNo) (s : State) : keptBy s (execEndProg e s) := by
  simp [execEndProg]

@[simp] theorem kept_execXr (e : EngNo) (n : Fin 32) (ecc : Ecc) (s : State) : keptBy s (execXr e n ecc s) := by
  unfold execXr; (repeat' split) <;> simp

@[simp] theorem kept_execXw (e : EngNo) (n : Fin 32) (s : State) : keptBy s (execXw e n s) := by
  simp [execXw]

@[simp] theorem kept_execReqDelayTap (e : EngNo) (n : Fin 32) (ecc : List Ecc) (s : State) : keptBy s (execReqDelayTap e n ecc s) := by
  simp [execReqDelayTap]

@[simp] theorem kept_execReqGainCell (e : EngNo) (n : Fin 32) (s : State) : keptBy s (execReqGainCell e n s) := by
  simp [execReqGainCell]

@[simp] theorem kept_sendHops (s : State) (e : Nat) : (sendHops s e).kept = s.kept := by simp [sendHops]

@[simp] theorem kept_landHops (s : State) (e : Nat) : (landHops s e).kept = s.kept := by simp [landHops]

@[simp] theorem kept_execEngineDelayedWrite (e : EngNo) (next : Fetch) (s : State) : keptBy s (execEngineDelayedWrite e next s) := by
  simp [execEngineDelayedWrite]

@[simp] theorem kept_execEngFaultClear (c : ClNo) (s : State) : keptBy s (execEngFaultClear c s) := by
  simp [execEngFaultClear]

@[simp] theorem kept_finjWrite (s : State) (c : Nat) (e : Nat) (kind : Nat) (arm : Nat) : (finjWrite s c e kind arm).kept = s.kept := by
  simp [finjWrite]

@[simp] theorem kept_execFinjArm (c : ClNo) (e : Fin 16) (kind : Fin 8) (s : State) : keptBy s (execFinjArm c e kind s) := by
  simp [execFinjArm]

@[simp] theorem kept_execFinjDisarm (c : ClNo) (v : Word) (s : State) : keptBy s (execFinjDisarm c v s) := by
  simp [execFinjDisarm]

@[simp] theorem kept_clearFlagLog (s : State) (c n : Nat) : (clearFlagLog s c n).kept = s.kept := by
  induction n with
  | zero => rfl
  | succ n ih => simp [clearFlagLog, ih]

@[simp] theorem kept_execEngLogClr (c : ClNo) (s : State) : keptBy s (execEngLogClr c s) := by
  simp [execEngLogClr]

@[simp] theorem kept_execEngCntClr (c : ClNo) (s : State) : keptBy s (execEngCntClr c s) := by
  simp [execEngCntClr]

/-! ### Machine/Partition.lean -/

@[simp] theorem kept_discardGroups (s : State) (p : Group → Bool) : (discardGroups s p).kept = s.kept := by
  unfold discardGroups; (repeat' split) <;> simp

@[simp] theorem kept_breakLease (s : State) (i : Nat) : (breakLease s i).kept = s.kept := by
  unfold breakLease; (repeat' split) <;> simp

@[simp] theorem kept_endLease (s : State) (i : Nat) : (endLease s i).kept = s.kept := by simp [endLease]

@[simp] theorem kept_breakLeases (s : State) (p : Lease → Bool) : (breakLeases s p).kept = s.kept := by
  simp [breakLeases]

@[simp] theorem kept_cellsToTarget (s : State) (p : Nat) : (cellsToTarget s p).kept = s.kept := by
  simp [cellsToTarget]

@[simp] theorem kept_haltEngines (s : State) (p : Nat) : (haltEngines s p).kept = s.kept := by
  unfold haltEngines; apply kept_foldl; intro s r; dsimp only; (repeat' split) <;> simp

@[simp] theorem kept_startLines (s : State) (e : Nat) : (startLines s e).kept = s.kept := by
  simp [startLines]

@[simp] theorem kept_clearBridges (s : State) (e : Nat) : (clearBridges s e).kept = s.kept := by
  simp [clearBridges]

@[simp] theorem kept_startEngine (s : State) (e : Nat) : (startEngine s e).kept = s.kept := by
  unfold startEngine; (repeat' split) <;> simp

@[simp] theorem kept_resetActions (s : State) (p : Nat) : (resetActions s p).kept = s.kept := by
  simp [resetActions]

@[simp] theorem kept_setPartOp (s : State) (o : PartOp) : (setPartOp s o).kept = s.kept := by
  simp [setPartOp]

@[simp] theorem kept_dropPartOp (s : State) (p : Nat) : (dropPartOp s p).kept = s.kept := by
  simp [dropPartOp]

@[simp] theorem kept_abortNow (s : State) (p : Nat) : (abortNow s p).kept = s.kept := by simp [abortNow]

@[simp] theorem kept_scheduleAbort (s : State) (p : Nat) (r : Nat) : (scheduleAbort s p r).kept = s.kept := by
  unfold scheduleAbort; (repeat' split) <;> simp

@[simp] theorem kept_joinFrame (s : State) (i : CtlItem) : (joinFrame s i).kept = s.kept := by
  unfold joinFrame; (repeat' split) <;> simp

@[simp] theorem kept_sendCtl (s : State) (i : CtlItem) : (sendCtl s i).kept = s.kept := by
  simp [sendCtl]

@[simp] theorem kept_forward (s : State) (i : Nat → CtlItem) : (forward s i).kept = s.kept := by
  unfold forward; (repeat' split) <;> simp

@[simp] theorem kept_addReset (s : State) (p : Nat) : (addReset s p).kept = s.kept := by simp [addReset]

@[simp] theorem kept_acceptReset (s : State) (p : Nat) : (acceptReset s p).kept = s.kept := by
  simp [acceptReset]

@[simp] theorem kept_doPartReset (s : State) (p : Nat) : (doPartReset s p).kept = s.kept := by
  unfold doPartReset; (repeat' split) <;> simp

@[simp] theorem kept_doPartDone (s : State) (p : Nat) : (doPartDone s p).kept = s.kept := by
  unfold doPartDone; (repeat' split) <;> simp

@[simp] theorem kept_partResetWrite (s : State) (v : Word) : (partResetWrite s v).kept = s.kept := by
  unfold partResetWrite; dsimp only; (repeat' split) <;> simp_all

@[simp] theorem kept_execPartResetRequest (v : Word) (s : State) : keptBy s (execPartResetRequest v s) := by
  simp [execPartResetRequest]

@[simp] theorem kept_execPartitionReset (p : Fin 256) (s : State) : keptBy s (execPartitionReset p s) := by
  simp [execPartitionReset]

@[simp] theorem kept_execPartitionResetComplete (p : Fin 256) (s : State) : keptBy s (execPartitionResetComplete p s) := by
  simp [execPartitionResetComplete]

/-! ### Machine/Commit.lean -/

@[simp] theorem kept_admitGroup_admitLast (s : State) (p : Nat) (who : SessId) (seq : Nat) (own : Option (Nat × Nat))
    (ents : List Entry) : (admitGroup.admitLast s p who seq own ents).st.kept = s.kept := by
  unfold admitGroup.admitLast; (repeat' split) <;> simp

@[simp] theorem kept_admitGroup (s : State) (p : Nat) (who : SessId) (seq : Nat) (h : Word) (os : List Offer) :
    (admitGroup s p who seq h os).st.kept = s.kept := by
  unfold admitGroup; dsimp only; (repeat' split) <;> first | rfl | exact kept_admitGroup_admitLast _ _ _ _ _ _

@[simp] theorem kept_decideGroup (s : State) (p : Nat) (who : SessId) (seq : Nat) (h : Word) (os : List Offer) : (decideGroup s p who seq h os).st.kept = s.kept := by
  unfold decideGroup; (repeat' split) <;> simp

@[simp] theorem kept_remember (s : State) (r : Remembered) : (remember s r).kept = s.kept := by
  unfold remember; (repeat' split) <;> simp

@[simp] theorem kept_serveCommit (s : State) (p : Nat) (who : SessId) (seq : Word) (h : Word) (es : List RawEntry) : (serveCommit s p who seq h es).st.kept = s.kept := by
  unfold serveCommit; (repeat' split) <;> simp

@[simp] theorem kept_serveRead (s : State) (p : Nat) (block : Nat) (first : Nat) (rsv : Nat) (count : Nat) : (serveRead s p block first rsv count).st.kept = s.kept := by
  unfold serveRead; (repeat' split) <;> simp

@[simp] theorem kept_grantLease (s : State) (p : Nat) (who : SessId) (duration : Nat) (bs : List Nat) : (grantLease s p who duration bs).st.kept = s.kept := by
  simp [grantLease]

@[simp] theorem kept_serveAcquire (s : State) (p : Nat) (who : SessId) (duration : Nat) (blocks : List Half) : (serveAcquire s p who duration blocks).st.kept = s.kept := by
  unfold serveAcquire; dsimp only; (repeat' split) <;> simp_all

@[simp] theorem kept_serveRenew (s : State) (p : Nat) (who : SessId) (h : Word) (duration : Nat) : (serveRenew s p who h duration).st.kept = s.kept := by
  unfold serveRenew; dsimp only; (repeat' split) <;> simp_all

@[simp] theorem kept_serveRelease (s : State) (p : Nat) (who : SessId) (h : Word) : (serveRelease s p who h).st.kept = s.kept := by
  unfold serveRelease; (repeat' split) <;> simp

@[simp] theorem kept_serveReset (s : State) (p : Nat) : (serveReset s p).st.kept = s.kept := by
  unfold serveReset; (repeat' split) <;> simp

@[simp] theorem kept_endSoon (s : State) (n : Nat) : (endSoon s n).kept = s.kept := by
  unfold endSoon; dsimp only; (repeat' split) <;> simp_all

@[simp] theorem kept_serve (s : State) (p : Nat) (who : SessId) (x1 : AudonReq) : (serve s p who x1).st.kept = s.kept := by
  unfold serve; (repeat' split) <;> simp

@[simp] theorem kept_noteStatus (s : State) (st : Nat) : (noteStatus s st).kept = s.kept := by
  unfold noteStatus; (repeat' split) <;> simp

@[simp] theorem kept_answerSession (s : State) (n : Nat) (op : Nat) (reqId : Nat) (r : Reply) : (answerSession s n op reqId r).kept = s.kept := by
  unfold answerSession; (repeat' split) <;> simp

@[simp] theorem kept_answerSubmit (s : State) (r : Reply) : (answerSubmit s r).kept = s.kept := by
  simp [answerSubmit]

@[simp] theorem kept_deliver (s : State) (a : Asker) (r : Reply) : (deliver s a r).kept = s.kept := by
  unfold deliver; (repeat' split) <;> simp

@[simp] theorem kept_answer (s : State) (a : Asker) (r : Reply) (rem : Option Remembered) :
    (answer s a r rem).kept = s.kept := by
  unfold answer; cases rem <;> simp

@[simp] theorem kept_conclude (v : Served) (a : Asker) : (conclude v a).kept = v.st.kept := by
  unfold conclude; (repeat' split) <;> simp

@[simp] theorem kept_request (n : Nat) (reqId : Word) (flags : Byte) (q : AudonReq) (s : State) : (request n reqId flags q s).kept = s.kept := by
  unfold request; (repeat' split) <;> simp

@[simp] theorem kept_execCommit (sess : Fin 4096) (reqId : Word) (flags : Byte) (gseq : Word) (lease : Word) (ents : List RawEntry) (s : State) : keptBy s (execCommit sess reqId flags gseq lease ents s) := by
  simp [execCommit]

@[simp] theorem kept_execAudonRead (sess : Fin 4096) (reqId : Word) (flags : Byte) (block : Half) (first : Byte) (rsv : Byte) (count : Half) (s : State) : keptBy s (execAudonRead sess reqId flags block first rsv count s) := by
  simp [execAudonRead]

@[simp] theorem kept_execLeaseAcquire (sess : Fin 4096) (reqId : Word) (flags : Byte) (duration : Word) (blocks : List Half) (s : State) : keptBy s (execLeaseAcquire sess reqId flags duration blocks s) := by
  simp [execLeaseAcquire]

@[simp] theorem kept_execLeaseRenew (sess : Fin 4096) (reqId : Word) (flags : Byte) (lease : Word) (duration : Word) (s : State) : keptBy s (execLeaseRenew sess reqId flags lease duration s) := by
  simp [execLeaseRenew]

@[simp] theorem kept_execLeaseRelease (sess : Fin 4096) (reqId : Word) (flags : Byte) (lease : Word) (s : State) : keptBy s (execLeaseRelease sess reqId flags lease s) := by
  simp [execLeaseRelease]

@[simp] theorem kept_execAudonReset (sess : Fin 4096) (reqId : Word) (flags : Byte) (s : State) : keptBy s (execAudonReset sess reqId flags s) := by
  simp [execAudonReset]

@[simp] theorem kept_execClose (sess : Fin 4096) (reqId : Word) (flags : Byte) (s : State) : keptBy s (execClose sess reqId flags s) := by
  simp [execClose]

@[simp] theorem kept_execPing (sess : Fin 4096) (reqId : Word) (flags : Byte) (s : State) : keptBy s (execPing sess reqId flags s) := by
  simp [execPing]

@[simp] theorem kept_serveSubmit (s : State) (who : SessId) (es : List (Word × Word)) (count : Nat) : (serveSubmit s who es count).st.kept = s.kept := by
  unfold serveSubmit; (repeat' split) <;> simp

@[simp] theorem kept_submitWrite (s : State) (v : Word) : (submitWrite s v).kept = s.kept := by
  unfold submitWrite; dsimp only; (repeat' split) <;> simp_all

@[simp] theorem kept_execCmtSubmit (v : Word) (s : State) : keptBy s (execCmtSubmit v s) := by
  simp [execCmtSubmit]

@[simp] theorem kept_confirmUpTo (s : State) (n : Nat) : (confirmUpTo s n).kept = s.kept := by
  simp [confirmUpTo]

@[simp] theorem kept_execFollowerConfirm (seq : Word) (s : State) : keptBy s (execFollowerConfirm seq s) := by
  simp [execFollowerConfirm]

@[simp] theorem kept_replicaLate (s : State) : (replicaLate s).kept = s.kept := by
  unfold replicaLate; dsimp only; (repeat' split) <;> simp_all

@[simp] theorem kept_execReplicaLate (s : State) : keptBy s (execReplicaLate s) := by
  simp [execReplicaLate]

@[simp] theorem kept_leaseDue (s : State) (i : Nat) : (leaseDue s i).kept = s.kept := by
  unfold leaseDue; (repeat' split) <;> simp

@[simp] theorem kept_execLeaseExpiry (index : Fin 16384) (s : State) : keptBy s (execLeaseExpiry index s) := by
  simp [execLeaseExpiry]

@[simp] theorem kept_execCmtCntClr (s : State) : keptBy s (execCmtCntClr s) := by simp [execCmtCntClr]

@[simp] theorem kept_leaseSel (s : State) (v : Word) : (leaseSel s v).kept = s.kept := by
  unfold leaseSel; dsimp only; (repeat' split) <;> simp_all

@[simp] theorem kept_execLeaseSelWrite (v : Word) (s : State) : keptBy s (execLeaseSelWrite v s) := by
  simp [execLeaseSelWrite]

@[simp] theorem kept_flipBlock (s : State) (b : Nat) : (flipBlock s b).kept = s.kept := by
  unfold flipBlock; (repeat' split) <;> simp

@[simp] theorem kept_doFlips (s : State) : (doFlips s).kept = s.kept := by simp [doFlips]

@[simp] theorem kept_execGroupFlip (s : State) : keptBy s (execGroupFlip s) := by simp [execGroupFlip]

@[simp] theorem kept_groupWindow (s : State) (g : Group) : (groupWindow s g).1.kept = s.kept := by
  unfold groupWindow; (repeat' split) <;> simp

@[simp] theorem kept_commitWindow (s : State) : (commitWindow s).kept = s.kept := by
  unfold commitWindow
  dsimp only
  simp
  exact kept_foldPair _ (by intro x a; simp) _ _

@[simp] theorem kept_dropDone (s : State) : (dropDone s).kept = s.kept := by simp [dropDone]

@[simp] theorem kept_State_setCell (s : State) (n : Nat) (c : Cell) : (State.setCell s n c).kept = s.kept := by
  simp [State.setCell]

@[simp] theorem kept_cellStep3 (s : State) (r : CellRec) : (cellStep3 s r).kept = s.kept := by
  simp [cellStep3]

@[simp] theorem kept_cellStep4 (s : State) (n : Nat) : (cellStep4 s n).kept = s.kept := by
  unfold cellStep4; dsimp only; (repeat' split) <;> simp_all

@[simp] theorem kept_execGainCellTimeout (cell : Fin 4096) (s : State) : keptBy s (execGainCellTimeout cell s) := by
  unfold execGainCellTimeout; dsimp only; (repeat' split) <;> simp_all

/-! ### Machine/Thorn.lean -/

@[simp] theorem kept_logTrip (s : State) (gi : Nat) (cause : Nat) (t : Nat) : (logTrip s gi cause t).kept = s.kept := by
  unfold logTrip; dsimp only; (repeat' split) <;> simp_all

@[simp] theorem kept_noteCauses (s : State) (gi : Nat) (g : Guard) (t : Nat) (cs : List Nat) (may : List Nat) : (noteCauses s gi g t cs may).1.kept = s.kept := by
  simp [noteCauses]

@[simp] theorem kept_thornSample (s : State) (gi : Nat) (r : ThornRec) (part : Nat) (y : Word) (t : Nat) (tm : Nat) (j : Nat) (factor : Nat) (bits : Nat) : (thornSample s gi r part y t tm j factor bits).st.kept = s.kept := by
  unfold thornSample; dsimp only; (repeat' split) <;> simp_all

@[simp] theorem kept_noteFault (s : State) (gi : Nat) (t : Nat) : (noteFault s gi t).kept = s.kept := by
  unfold noteFault; dsimp only; (repeat' split) <;> simp_all

@[simp] theorem kept_launchWord (s : State) (kind port ch j : Nat) : (launchWord s kind port ch j).1.kept = s.kept := by
  unfold launchWord
  (repeat' split)
  · rfl
  · exact kept_foldl _ (by intro s g; simp) _ _
  · rfl

@[simp] theorem kept_clearTrips (s : State) : (clearTrips s).kept = s.kept := by simp [clearTrips]

@[simp] theorem kept_execThnLogClr (s : State) : keptBy s (execThnLogClr s) := by simp [execThnLogClr]

@[simp] theorem kept_execJtagInstruction (test : Bool) (s : State) : keptBy s (execJtagInstruction test s) := by
  simp [execJtagInstruction]

@[simp] theorem kept_sampleLinks (s : State) : (sampleLinks s).kept = s.kept := by
  unfold sampleLinks; apply kept_foldl; intro s r; dsimp only; (repeat' split) <;> simp

@[simp] theorem kept_updateSilence (s : State) : (updateSilence s).kept = s.kept := by simp [updateSilence]

/-! ### Machine/Net.lean -/

@[simp] theorem kept_execNetLinkChange (port : Fin 4) (up : Bool) (s : State) : keptBy s (execNetLinkChange port up s) := by
  simp [execNetLinkChange]

@[simp] theorem kept_execNetFallback (port : Fin 4) (s : State) : keptBy s (execNetFallback port s) := by
  unfold execNetFallback; dsimp only; (repeat' split) <;> simp_all

@[simp] theorem kept_streamRead (s : State) : (streamRead s).kept = s.kept := by simp [streamRead]

@[simp] theorem kept_addStreamWrite (s : State) (key : Nat) (t : Nat) (e : List Word) : (addStreamWrite s key t e).kept = s.kept := by
  simp [addStreamWrite]

@[simp] theorem kept_streamWrite (s : State) : (streamWrite s).kept = s.kept := by
  unfold streamWrite; dsimp only; (repeat' split) <;> simp_all

@[simp] theorem kept_execStreamEntryRead (s : State) : keptBy s (execStreamEntryRead s) := by
  simp [execStreamEntryRead]

@[simp] theorem kept_execStreamEntryWrite (s : State) : keptBy s (execStreamEntryWrite s) := by
  simp [execStreamEntryWrite]

@[simp] theorem kept_applyEntry (s : State) (key : Nat) (e : List Word) : (applyEntry s key e).kept = s.kept := by
  simp [applyEntry]

@[simp] theorem kept_applyStreams (s : State) : (applyStreams s).kept = s.kept := by simp [applyStreams]

@[simp] theorem kept_execStreamEntryApply (s : State) : keptBy s (execStreamEntryApply s) := by
  simp [execStreamEntryApply]

@[simp] theorem kept_State_setCnt (s : State) (key : Nat) (c : StreamCnt) : (State.setCnt s key c).kept = s.kept := by
  simp [State.setCnt]

@[simp] theorem kept_clearNetCounts (s : State) : (clearNetCounts s).kept = s.kept := by
  simp [clearNetCounts]

@[simp] theorem kept_execNetCntClr (s : State) : keptBy s (execNetCntClr s) := by simp [execNetCntClr]

@[simp] theorem kept_netCtlWrite (s : State) (v : Word) : (netCtlWrite s v).kept = s.kept := by
  unfold netCtlWrite; (repeat' split) <;> simp

@[simp] theorem kept_execNetTxModeWrite (v : Word) (s : State) : keptBy s (execNetTxModeWrite v s) := by
  simp [execNetTxModeWrite]

@[simp] theorem kept_addSample (s : State) (k : Nat) (d : Nat) (r : RxSample) : (addSample s k d r).kept = s.kept := by
  unfold addSample; (repeat' split) <;> simp

@[simp] theorem kept_streamPacket (s : State) (key : Nat) (leg : Nat) (ts : Nat) (body : List Byte) : (streamPacket s key leg ts body).kept = s.kept := by
  unfold streamPacket; dsimp only; (repeat' split) <;> simp_all

@[simp] theorem kept_audonDatagram (s : State) (part : Nat) (more : Bool) (d : Udp) : (audonDatagram s part more d).kept = s.kept := by
  unfold audonDatagram; dsimp only; (repeat' split) <;> simp_all

@[simp] theorem kept_passSv (s : State) (f : SvFrame) : (passSv s f).kept = s.kept := by
  simp [passSv]

@[simp] theorem kept_ptpMessage (s : State) (p : Nat) (ns : Nat) (d : Udp) : (ptpMessage s p ns d).kept = s.kept := by
  unfold ptpMessage; (repeat' split) <;> simp

@[simp] theorem kept_classify (s : State) (p : Nat) (ns : Nat) (x1 : EthBody) : (classify s p ns x1).kept = s.kept := by
  unfold classify; (repeat' split) <;> simp

@[simp] theorem kept_execEthFrameRx (f : EthFrame) (s : State) : keptBy s (execEthFrameRx f s) := by
  unfold execEthFrameRx; (repeat' split) <;> simp

@[simp] theorem kept_captureEntry (s : State) (t key : Nat) : (captureEntry s t key).kept = s.kept := by
  unfold captureEntry
  apply kept_foldl
  intro s j
  dsimp only
  refine kept_ite s _ _ _ ?_ ?_
  · exact kept_foldl _ (by intro s c; split <;> simp) _ _
  · rw [kept_State_setCnt]
    exact kept_foldl _ (by intro s c; split <;> simp) _ _

@[simp] theorem kept_captureNet (s : State) : (captureNet s).kept = s.kept := by simp [captureNet]

@[simp] theorem kept_launchSample (s : State) (e : List Word) (j : Nat) : (launchSample s e j).1.kept = s.kept := by
  unfold launchSample
  exact kept_foldPair _ (by intro x c; simp) _ _

@[simp] theorem kept_feedSample (s : State) (key : Nat) (i : Nat) (j : Nat) (e : List Word) : (feedSample s key i j e).kept = s.kept := by
  simp [feedSample]

@[simp] theorem kept_feedTx (s : State) (m : Nat) (key : Nat) (e : List Word) : (feedTx s m key e).kept = s.kept := by
  unfold feedTx; apply kept_foldl; intro s r; dsimp only; (repeat' split) <;> simp

@[simp] theorem kept_feedEnding (s : State) (m : Nat) (key : Nat) (e : List Word) : (feedEnding s m key e).kept = s.kept := by
  unfold feedEnding; apply kept_foldl; intro s r; dsimp only; (repeat' split) <;> simp

@[simp] theorem kept_dropEnded (s : State) : (dropEnded s).kept = s.kept := by simp [dropEnded]

@[simp] theorem kept_launchNet (s : State) : (launchNet s).kept = s.kept := by simp [launchNet]

@[simp] theorem kept_sendPacket (s : State) (x : Nat × List Word × Nat × Nat) : (sendPacket s x).kept = s.kept := by
  simp [sendPacket]

@[simp] theorem kept_execStreamPacketTx (index : Fin 512) (s : State) : keptBy s (execStreamPacketTx index s) := by
  unfold execStreamPacketTx; dsimp only; (repeat' split) <;> simp_all

@[simp] theorem kept_ptpAdj (s : State) (v : Word) : (ptpAdj s v).kept = s.kept := by
  simp [ptpAdj]

@[simp] theorem kept_execPtpAdjWrite (v : Word) (s : State) : keptBy s (execPtpAdjWrite v s) := by
  simp [execPtpAdjWrite]

@[simp] theorem kept_setPhc (s : State) (t : Nat) : (setPhc s t).kept = s.kept := by simp [setPhc]

@[simp] theorem kept_ptpStep (s : State) (v : Word) : (ptpStep s v).kept = s.kept := by
  simp [ptpStep]

@[simp] theorem kept_execPtpStepWrite (v : Word) (s : State) : keptBy s (execPtpStepWrite v s) := by
  simp [execPtpStepWrite]

@[simp] theorem kept_execPtpValidWrite (v : Word) (s : State) : keptBy s (execPtpValidWrite v s) := by
  simp [execPtpValidWrite]

@[simp] theorem kept_phcTick (s : State) : (phcTick s).kept = s.kept := by
  unfold phcTick; (repeat' split) <;> simp

@[simp] theorem kept_gridStart (s : State) : (gridStart s).kept = s.kept := by
  unfold gridStart; (repeat' split) <;> simp

@[simp] theorem kept_putOrigin (s : State) (o : Nat) : (putOrigin s o).kept = s.kept := by simp [putOrigin]

@[simp] theorem kept_setOrigin (s : State) : (setOrigin s).kept = s.kept := by
  unfold setOrigin; (repeat' split) <;> simp

@[simp] theorem kept_showMediaErr (s : State) : (showMediaErr s).kept = s.kept := by simp [showMediaErr]

end Sys2Proof.Machine
end

