-- ==== Sys2Proof/Laws/KeptBlocks.lean ====
section
/-!
SUPPORT. Laws/KeptBlocks.lean: no operation of the block changes the queue of waiting commands or the owner OTP (R282 names the
one command that programs OTP): one lemma per operation, in the order of the model's files.
-/
namespace Sys2Proof.Machine

/-! ### Machine/Exchange.lean -/

@[simp] theorem kept_putIn (s : State) (e : Nat) (w : Nat) (v : Word) : (putIn s e w v).kept = s.kept := by
  simp [putIn]

@[simp] theorem kept_putInRun (s : State) (e : Nat) (w : Nat) (vs : List Word) : (putInRun s e w vs).kept = s.kept := by
  simp [putInRun]

@[simp] theorem kept_landTickHops (s : State) : (landTickHops s).kept = s.kept := by simp [landTickHops]

@[simp] theorem kept_landInputs (s : State) : (landInputs s).kept = s.kept := by simp [landInputs]

@[simp] theorem kept_bridgeDeliver (s : State) (r : BridgeRec) (vs : List Word) : (bridgeDeliver s r vs).kept = s.kept := by
  unfold bridgeDeliver
  split
  · exact kept_foldl _ (by intro s a; simp) _ _
  · split
    · simp
    · split
      · rfl
      · exact kept_foldl _ (by intro s a; simp) _ _

@[simp] theorem kept_runBridge (s : State) (r : BridgeRec) : (runBridge s r).kept = s.kept := by
  simp [runBridge]

@[simp] theorem kept_runBridges (s : State) : (runBridges s).kept = s.kept := by simp [runBridges]

@[simp] theorem kept_takeOutputs (s : State) : (takeOutputs s).kept = s.kept := by simp [takeOutputs]

@[simp] theorem kept_carryWords (s : State) : (carryWords s).kept = s.kept := by simp [carryWords]

@[simp] theorem kept_formOutput (s : State) (r : IoRec) (j : Nat) : (formOutput s r j).kept = s.kept := by
  unfold formOutput; (repeat' split) <;> simp

@[simp] theorem kept_formOutputs (s : State) : (formOutputs s).kept = s.kept := by
  unfold formOutputs; (repeat' split) <;> simp

@[simp] theorem kept_logFlags (s : State) (c : Nat) : (logFlags s c).kept = s.kept := by simp [logFlags]

@[simp] theorem kept_watchCells (s : State) (c : Nat) : (watchCells s c).kept = s.kept := by
  simp [watchCells]

@[simp] theorem kept_applyFinding (s : State) (c : Nat) (f : Finding) : (applyFinding s c f).kept = s.kept := by
  unfold applyFinding; (repeat' split) <;> simp

@[simp] theorem kept_scrubCluster (s : State) (c : Nat) (finds : List Finding) : (scrubCluster s c finds).kept = s.kept := by
  unfold scrubCluster; dsimp only; (repeat' split) <;> simp_all

@[simp] theorem kept_endWindows (s : State) (c : Nat) : (endWindows s c).kept = s.kept := by
  simp [endWindows]

@[simp] theorem kept_swapCluster (s : State) (c : Nat) : (swapCluster s c).kept = s.kept := by
  simp [swapCluster]

@[simp] theorem kept_guardCluster (s : State) (c : Nat) (finds : List Finding) : (guardCluster s c finds).kept = s.kept := by
  simp [guardCluster]

@[simp] theorem kept_execTickGuard (c : ClNo) (finds : List Finding) (s : State) : keptBy s (execTickGuard c finds s) := by
  unfold execTickGuard; (repeat' split) <;> simp

@[simp] theorem kept_captureAsrc (s : State) (n : Nat) : (captureAsrc s n).kept = s.kept := by
  unfold captureAsrc; (repeat' split) <;> simp

@[simp] theorem kept_closeInputs (s : State) : (closeInputs s).kept = s.kept := by
  unfold closeInputs; (repeat' split) <;> simp

@[simp] theorem kept_captureInputs (s : State) : (captureInputs s).kept = s.kept := by simp [captureInputs]

@[simp] theorem kept_execLaunchInstant (s : State) : keptBy s (execLaunchInstant s) := by
  unfold execLaunchInstant; (repeat' split) <;> simp

/-! ### Machine/Banks.lean -/

@[simp] theorem kept_handBank (s : State) (b : Nat) (owner : Nat) : (handBank s b owner).kept = s.kept := by
  simp [handBank]

@[simp] theorem kept_bankOwnerWrite (s : State) (b : Nat) (v : Word) : (bankOwnerWrite s b v).kept = s.kept := by
  unfold bankOwnerWrite; dsimp only; (repeat' split) <;> simp_all

@[simp] theorem kept_execBankHandoverRequest (path : Path) (b : Fin 384) (v : Word) (s : State) : keptBy s (execBankHandoverRequest path b v s) := by
  unfold execBankHandoverRequest; (repeat' split) <;> simp

@[simp] theorem kept_zeroBank (s : State) (b : Nat) : (zeroBank s b).kept = s.kept := by simp [zeroBank]

@[simp] theorem kept_execBankClearDone (b : Fin 384) (s : State) : keptBy s (execBankClearDone b s) := by
  simp [execBankClearDone]

@[simp] theorem kept_bankPwrWrite (s : State) (b : Nat) (v : Word) : (bankPwrWrite s b v).kept = s.kept := by
  unfold bankPwrWrite; dsimp only; (repeat' split) <;> simp_all

@[simp] theorem kept_execBankPowerRequest (b : Fin 384) (v : Word) (s : State) : keptBy s (execBankPowerRequest b v s) := by
  simp [execBankPowerRequest]

@[simp] theorem kept_execBankZeroFillDone (b : Fin 384) (s : State) : keptBy s (execBankZeroFillDone b s) := by
  simp [execBankZeroFillDone]

@[simp] theorem kept_takeBank (s : State) (b : Nat) : (takeBank s b).kept = s.kept := by simp [takeBank]

@[simp] theorem kept_applyBanks (s : State) : (applyBanks s).kept = s.kept := by simp [applyBanks]

@[simp] theorem kept_retainBanks (s : State) (c : Nat) (sleep : Bool) : (retainBanks s c sleep).kept = s.kept := by
  unfold retainBanks; apply kept_foldl; intro s r; dsimp only; (repeat' split) <;> simp

@[simp] theorem kept_clearMemCounts (s : State) : (clearMemCounts s).kept = s.kept := by
  simp [clearMemCounts]

@[simp] theorem kept_execMemCntClr (s : State) : keptBy s (execMemCntClr s) := by simp [execMemCntClr]

@[simp] theorem kept_retrain (s : State) (ch : Nat) (warn : Bool) : (retrain s ch warn).kept = s.kept := by
  unfold retrain; (repeat' split) <;> simp

@[simp] theorem kept_execDramRetrain (ch : Fin 16) (warn : Bool) (s : State) : keptBy s (execDramRetrain ch warn s) := by
  unfold execDramRetrain; (repeat' split) <;> simp

@[simp] theorem kept_execDramRefresh (s : State) : keptBy s (execDramRefresh s) := by
  simp [execDramRefresh]

/-! ### Machine/SvLoad.lean -/

@[simp] theorem kept_placeImages (s : State) (x : CoreImage) (y : CoreImage) : (placeImages s x y).kept = s.kept := by
  simp [placeImages]

@[simp] theorem kept_State_setMbx (s : State) (w : Nat) (v : Half) : (State.setMbx s w v).kept = s.kept := by
  simp [State.setMbx]

@[simp] theorem kept_answerService (s : State) (status : Nat) : (answerService s status).kept = s.kept := by
  simp [answerService]

@[simp] theorem kept_newPeriod (s : State) : (newPeriod s).kept = s.kept := by simp [newPeriod]

@[simp] theorem kept_wdtRestart (s : State) (core : Nat) (cause : Nat) (reload : Bool) : (wdtRestart s core cause reload).kept = s.kept := by
  unfold wdtRestart; dsimp only; (repeat' split) <;> simp_all

@[simp] theorem kept_execWatchdogRestart (s : State) : keptBy s (execWatchdogRestart s) := by
  unfold execWatchdogRestart; (repeat' split) <;> simp

@[simp] theorem kept_coreStop (s : State) (c : Nat) (cause : Nat) (prot : Bool) : (coreStop s c cause prot).kept = s.kept := by
  unfold coreStop; (repeat' split) <;> simp

@[simp] theorem kept_reloadFailed (s : State) : (reloadFailed s).kept = s.kept := by
  unfold reloadFailed; (repeat' split) <;> simp

@[simp] theorem kept_execFirmwareEntry (s : State) : keptBy s (execFirmwareEntry s) := by
  unfold execFirmwareEntry; (repeat' split) <;> simp

@[simp] theorem kept_execWdtWarn (s : State) : keptBy s (execWdtWarn s) := by
  unfold execWdtWarn; (repeat' split) <;> simp

@[simp] theorem kept_kickWrite (s : State) (v : Word) : (kickWrite s v).kept = s.kept := by
  unfold kickWrite; (repeat' split) <;> simp

@[simp] theorem kept_execWdtKick (s : State) : keptBy s (execWdtKick s) := by simp [execWdtKick]

@[simp] theorem kept_flashGo (s : State) (c : Nat) (op : Nat) : (flashGo s c op).kept = s.kept := by
  unfold flashGo; dsimp only; (repeat' split) <;> simp_all

@[simp] theorem kept_flashDone (s : State) (err : Bool) : (flashDone s err).kept = s.kept := by
  unfold flashDone; (repeat' split) <;> simp

@[simp] theorem kept_execFlashProgramPage (c : Fin 2) (s : State) : keptBy s (execFlashProgramPage c s) := by
  simp [execFlashProgramPage]

@[simp] theorem kept_execFlashEraseBlock (c : Fin 2) (s : State) : keptBy s (execFlashEraseBlock c s) := by
  simp [execFlashEraseBlock]

@[simp] theorem kept_execFlashCmdDone (err : Bool) (s : State) : keptBy s (execFlashCmdDone err s) := by
  simp [execFlashCmdDone]

@[simp] theorem kept_serviceRun (s : State) (write : Bool) (err : Bool) : (serviceRun s write err).kept = s.kept := by
  unfold serviceRun; dsimp only; (repeat' split) <;> simp_all

@[simp] theorem kept_execFlashServiceErase (err : Bool) (s : State) : keptBy s (execFlashServiceErase err s) := by
  simp [execFlashServiceErase]

@[simp] theorem kept_execFlashServiceWrite (err : Bool) (s : State) : keptBy s (execFlashServiceWrite err s) := by
  simp [execFlashServiceWrite]

/-! ### Machine/Ports.lean -/

@[simp] theorem kept_fsCheck (s : State) (key : Nat) (locked : Bool) (good : Bool) : (fsCheck s key locked good).kept = s.kept := by
  unfold fsCheck; (repeat' split) <;> simp

@[simp] theorem kept_clearFs (s : State) (key : Nat) : (clearFs s key).kept = s.kept := by simp [clearFs]

@[simp] theorem kept_showPhase (s : State) (f : Fld) (fs : Option (BitVec 8)) : (showPhase s f fs).kept = s.kept := by
  unfold showPhase; (repeat' split) <;> simp

@[simp] theorem kept_execTdmSlotInput (port : Fin 32) (slot : Fin 16) (j : Fin 4) (raw : Word) (fs : Option (BitVec 8)) (first : Bool) (s : State) : keptBy s (execTdmSlotInput port slot j raw fs first s) := by
  unfold execTdmSlotInput; dsimp only; (repeat' split) <;> simp_all

@[simp] theorem kept_tdmFrameStart (s : State) (port : Nat) : (tdmFrameStart s port).kept = s.kept := by
  simp [tdmFrameStart]

@[simp] theorem kept_tdmWord (s : State) (port : Nat) (slot : Nat) (j : Nat) : (tdmWord s port slot j).1.kept = s.kept := by
  unfold tdmWord; (repeat' split) <;> simp

@[simp] theorem kept_execTdmSlotOutput (port : Fin 32) (slot : Fin 16) (j : Fin 4) (s : State) : keptBy s (execTdmSlotOutput port slot j s) := by
  unfold execTdmSlotOutput; (repeat' split) <;> simp

@[simp] theorem kept_execTdmLock (g : Fin 4) (s : State) : keptBy s (execTdmLock g s) := by
  simp [execTdmLock]

@[simp] theorem kept_execTdmUnlock (g : Fin 4) (clkLost : Bool) (s : State) : keptBy s (execTdmUnlock g clkLost s) := by
  unfold execTdmUnlock; (repeat' split) <;> simp

@[simp] theorem kept_clearTdmCounts (s : State) : (clearTdmCounts s).kept = s.kept := by
  simp [clearTdmCounts]

@[simp] theorem kept_execTdmCntClr (s : State) : keptBy s (execTdmCntClr s) := by simp [execTdmCntClr]

@[simp] theorem kept_asrcTake (s : State) (n : Nat) (chB : Bool) (v : Word) : (asrcTake s n chB v).kept = s.kept := by
  simp [asrcTake]

@[simp] theorem kept_execAesRxSubframe (n : Fin 8) (chB : Bool) (audio : BitVec 24) (v : Bool) (parityBad : Bool) (bpBad : Bool) (s : State) : keptBy s (execAesRxSubframe n chB audio v parityBad bpBad s) := by
  unfold execAesRxSubframe; (repeat' split) <;> simp

@[simp] theorem kept_execAesRxLock (n : Fin 8) (s : State) : keptBy s (execAesRxLock n s) := by
  simp [execAesRxLock]

@[simp] theorem kept_execAsrcUnlock (n : Fin 8) (lost : Bool) (oor : Bool) (s : State) : keptBy s (execAsrcUnlock n lost oor s) := by
  unfold execAsrcUnlock; dsimp only; (repeat' split) <;> simp_all

@[simp] theorem kept_execAsrcLock (n : Fin 8) (ratio : Half) (rate : Fin 9) (s : State) : keptBy s (execAsrcLock n ratio rate s) := by
  simp [execAsrcLock]

@[simp] theorem kept_stepAsrc (s : State) (n : Nat) : (stepAsrc s n).kept = s.kept := by
  unfold stepAsrc; dsimp only; (repeat' split) <;> simp_all

@[simp] theorem kept_execAesCsBlock (n : Fin 8) (chB : Bool) (bytes : List Byte) (s : State) : keptBy s (execAesCsBlock n chB bytes s) := by
  unfold execAesCsBlock; dsimp only; (repeat' split) <;> simp_all

@[simp] theorem kept_clearAesCounts (s : State) : (clearAesCounts s).kept = s.kept := by
  simp [clearAesCounts]

@[simp] theorem kept_execAesCntClr (s : State) : keptBy s (execAesCntClr s) := by simp [execAesCntClr]

@[simp] theorem kept_execAesTxFrame (n : Fin 8) (i : Fin 4) (s : State) : keptBy s (execAesTxFrame n i s) := by
  simp [execAesTxFrame]

@[simp] theorem kept_qsSeqCheck (s : State) (lane : Nat) (seq : Nat) : (qsSeqCheck s lane seq).kept = s.kept := by
  unfold qsSeqCheck; dsimp only; (repeat' split) <;> simp_all

@[simp] theorem kept_qsReceive (s : State) (lane : Nat) (raw : Word) : (qsReceive s lane raw).1.kept = s.kept := by
  unfold qsReceive; (repeat' split) <;> simp

@[simp] theorem kept_execQsInputWord (lane : Fin 16) (j : Fin 16) (raw : Word) (fs : Option (BitVec 8)) (first : Bool) (s : State) : keptBy s (execQsInputWord lane j raw fs first s) := by
  unfold execQsInputWord; (repeat' split) <;> simp

@[simp] theorem kept_qsMix (s : State) (r : QsMixRec) (j : Nat) : (qsMix s r j).1.kept = s.kept := by
  unfold qsMix; dsimp only; (repeat' split) <;> simp_all

@[simp] theorem kept_qsOutput (s : State) (lane : Nat) (j : Nat) : (qsOutput s lane j).1.kept = s.kept := by
  unfold qsOutput; dsimp only; (repeat' split) <;> simp_all

@[simp] theorem kept_laneCrc (s : State) (lane : Nat) : (laneCrc s lane).kept = s.kept := by
  unfold laneCrc; split <;> simp

@[simp] theorem kept_putLane (s : State) (lane : Nat) (w : Option Word) : (putLane s lane w).kept = s.kept := by simp [putLane]

@[simp] theorem kept_execQsOutputWord (lane : Fin 16) (j : Fin 16) (s : State) : keptBy s (execQsOutputWord lane j s) := by
  unfold execQsOutputWord; dsimp only; (repeat' split) <;> simp

@[simp] theorem kept_execQsLock (clkLost : Bool) (s : State) : keptBy s (execQsLock clkLost s) := by
  unfold execQsLock; (repeat' split) <;> simp

@[simp] theorem kept_clearQsCounts (s : State) : (clearQsCounts s).kept = s.kept := by simp [clearQsCounts]

@[simp] theorem kept_execQsCntClr (s : State) : keptBy s (execQsCntClr s) := by simp [execQsCntClr]

@[simp] theorem kept_startTdm (s : State) : (startTdm s).kept = s.kept := by
  simp [startTdm, apply_ite State.kept]

@[simp] theorem kept_startQs (s : State) : (startQs s).kept = s.kept := by
  unfold startQs; (repeat' split) <;> simp

@[simp] theorem kept_startPorts (s : State) : (startPorts s).kept = s.kept := by simp [startPorts]

/-! ### Machine/Dma.lean -/

@[simp] theorem kept_State_setChan (s : State) (n : Nat) (c : Chan) : (State.setChan s n c).kept = s.kept := by
  simp [State.setChan]

@[simp] theorem kept_showStopped (s : State) : (showStopped s).kept = s.kept := by simp [showStopped]

@[simp] theorem kept_State_setChanSt (s : State) (n : Nat) (v : Nat) : (State.setChanSt s n v).kept = s.kept := by
  simp [State.setChanSt]

@[simp] theorem kept_dmaEvent (s : State) (n : Nat) (always : Bool) : (dmaEvent s n always).kept = s.kept := by
  unfold dmaEvent; dsimp only; (repeat' split) <;> simp_all

@[simp] theorem kept_putOnchipByte (s : State) (space : Nat) (a : Nat) (b : Byte) : (putOnchipByte s space a b).kept = s.kept := by
  unfold putOnchipByte; (repeat' split) <;> simp

@[simp] theorem kept_putBytes (s : State) (space : Nat) (a : Nat) (bs : List Byte) : (putBytes s space a bs).kept = s.kept := by
  unfold putBytes; (repeat' split) <;> simp

@[simp] theorem kept_meetFind (s : State) (space a words : Nat) (f : MemFind) : (meetFind s space a words f).kept = s.kept := by
  unfold meetFind; dsimp only; (repeat' split) <;> simp

@[simp] theorem kept_meetWrite (s : State) (space a len : Nat) (f : MemFind) : (meetWrite s space a len f).kept = s.kept := by
  unfold meetWrite; split <;> simp

@[simp] theorem kept_writeStatus (s : State) (n : Nat) (result : Nat) (f : MemFind) : (writeStatus s n result f).kept = s.kept := by
  unfold writeStatus; (repeat' split) <;> simp

@[simp] theorem kept_dmaFail (s : State) (n : Nat) (cause : Nat) (f : MemFind) : (dmaFail s n cause f).kept = s.kept := by
  unfold dmaFail; (repeat' split) <;> simp

@[simp] theorem kept_fillRule (s : State) (n : Nat) : (fillRule s n).kept = s.kept := by
  unfold fillRule; dsimp only; (repeat' split) <;> simp_all

@[simp] theorem kept_fillState (s : State) (n : Nat) : (fillState s n).kept = s.kept := by
  unfold fillState; (repeat' split) <;> simp

@[simp] theorem kept_fillSub (s : State) (n : Nat) (k : Nat) : (fillSub s n k).kept = s.kept := by
  simp [fillSub]

@[simp] theorem kept_fillWritten (s : State) (n : Nat) (k : Nat) : (fillWritten s n k).kept = s.kept := by
  simp [fillWritten, apply_ite State.kept]

@[simp] theorem kept_dmaRequest (s : State) (n : Nat) : (dmaRequest s n).kept = s.kept := by
  unfold dmaRequest; dsimp only; (repeat' split) <;> simp_all

@[simp] theorem kept_dmaStart (s : State) (n : Nat) : (dmaStart s n).kept = s.kept := by
  unfold dmaStart; dsimp only; (repeat' split) <;> simp_all

@[simp] theorem kept_execDmaGo (n : Fin 32) (s : State) : keptBy s (execDmaGo n s) := by simp [execDmaGo]

@[simp] theorem kept_dmaStop (s : State) (n : Nat) (f : MemFind) : (dmaStop s n f).kept = s.kept := by
  unfold dmaStop; (repeat' split) <;> simp

@[simp] theorem kept_execDmaAbort (n : Fin 32 × MemFind) (s : State) : keptBy s (execDmaAbort n s) := by
  simp [execDmaAbort]

@[simp] theorem kept_dmaBell (s : State) (n : Nat) : (dmaBell s n).kept = s.kept := by
  unfold dmaBell; (repeat' split) <;> simp

@[simp] theorem kept_execDmaDoorbell (n : Fin 32) (s : State) : keptBy s (execDmaDoorbell n s) := by
  simp [execDmaDoorbell]

@[simp] theorem kept_dmaSoft (s : State) (n : Nat) : (dmaSoft s n).kept = s.kept := by
  unfold dmaSoft; (repeat' split) <;> simp

@[simp] theorem kept_execDmaSoftRequest (n : Fin 32) (s : State) : keptBy s (execDmaSoftRequest n s) := by
  simp [execDmaSoftRequest]

@[simp] theorem kept_execDmaTickRequest (s : State) : keptBy s (execDmaTickRequest s) := by
  simp [execDmaTickRequest, apply_ite State.kept]

@[simp] theorem kept_dmaCtl (s : State) (n : Nat) (v : Word) : (dmaCtl s n v).kept = s.kept := by
  unfold dmaCtl; (repeat' split) <;> simp

@[simp] theorem kept_execDmaFillDec (n : Fin 32) (v : Word) (s : State) : keptBy s (execDmaFillDec n v s) := by
  simp [execDmaFillDec]

@[simp] theorem kept_dmaComplete (s : State) (n : Nat) (d : List Word) (fs fo : MemFind) :
    (dmaComplete s n d fs fo).kept = s.kept := by
  unfold dmaComplete; dsimp only; (repeat' split) <;> simp_all

@[simp] theorem kept_barrierDone (s : State) (n : Nat) (fs fo : MemFind) : (barrierDone s n fs fo).kept = s.kept := by
  unfold barrierDone; (repeat' split) <;> simp

@[simp] theorem kept_execDmaBarrierDone (n : Fin 32 × MemFind × MemFind) (s : State) :
    keptBy s (execDmaBarrierDone n s) := by
  simp [execDmaBarrierDone]

@[simp] theorem kept_dmaDescriptor (s : State) (n : Nat) (d : List Word) : (dmaDescriptor s n d).kept = s.kept := by
  unfold dmaDescriptor; dsimp only; (repeat' split) <;> simp_all

@[simp] theorem kept_dmaWriteBeat (s : State) (n : Nat) (d : List Word) (m : BeatMeet) : (dmaWriteBeat s n d m).kept = s.kept := by
  unfold dmaWriteBeat; dsimp only; (repeat' split) <;> simp_all

@[simp] theorem kept_takeData (s : State) (n : Nat) (bs : List Byte) : (takeData s n bs).kept = s.kept := by
  simp [takeData]

@[simp] theorem kept_dmaReadBeat (s : State) (n : Nat) (d : List Word) (m : BeatMeet) : (dmaReadBeat s n d m).kept = s.kept := by
  unfold dmaReadBeat; dsimp only; (repeat' split) <;> simp_all

@[simp] theorem kept_startBurst (s : State) (n : Nat) (d : List Word) : (startBurst s n d).kept = s.kept := by
  unfold startBurst; dsimp only; (repeat' split) <;> simp_all

@[simp] theorem kept_dmaBeatOf (s : State) (n : Nat) (m : BeatMeet) : (dmaBeatOf s n m).kept = s.kept := by
  unfold dmaBeatOf; dsimp only; (repeat' split) <;> simp_all

@[simp] theorem kept_countWait (s : State) (n : Nat) : (countWait s n).kept = s.kept := by
  unfold countWait; (repeat' split) <;> simp

@[simp] theorem kept_newShare (s : State) (n : Nat) : (newShare s n).kept = s.kept := by
  unfold newShare; dsimp only; (repeat' split) <;> simp_all

@[simp] theorem kept_execDmaBeat (meet : BeatMeet) (s : State) : keptBy s (execDmaBeat meet s) := by
  unfold execDmaBeat; dsimp only; (repeat' split) <;> simp_all

@[simp] theorem kept_execDmaReadData (n : Fin 32) (bytes : List Byte) (s : State) : keptBy s (execDmaReadData n bytes s) := by
  unfold execDmaReadData; dsimp only; (repeat' split) <;> simp_all

@[simp] theorem kept_stopChan (s : State) (n : Nat) : (stopChan s n).kept = s.kept := by
  unfold stopChan; (repeat' split) <;> simp

@[simp] theorem kept_execDmaBusError (kind : BusError) (ch : Option (Fin 32)) (space : Fin 3) (addr : BitVec 64) (cycle : BitVec 15) (s : State) : keptBy s (execDmaBusError kind ch space addr cycle s) := by
  unfold execDmaBusError; dsimp only; (repeat' split) <;> simp_all

@[simp] theorem kept_resumeChan (s : State) (n : Nat) : (resumeChan s n).kept = s.kept := by
  unfold resumeChan; dsimp only; (repeat' split) <;> simp_all

@[simp] theorem kept_execDmaRestart (path : Path) (mask : Word) (withStop : Bool) (s : State) :
    keptBy s (execDmaRestart path mask withStop s) := by
  unfold execDmaRestart
  split
  · simp
  · split
    · simp
    · exact kept_gated _ _ _ (kept_foldl _ (by intro s a; split <;> simp) _ _)

@[simp] theorem kept_clearDmaCounts (s : State) : (clearDmaCounts s).kept = s.kept := by
  simp [clearDmaCounts]

@[simp] theorem kept_execDmaCntClr (s : State) : keptBy s (execDmaCntClr s) := by simp [execDmaCntClr]

/-! ### Machine/Clock.lean -/

@[simp] theorem kept_State_setPlla (s : State) (v : Nat) : (State.setPlla s v).kept = s.kept := by
  simp [State.setPlla]

@[simp] theorem kept_State_setDco (s : State) (v : Int) : (State.setDco s v).kept = s.kept := by
  simp [State.setDco]

@[simp] theorem kept_showValid (s : State) : (showValid s).kept = s.kept := by simp [showValid]

@[simp] theorem kept_markSource (s : State) (n : Nat) (v : Bool) : (markSource s n v).kept = s.kept := by
  simp [markSource]

@[simp] theorem kept_enterHoldover (s : State) : (enterHoldover s).kept = s.kept := by simp [enterHoldover]

@[simp] theorem kept_acquire (s : State) (n : Nat) : (acquire s n).kept = s.kept := by
  unfold acquire; dsimp only; (repeat' split) <;> simp_all

@[simp] theorem kept_changeSource (s : State) (n : Nat) : (changeSource s n).kept = s.kept := by
  simp [changeSource]

@[simp] theorem kept_execRefLoss (src : Fin 5) (s : State) : keptBy s (execRefLoss src s) := by
  unfold execRefLoss; dsimp only; (repeat' split) <;> simp_all

@[simp] theorem kept_execSourceValidAgain (src : Fin 5) (s : State) : keptBy s (execSourceValidAgain src s) := by
  unfold execSourceValidAgain; dsimp only; (repeat' split) <;> simp_all

@[simp] theorem kept_execAltFallback (s : State) : keptBy s (execAltFallback s) := by
  simp [execAltFallback]

@[simp] theorem kept_execRefRevert (s : State) : keptBy s (execRefRevert s) := by simp [execRefRevert]

@[simp] theorem kept_stepWord (s : State) : (stepWord s).kept = s.kept := by
  unfold stepWord; dsimp only; (repeat' split) <;> simp_all

@[simp] theorem kept_execPllaUpdate (errNs : Int) (s : State) : keptBy s (execPllaUpdate errNs s) := by
  unfold execPllaUpdate; dsimp only; (repeat' split) <;> simp_all

@[simp] theorem kept_execPllaLock (s : State) : keptBy s (execPllaLock s) := by simp [execPllaLock]

@[simp] theorem kept_codeOr (s : State) (f : Fld) (v : Nat) (limit : Nat) : (codeOr s f v limit).kept = s.kept := by
  unfold codeOr; (repeat' split) <;> simp

@[simp] theorem kept_refselWrite (s : State) (v : Word) : (refselWrite s v).kept = s.kept := by
  unfold refselWrite; dsimp only; (repeat' split) <;> simp_all

@[simp] theorem kept_execClkRefselWrite (v : Word) (s : State) : keptBy s (execClkRefselWrite v s) := by
  simp [execClkRefselWrite]

@[simp] theorem kept_pllaCtl (s : State) (v : Word) : (pllaCtl s v).kept = s.kept := by
  unfold pllaCtl; dsimp only; (repeat' split) <;> simp_all

@[simp] theorem kept_execPllaCtlWrite (v : Word) (s : State) : keptBy s (execPllaCtlWrite v s) := by
  simp [execPllaCtlWrite]

@[simp] theorem kept_execVtuneWarn (near : Bool) (s : State) : keptBy s (execVtuneWarn near s) := by
  unfold execVtuneWarn; (repeat' split) <;> simp

@[simp] theorem kept_pllbLost (s : State) (xtal : Bool) : (pllbLost s xtal).kept = s.kept := by
  unfold pllbLost; dsimp only; (repeat' split) <;> simp_all

@[simp] theorem kept_execPllbUnlock (xtal : Bool) (s : State) : keptBy s (execPllbUnlock xtal s) := by
  simp [execPllbUnlock]

@[simp] theorem kept_clkOutWrite (s : State) (n : Nat) (div : Bool) (v : Word) : (clkOutWrite s n div v).kept = s.kept := by
  unfold clkOutWrite; (repeat' split) <;> simp

@[simp] theorem kept_execClkOutConfig (n : Fin 8) (div : Bool) (v : Word) (s : State) : keptBy s (execClkOutConfig n div v s) := by
  simp [execClkOutConfig]

@[simp] theorem kept_wclkWrite (s : State) (v : Word) : (wclkWrite s v).kept = s.kept := by
  simp [wclkWrite]

@[simp] theorem kept_execClkWclkConfig (v : Word) (s : State) : keptBy s (execClkWclkConfig v s) := by
  simp [execClkWclkConfig]

@[simp] theorem kept_clkOutBoundary (s : State) (n : Nat) : (clkOutBoundary s n).kept = s.kept := by
  simp [clkOutBoundary]

@[simp] theorem kept_clkBoundary (s : State) : (clkBoundary s).kept = s.kept := by simp [clkBoundary]

@[simp] theorem kept_latchTick (s : State) (p : Path) : (latchTick s p).kept = s.kept := by
  simp [latchTick]

@[simp] theorem kept_execTickCountRead (path : Path) (s : State) : keptBy s (execTickCountRead path s) := by
  simp [execTickCountRead]

/-! ### Machine/Power.lean -/

@[simp] theorem kept_wakeDom (s : State) (d : Nat) (src : Nat) : (wakeDom s d src).kept = s.kept := by
  unfold wakeDom; dsimp only; (repeat' split) <;> simp_all

@[simp] theorem kept_showPinned (s : State) : (showPinned s).kept = s.kept := by
  unfold showPinned; apply kept_foldl; intro s r; dsimp only; (repeat' split) <;> simp

@[simp] theorem kept_sleepDom (s : State) (d : Nat) (quiet : Bool) (withWake : Bool) : (sleepDom s d quiet withWake).kept = s.kept := by
  unfold sleepDom; dsimp only; (repeat' split) <;> simp_all

@[simp] theorem kept_execDomainSleep (d : Fin 17) (quiet : Bool) (withWake : Bool) (s : State) : keptBy s (execDomainSleep d quiet withWake s) := by
  simp [execDomainSleep]

@[simp] theorem kept_execIdleTimerExpiry (d : Fin 17) (quiet : Bool) (withWake : Bool) (s : State) : keptBy s (execIdleTimerExpiry d quiet withWake s) := by
  unfold execIdleTimerExpiry; (repeat' split) <;> simp

@[simp] theorem kept_resetRange (s : State) (lo : Nat) (hi : Nat) : (resetRange s lo hi).kept = s.kept := by
  simp [resetRange]

@[simp] theorem kept_loadPortRegs (s : State) : (loadPortRegs s).kept = s.kept := by simp [loadPortRegs]

@[simp] theorem kept_loadNetRegs (s : State) : (loadNetRegs s).kept = s.kept := by simp [loadNetRegs]

@[simp] theorem kept_loseDomain (s : State) (d : Nat) : (loseDomain s d).kept = s.kept := by
  unfold loseDomain; (repeat' split) <;> simp

@[simp] theorem kept_restartPorts (s : State) (d : Nat) : (restartPorts s d).kept = s.kept := by
  unfold restartPorts; (repeat' split) <;> simp

@[simp] theorem kept_execDomainEntryDone (d : Fin 17) (level : Bool) (s : State) : keptBy s (execDomainEntryDone d level s) := by
  unfold execDomainEntryDone; dsimp only; (repeat' split) <;> simp_all

@[simp] theorem kept_execDomainPartReady (d : Fin 17) (s : State) : keptBy s (execDomainPartReady d s) := by
  simp [execDomainPartReady]

@[simp] theorem kept_execDramAccessWake (s : State) : keptBy s (execDramAccessWake s) := by
  simp [execDramAccessWake]

@[simp] theorem kept_execNetFrameWake (f : EthFrame) (s : State) : keptBy s (execNetFrameWake f s) := by
  unfold execNetFrameWake; (repeat' split) <;> simp

@[simp] theorem kept_execPcieLinkWake (s : State) : keptBy s (execPcieLinkWake s) := by
  simp [execPcieLinkWake]

@[simp] theorem kept_execPleachSignalWake (s : State) : keptBy s (execPleachSignalWake s) := by
  simp [execPleachSignalWake]

@[simp] theorem kept_execInputActivityWake (k : Fin 3) (level : Bool) (lastPeriods : Bool) (s : State) : keptBy s (execInputActivityWake k level lastPeriods s) := by
  simp [execInputActivityWake]

@[simp] theorem kept_clusterEngines (s : State) (c : Nat) (fromSt : Nat) (toSt : Nat) : (clusterEngines s c fromSt toSt).kept = s.kept := by
  simp [clusterEngines, apply_ite State.kept]

@[simp] theorem kept_sleepCluster (s : State) (c : Nat) : (sleepCluster s c).kept = s.kept := by
  simp [sleepCluster]

@[simp] theorem kept_wakeCluster (s : State) (c : Nat) (src : Nat) : (wakeCluster s c src).kept = s.kept := by
  simp [wakeCluster]

@[simp] theorem kept_resumeCluster (s : State) (c : Nat) : (resumeCluster s c).kept = s.kept := by
  unfold resumeCluster; dsimp only; (repeat' split) <;> simp_all

@[simp] theorem kept_evalCluster (s : State) (c : Nat) : (evalCluster s c).kept = s.kept := by
  unfold evalCluster; dsimp only; (repeat' split) <;> simp_all

@[simp] theorem kept_execClusterResume (c : ClNo) (s : State) : keptBy s (execClusterResume c s) := by
  simp [execClusterResume]

@[simp] theorem kept_countOverlap (old s : State) : (countOverlap old s).kept = s.kept := by simp [countOverlap]

@[simp] theorem kept_clusterWrite (s : State) (a : Nat) (v : Word) : (clusterWrite s a v).kept = s.kept := by
  unfold clusterWrite; (repeat' split) <;> simp

@[simp] theorem kept_execDomainWake (d : Fin 17) (s : State) : keptBy s (execDomainWake d s) := by
  exact kept_gated _ _ _ (by split <;> simp)

@[simp] theorem kept_execClusterControlWrite (a : Word) (v : Word) (s : State) : keptBy s (execClusterControlWrite a v s) := by
  unfold execClusterControlWrite; (repeat' split) <;> simp

@[simp] theorem kept_applyCluster (s : State) (a : Nat) (v : Word) : (applyCluster s a v).kept = s.kept := by
  unfold applyCluster; dsimp only; (repeat' split) <;> simp_all

@[simp] theorem kept_applyClusters (s : State) : (applyClusters s).kept = s.kept := by
  simp [applyClusters]

@[simp] theorem kept_execClusterControlApply (s : State) : keptBy s (execClusterControlApply s) := by
  simp [execClusterControlApply]

@[simp] theorem kept_domCtlWrite (s : State) (d : Nat) (v : Word) : (domCtlWrite s d v).kept = s.kept := by
  unfold domCtlWrite; (repeat' split) <;> simp

@[simp] theorem kept_clearPwrCounts (s : State) : (clearPwrCounts s).kept = s.kept := by
  simp [clearPwrCounts]

@[simp] theorem kept_execPwrCntClr (s : State) : keptBy s (execPwrCntClr s) := by simp [execPwrCntClr]

@[simp] theorem kept_residency (s : State) (ms : Nat) : (residency s ms).kept = s.kept := by
  unfold residency; (repeat' split) <;> simp

@[simp] theorem kept_thermal (s : State) (was : Option Int) : (thermal s was).kept = s.kept := by
  unfold thermal; dsimp only; (repeat' split) <;> simp_all

@[simp] theorem kept_execTempConversion (n : Fin 16) (temp : Half) (s : State) : keptBy s (execTempConversion n temp s) := by
  unfold execTempConversion; dsimp only; (repeat' split) <;> simp_all

@[simp] theorem kept_clearPeak (s : State) : (clearPeak s).kept = s.kept := by simp [clearPeak]

@[simp] theorem kept_execMonPeakClr (s : State) : keptBy s (execMonPeakClr s) := by simp [execMonPeakClr]

@[simp] theorem kept_supplyFault (s : State) (k : Nat) : (supplyFault s k).kept = s.kept := by
  unfold supplyFault; (repeat' split) <;> simp

@[simp] theorem kept_execSupplyFault (rail : Fin 9) (s : State) : keptBy s (execSupplyFault rail s) := by
  simp [execSupplyFault]

@[simp] theorem kept_execCoreSupplyLoss (s : State) : keptBy s (execCoreSupplyLoss s) := by
  simp [execCoreSupplyLoss]

@[simp] theorem kept_comparatorWake (s : State) (d : Nat) : (comparatorWake s d).kept = s.kept := by
  unfold comparatorWake; dsimp only; (repeat' split) <;> simp

@[simp] theorem kept_execAmonComparator (n : Fin 8) (above : Bool) (s : State) : keptBy s (execAmonComparator n above s) := by
  unfold execAmonComparator; dsimp only; (repeat' split) <;> simp_all

@[simp] theorem kept_amonGoodCode (s : State) (n : Nat) (code : Nat) : (amonGoodCode s n code).kept = s.kept := by
  simp [amonGoodCode]

@[simp] theorem kept_amonTest (s : State) (n : Nat) (p : Nat) (sus : Bool) (code : Nat) (moved : Bool) : (amonTest s n p sus code moved).kept = s.kept := by
  unfold amonTest; (repeat' split) <;> simp

@[simp] theorem kept_execAmonConversion (n : Fin 8) (code : BitVec 12) (moved : Bool) (s : State) : keptBy s (execAmonConversion n code moved s) := by
  unfold execAmonConversion; dsimp only; (repeat' split) <;> simp_all

@[simp] theorem kept_amonCtlWrite (s : State) (n : Nat) (v : Word) : (amonCtlWrite s n v).kept = s.kept := by
  unfold amonCtlWrite; dsimp only; (repeat' split) <;> simp_all

/-! ### Machine/Twin.lean -/

@[simp] theorem kept_State_setRipe (s : State) (v : Nat) : (State.setRipe s v).kept = s.kept := by
  simp [State.setRipe]

@[simp] theorem kept_showAlive (s : State) : (showAlive s).kept = s.kept := by simp [showAlive]

@[simp] theorem kept_twnChange (f : State → State) (s : State) (h : (f s).kept = s.kept) :
    (twnChange f s).kept = s.kept := by simp [twnChange, h]

@[simp] theorem kept_startEngines (s : State) : (startEngines s).kept = s.kept := by
  unfold startEngines; apply kept_foldl; intro s r; dsimp only; (repeat' split) <;> simp

@[simp] theorem kept_leavePair (s : State) : (leavePair s).kept = s.kept := by simp [leavePair]

@[simp] theorem kept_undoItem (s : State) (x1 : Undo) : (undoItem s x1).kept = s.kept := by
  unfold undoItem; (repeat' split) <;> simp

@[simp] theorem kept_dropUnconfirmed (s : State) (n : Nat) : (dropUnconfirmed s n).kept = s.kept := by
  unfold dropUnconfirmed
  simp only [kept_mk, kept_eta]
  generalize List.filter _ s.twin.taken = l
  induction l with
  | nil => rfl
  | cons a l ih => rw [List.foldr_cons, kept_undoItem, ih]

@[simp] theorem kept_takeOwnership (s : State) (sole : Bool) : (takeOwnership s sole).kept = s.kept := by
  unfold takeOwnership; dsimp only; (repeat' split) <;> simp_all

@[simp] theorem kept_giveUpOwnership (s : State) (upto : Nat) : (giveUpOwnership s upto).kept = s.kept := by
  unfold giveUpOwnership; (repeat' split) <;> simp

@[simp] theorem kept_newStream (s : State) : (newStream s).kept = s.kept := by simp [newStream]

@[simp] theorem kept_compareGroup (s : State) (g : Nat) : (compareGroup s g).kept = s.kept := by
  unfold compareGroup; dsimp only; (repeat' split) <;> simp_all

@[simp] theorem kept_compareCrcs (s : State) : (compareCrcs s).kept = s.kept := by
  unfold compareCrcs; (repeat' split) <;> simp

@[simp] theorem kept_makeCrcs (s : State) : (makeCrcs s).kept = s.kept := by simp [makeCrcs]

@[simp] theorem kept_endMute (s : State) (g : Nat) (t : Nat) : (endMute s g t).kept = s.kept := by
  unfold endMute; (repeat' split) <;> simp

@[simp] theorem kept_endDiverge (s : State) (g : Nat) : (endDiverge s g).kept = s.kept := by
  unfold endDiverge; (repeat' split) <;> simp

@[simp] theorem kept_execDivergeMuteEnd (g : Fin 256) (s : State) : keptBy s (execDivergeMuteEnd g s) := by
  simp [execDivergeMuteEnd]

@[simp] theorem kept_clearDiverge (s : State) : (clearDiverge s).kept = s.kept := by simp [clearDiverge]

@[simp] theorem kept_execDivClr (s : State) : keptBy s (execDivClr s) := by simp [execDivClr]

@[simp] theorem kept_linkDown (s : State) : (linkDown s).kept = s.kept := by
  unfold linkDown; (repeat' split) <;> simp

@[simp] theorem kept_execLinkDown (s : State) : keptBy s (execLinkDown s) := by simp [execLinkDown]

@[simp] theorem kept_skewError (s : State) : (skewError s).kept = s.kept := by
  unfold skewError; (repeat' split) <;> simp

@[simp] theorem kept_execSkewError (s : State) : keptBy s (execSkewError s) := by simp [execSkewError]

@[simp] theorem kept_partnerFell (s : State) : (partnerFell s).kept = s.kept := by
  unfold partnerFell; dsimp only; (repeat' split) <;> simp_all

@[simp] theorem kept_execPlAliveFall (s : State) : keptBy s (execPlAliveFall s) := by
  unfold execPlAliveFall; (repeat' split) <;> simp

@[simp] theorem kept_takeoverNotice (s : State) : (takeoverNotice s).kept = s.kept := by
  unfold takeoverNotice; (repeat' split) <;> simp

@[simp] theorem kept_execTakeoverNotice (s : State) : keptBy s (execTakeoverNotice s) := by
  simp [execTakeoverNotice]

@[simp] theorem kept_detachAfter (s : State) (n : Nat) : (detachAfter s n).kept = s.kept := by
  unfold detachAfter; (repeat' split) <;> simp

@[simp] theorem kept_execDetachNotice (last : Word) (s : State) : keptBy s (execDetachNotice last s) := by
  simp [execDetachNotice]

@[simp] theorem kept_execFollowerDetach (last : Word) (s : State) : keptBy s (execFollowerDetach last s) := by
  simp [execFollowerDetach]

@[simp] theorem kept_requestHandover (s : State) (h : Word) : (requestHandover s h).kept = s.kept := by
  unfold requestHandover; (repeat' split) <;> simp

@[simp] theorem kept_handoverGo (s : State) : (handoverGo s).kept = s.kept := by
  unfold handoverGo; (repeat' split) <;> simp

@[simp] theorem kept_execHoGo (s : State) : keptBy s (execHoGo s) := by simp [execHoGo]

@[simp] theorem kept_plannedHandover (s : State) : (plannedHandover s).kept = s.kept := by
  unfold plannedHandover; (repeat' split) <;> simp

@[simp] theorem kept_execPlannedHandover (s : State) : keptBy s (execPlannedHandover s) := by
  simp [execPlannedHandover]

@[simp] theorem kept_twinLeave (s : State) : (twinLeave s).kept = s.kept := by
  unfold twinLeave; (repeat' split) <;> simp

@[simp] theorem kept_execTwinLeave (s : State) : keptBy s (execTwinLeave s) := by simp [execTwinLeave]

@[simp] theorem kept_execLateLinkAlign (s : State) : keptBy s (execLateLinkAlign s) := by
  unfold execLateLinkAlign; (repeat' split) <;> simp

@[simp] theorem kept_dropPromises (s : State) : (dropPromises s).kept = s.kept := by simp [dropPromises]

@[simp] theorem kept_joinRequest (s : State) (j : Nat) : (joinRequest s j).kept = s.kept := by
  unfold joinRequest; (repeat' split) <;> simp

@[simp] theorem kept_execJoinRequest (j : BitVec 64) (s : State) : keptBy s (execJoinRequest j s) := by
  simp [execJoinRequest]

@[simp] theorem kept_showOversize (s : State) : (showOversize s).kept = s.kept := by simp [showOversize]

@[simp] theorem kept_markEqual (s : State) (es : List Nat) : (markEqual s es).kept = s.kept := by
  simp [markEqual]

@[simp] theorem kept_equalize (s : State) : (equalize s).kept = s.kept := by
  unfold equalize; apply kept_foldl; intro s r; dsimp only; split <;> simp

@[simp] theorem kept_chooseCopy (s : State) : (chooseCopy s).kept = s.kept := by simp [chooseCopy]

@[simp] theorem kept_becomeRipe (s : State) : (becomeRipe s).kept = s.kept := by
  unfold becomeRipe; dsimp only; (repeat' split) <;> simp_all

@[simp] theorem kept_execBecomeRipe (s : State) : keptBy s (execBecomeRipe s) := by simp [execBecomeRipe]

@[simp] theorem kept_joinProgress (s : State) : (joinProgress s).kept = s.kept := by
  unfold joinProgress
  split
  · dsimp only
    rw [kept_becomeRipe, kept_State_setReg]
    split <;> simp
  · split
    · rfl
    · split <;> simp

@[simp] theorem kept_writeCopyWord (s : State) (w : CopyWord) : (writeCopyWord s w).kept = s.kept := by
  unfold writeCopyWord; (repeat' split) <;> simp

@[simp] theorem kept_execCopySetTransfer (e : EngNo) (words : List CopyWord) (s : State) : keptBy s (execCopySetTransfer e words s) := by
  simp [execCopySetTransfer]

@[simp] theorem kept_execBulkLineCopy (c : ClNo) (line : Fin 1024) (words : List Word) (s : State) : keptBy s (execBulkLineCopy c line words s) := by
  unfold execBulkLineCopy; (repeat' split) <;> simp

@[simp] theorem kept_releaseKept (s : State) : (releaseKept s).kept = s.kept := by
  unfold releaseKept; (repeat' split) <;> simp

/-! ### Machine/Load.lean -/

@[simp] theorem kept_showVerdict (s : State) (e : VErr) : (showVerdict s e).kept = s.kept := by
  simp [showVerdict]

@[simp] theorem kept_loadClock (s : State) : (loadClock s).kept = s.kept := by simp [loadClock]

@[simp] theorem kept_loadDomains (s : State) : (loadDomains s).kept = s.kept := by simp [loadDomains]

@[simp] theorem kept_loadEngine (s : State) (e : Nat) : (loadEngine s e).kept = s.kept := by
  unfold loadEngine; (repeat' split) <;> simp

@[simp] theorem kept_loadBank (s : State) (r : BankRec) : (loadBank s r).kept = s.kept := by
  simp [loadBank]

@[simp] theorem kept_loadPart (s : State) (r : PartRec) : (loadPart s r).kept = s.kept := by
  simp [loadPart]

@[simp] theorem kept_loadBlock (s : State) (r : BlockRec) : (loadBlock s r).kept = s.kept := by
  simp [loadBlock]

@[simp] theorem kept_startCells (s : State) (rs : List CellRec) : (startCells s rs).kept = s.kept := by
  simp [startCells]

@[simp] theorem kept_loadDma (s : State) : (loadDma s).kept = s.kept := by simp [loadDma]

@[simp] theorem kept_loadTwin (s : State) : (loadTwin s).kept = s.kept := by simp [loadTwin]

@[simp] theorem kept_loadThorn (s : State) : (loadThorn s).kept = s.kept := by simp [loadThorn]

@[simp] theorem kept_loadSessions (s : State) : (loadSessions s).kept = s.kept := by simp [loadSessions]

@[simp] theorem kept_loadParams (s : State) : (loadParams s).kept = s.kept := by simp [loadParams]

@[simp] theorem kept_loadFrame (s : State) : (loadFrame s).kept = s.kept := by unfold loadFrame; split <;> simp

@[simp] theorem kept_loadImage (s : State) : (loadImage s).kept = s.kept := by simp [loadImage]

@[simp] theorem kept_applyGenBlock (s : State) (x : Nat × Nat × List Word) : (applyGenBlock s x).kept = s.kept := by
  unfold applyGenBlock; (repeat' split) <;> simp

@[simp] theorem kept_applyGen (s : State) (n : Nat) : (applyGen s n).kept = s.kept := by simp [applyGen]

/-! ### Machine/Boot.lean -/

@[simp] theorem kept_countFail (s : State) : (countFail s).kept = s.kept := by simp [countFail]

@[simp] theorem kept_aonState (s : State) (strap : BitVec 9) : (aonState s strap).kept = s.kept := by
  simp [aonState]

@[simp] theorem kept_startCold (s : State) : (startCold s).kept = s.kept := by
  unfold startCold; (repeat' split) <;> simp

@[simp] theorem kept_execAonReset (strap : BitVec 9) (s : State) : keptBy s (execAonReset strap s) := by
  simp [execAonReset]

@[simp] theorem kept_execAonBrownout (s : State) : keptBy s (execAonBrownout s) := by
  unfold execAonBrownout; (repeat' split) <;> simp

@[simp] theorem kept_execSuppliesReady (s : State) : keptBy s (execSuppliesReady s) := by
  unfold execSuppliesReady; dsimp only; (repeat' split) <;> simp

@[simp] theorem kept_endPhase (s : State) (n : Nat) : (endPhase s n).kept = s.kept := by simp [endPhase]

@[simp] theorem kept_execTjWindowReached (s : State) : keptBy s (execTjWindowReached s) := by
  unfold execTjWindowReached; (repeat' split) <;> simp

@[simp] theorem kept_execTjRangeTimeout (s : State) : keptBy s (execTjRangeTimeout s) := by
  unfold execTjRangeTimeout; (repeat' split) <;> simp

@[simp] theorem kept_lockBand (s : State) (band : Nat) : (lockBand s band).kept = s.kept := by
  simp [lockBand]

@[simp] theorem kept_execPllbLock (band : Fin 16) (s : State) : keptBy s (execPllbLock band s) := by
  unfold execPllbLock; (repeat' split) <;> simp

@[simp] theorem kept_execDramTrainingDone (failed : BitVec 16) (s : State) : keptBy s (execDramTrainingDone failed s) := by
  unfold execDramTrainingDone; (repeat' split) <;> simp

@[simp] theorem kept_execSettingsApplied (s : State) : keptBy s (execSettingsApplied s) := by
  unfold execSettingsApplied; (repeat' split) <;> simp

@[simp] theorem kept_execFwReady (s : State) : keptBy s (execFwReady s) := by
  unfold execFwReady; (repeat' split) <;> simp

@[simp] theorem kept_execFirmwareReadyTimeout (s : State) : keptBy s (execFirmwareReadyTimeout s) := by
  unfold execFirmwareReadyTimeout; (repeat' split) <;> simp

@[simp] theorem kept_execTwinLinkTimeout (s : State) : keptBy s (execTwinLinkTimeout s) := by
  unfold execTwinLinkTimeout; (repeat' split) <;> simp

@[simp] theorem kept_refuseCtl (s : State) : (refuseCtl s).kept = s.kept := by simp [refuseCtl]

@[simp] theorem kept_restartWrite (s : State) : (restartWrite s).kept = s.kept := by
  unfold restartWrite; dsimp only; (repeat' split) <;> simp_all

@[simp] theorem kept_execRestart (s : State) : keptBy s (execRestart s) := by simp [execRestart]

@[simp] theorem kept_stopProving (s : State) : (stopProving s).kept = s.kept := by simp [stopProving]

@[simp] theorem kept_confirmWrite (s : State) (path : Path) : (confirmWrite s path).kept = s.kept := by
  unfold confirmWrite; (repeat' split) <;> simp

@[simp] theorem kept_execConfirm (path : Path) (s : State) : keptBy s (execConfirm path s) := by
  simp [execConfirm]

@[simp] theorem kept_saveWrite (s : State) : (saveWrite s).kept = s.kept := by
  unfold saveWrite; (repeat' split) <;> simp

@[simp] theorem kept_execSave (s : State) : keptBy s (execSave s) := by simp [execSave]

@[simp] theorem kept_saveStep (s : State) : (saveStep s).kept = s.kept := by
  unfold saveStep; (repeat' split) <;> simp

@[simp] theorem kept_execSaveComplete (s : State) : keptBy s (execSaveComplete s) := by
  unfold execSaveComplete; (repeat' split) <;> simp

@[simp] theorem kept_coppiceWrite (s : State) : (coppiceWrite s).kept = s.kept := by
  unfold coppiceWrite; (repeat' split) <;> simp

@[simp] theorem kept_execEnterCoppice (s : State) : keptBy s (execEnterCoppice s) := by
  simp [execEnterCoppice]

@[simp] theorem kept_bootCtlWrite (s : State) (path : Path) (v : Word) : (bootCtlWrite s path v).kept = s.kept := by
  unfold bootCtlWrite; (repeat' split) <;> simp

@[simp] theorem kept_slotActiveSet (s : State) (v : Nat) : (slotActiveSet s v).kept = s.kept := by
  unfold slotActiveSet; (repeat' split) <;> simp

@[simp] theorem kept_execSlotActiveWrite (v : BitVec 2) (s : State) : keptBy s (execSlotActiveWrite v s) := by
  simp [execSlotActiveWrite]

@[simp] theorem kept_execHostWaitExpiry (s : State) : keptBy s (execHostWaitExpiry s) := by
  unfold execHostWaitExpiry; (repeat' split) <;> simp

@[simp] theorem kept_execProvingTimeout (s : State) : keptBy s (execProvingTimeout s) := by
  unfold execProvingTimeout; (repeat' split) <;> simp

@[simp] theorem kept_execFaultHoldEnd (s : State) : keptBy s (execFaultHoldEnd s) := by
  unfold execFaultHoldEnd; (repeat' split) <;> simp

@[simp] theorem kept_execSelfDetectedFault (src : FaultSrc) (s : State) : keptBy s (execSelfDetectedFault src s) := by
  unfold execSelfDetectedFault; (repeat' split) <;> simp

@[simp] theorem kept_refuseOtp (s : State) : (refuseOtp s).kept = s.kept := by simp [refuseOtp]

@[simp] theorem kept_otpRead (s : State) (arg : Nat) : (otpRead s arg).kept = s.kept := by
  unfold otpRead; (repeat' split) <;> simp

@[simp] theorem kept_otpGo (s : State) (path : Path) : (otpGo s path).kept = s.kept := by
  unfold otpGo; dsimp only; (repeat' split) <;> simp_all

@[simp] theorem kept_otpCtlWrite (s : State) (path : Path) (v : Word) : (otpCtlWrite s path v).kept = s.kept := by
  unfold otpCtlWrite; (repeat' split) <;> simp

@[simp] theorem kept_otpAsk (s : State) (path : Path) (op : Nat) (arg : Nat) : (otpAsk s path op arg).kept = s.kept := by
  simp [otpAsk]

@[simp] theorem kept_execOtpKeyHashProgram (path : Path) (arg : Fin 16) (s : State) : keptBy s (execOtpKeyHashProgram path arg s) := by
  simp [execOtpKeyHashProgram]

@[simp] theorem kept_execOtpRevoke (path : Path) (arg : Fin 16) (s : State) : keptBy s (execOtpRevoke path arg s) := by
  simp [execOtpRevoke]

@[simp] theorem kept_execOtpMinSecRaise (path : Path) (s : State) : keptBy s (execOtpMinSecRaise path s) := by
  simp [execOtpMinSecRaise]

@[simp] theorem kept_execOtpFailLimit (path : Path) (s : State) : keptBy s (execOtpFailLimit path s) := by
  simp [execOtpFailLimit]

@[simp] theorem kept_execOtpHostWaitDefault (path : Path) (s : State) : keptBy s (execOtpHostWaitDefault path s) := by
  simp [execOtpHostWaitDefault]

@[simp] theorem kept_execOtpStubEntry (path : Path) (arg : Fin 16) (s : State) : keptBy s (execOtpStubEntry path arg s) := by
  simp [execOtpStubEntry]

@[simp] theorem kept_execOtpStubConfig (path : Path) (s : State) : keptBy s (execOtpStubConfig path s) := by
  simp [execOtpStubConfig]

@[simp] theorem kept_execOtpBootSrc (path : Path) (s : State) : keptBy s (execOtpBootSrc path s) := by
  simp [execOtpBootSrc]

@[simp] theorem kept_execOtpKeyHashRead (path : Path) (arg : Fin 16) (s : State) : keptBy s (execOtpKeyHashRead path arg s) := by
  simp [execOtpKeyHashRead]

end Sys2Proof.Machine
end

