-- ==== Sys2Proof/Laws/KeptHost.lean ====
section
/-!
SUPPORT. Laws/KeptHost.lean: no operation of the block changes the queue of waiting commands or the owner OTP (R282 names the
one command that programs OTP): one lemma per operation, in the order of the model's files.
-/
namespace Sys2Proof.Machine

/-! ### Machine/Graft.lean -/

@[simp] theorem kept_espGo (s : State) (op : Nat) (slot : Nat) (part : Nat) : (espGo s op slot part).kept = s.kept := by
  unfold espGo; (repeat' split) <;> simp

@[simp] theorem kept_espCtlWrite (s : State) (v : Word) : (espCtlWrite s v).kept = s.kept := by
  unfold espCtlWrite; (repeat' split) <;> simp

@[simp] theorem kept_execVerifySlot (slot : Fin 2) (s : State) : keptBy s (execVerifySlot slot s) := by
  simp [execVerifySlot]

@[simp] theorem kept_execVerifyGraft (part : Fin 256) (s : State) : keptBy s (execVerifyGraft part s) := by
  simp [execVerifyGraft]

@[simp] theorem kept_execGraft (part : Fin 256) (s : State) : keptBy s (execGraft part s) := by
  simp [execGraft]

@[simp] theorem kept_espEnd (s : State) (v : VErr) (passed : Bool) : (espEnd s v passed).kept = s.kept := by
  simp [espEnd]

@[simp] theorem kept_graftPending (s : State) (part : Nat) (g : GraftPassed) : (graftPending s part g).kept = s.kept := by
  unfold graftPending; dsimp only; (repeat' split) <;> simp_all

@[simp] theorem kept_graftItem (s : State) (part : Nat) (st : Nat) : (graftItem s part st).kept = s.kept := by
  unfold graftItem; (repeat' split) <;> simp

@[simp] theorem kept_takeImage (s : State) (p : Passed) : (takeImage s p).kept = s.kept := by
  simp [takeImage]

@[simp] theorem kept_bootVerified (s : State) (flashErr : Option Nat) : (bootVerified s flashErr).kept = s.kept := by
  unfold bootVerified; (repeat' split) <;> simp

@[simp] theorem kept_slotUnread (s : State) : (slotUnread s).kept = s.kept := by simp [slotUnread]

@[simp] theorem kept_besideVerified (s : State) (o : EspOp) (flashErr : Option Nat) : (besideVerified s o flashErr).kept = s.kept := by
  unfold besideVerified; (repeat' split) <;> simp

@[simp] theorem kept_execVerifyComplete (flashErr : Option (Fin 1024)) (s : State) : keptBy s (execVerifyComplete flashErr s) := by
  unfold execVerifyComplete; (repeat' split) <;> simp

@[simp] theorem kept_doGraftReset (s : State) (p : Nat) : (doGraftReset s p).kept = s.kept := by
  unfold doGraftReset; (repeat' split) <;> simp

@[simp] theorem kept_execGraftReset (p : Fin 256) (s : State) : keptBy s (execGraftReset p s) := by
  simp [execGraftReset]

@[simp] theorem kept_graftBlocks (s : State) (p : Nat) : (graftBlocks s p).kept = s.kept := by
  unfold graftBlocks; (repeat' split) <;> simp

@[simp] theorem kept_applyStructure (s : State) (p : Nat) (str : Structure) :
    (applyStructure s p str).kept = s.kept := by
  unfold applyStructure
  dsimp only
  rw [kept_showOversize]
  refine Eq.trans (kept_foldl _ ?_ _ _) ?_
  · intro t e; split <;> simp
  · simp

@[simp] theorem kept_doGraftDone (s : State) (p : Nat) : (doGraftDone s p).kept = s.kept := by
  unfold doGraftDone
  split
  · split
    · dsimp only
      rw [kept_State_setReg, kept_State_setFld]
      refine Eq.trans (kept_foldl _ (by intro t e; simp) _ _) ?_
      simp only [kept_cellsToTarget, kept_dropPartOp, kept_mk, kept_eta]
      split <;> simp
    · rfl
  · rfl

@[simp] theorem kept_execGraftComplete (p : Fin 256) (s : State) : keptBy s (execGraftComplete p s) := by
  simp [execGraftComplete]

/-! ### Machine/Link.lean -/

@[simp] theorem kept_tookItem (s : State) (ctl : Nat) (u : Undo) : (tookItem s ctl u).kept = s.kept := by
  unfold tookItem; (repeat' split) <;> simp

@[simp] theorem kept_takeGroup (s : State) (ctl : Nat) (p : Nat) (who : SessId) (ta : Nat) (tick : Nat) (lease : Option (Nat × Nat)) (ents : List Entry) : (takeGroup s ctl p who ta tick lease ents).kept = s.kept := by
  simp [takeGroup]

@[simp] theorem kept_takeLease (s : State) (ctl : Nat) (i : Nat) (l : Lease) : (takeLease s ctl i l).kept = s.kept := by
  simp [takeLease]

@[simp] theorem kept_takePower (s : State) (c : Nat) (sleeping : Bool) (wakeAt : Nat) : (takePower s c sleeping wakeAt).kept = s.kept := by
  simp [takePower]

@[simp] theorem kept_stageAgain (s : State) (b : Option Nat) (g : Group) : (stageAgain s b g).kept = s.kept := by
  simp [stageAgain, apply_ite State.kept]

@[simp] theorem kept_writeParam (s : State) (b : Nat) (flip : Nat) (ws : List Word) : (writeParam s b flip ws).kept = s.kept := by
  simp [writeParam]

@[simp] theorem kept_flipParams (s : State) : (flipParams s).kept = s.kept := by simp [flipParams]

@[simp] theorem kept_writeParams (s : State) (n : Nat) (used : Store Nat) : (writeParams s n used).kept = s.kept := by
  induction n generalizing s used with
  | zero => rfl
  | succ n ih =>
    unfold writeParams
    split
    · rfl
    · dsimp only
      split
      · rw [ih]; simp
      · rfl

@[simp] theorem kept_takeInflight (s : State) (g : Group) : (takeInflight s g).kept = s.kept := by
  simp [takeInflight]

@[simp] theorem kept_takeReset (s : State) (ctl : Nat) (p : Nat) (r : Nat) : (takeReset s ctl p r).kept = s.kept := by
  unfold takeReset; (repeat' split) <;> simp

@[simp] theorem kept_relayedReset (s : State) (p : Nat) : (relayedReset s p).kept = s.kept := by
  unfold relayedReset; (repeat' split) <;> simp

@[simp] theorem kept_linkItem (s : State) (x1 : CtlItem) : (linkItem s x1).kept = s.kept := by
  unfold linkItem; (repeat' split) <;> simp

@[simp] theorem kept_heartbeat (s : State) (f : LinkFrame) : (heartbeat s f).kept = s.kept := by
  simp [heartbeat]

@[simp] theorem kept_showImage (s : State) (f : LinkFrame) : (showImage s f).kept = s.kept := by
  simp [showImage]

@[simp] theorem kept_checkTick (s : State) (f : LinkFrame) : (checkTick s f).kept = s.kept := by
  unfold checkTick; (repeat' split) <;> simp

@[simp] theorem kept_dropAcked (s : State) (n : Nat) : (dropAcked s n).kept = s.kept := by simp [dropAcked]

@[simp] theorem kept_takeShared (s : State) (f : LinkFrame) : (takeShared s f).kept = s.kept := by
  unfold takeShared; (repeat' split) <;> simp

@[simp] theorem kept_takeItems (s : State) (f : LinkFrame) : (takeItems s f).kept = s.kept := by
  unfold takeItems; (repeat' split) <;> simp

@[simp] theorem kept_linkBody (s : State) (f : LinkFrame) : (linkBody s f).kept = s.kept := by
  unfold linkBody; dsimp only; (repeat' split) <;> simp_all

@[simp] theorem kept_roleClash (s : State) : (roleClash s).kept = s.kept := by
  unfold roleClash; (repeat' split) <;> simp

@[simp] theorem kept_loadAnswer (s : State) : (loadAnswer s).kept = s.kept := by
  unfold loadAnswer; (repeat' split) <;> simp

@[simp] theorem kept_linkFrame (s : State) (f : LinkFrame) : (linkFrame s f).kept = s.kept := by
  unfold linkFrame; dsimp only; (repeat' split) <;> simp_all

@[simp] theorem kept_execLinkFrame (f : LinkFrame) (s : State) : keptBy s (execLinkFrame f s) := by
  simp [execLinkFrame]

@[simp] theorem kept_bulkShare (s : State) (room : Nat) : (bulkShare s room).1.kept = s.kept := by
  unfold bulkShare; dsimp only; (repeat' split) <;> simp_all

@[simp] theorem kept_formFrame (s : State) : (formFrame s).kept = s.kept := by
  unfold formFrame; dsimp only; (repeat' split) <;> simp_all

@[simp] theorem kept_shareNet (s : State) (words : Store Word) : (shareNet s words).kept = s.kept := by
  unfold shareNet; (repeat' split) <;> simp

/-! ### Machine/Session.lean -/

@[simp] theorem kept_overPcie (s t : State) (h : t.kept = s.kept) : (overPcie s t).kept = s.kept := by
  unfold overPcie; split <;> simp [h]

@[simp] theorem kept_unmask (s : State) (v : Nat) : (unmask s v).kept = s.kept := by
  unfold unmask; dsimp only; (repeat' split) <;> simp_all

@[simp] theorem kept_execMsixUnmask (vector : Fin 64) (s : State) : keptBy s (execMsixUnmask vector s) := by
  simp [execMsixUnmask]

@[simp] theorem kept_dbSv (s : State) (path : Path) : (dbSv s path).kept = s.kept := by
  unfold dbSv; (repeat' split) <;> simp

@[simp] theorem kept_dbHost (s : State) : (dbHost s).kept = s.kept := by
  unfold dbHost; (repeat' split) <;> simp

@[simp] theorem kept_dbLb (s : State) : (dbLb s).kept = s.kept := by simp [dbLb]

@[simp] theorem kept_execMbxDbSv (path : Path) (s : State) : keptBy s (execMbxDbSv path s) := by
  simp [execMbxDbSv]

@[simp] theorem kept_execMbxDbHost (s : State) : keptBy s (execMbxDbHost s) := by simp [execMbxDbHost]

@[simp] theorem kept_execMbxDbLb (s : State) : keptBy s (execMbxDbLb s) := by simp [execMbxDbLb]

@[simp] theorem kept_State_setPage (s : State) (p : Nat) (x : Page) : (State.setPage s p x).kept = s.kept := by
  simp [State.setPage]

@[simp] theorem kept_pageCtl (s : State) (p : Nat) (en : Bool) (irq : Bool) (rx : Nat) (tx : Nat) : (pageCtl s p en irq rx tx).kept = s.kept := by
  unfold pageCtl; dsimp only; (repeat' split) <;> simp_all

@[simp] theorem kept_execDoorbellEnable (p : Fin 256) (irqEn : Bool) (rxLog2 : BitVec 4) (txLog2 : BitVec 4) (s : State) : keptBy s (execDoorbellEnable p irqEn rxLog2 txLog2 s) := by
  simp [execDoorbellEnable]

@[simp] theorem kept_execDoorbellDisable (p : Fin 256) (irqEn : Bool) (rxLog2 : BitVec 4) (txLog2 : BitVec 4) (s : State) : keptBy s (execDoorbellDisable p irqEn rxLog2 txLog2 s) := by
  simp [execDoorbellDisable]

@[simp] theorem kept_txTailWrite (s : State) (p : Nat) (v : Word) : (txTailWrite s p v).kept = s.kept := by
  unfold txTailWrite; (repeat' split) <;> simp

@[simp] theorem kept_execDoorbellTxTail (p : Fin 256) (v : Word) (s : State) : keptBy s (execDoorbellTxTail p v s) := by
  simp [execDoorbellTxTail]

theorem kept_ringPut (s t : State) (p : Nat) (b : List Byte) (h : ringPut s p b = some t) : t.kept = s.kept := by
  unfold ringPut at h
  dsimp only at h
  (repeat' split at h) <;> first | (cases h; simp) | cases h

@[simp] theorem kept_answerPut (s : State) (p : Nat) : (answerPut s p).kept = s.kept := by
  unfold answerPut
  split
  · rfl
  · split
    · rfl
    · split
      · rfl
      · rename_i h
        dsimp only
        split <;> simp [kept_ringPut _ _ _ _ h]

@[simp] theorem kept_execAnswerWrite (p : Fin 256) (s : State) : keptBy s (execAnswerWrite p s) := by
  simp [execAnswerWrite]

@[simp] theorem kept_ringTake (s : State) (p : Nat) (b : List Byte) : (ringTake s p b).1.kept = s.kept := by
  unfold ringTake; dsimp only; (repeat' split) <;> simp_all

@[simp] theorem kept_frameTake (s : State) (x1 : AudonSrc) : (frameTake s x1).1.kept = s.kept := by
  unfold frameTake; (repeat' split) <;> simp

@[simp] theorem kept_authFail (s : State) : (authFail s).kept = s.kept := by simp [authFail]

@[simp] theorem kept_showSes (s : State) (p : Nat) : (showSes s p).kept = s.kept := by simp [showSes]

@[simp] theorem kept_openArrives (s : State) (f : Inbound) : (openArrives s f).kept = s.kept := by
  unfold openArrives; (repeat' split) <;> simp

@[simp] theorem kept_execOpenReq (src : AudonSrc) (s : State) : keptBy s (execOpenReq src s) := by
  have h := kept_frameTake s src
  unfold execOpenReq
  split
  · simp
  · split <;> (rename_i e; rw [e] at h; simpa using h)

@[simp] theorem kept_sendOpen (s : State) (a : Answer) : (sendOpen s a).kept = s.kept := by
  unfold sendOpen; (repeat' split) <;> simp

@[simp] theorem kept_openDecide (s : State) : (openDecide s).kept = s.kept := by
  unfold openDecide; dsimp only; (repeat' split) <;> simp_all

@[simp] theorem kept_execOpenDecision (s : State) : keptBy s (execOpenDecision s) := by
  simp [execOpenDecision]

@[simp] theorem kept_execOpenRequestTimeout (s : State) : keptBy s (execOpenRequestTimeout s) := by
  unfold execOpenRequestTimeout; (repeat' split) <;> simp

@[simp] theorem kept_serveBody (s : State) (n : Nat) (b : List Byte) : (serveBody s n b).kept = s.kept := by
  unfold serveBody; (repeat' split) <;> simp

@[simp] theorem kept_reqAccepted (s : State) (n : Nat) (e : Session) (f : Inbound) (q : Nat) : (reqAccepted s n e f q).kept = s.kept := by
  unfold reqAccepted; (repeat' split) <;> simp

@[simp] theorem kept_reqArrives (s : State) (f : Inbound) : (reqArrives s f).kept = s.kept := by
  unfold reqArrives; dsimp only; (repeat' split) <;> simp_all

@[simp] theorem kept_execAudonFrameVerified (src : AudonSrc) (s : State) :
    keptBy s (execAudonFrameVerified src s) := by
  have h := kept_frameTake s src
  unfold execAudonFrameVerified
  split
  · simp
  · split <;> (rename_i e; rw [e] at h; simpa using h)

@[simp] theorem kept_execSessionIdleTimeout (sess : Fin 4096) (s : State) : keptBy s (execSessionIdleTimeout sess s) := by
  unfold execSessionIdleTimeout; (repeat' split) <;> simp

@[simp] theorem kept_endSessions (s : State) : (endSessions s).kept = s.kept := by simp [endSessions]

@[simp] theorem kept_clearSesCounts (s : State) : (clearSesCounts s).kept = s.kept := by
  simp [clearSesCounts]

@[simp] theorem kept_execSesCntClr (s : State) : keptBy s (execSesCntClr s) := by simp [execSesCntClr]

@[simp] theorem kept_keyGo (s : State) : (keyGo s).kept = s.kept := by
  unfold keyGo; (repeat' split) <;> simp

@[simp] theorem kept_keyCtlWrite (s : State) (path : Path) (v : Word) : (keyCtlWrite s path v).kept = s.kept := by
  unfold keyCtlWrite; dsimp only; (repeat' split) <;> simp

@[simp] theorem kept_execKeyWrite (path : Path) (slot : Fin 256) (s : State) : keptBy s (execKeyWrite path slot s) := by
  simp [execKeyWrite]

@[simp] theorem kept_execKeyErase (path : Path) (slot : Fin 256) (s : State) : keptBy s (execKeyErase path slot s) := by
  simp [execKeyErase]

@[simp] theorem kept_dropOpen (s : State) (p : Nat) : (dropOpen s p).kept = s.kept := by simp [dropOpen]

@[simp] theorem kept_execKeyWriteDone (s : State) : keptBy s (execKeyWriteDone s) := by
  unfold execKeyWriteDone; (repeat' split) <;> simp

/-! ### Machine/Control.lean -/

@[simp] theorem kept_plainWrite (s : State) (a : Nat) (v : Word) : (plainWrite s a v).kept = s.kept := by
  unfold plainWrite; (repeat' split) <;> simp

@[simp] theorem kept_freshWord (s : State) : (freshWord s).1.kept = s.kept := by simp [freshWord]

@[simp] theorem kept_eccRead (ecc : Ecc) (r : State × Word) : (eccRead ecc r).1.kept = r.1.kept := by
  unfold eccRead; split <;> simp

@[simp] theorem kept_mbxPut (s : State) (w : Nat) (v : Word) (be : BitVec 4) : (mbxPut s w v be).kept = s.kept := by simp [mbxPut]

@[simp] theorem kept_mbxWrite (s : State) (path : Path) (w : Nat) (v : Word) (be : BitVec 4) (ecc : Ecc) :
    (mbxWrite s path w v be ecc).kept = s.kept := by
  unfold mbxWrite; (repeat' split) <;> simp

@[simp] theorem kept_collide (s : State) (w : Nat) (kind : Nat) : (collide s w kind).kept = s.kept := by
  simp [collide]

@[simp] theorem kept_showRead (s : State) (path : Path) (v : Word) : (showRead s path v).kept = s.kept := by
  simp [showRead]

@[simp] theorem kept_lbMeets (s : State) (w : Nat) (write : Bool) (x1 : LbMeet) : (lbMeets s w write x1).kept = s.kept := by
  cases x1 <;> simp only [lbMeets] <;> (repeat' split) <;> simp

@[simp] theorem kept_lbMbxWrite (s : State) (w : Nat) (v : Word) (be : BitVec 4) (m : LbMeet) : (lbMbxWrite s w v be m).kept = s.kept := by
  cases m <;> simp [lbMbxWrite]

@[simp] theorem kept_lbMbxRead (s : State) (w : Nat) (m : LbMeet) : (lbMbxRead s w m).1.kept = s.kept := by
  cases m <;> simp [lbMbxRead]

@[simp] theorem kept_paramRead (s : State) (o : Nat) : (paramRead s o).1.kept = s.kept := by
  unfold paramRead; (repeat' split) <;> simp

@[simp] theorem kept_paramWrite (s : State) (o : Nat) (f : Word → Word) : (paramWrite s o f).kept = s.kept := by
  unfold paramWrite; (repeat' split) <;> simp

@[simp] theorem kept_aliasParam (s : State) (o : Nat) (f : Word → Word) (ecc : Ecc) : (aliasParam s o f ecc).kept = s.kept := by
  unfold aliasParam; split <;> simp

@[simp] theorem kept_flashCmdWrite (s : State) (c : Nat) (v : Word) : (flashCmdWrite s c v).kept = s.kept := by
  unfold flashCmdWrite; (repeat' split) <;> simp

@[simp] theorem kept_devWrite (s : State) (path : Path) (a : Nat) (v : Word) : (devWrite s path a v).kept = s.kept := by
  unfold devWrite; (repeat' split) <;> simp

@[simp] theorem kept_clkWrite (s : State) (path : Path) (a : Nat) (v : Word) : (clkWrite s path a v).kept = s.kept := by
  unfold clkWrite; (repeat' split) <;> simp

@[simp] theorem kept_pwrWrite (s : State) (a : Nat) (v : Word) : (pwrWrite s a v).kept = s.kept := by
  unfold pwrWrite; (repeat' split) <;> simp

@[simp] theorem kept_monWrite (s : State) (a : Nat) (v : Word) : (monWrite s a v).kept = s.kept := by
  unfold monWrite; (repeat' split) <;> simp

@[simp] theorem kept_cmtWrite (s : State) (a : Nat) (v : Word) : (cmtWrite s a v).kept = s.kept := by
  unfold cmtWrite; (repeat' split) <;> simp

@[simp] theorem kept_twnCtlWrite (s : State) (v : Word) : (twnCtlWrite s v).kept = s.kept := by
  unfold twnCtlWrite; (repeat' split) <;> simp

@[simp] theorem kept_restartMask (s : State) (mask : Word) : (restartMask s mask).kept = s.kept := by
  simp [restartMask, apply_ite State.kept]

@[simp] theorem kept_chanWrite (s : State) (n : Nat) (o : Nat) (a : Nat) (v : Word) : (chanWrite s n o a v).kept = s.kept := by
  unfold chanWrite; (repeat' split) <;> simp

@[simp] theorem kept_dmaWrite (s : State) (path : Path) (a : Nat) (v : Word) : (dmaWrite s path a v).kept = s.kept := by
  unfold dmaWrite; (repeat' split) <;> simp

@[simp] theorem kept_portWrite (s : State) (a : Nat) (v : Word) : (portWrite s a v).kept = s.kept := by
  unfold portWrite; (repeat' split) <;> simp

@[simp] theorem kept_strCmdWrite (s : State) (v : Word) : (strCmdWrite s v).kept = s.kept := by
  unfold strCmdWrite; (repeat' split) <;> simp

@[simp] theorem kept_strwWrite (s : State) (w : Nat) (v : Word) : (strwWrite s w v).kept = s.kept := by
  unfold strwWrite; (repeat' split) <;> simp

@[simp] theorem kept_netWrite (s : State) (a : Nat) (v : Word) : (netWrite s a v).kept = s.kept := by
  unfold netWrite; (repeat' split) <;> simp

@[simp] theorem kept_memWrite (s : State) (path : Path) (a : Nat) (v : Word) : (memWrite s path a v).kept = s.kept := by
  unfold memWrite; (repeat' split) <;> simp

@[simp] theorem kept_mbxDbWrite (s : State) (path : Path) (v : Word) : (mbxDbWrite s path v).kept = s.kept := by
  unfold mbxDbWrite; (repeat' split) <;> simp

@[simp] theorem kept_filtWrite (s : State) (i : Nat) (v : Word) : (filtWrite s i v).kept = s.kept := by
  simp [filtWrite]

@[simp] theorem kept_setSelWin (s : State) (w : HostWin) : (setSelWin s w).kept = s.kept := by
  simp [setSelWin]

@[simp] theorem kept_mbxBlockWrite (s : State) (path : Path) (a : Nat) (v : Word) : (mbxBlockWrite s path a v).kept = s.kept := by
  unfold mbxBlockWrite; (repeat' split) <;> simp

@[simp] theorem kept_engWrite (s : State) (c : Nat) (o : Nat) (a : Nat) (v : Word) : (engWrite s c o a v).kept = s.kept := by
  unfold engWrite; (repeat' split) <;> simp

@[simp] theorem kept_regWrite (s : State) (path : Path) (a : Nat) (v : Word) : (regWrite s path a v).kept = s.kept := by
  unfold regWrite; (repeat' split) <;> simp

@[simp] theorem kept_ctlWrite (s : State) (path : Path) (a : Nat) (v : Word) (ecc : Ecc) :
    (ctlWrite s path a v ecc).kept = s.kept := by
  unfold ctlWrite; dsimp only; (repeat' split) <;> simp_all

@[simp] theorem kept_bar0Write (s : State) (a : Nat) (v : Word) (be : BitVec 4) (ecc : Ecc) : (bar0Write s a v be ecc).kept = s.kept := by
  unfold bar0Write; dsimp only; (repeat' split) <;> simp_all

@[simp] theorem kept_regRead (s : State) (path : Path) (a : Nat) : (regRead s path a).1.kept = s.kept := by
  unfold regRead; (repeat' split) <;> simp

@[simp] theorem kept_ctlRead (s : State) (path : Path) (a : Nat) (ecc : Ecc) : (ctlRead s path a ecc).1.kept = s.kept := by
  unfold ctlRead; dsimp only; (repeat' split) <;> simp_all

@[simp] theorem kept_pathRead (s : State) (path : Path) (a : Nat) (ecc : Ecc) : (pathRead s path a ecc).kept = s.kept := by
  unfold pathRead; dsimp only; split <;> simp

@[simp] theorem kept_pageWrite (s : State) (p : Nat) (o : Nat) (v : Word) : (pageWrite s p o v).kept = s.kept := by
  unfold pageWrite; dsimp only; (repeat' split) <;> simp_all

@[simp] theorem kept_bar2Write (s : State) (p : Nat) (o : Nat) (v : Word) (be : BitVec 4) : (bar2Write s p o v be).kept = s.kept := by
  unfold bar2Write; (repeat' split) <;> simp

@[simp] theorem kept_bar2Read (s : State) (p o : Nat) : (bar2Read s p o).kept = s.kept := by simp [bar2Read]

@[simp] theorem kept_bar4Read (s : State) (n dw : Nat) : (bar4Read s n dw).kept = s.kept := by simp [bar4Read]

@[simp] theorem kept_pbaRead (s : State) (high : Bool) : (pbaRead s high).kept = s.kept := by simp [pbaRead]

@[simp] theorem kept_bar4Write (s : State) (n : Nat) (dw : Nat) (v : Word) : (bar4Write s n dw v).kept = s.kept := by
  unfold bar4Write; (repeat' split) <;> simp

@[simp] theorem kept_lbStep (s : State) : (lbStep s).kept = s.kept := by
  unfold lbStep; (repeat' split) <;> simp

@[simp] theorem kept_lbFresh (s : State) : (lbFresh s).kept = s.kept := by simp [lbFresh]

@[simp] theorem kept_lbLoRead (s : State) (m : LbMeet) : (lbLoRead s m).kept = s.kept := by
  unfold lbLoRead; dsimp only; (repeat' split) <;> simp_all

@[simp] theorem kept_lbHiRead (s : State) : (lbHiRead s).kept = s.kept := by simp [lbHiRead]

@[simp] theorem kept_lbLoWrite (s : State) (v : Half) : (lbLoWrite s v).kept = s.kept := by
  simp [lbLoWrite]

@[simp] theorem kept_lbHiWrite (s : State) (v : Half) (m : LbMeet) : (lbHiWrite s v m).kept = s.kept := by
  unfold lbHiWrite; dsimp only; (repeat' split) <;> simp_all

@[simp] theorem kept_lbWindowWrite (s : State) (loc : Nat) (v : Half) (m : LbMeet) : (lbWindowWrite s loc v m).kept = s.kept := by
  unfold lbWindowWrite; dsimp only; (repeat' split) <;> simp_all

@[simp] theorem kept_lbWrite (s : State) (loc : Nat) (v : Half) (m : LbMeet) : (lbWrite s loc v m).kept = s.kept := by
  unfold lbWrite; (repeat' split) <;> simp

@[simp] theorem kept_lbWindowRead (s : State) (loc : Nat) (m : LbMeet) : (lbWindowRead s loc m).kept = s.kept := by
  simp [lbWindowRead]

@[simp] theorem kept_lbRead (s : State) (loc : Nat) (m : LbMeet) : (lbRead s loc m).kept = s.kept := by
  unfold lbRead; (repeat' split) <;> simp

@[simp] theorem kept_ptpSend (s : State) (m : PtpSend) : (ptpSend s m).kept = s.kept := by
  unfold ptpSend; dsimp only; (repeat' split) <;> simp

@[simp] theorem kept_execLbDataLoRead (hi : Bool) (m : LbMeet) (s : State) : keptBy s (execLbDataLoRead hi m s) := by
  unfold execLbDataLoRead; (repeat' split) <;> simp

@[simp] theorem kept_execLbDataLoWrite (v : Half) (s : State) : keptBy s (execLbDataLoWrite v s) := by
  unfold execLbDataLoWrite; (repeat' split) <;> simp

@[simp] theorem kept_execLbDataHiWrite (v : Half) (m : LbMeet) (s : State) : keptBy s (execLbDataHiWrite v m s) := by
  unfold execLbDataHiWrite; (repeat' split) <;> simp

@[simp] theorem kept_execRegisterWrite (t : WriteTarget) (s : State) : keptBy s (execRegisterWrite t s) := by
  unfold execRegisterWrite; (repeat' split) <;> simp

/-! ### Machine/Sv.lean -/

@[simp] theorem kept_onCore (c : Nat) (f : SvCore → SvCore) (s : State) : (onCore c f s).kept = s.kept := by
  simp [onCore]

@[simp] theorem kept_svIssue (c : Fin 2) (i : Instr) (n : Nat) (f : State → State) (s : State) (h : ∀ s, (f s).kept = s.kept) :
    keptBy s (svIssue c i n f s) := by
  unfold svIssue; rw [keptBy_next]; split <;> simp [h]

@[simp] theorem kept_svRegs (c : Fin 2) (i : Instr) (n : Nat) (f : SvCore → SvCore) (s : State) : keptBy s (svRegs c i n f s) := by
  simp [svRegs]

@[simp] theorem kept_svUnless (c : Fin 2) (i : Instr) (bad : Bool) (cause : Nat)
    (go : State → Host.Outcome State Fault Refusal) (s : State) (h : keptBy s (go s)) :
    keptBy s (svUnless c i bad cause go s) := by unfold svUnless; split <;> simp [h]

@[simp] theorem kept_svBranch (c : Fin 2) (i : Instr) (f : SvCore → SvCore × Option Addr24) (s : State) : keptBy s (svBranch c i f s) := by
  simp [svBranch, apply_ite State.kept]

@[simp] theorem kept_cwinLowRead (s : State) (c : Nat) (a : Nat) : (cwinLowRead s c a).1.kept = s.kept := by
  simp [cwinLowRead]

@[simp] theorem kept_cwinLowWrite (s : State) (c : Nat) (v : Half) : (cwinLowWrite s c v).kept = s.kept := by
  simp [cwinLowWrite]

@[simp] theorem kept_cwinHighWrite (s : State) (c : Nat) (a : Nat) (v : Half) (ecc : Ecc) : (cwinHighWrite s c a v ecc).kept = s.kept := by
  simp [cwinHighWrite]

@[simp] theorem kept_badAddr (s : State) : (badAddr s).kept = s.kept := by simp [badAddr]

@[simp] theorem kept_svRead (s : State) (c : Nat) (a : Nat) : (svRead s c a).1.kept = s.kept := by
  unfold svRead; (repeat' split) <;> simp

@[simp] theorem kept_svWrite (s : State) (c : Nat) (a : Nat) (v : Half) (ecc : Ecc) : (svWrite s c a v ecc).kept = s.kept := by
  unfold svWrite; (repeat' split) <;> simp

@[simp] theorem kept_svEcc (s : State) (c : Nat) (a : Nat) (x1 : Ecc) : (svEcc s c a x1).kept = s.kept := by
  unfold svEcc; (repeat' split) <;> simp

@[simp] theorem kept_svStore (s : State) (c : Nat) (a : Nat) (v : Half) (ecc : Ecc) : (svStore s c a v ecc).kept = s.kept := by
  unfold svStore; (repeat' split) <;> simp

@[simp] theorem kept_execSvLd (c : Fin 2) (m : SvMem) (ecc : Ecc) (s : State) : keptBy s (execSvLd c m ecc s) := by
  unfold execSvLd; (repeat' split) <;> simp

@[simp] theorem kept_execSvSt (c : Fin 2) (m : SvMem) (ecc : Ecc) (s : State) : keptBy s (execSvSt c m ecc s) := by
  simp [execSvSt]

@[simp] theorem kept_execSvLdb (c : Fin 2) (t : Fin 8) (b : Fin 8) (disp : Half) (ecc : Ecc × Ecc) (s : State) : keptBy s (execSvLdb c t b disp ecc s) := by
  unfold execSvLdb; (repeat' split) <;> simp

@[simp] theorem kept_execSvStb (c : Fin 2) (t : Fin 8) (b : Fin 8) (disp : Half) (ecc : Ecc) (ecc2 : Ecc) (s : State) : keptBy s (execSvStb c t b disp ecc ecc2 s) := by
  simp [execSvStb]

@[simp] theorem kept_execSvMov (c : Fin 2) (d : Fin 16) (w : Fin 16) (s : State) : keptBy s (execSvMov c d w s) := by
  simp [execSvMov]

@[simp] theorem kept_execSvAdd (c : Fin 2) (d : Fin 16) (w : Fin 16) (s : State) : keptBy s (execSvAdd c d w s) := by
  simp [execSvAdd]

@[simp] theorem kept_execSvAdc (c : Fin 2) (d : Fin 16) (w : Fin 16) (s : State) : keptBy s (execSvAdc c d w s) := by
  simp [execSvAdc]

@[simp] theorem kept_execSvSub (c : Fin 2) (d : Fin 16) (w : Fin 16) (s : State) : keptBy s (execSvSub c d w s) := by
  simp [execSvSub]

@[simp] theorem kept_execSvSbc (c : Fin 2) (d : Fin 16) (w : Fin 16) (s : State) : keptBy s (execSvSbc c d w s) := by
  simp [execSvSbc]

@[simp] theorem kept_execSvAnd (c : Fin 2) (d : Fin 16) (w : Fin 16) (s : State) : keptBy s (execSvAnd c d w s) := by
  simp [execSvAnd]

@[simp] theorem kept_execSvOr (c : Fin 2) (d : Fin 16) (w : Fin 16) (s : State) : keptBy s (execSvOr c d w s) := by
  simp [execSvOr]

@[simp] theorem kept_execSvXor (c : Fin 2) (d : Fin 16) (w : Fin 16) (s : State) : keptBy s (execSvXor c d w s) := by
  simp [execSvXor]

@[simp] theorem kept_execSvShl (c : Fin 2) (d : Fin 16) (w : Fin 16) (s : State) : keptBy s (execSvShl c d w s) := by
  simp [execSvShl]

@[simp] theorem kept_execSvShr (c : Fin 2) (d : Fin 16) (w : Fin 16) (s : State) : keptBy s (execSvShr c d w s) := by
  simp [execSvShr]

@[simp] theorem kept_execSvSar (c : Fin 2) (d : Fin 16) (w : Fin 16) (s : State) : keptBy s (execSvSar c d w s) := by
  simp [execSvSar]

@[simp] theorem kept_execSvCmp (c : Fin 2) (d : Fin 16) (w : Fin 16) (s : State) : keptBy s (execSvCmp c d w s) := by
  simp [execSvCmp]

@[simp] theorem kept_execSvMul (c : Fin 2) (d : Fin 16) (w : Fin 16) (s : State) : keptBy s (execSvMul c d w s) := by
  simp [execSvMul]

@[simp] theorem kept_execSvMulhu (c : Fin 2) (d : Fin 16) (w : Fin 16) (s : State) : keptBy s (execSvMulhu c d w s) := by
  simp [execSvMulhu]

@[simp] theorem kept_execSvMulhs (c : Fin 2) (d : Fin 16) (w : Fin 16) (s : State) : keptBy s (execSvMulhs c d w s) := by
  simp [execSvMulhs]

@[simp] theorem kept_execSvTst (c : Fin 2) (d : Fin 16) (w : Fin 16) (s : State) : keptBy s (execSvTst c d w s) := by
  simp [execSvTst]

@[simp] theorem kept_execSvAddi (c : Fin 2) (d : Fin 16) (imm : Byte) (s : State) : keptBy s (execSvAddi c d imm s) := by
  simp [execSvAddi]

@[simp] theorem kept_execSvMovi (c : Fin 2) (d : Fin 16) (imm : Byte) (s : State) : keptBy s (execSvMovi c d imm s) := by
  simp [execSvMovi]

@[simp] theorem kept_execSvMovw (c : Fin 2) (d : Fin 16) (imm : Half) (s : State) : keptBy s (execSvMovw c d imm s) := by
  simp [execSvMovw]

@[simp] theorem kept_execSvAddw (c : Fin 2) (d : Fin 16) (imm : Half) (s : State) : keptBy s (execSvAddw c d imm s) := by
  simp [execSvAddw]

@[simp] theorem kept_execSvSubw (c : Fin 2) (d : Fin 16) (imm : Half) (s : State) : keptBy s (execSvSubw c d imm s) := by
  simp [execSvSubw]

@[simp] theorem kept_execSvAndw (c : Fin 2) (d : Fin 16) (imm : Half) (s : State) : keptBy s (execSvAndw c d imm s) := by
  simp [execSvAndw]

@[simp] theorem kept_execSvOrw (c : Fin 2) (d : Fin 16) (imm : Half) (s : State) : keptBy s (execSvOrw c d imm s) := by
  simp [execSvOrw]

@[simp] theorem kept_execSvXorw (c : Fin 2) (d : Fin 16) (imm : Half) (s : State) : keptBy s (execSvXorw c d imm s) := by
  simp [execSvXorw]

@[simp] theorem kept_execSvCmpw (c : Fin 2) (d : Fin 16) (imm : Half) (s : State) : keptBy s (execSvCmpw c d imm s) := by
  simp [execSvCmpw]

@[simp] theorem kept_execSvTstw (c : Fin 2) (d : Fin 16) (imm : Half) (s : State) : keptBy s (execSvTstw c d imm s) := by
  simp [execSvTstw]

@[simp] theorem kept_execSvNop (c : Fin 2) (s : State) : keptBy s (execSvNop c s) := by simp [execSvNop]

@[simp] theorem kept_execSvNot (c : Fin 2) (d : Fin 16) (s : State) : keptBy s (execSvNot c d s) := by
  simp [execSvNot]

@[simp] theorem kept_execSvNeg (c : Fin 2) (d : Fin 16) (s : State) : keptBy s (execSvNeg c d s) := by
  simp [execSvNeg]

@[simp] theorem kept_execSvPar (c : Fin 2) (d : Fin 16) (s : State) : keptBy s (execSvPar c d s) := by
  simp [execSvPar]

@[simp] theorem kept_execSvBrev (c : Fin 2) (d : Fin 16) (s : State) : keptBy s (execSvBrev c d s) := by
  simp [execSvBrev]

@[simp] theorem kept_execSvSwab (c : Fin 2) (d : Fin 16) (s : State) : keptBy s (execSvSwab c d s) := by
  simp [execSvSwab]

@[simp] theorem kept_execSvWait (c : Fin 2) (s : State) : keptBy s (execSvWait c s) := by simp [execSvWait]

@[simp] theorem kept_execSvSig (c : Fin 2) (s : State) : keptBy s (execSvSig c s) := by simp [execSvSig]

@[simp] theorem kept_execSvBcc (c : Fin 2) (cond : Fin 16) (disp : BitVec 7) (s : State) : keptBy s (execSvBcc c cond disp s) := by
  simp [execSvBcc]

@[simp] theorem kept_execSvBra (c : Fin 2) (disp : BitVec 10) (s : State) : keptBy s (execSvBra c disp s) := by
  simp [execSvBra]

@[simp] theorem kept_execSvCall (c : Fin 2) (disp : BitVec 10) (s : State) : keptBy s (execSvCall c disp s) := by
  simp [execSvCall]

@[simp] theorem kept_execSvJmpb (c : Fin 2) (b : Fin 8) (s : State) : keptBy s (execSvJmpb c b s) := by
  simp [execSvJmpb]

@[simp] theorem kept_execSvMovb (c : Fin 2) (d : Fin 8) (b : Fin 8) (s : State) : keptBy s (execSvMovb c d b s) := by
  simp [execSvMovb]

@[simp] theorem kept_execSvAddb (c : Fin 2) (d : Fin 8) (w : Fin 16) (s : State) : keptBy s (execSvAddb c d w s) := by
  simp [execSvAddb]

@[simp] theorem kept_execSvBlo (c : Fin 2) (d : Fin 16) (b : Fin 8) (s : State) : keptBy s (execSvBlo c d b s) := by
  simp [execSvBlo]

@[simp] theorem kept_execSvBhi (c : Fin 2) (d : Fin 16) (b : Fin 8) (s : State) : keptBy s (execSvBhi c d b s) := by
  simp [execSvBhi]

@[simp] theorem kept_execSvSetbl (c : Fin 2) (d : Fin 8) (w : Fin 16) (s : State) : keptBy s (execSvSetbl c d w s) := by
  simp [execSvSetbl]

@[simp] theorem kept_execSvSetbh (c : Fin 2) (d : Fin 8) (w : Fin 16) (s : State) : keptBy s (execSvSetbh c d w s) := by
  simp [execSvSetbh]

@[simp] theorem kept_execSvSetb (c : Fin 2) (d : Fin 8) (a : Addr24) (s : State) : keptBy s (execSvSetb c d a s) := by
  simp [execSvSetb]

@[simp] theorem kept_execSvCrc16 (c : Fin 2) (d : Fin 16) (w : Fin 16) (s : State) : keptBy s (execSvCrc16 c d w s) := by
  simp [execSvCrc16]

@[simp] theorem kept_execSvCrc32 (c : Fin 2) (d : Fin 16) (w : Fin 16) (s : State) : keptBy s (execSvCrc32 c d w s) := by
  simp [execSvCrc32]

@[simp] theorem kept_execSvCrc16b (c : Fin 2) (d : Fin 16) (w : Fin 16) (s : State) : keptBy s (execSvCrc16b c d w s) := by
  simp [execSvCrc16b]

@[simp] theorem kept_execSvCrc32b (c : Fin 2) (d : Fin 16) (w : Fin 16) (s : State) : keptBy s (execSvCrc32b c d w s) := by
  simp [execSvCrc32b]

@[simp] theorem kept_execSvMfs (c : Fin 2) (d : Fin 16) (idx : Fin 16) (s : State) : keptBy s (execSvMfs c d idx s) := by
  simp [execSvMfs]

@[simp] theorem kept_execSvMts (c : Fin 2) (idx : Fin 16) (w : Fin 16) (s : State) : keptBy s (execSvMts c idx w s) := by
  simp [execSvMts]

@[simp] theorem kept_svFetchEcc (s : State) (c : Fin 2) (ecc : Ecc) : (svFetchEcc s c ecc).kept = s.kept := by
  unfold svFetchEcc; (repeat' split) <;> simp

@[simp] theorem kept_execSvDelayedResult (c : Fin 2) (fetch : Ecc) (s : State) : keptBy s (execSvDelayedResult c fetch s) := by
  simp [execSvDelayedResult]

@[simp] theorem kept_execSvEvent (c : Fin 2) (n : Fin 14) (s : State) : keptBy s (execSvEvent c n s) := by
  unfold execSvEvent; (repeat' split) <;> simp

@[simp] theorem kept_execSvCwinLowRead (c : Fin 2) (r : BitVec 21) (s : State) : keptBy s (execSvCwinLowRead c r s) := by
  unfold execSvCwinLowRead; (repeat' split) <;> simp

@[simp] theorem kept_execSvCwinLowWrite (c : Fin 2) (v : Half) (s : State) : keptBy s (execSvCwinLowWrite c v s) := by
  unfold execSvCwinLowWrite; (repeat' split) <;> simp

@[simp] theorem kept_execSvCwinHighWrite (c : Fin 2) (r : BitVec 21) (v : Half) (s : State) : keptBy s (execSvCwinHighWrite c r v s) := by
  unfold execSvCwinHighWrite; (repeat' split) <;> simp

@[simp] theorem kept_aliasWrite (s : State) (clear : Bool) (x1 : AliasTarget) : (aliasWrite s clear x1).kept = s.kept := by
  unfold aliasWrite; (repeat' split) <;> simp

@[simp] theorem kept_execBitSetWrite (t : AliasTarget) (s : State) : keptBy s (execBitSetWrite t s) := by
  simp [execBitSetWrite]

@[simp] theorem kept_execBitClearWrite (t : AliasTarget) (s : State) : keptBy s (execBitClearWrite t s) := by
  simp [execBitClearWrite]

@[simp] theorem kept_execCoreStop (c : Fin 2) (cause : Fin 8) (s : State) : keptBy s (execCoreStop c cause s) := by
  unfold execCoreStop; (repeat' split) <;> simp

/-! ### Machine/Boundary.lean -/

@[simp] theorem kept_writeLine (s : State) (r : LineRec) : (writeLine s r).kept = s.kept := by
  unfold writeLine; (repeat' split) <;> simp

@[simp] theorem kept_ageLine (s : State) (r : LineRec) : (ageLine s r).kept = s.kept := by
  simp [ageLine]

@[simp] theorem kept_writeLines (s : State) : (writeLines s).kept = s.kept := by simp [writeLines]

@[simp] theorem kept_moveBurst (s : State) (r : LineRec) (lag : Nat) : (moveBurst s r lag).kept = s.kept := by
  simp [moveBurst]

@[simp] theorem kept_burstRead (s : State) (used : Store Nat) (ch : Nat) (f : BurstFinding) (b : BadBurst) : (burstRead s used ch f b).1.kept = s.kept := by
  unfold burstRead; dsimp only; (repeat' split) <;> simp_all

@[simp] theorem kept_dauItem (c : Nat) (fs : List BurstFinding) (x : State × Store Nat) (i : Nat × Nat) :
    (dauItem c fs x i).1.kept = x.1.kept := by
  unfold dauItem; dsimp only; (repeat' split) <;> simp

@[simp] theorem kept_dauCluster (fs : List BurstFinding) (x : State × Store Nat) (c : Nat) :
    (dauCluster fs x c).1.kept = x.1.kept := by
  unfold dauCluster
  split
  · rfl
  · split
    · rfl
    · exact kept_foldPair _ (by intro x a; simp) _ _

@[simp] theorem kept_runDau (s : State) (fs : List BurstFinding) : (runDau s fs).kept = s.kept := by
  unfold runDau
  exact kept_foldPair _ (by intro x a; simp) _ _

@[simp] theorem kept_linkPins (s : State) (p : TickPins) : (linkPins s p).kept = s.kept := by
  unfold linkPins; (repeat' split) <;> simp

@[simp] theorem kept_takeMeasures (s : State) (p : TickPins) (join : Bool) : (takeMeasures s p join).kept = s.kept := by
  unfold takeMeasures; dsimp only; (repeat' split) <;> simp_all

@[simp] theorem kept_newTick (s : State) : (newTick s).kept = s.kept := by simp [newTick]

@[simp] theorem kept_splitPair (s : State) : (splitPair s).kept = s.kept := by
  unfold splitPair; dsimp only; (repeat' split) <;> simp_all

@[simp] theorem kept_changeOwner (s : State) : (changeOwner s).kept = s.kept := by
  unfold changeOwner; dsimp only; (repeat' split) <;> simp_all

@[simp] theorem kept_ownership (s : State) : (ownership s).kept = s.kept := by simp [ownership]

@[simp] theorem kept_releaseFloat (s : State) : (releaseFloat s).kept = s.kept := by
  unfold releaseFloat; (repeat' split) <;> simp

@[simp] theorem kept_breakPeers (s : State) (all : Bool) : (breakPeers s all).kept = s.kept := by
  simp [breakPeers]

@[simp] theorem kept_breaksAndResets (s : State) (peers : Bool) : (breaksAndResets s peers).kept = s.kept := by
  simp [breaksAndResets]

@[simp] theorem kept_flipStep (s : State) : (flipStep s).kept = s.kept := by simp [flipStep]

@[simp] theorem kept_gainStep (s : State) : (gainStep s).kept = s.kept := by simp [gainStep]

@[simp] theorem kept_startWindows (s : State) : (startWindows s).kept = s.kept := by
  simp [startWindows, apply_ite State.kept]

@[simp] theorem kept_fetchFirst (s : State) (fs : List (Nat × Fetch)) : (fetchFirst s fs).kept = s.kept := by
  simp [fetchFirst]

@[simp] theorem kept_windowStep (s : State) : (windowStep s).kept = s.kept := by
  unfold windowStep; dsimp only; (repeat' split) <;> simp_all

@[simp] theorem kept_windowWrites (s : State) : (windowWrites s).kept = s.kept := by simp [windowWrites]

@[simp] theorem kept_joinSnapshot (s : State) (j : Nat) : (joinSnapshot s j).kept = s.kept := by
  simp [joinSnapshot]

@[simp] theorem kept_joinPairs (s : State) (j : Nat) : (joinPairs s j).kept = s.kept := by simp [joinPairs]

@[simp] theorem kept_paramShare (s : State) : (paramShare s).kept = s.kept := by
  unfold paramShare; (repeat' split) <;> simp

@[simp] theorem kept_ownerJoin (s : State) : (ownerJoin s).kept = s.kept := by
  unfold ownerJoin; (repeat' split) <;> simp

@[simp] theorem kept_originStep (s : State) : (originStep s).kept = s.kept := by
  unfold originStep; dsimp only; (repeat' split) <;> simp_all

@[simp] theorem kept_countMs (s : State) : (countMs s).kept = s.kept := by
  unfold countMs; dsimp only; (repeat' split) <;> simp_all

@[simp] theorem kept_pairChecks (s : State) : (pairChecks s).kept = s.kept := by simp [pairChecks]

@[simp] theorem kept_boundarySteps (s : State) (peers : Bool) : (boundarySteps s peers).kept = s.kept := by
  simp [boundarySteps]

@[simp] theorem kept_boundaryRest (s : State) (p : TickPins) : (boundaryRest s p).kept = s.kept := by
  unfold boundaryRest; dsimp only; (repeat' split) <;> simp_all

@[simp] theorem kept_boundaryWork (s : State) (p : TickPins) (peers : Bool) : (boundaryWork s p peers).kept = s.kept := by
  simp [boundaryWork]

@[simp] theorem kept_boundaryAt (s : State) (n : Nat) (p : TickPins) : (boundaryAt s n p).kept = s.kept := by
  unfold boundaryAt; dsimp only; (repeat' split) <;> simp_all

@[simp] theorem kept_execTickBoundary (pins : TickPins) (s : State) : keptBy s (execTickBoundary pins s) := by
  unfold execTickBoundary; (repeat' split) <;> simp

@[simp] theorem kept_execCaptureInstant (s : State) : keptBy s (execCaptureInstant s) := by
  unfold execCaptureInstant; (repeat' split) <;> simp

@[simp] theorem kept_startRole (s : State) (k : StartKind) : (startRole s k).kept = s.kept := by
  unfold startRole; (repeat' split) <;> simp

@[simp] theorem kept_tickZero (s : State) : (tickZero s).kept = s.kept := by
  unfold tickZero; dsimp only; split <;> simp

@[simp] theorem kept_heardAll (s : State) : (heardAll s).kept = s.kept := by simp [heardAll]

@[simp] theorem kept_startState (s : State) (k : StartKind) : (startState s k).kept = s.kept := by
  unfold startState; split <;> simp

@[simp] theorem kept_startTick (s : State) (k : StartKind) (p : TickPins) : (startTick s k p).kept = s.kept := by
  simp [startTick]

@[simp] theorem kept_execTickGeneratorStart (pins : TickPins) (common : Bool) (s : State) : keptBy s (execTickGeneratorStart pins common s) := by
  unfold execTickGeneratorStart; (repeat' split) <;> simp

@[simp] theorem kept_joinEngines (s : State) : (joinEngines s).kept = s.kept := by simp [joinEngines]

@[simp] theorem kept_execJoinTick (pins : TickPins) (s : State) : keptBy s (execJoinTick pins s) := by
  unfold execJoinTick; (repeat' split) <;> simp

/-! ### Machine/EngineA.lean -/

@[simp] theorem kept_aOp (e : EngNo) (i : Instr) (f : Engine → List Eff) (s : State) : (aOp e i f s).kept = s.kept := by
  simp [aOp]

@[simp] theorem kept_longOp (e : EngNo) (i : Instr) (d : Nat) (f : Engine → List Eff) (s : State) : (longOp e i d f s).kept = s.kept := by
  simp [longOp]

@[simp] theorem kept_aTwo (f : Word → Word → Word) (e : EngNo) (i : Instr) (vd : VNo) (vs : VNo) (s : State) : (aTwo f e i vd vs s).kept = s.kept := by
  simp [aTwo]

@[simp] theorem kept_aTwoSat (f : Int → Int → Int) (e : EngNo) (i : Instr) (vd : VNo) (vs : VNo) (s : State) : (aTwoSat f e i vd vs s).kept = s.kept := by
  simp [aTwoSat]

@[simp] theorem kept_aOne (f : Word → Word) (e : EngNo) (i : Instr) (vd : VNo) (s : State) : (aOne f e i vd s).kept = s.kept := by
  simp [aOne]

@[simp] theorem kept_aOneSat (f : Word → Int) (e : EngNo) (i : Instr) (vd : VNo) (s : State) : (aOneSat f e i vd s).kept = s.kept := by
  simp [aOneSat]

@[simp] theorem kept_execExt (e : EngNo) (k : Fin 4) (vd : VNo) (sh : Fin 64) (rnd : Bool) (trk : Bool) (s : State) : keptBy s (execExt e k vd sh rnd trk s) := by
  simp [execExt]

@[simp] theorem kept_execAdd (e : EngNo) (vd : VNo) (vs : VNo) (s : State) : keptBy s (execAdd e vd vs s) := by
  simp [execAdd]

@[simp] theorem kept_execSub (e : EngNo) (vd : VNo) (vs : VNo) (s : State) : keptBy s (execSub e vd vs s) := by
  simp [execSub]

@[simp] theorem kept_execMov (e : EngNo) (vd : VNo) (vs : VNo) (s : State) : keptBy s (execMov e vd vs s) := by
  simp [execMov]

@[simp] theorem kept_execMin (e : EngNo) (vd : VNo) (vs : VNo) (s : State) : keptBy s (execMin e vd vs s) := by
  simp [execMin]

@[simp] theorem kept_execMax (e : EngNo) (vd : VNo) (vs : VNo) (s : State) : keptBy s (execMax e vd vs s) := by
  simp [execMax]

@[simp] theorem kept_execAnd (e : EngNo) (vd : VNo) (vs : VNo) (s : State) : keptBy s (execAnd e vd vs s) := by
  simp [execAnd]

@[simp] theorem kept_execOr (e : EngNo) (vd : VNo) (vs : VNo) (s : State) : keptBy s (execOr e vd vs s) := by
  simp [execOr]

@[simp] theorem kept_execXor (e : EngNo) (vd : VNo) (vs : VNo) (s : State) : keptBy s (execXor e vd vs s) := by
  simp [execXor]

@[simp] theorem kept_execClt (e : EngNo) (vd : VNo) (vs : VNo) (s : State) : keptBy s (execClt e vd vs s) := by
  simp [execClt]

@[simp] theorem kept_execCle (e : EngNo) (vd : VNo) (vs : VNo) (s : State) : keptBy s (execCle e vd vs s) := by
  simp [execCle]

@[simp] theorem kept_execAdds (e : EngNo) (vd : VNo) (vs : VNo) (s : State) : keptBy s (execAdds e vd vs s) := by
  simp [execAdds]

@[simp] theorem kept_execSubs (e : EngNo) (vd : VNo) (vs : VNo) (s : State) : keptBy s (execSubs e vd vs s) := by
  simp [execSubs]

@[simp] theorem kept_execSel (e : EngNo) (vd : VNo) (vs : VNo) (s : State) : keptBy s (execSel e vd vs s) := by
  simp [execSel]

@[simp] theorem kept_execShi (e : EngNo) (vd : VNo) (n : BitVec 6) (s : State) : keptBy s (execShi e vd n s) := by
  simp [execShi]

@[simp] theorem kept_execSht (e : EngNo) (vd : VNo) (n : BitVec 6) (s : State) : keptBy s (execSht e vd n s) := by
  simp [execSht]

@[simp] theorem kept_execNop (e : EngNo) (s : State) : keptBy s (execNop e s) := by
  simp [execNop]

@[simp] theorem kept_execNeg (e : EngNo) (vd : VNo) (s : State) : keptBy s (execNeg e vd s) := by
  simp [execNeg]

@[simp] theorem kept_execAbs (e : EngNo) (vd : VNo) (s : State) : keptBy s (execAbs e vd s) := by
  simp [execAbs]

@[simp] theorem kept_execNot (e : EngNo) (vd : VNo) (s : State) : keptBy s (execNot e vd s) := by
  simp [execNot]

@[simp] theorem kept_execExp (e : EngNo) (vd : VNo) (s : State) : keptBy s (execExp e vd s) := by
  simp [execExp]

@[simp] theorem kept_execNorm (e : EngNo) (vd : VNo) (s : State) : keptBy s (execNorm e vd s) := by
  simp [execNorm]

@[simp] theorem kept_execTrk (e : EngNo) (vd : VNo) (s : State) : keptBy s (execTrk e vd s) := by
  simp [execTrk]

@[simp] theorem kept_execBxclr (e : EngNo) (s : State) : keptBy s (execBxclr e s) := by
  simp [execBxclr]

@[simp] theorem kept_execBxrd (e : EngNo) (vd : VNo) (s : State) : keptBy s (execBxrd e vd s) := by
  simp [execBxrd]

@[simp] theorem kept_execBxs (e : EngNo) (vd : VNo) (g : Fin 8) (s : State) : keptBy s (execBxs e vd g s) := by
  simp [execBxs]

@[simp] theorem kept_execExpa (e : EngNo) (vd : VNo) (k : Fin 4) (s : State) : keptBy s (execExpa e vd k s) := by
  simp [execExpa]

@[simp] theorem kept_execAclr (e : EngNo) (k : Fin 4) (s : State) : keptBy s (execAclr e k s) := by
  simp [execAclr]

@[simp] theorem kept_execAprd (e : EngNo) (vd : VNo) (part : AccPart) (k : Fin 4) (s : State) : keptBy s (execAprd e vd part k s) := by
  simp [execAprd]

@[simp] theorem kept_execApwr (e : EngNo) (vs : VNo) (part : AccPart) (k : Fin 4) (s : State) : keptBy s (execApwr e vs part k s) := by
  simp [execApwr]

@[simp] theorem kept_execFlgrd (e : EngNo) (vd : VNo) (s : State) : keptBy s (execFlgrd e vd s) := by
  simp [execFlgrd]

@[simp] theorem kept_execFlgclr (e : EngNo) (mask : BitVec 6) (s : State) : keptBy s (execFlgclr e mask s) := by
  simp [execFlgclr]

@[simp] theorem kept_execRrbrd (e : EngNo) (vd : VNo) (s : State) : keptBy s (execRrbrd e vd s) := by
  simp [execRrbrd]

@[simp] theorem kept_execRrbset (e : EngNo) (val : BitVec 5) (s : State) : keptBy s (execRrbset e val s) := by
  simp [execRrbset]

@[simp] theorem kept_execRrbwr (e : EngNo) (vs : VNo) (s : State) : keptBy s (execRrbwr e vs s) := by
  simp [execRrbwr]

@[simp] theorem kept_execSetk (e : EngNo) (n : Fin 16) (imm : BitVec 20) (s : State) : keptBy s (execSetk e n imm s) := by
  simp [execSetk]

@[simp] theorem kept_execSetm (e : EngNo) (n : Fin 16) (imm : BitVec 20) (s : State) : keptBy s (execSetm e n imm s) := by
  simp [execSetm]

@[simp] theorem kept_execAddk (e : EngNo) (n : Fin 16) (imm : BitVec 20) (s : State) : keptBy s (execAddk e n imm s) := by
  simp [execAddk]

@[simp] theorem kept_execAddm (e : EngNo) (n : Fin 16) (imm : BitVec 20) (s : State) : keptBy s (execAddm e n imm s) := by
  simp [execAddm]

@[simp] theorem kept_execSetvh (e : EngNo) (vd : VNo) (imm : BitVec 18) (s : State) : keptBy s (execSetvh e vd imm s) := by
  simp [execSetvh]

@[simp] theorem kept_execSetvl (e : EngNo) (vd : VNo) (imm : BitVec 18) (s : State) : keptBy s (execSetvl e vd imm s) := by
  simp [execSetvl]

@[simp] theorem kept_execInsl (e : EngNo) (vd : VNo) (imm : BitVec 14) (s : State) : keptBy s (execInsl e vd imm s) := by
  simp [execInsl]

@[simp] theorem kept_execLda (e : EngNo) (k : Fin 4) (vs : VNo) (sh : Fin 64) (s : State) : keptBy s (execLda e k vs sh s) := by
  simp [execLda]

@[simp] theorem kept_execMovkv (e : EngNo) (km : Bool) (n : Fin 16) (vs : VNo) (s : State) : keptBy s (execMovkv e km n vs s) := by
  simp [execMovkv]

@[simp] theorem kept_execMovvk (e : EngNo) (km : Bool) (n : Fin 16) (vd : VNo) (s : State) : keptBy s (execMovvk e km n vd s) := by
  simp [execMovvk]

/-! ### Machine/EngineL.lean -/

@[simp] theorem kept_loadChecks (s : State) (e : Nat) (slot : LSlot) (a : Nat) (ecc : Ecc) : (loadChecks s e slot a ecc).kept = s.kept := by
  unfold loadChecks; (repeat' split) <;> simp

@[simp] theorem kept_execLd (e : EngNo) (slot : LSlot) (mode : LdMode) (vt : VNo) (kp : Fin 4) (ecc : Ecc) (s : State) : keptBy s (execLd e slot mode vt kp ecc s) := by
  simp [execLd]

@[simp] theorem kept_execSt (e : EngNo) (slot : LSlot) (mode : StMode) (vt : VNo) (kp : Fin 4) (s : State) : keptBy s (execSt e slot mode vt kp s) := by
  simp [execSt]

/-! ### Machine/EngineM.lean -/

@[simp] theorem kept_residueFault (s : State) (e : Nat) (lane : Nat) (inj : Bool) : (residueFault s e lane inj).kept = s.kept := by
  simp [residueFault]

@[simp] theorem kept_residueChecks (s : State) (e : Nat) (bad : BitVec 4) : (residueChecks s e bad).kept = s.kept := by
  unfold residueChecks; (repeat' split) <;> simp

@[simp] theorem kept_quadMac (op : MacOp) (e : EngNo) (i : Instr) (o : MOp) (s : State) : (quadMac op e i o s).kept = s.kept := by
  unfold quadMac; (repeat' split) <;> simp

@[simp] theorem kept_execMpy (e : EngNo) (o : MOp) (s : State) : keptBy s (execMpy e o s) := by
  simp [execMpy]

@[simp] theorem kept_execMac (e : EngNo) (o : MOp) (s : State) : keptBy s (execMac e o s) := by
  simp [execMac]

@[simp] theorem kept_execMsu (e : EngNo) (o : MOp) (s : State) : keptBy s (execMsu e o s) := by
  simp [execMsu]

/-! ### Every command but OTP_PROGRAM_DONE -/

/-- No command but OTP_PROGRAM_DONE changes the queue or OTP. -/
theorem kept_exec (i : Instr) (s : State) (h : i ≠ .otpProgramDone) : keptBy s (exec i s) := by
  cases i with
  | tickBoundary pins => exact kept_execTickBoundary pins s
  | dramRetrain ch warn => exact kept_execDramRetrain ch warn s
  | dramRefresh => exact kept_execDramRefresh s
  | groupFlip => exact kept_execGroupFlip s
  | gainCellTimeout cell => exact kept_execGainCellTimeout cell s
  | clusterResume c => exact kept_execClusterResume c s
  | divergeMuteEnd g => exact kept_execDivergeMuteEnd g s
  | tickGuard c finds => exact kept_execTickGuard c finds s
  | captureInstant => exact kept_execCaptureInstant s
  | launchInstant => exact kept_execLaunchInstant s
  | engineDelayedWrite e next => exact kept_execEngineDelayedWrite e next s
  | selfDetectedFault src => exact kept_execSelfDetectedFault src s
  | faultHoldEnd => exact kept_execFaultHoldEnd s
  | mpy e o => exact kept_execMpy e o s
  | mac e o => exact kept_execMac e o s
  | msu e o => exact kept_execMsu e o s
  | ext e k vd sh rnd trk => exact kept_execExt e k vd sh rnd trk s
  | add e vd vs => exact kept_execAdd e vd vs s
  | sub e vd vs => exact kept_execSub e vd vs s
  | adds e vd vs => exact kept_execAdds e vd vs s
  | subs e vd vs => exact kept_execSubs e vd vs s
  | mov e vd vs => exact kept_execMov e vd vs s
  | min_ e vd vs => exact kept_execMin e vd vs s
  | max_ e vd vs => exact kept_execMax e vd vs s
  | and_ e vd vs => exact kept_execAnd e vd vs s
  | or_ e vd vs => exact kept_execOr e vd vs s
  | xor_ e vd vs => exact kept_execXor e vd vs s
  | sel e vd vs => exact kept_execSel e vd vs s
  | clt e vd vs => exact kept_execClt e vd vs s
  | cle e vd vs => exact kept_execCle e vd vs s
  | shi e vd n => exact kept_execShi e vd n s
  | sht e vd n => exact kept_execSht e vd n s
  | nop e => exact kept_execNop e s
  | neg e vd => exact kept_execNeg e vd s
  | abs e vd => exact kept_execAbs e vd s
  | not_ e vd => exact kept_execNot e vd s
  | exp e vd => exact kept_execExp e vd s
  | norm e vd => exact kept_execNorm e vd s
  | trk e vd => exact kept_execTrk e vd s
  | bxclr e => exact kept_execBxclr e s
  | bxrd e vd => exact kept_execBxrd e vd s
  | bxs e vd g => exact kept_execBxs e vd g s
  | expa e vd k => exact kept_execExpa e vd k s
  | aclr e k => exact kept_execAclr e k s
  | aprd e vd part k => exact kept_execAprd e vd part k s
  | apwr e vs part k => exact kept_execApwr e vs part k s
  | flgrd e vd => exact kept_execFlgrd e vd s
  | flgclr e mask => exact kept_execFlgclr e mask s
  | rrbrd e vd => exact kept_execRrbrd e vd s
  | rrbset e val => exact kept_execRrbset e val s
  | rrbwr e vs => exact kept_execRrbwr e vs s
  | setk e n imm => exact kept_execSetk e n imm s
  | setm e n imm => exact kept_execSetm e n imm s
  | addk e n imm => exact kept_execAddk e n imm s
  | addm e n imm => exact kept_execAddm e n imm s
  | setvh e vd imm => exact kept_execSetvh e vd imm s
  | setvl e vd imm => exact kept_execSetvl e vd imm s
  | insl e vd imm => exact kept_execInsl e vd imm s
  | lda e k vs sh => exact kept_execLda e k vs sh s
  | movkv e km n vs => exact kept_execMovkv e km n vs s
  | movvk e km n vd => exact kept_execMovvk e km n vd s
  | ld e slot mode vt kp ecc => exact kept_execLd e slot mode vt kp ecc s
  | st e slot mode vt kp => exact kept_execSt e slot mode vt kp s
  | xnop e => exact kept_execXnop e s
  | rot e => exact kept_execRot e s
  | phase e => exact kept_execPhase e s
  | loop e rot lenM1 cntM1 => exact kept_execLoop e rot lenM1 cntM1 s
  | rep e cntM1 => exact kept_execRep e cntM1 s
  | endProg e => exact kept_execEndProg e s
  | xr e n ecc => exact kept_execXr e n ecc s
  | xw e n => exact kept_execXw e n s
  | reqDelayTap e n ecc => exact kept_execReqDelayTap e n ecc s
  | reqGainCell e n => exact kept_execReqGainCell e n s
  | engFaultClear c => exact kept_execEngFaultClear c s
  | finjArm c e kind => exact kept_execFinjArm c e kind s
  | finjDisarm c v => exact kept_execFinjDisarm c v s
  | engLogClr c => exact kept_execEngLogClr c s
  | engCntClr c => exact kept_execEngCntClr c s
  | refLoss src => exact kept_execRefLoss src s
  | altFallback => exact kept_execAltFallback s
  | refRevert => exact kept_execRefRevert s
  | sourceValidAgain src => exact kept_execSourceValidAgain src s
  | pllaUpdate errNs => exact kept_execPllaUpdate errNs s
  | pllaLock => exact kept_execPllaLock s
  | clkRefselWrite v => exact kept_execClkRefselWrite v s
  | pllaCtlWrite v => exact kept_execPllaCtlWrite v s
  | vtuneWarn near => exact kept_execVtuneWarn near s
  | pllbUnlock xtal => exact kept_execPllbUnlock xtal s
  | clkOutConfig n div v => exact kept_execClkOutConfig n div v s
  | clkWclkConfig v => exact kept_execClkWclkConfig v s
  | tickCountRead path => exact kept_execTickCountRead path s
  | bankHandoverRequest path b v => exact kept_execBankHandoverRequest path b v s
  | bankClearDone b => exact kept_execBankClearDone b s
  | bankPowerRequest b v => exact kept_execBankPowerRequest b v s
  | bankZeroFillDone b => exact kept_execBankZeroFillDone b s
  | memCntClr => exact kept_execMemCntClr s
  | bitSetWrite t => exact kept_execBitSetWrite t s
  | bitClearWrite t => exact kept_execBitClearWrite t s
  | asrcUnlock n lost oor => exact kept_execAsrcUnlock n lost oor s
  | asrcLock n ratio rate => exact kept_execAsrcLock n ratio rate s
  | qsInputWord lane j raw fs first => exact kept_execQsInputWord lane j raw fs first s
  | qsOutputWord lane j => exact kept_execQsOutputWord lane j s
  | commit sess reqId flags gseq lease ents => exact kept_execCommit sess reqId flags gseq lease ents s
  | audonRead sess reqId flags block first rsv count => exact kept_execAudonRead sess reqId flags block first rsv count s
  | leaseAcquire sess reqId flags duration blocks => exact kept_execLeaseAcquire sess reqId flags duration blocks s
  | leaseRenew sess reqId flags lease duration => exact kept_execLeaseRenew sess reqId flags lease duration s
  | leaseRelease sess reqId flags lease => exact kept_execLeaseRelease sess reqId flags lease s
  | audonReset sess reqId flags => exact kept_execAudonReset sess reqId flags s
  | close sess reqId flags => exact kept_execClose sess reqId flags s
  | ping sess reqId flags => exact kept_execPing sess reqId flags s
  | cmtSubmit v => exact kept_execCmtSubmit v s
  | followerConfirm seq => exact kept_execFollowerConfirm seq s
  | replicaLate => exact kept_execReplicaLate s
  | leaseExpiry index => exact kept_execLeaseExpiry index s
  | cmtCntClr => exact kept_execCmtCntClr s
  | leaseSelWrite v => exact kept_execLeaseSelWrite v s
  | verifySlot slot => exact kept_execVerifySlot slot s
  | verifyGraft part => exact kept_execVerifyGraft part s
  | graft part => exact kept_execGraft part s
  | verifyComplete flashErr => exact kept_execVerifyComplete flashErr s
  | graftReset part => exact kept_execGraftReset part s
  | graftComplete part => exact kept_execGraftComplete part s
  | partResetRequest v => exact kept_execPartResetRequest v s
  | partitionReset p => exact kept_execPartitionReset p s
  | partitionResetComplete p => exact kept_execPartitionResetComplete p s
  | thnLogClr => exact kept_execThnLogClr s
  | jtagInstruction test => exact kept_execJtagInstruction test s
  | linkFrame f => exact kept_execLinkFrame f s
  | linkDown => exact kept_execLinkDown s
  | skewError => exact kept_execSkewError s
  | plAliveFall => exact kept_execPlAliveFall s
  | takeoverNotice => exact kept_execTakeoverNotice s
  | detachNotice last => exact kept_execDetachNotice last s
  | followerDetach last => exact kept_execFollowerDetach last s
  | divClr => exact kept_execDivClr s
  | hoGo => exact kept_execHoGo s
  | plannedHandover => exact kept_execPlannedHandover s
  | twinLeave => exact kept_execTwinLeave s
  | joinRequest j => exact kept_execJoinRequest j s
  | joinTick pins => exact kept_execJoinTick pins s
  | copySetTransfer e words => exact kept_execCopySetTransfer e words s
  | bulkLineCopy c line words => exact kept_execBulkLineCopy c line words s
  | becomeRipe => exact kept_execBecomeRipe s
  | aonReset strap => exact kept_execAonReset strap s
  | suppliesReady => exact kept_execSuppliesReady s
  | tjWindowReached => exact kept_execTjWindowReached s
  | tjRangeTimeout => exact kept_execTjRangeTimeout s
  | pllbLock band => exact kept_execPllbLock band s
  | dramTrainingDone failed => exact kept_execDramTrainingDone failed s
  | settingsApplied => exact kept_execSettingsApplied s
  | fwReady => exact kept_execFwReady s
  | tickGeneratorStart pins common => exact kept_execTickGeneratorStart pins common s
  | twinLinkTimeout => exact kept_execTwinLinkTimeout s
  | lateLinkAlign => exact kept_execLateLinkAlign s
  | restart => exact kept_execRestart s
  | confirm path => exact kept_execConfirm path s
  | save => exact kept_execSave s
  | saveComplete => exact kept_execSaveComplete s
  | enterCoppice => exact kept_execEnterCoppice s
  | slotActiveWrite v => exact kept_execSlotActiveWrite v s
  | hostWaitExpiry => exact kept_execHostWaitExpiry s
  | provingTimeout => exact kept_execProvingTimeout s
  | aonBrownout => exact kept_execAonBrownout s
  | otpKeyHashProgram path arg => exact kept_execOtpKeyHashProgram path arg s
  | otpRevoke path arg => exact kept_execOtpRevoke path arg s
  | otpMinSecRaise path => exact kept_execOtpMinSecRaise path s
  | otpFailLimit path => exact kept_execOtpFailLimit path s
  | otpHostWaitDefault path => exact kept_execOtpHostWaitDefault path s
  | otpStubEntry path arg => exact kept_execOtpStubEntry path arg s
  | otpStubConfig path => exact kept_execOtpStubConfig path s
  | otpBootSrc path => exact kept_execOtpBootSrc path s
  | otpKeyHashRead path arg => exact kept_execOtpKeyHashRead path arg s
  | otpProgramDone => exact absurd rfl h
  | tdmSlotInput port slot j raw fs first => exact kept_execTdmSlotInput port slot j raw fs first s
  | tdmSlotOutput port slot j => exact kept_execTdmSlotOutput port slot j s
  | tdmLock g => exact kept_execTdmLock g s
  | tdmUnlock g clkLost => exact kept_execTdmUnlock g clkLost s
  | tdmCntClr => exact kept_execTdmCntClr s
  | aesRxSubframe n chB audio v parityBad bpBad => exact kept_execAesRxSubframe n chB audio v parityBad bpBad s
  | aesRxLock n => exact kept_execAesRxLock n s
  | aesCsBlock n chB bytes => exact kept_execAesCsBlock n chB bytes s
  | aesTxFrame n k => exact kept_execAesTxFrame n k s
  | aesCntClr => exact kept_execAesCntClr s
  | qsLock clkLost => exact kept_execQsLock clkLost s
  | qsCntClr => exact kept_execQsCntClr s
  | ethFrameRx f => exact kept_execEthFrameRx f s
  | netLinkChange port up => exact kept_execNetLinkChange port up s
  | netFallback port => exact kept_execNetFallback port s
  | streamEntryRead => exact kept_execStreamEntryRead s
  | streamEntryWrite => exact kept_execStreamEntryWrite s
  | streamEntryApply => exact kept_execStreamEntryApply s
  | streamPacketTx index => exact kept_execStreamPacketTx index s
  | netTxModeWrite v => exact kept_execNetTxModeWrite v s
  | netCntClr => exact kept_execNetCntClr s
  | ptpAdjWrite v => exact kept_execPtpAdjWrite v s
  | ptpStepWrite v => exact kept_execPtpStepWrite v s
  | ptpValidWrite v => exact kept_execPtpValidWrite v s
  | svLd c m ecc => exact kept_execSvLd c m ecc s
  | svSt c m ecc => exact kept_execSvSt c m ecc s
  | svLdb c t b disp ecc => exact kept_execSvLdb c t b disp ecc s
  | svStb c t b disp ecc ecc2 => exact kept_execSvStb c t b disp ecc ecc2 s
  | svMov c d w => exact kept_execSvMov c d w s
  | svAdd c d w => exact kept_execSvAdd c d w s
  | svAdc c d w => exact kept_execSvAdc c d w s
  | svSub c d w => exact kept_execSvSub c d w s
  | svSbc c d w => exact kept_execSvSbc c d w s
  | svAnd c d w => exact kept_execSvAnd c d w s
  | svOr c d w => exact kept_execSvOr c d w s
  | svXor c d w => exact kept_execSvXor c d w s
  | svShl c d w => exact kept_execSvShl c d w s
  | svShr c d w => exact kept_execSvShr c d w s
  | svSar c d w => exact kept_execSvSar c d w s
  | svCmp c d w => exact kept_execSvCmp c d w s
  | svMul c d w => exact kept_execSvMul c d w s
  | svMulhu c d w => exact kept_execSvMulhu c d w s
  | svMulhs c d w => exact kept_execSvMulhs c d w s
  | svTst c d w => exact kept_execSvTst c d w s
  | svAddi c d imm => exact kept_execSvAddi c d imm s
  | svMovi c d imm => exact kept_execSvMovi c d imm s
  | svMovw c d imm => exact kept_execSvMovw c d imm s
  | svAddw c d imm => exact kept_execSvAddw c d imm s
  | svSubw c d imm => exact kept_execSvSubw c d imm s
  | svAndw c d imm => exact kept_execSvAndw c d imm s
  | svOrw c d imm => exact kept_execSvOrw c d imm s
  | svXorw c d imm => exact kept_execSvXorw c d imm s
  | svCmpw c d imm => exact kept_execSvCmpw c d imm s
  | svTstw c d imm => exact kept_execSvTstw c d imm s
  | svNop c => exact kept_execSvNop c s
  | svNot c d => exact kept_execSvNot c d s
  | svNeg c d => exact kept_execSvNeg c d s
  | svPar c d => exact kept_execSvPar c d s
  | svBrev c d => exact kept_execSvBrev c d s
  | svSwab c d => exact kept_execSvSwab c d s
  | svWait c => exact kept_execSvWait c s
  | svSig c => exact kept_execSvSig c s
  | svBcc c cond disp => exact kept_execSvBcc c cond disp s
  | svBra c disp => exact kept_execSvBra c disp s
  | svCall c disp => exact kept_execSvCall c disp s
  | svJmpb c b => exact kept_execSvJmpb c b s
  | svMovb c d b => exact kept_execSvMovb c d b s
  | svAddb c d w => exact kept_execSvAddb c d w s
  | svBlo c d b => exact kept_execSvBlo c d b s
  | svBhi c d b => exact kept_execSvBhi c d b s
  | svSetbl c d w => exact kept_execSvSetbl c d w s
  | svSetbh c d w => exact kept_execSvSetbh c d w s
  | svSetb c d a => exact kept_execSvSetb c d a s
  | svCrc16 c d w => exact kept_execSvCrc16 c d w s
  | svCrc32 c d w => exact kept_execSvCrc32 c d w s
  | svCrc16b c d w => exact kept_execSvCrc16b c d w s
  | svCrc32b c d w => exact kept_execSvCrc32b c d w s
  | svMfs c d idx => exact kept_execSvMfs c d idx s
  | svMts c idx w => exact kept_execSvMts c idx w s
  | svDelayedResult c fetch => exact kept_execSvDelayedResult c fetch s
  | svEvent c n => exact kept_execSvEvent c n s
  | coreStop core cause => exact kept_execCoreStop core cause s
  | svCwinLowRead c r => exact kept_execSvCwinLowRead c r s
  | svCwinLowWrite c v => exact kept_execSvCwinLowWrite c v s
  | svCwinHighWrite c r v => exact kept_execSvCwinHighWrite c r v s
  | wdtKick => exact kept_execWdtKick s
  | wdtWarn => exact kept_execWdtWarn s
  | watchdogRestart => exact kept_execWatchdogRestart s
  | firmwareEntry => exact kept_execFirmwareEntry s
  | flashProgramPage core => exact kept_execFlashProgramPage core s
  | flashEraseBlock core => exact kept_execFlashEraseBlock core s
  | flashCmdDone err => exact kept_execFlashCmdDone err s
  | flashServiceErase err => exact kept_execFlashServiceErase err s
  | flashServiceWrite err => exact kept_execFlashServiceWrite err s
  | dmaGo n => exact kept_execDmaGo n s
  | dmaAbort n => exact kept_execDmaAbort n s
  | dmaDoorbell n => exact kept_execDmaDoorbell n s
  | dmaSoftRequest n => exact kept_execDmaSoftRequest n s
  | dmaTickRequest => exact kept_execDmaTickRequest s
  | dmaBeat waiting => exact kept_execDmaBeat waiting s
  | dmaBarrierDone n => exact kept_execDmaBarrierDone n s
  | dmaReadData n bytes => exact kept_execDmaReadData n bytes s
  | dmaBusError kind ch space addr cycle => exact kept_execDmaBusError kind ch space addr cycle s
  | dmaRestart path mask withStop => exact kept_execDmaRestart path mask withStop s
  | dmaFillDec n v => exact kept_execDmaFillDec n v s
  | dmaCntClr => exact kept_execDmaCntClr s
  | domainSleep d quiet withWake => exact kept_execDomainSleep d quiet withWake s
  | domainWake d => exact kept_execDomainWake d s
  | idleTimerExpiry d quiet withWake => exact kept_execIdleTimerExpiry d quiet withWake s
  | domainEntryDone d level => exact kept_execDomainEntryDone d level s
  | domainPartReady d => exact kept_execDomainPartReady d s
  | dramAccessWake => exact kept_execDramAccessWake s
  | netFrameWake f => exact kept_execNetFrameWake f s
  | pcieLinkWake => exact kept_execPcieLinkWake s
  | pleachSignalWake => exact kept_execPleachSignalWake s
  | inputActivityWake k level lastPeriods => exact kept_execInputActivityWake k level lastPeriods s
  | amonComparator n above => exact kept_execAmonComparator n above s
  | clusterControlWrite a v => exact kept_execClusterControlWrite a v s
  | clusterControlApply => exact kept_execClusterControlApply s
  | pwrCntClr => exact kept_execPwrCntClr s
  | tempConversion n temp => exact kept_execTempConversion n temp s
  | monPeakClr => exact kept_execMonPeakClr s
  | supplyFault rail => exact kept_execSupplyFault rail s
  | amonConversion n code moved => exact kept_execAmonConversion n code moved s
  | registerWrite t => exact kept_execRegisterWrite t s
  | msixUnmask vector => exact kept_execMsixUnmask vector s
  | doorbellEnable p irqEn rxLog2 txLog2 => exact kept_execDoorbellEnable p irqEn rxLog2 txLog2 s
  | doorbellDisable p irqEn rxLog2 txLog2 => exact kept_execDoorbellDisable p irqEn rxLog2 txLog2 s
  | doorbellTxTail p v => exact kept_execDoorbellTxTail p v s
  | answerWrite p => exact kept_execAnswerWrite p s
  | lbDataLoRead hi m => exact kept_execLbDataLoRead hi m s
  | lbDataLoWrite v => exact kept_execLbDataLoWrite v s
  | lbDataHiWrite v m => exact kept_execLbDataHiWrite v m s
  | mbxDbSv path => exact kept_execMbxDbSv path s
  | mbxDbHost => exact kept_execMbxDbHost s
  | mbxDbLb => exact kept_execMbxDbLb s
  | openReq src => exact kept_execOpenReq src s
  | openDecision => exact kept_execOpenDecision s
  | openRequestTimeout => exact kept_execOpenRequestTimeout s
  | audonFrameVerified src => exact kept_execAudonFrameVerified src s
  | sessionIdleTimeout sess => exact kept_execSessionIdleTimeout sess s
  | keyWrite path slot => exact kept_execKeyWrite path slot s
  | keyErase path slot => exact kept_execKeyErase path slot s
  | keyWriteDone => exact kept_execKeyWriteDone s
  | sesCntClr => exact kept_execSesCntClr s
  | coreSupplyLoss => exact kept_execCoreSupplyLoss s
  | firmwareReadyTimeout => exact kept_execFirmwareReadyTimeout s

end Sys2Proof.Machine
end

