-- ==== Sys2Proof/Laws/Store.lean ====
section
/-!
SUPPORT. Laws/Store.lean: what a read of a store gives after a write, and that every write keeps the canonical form.
-/
namespace Sys2Proof.Machine

variable {α : Type}

theorem storeGet_eq_find (d : α) (m : Store α) (k : Nat) : storeGet d m k = (storeFind m k).getD d := by
  induction m with
  | nil => rfl
  | cons e r ih => by_cases h : k = e.1 <;> simp [storeGet, storeFind, h, ih]

@[simp] theorem storeGet_nil (d : α) (k : Nat) : storeGet d [] k = d := rfl

theorem storeFind_ins (k k' : Nat) (v : α) (m : Store α) :
    storeFind (storeIns k v m) k' = if k' = k then some v else storeFind m k' := by
  induction m with
  | nil => simp [storeIns, storeFind]
  | cons e r ih =>
    unfold storeIns
    split
    · simp [storeFind]
    · split
      · simp only [storeFind]; split <;> simp_all
      · simp only [storeFind, ih]; split <;> split <;> simp_all

theorem storeFind_del (m : Store α) (k k' : Nat) :
    storeFind (storeDel m k) k' = if k' = k then none else storeFind m k' := by
  induction m with
  | nil => simp [storeDel, storeFind]
  | cons e r ih =>
    unfold storeDel
    split
    · rw [ih]; simp only [storeFind]; split <;> simp_all
    · simp only [storeFind, ih]; split <;> split <;> simp_all

@[simp] theorem storeGet_ins (d : α) (k k' : Nat) (v : α) (m : Store α) :
    storeGet d (storeIns k v m) k' = if k' = k then v else storeGet d m k' := by
  simp only [storeGet_eq_find, storeFind_ins]; split <;> rfl

@[simp] theorem storeGet_del (d : α) (m : Store α) (k k' : Nat) :
    storeGet d (storeDel m k) k' = if k' = k then d else storeGet d m k' := by
  simp only [storeGet_eq_find, storeFind_del]; split <;> rfl

/-- A read after a write: the written value at its key, what was there at every other. -/
@[simp] theorem storeGet_set [DecidableEq α] (d : α) (m : Store α) (k k' : Nat) (v : α) :
    storeGet d (storeSet d m k v) k' = if k' = k then v else storeGet d m k' := by
  unfold storeSet; split <;> simp_all

theorem storeFind_set [DecidableEq α] (d : α) (m : Store α) (k k' : Nat) (v : α) :
    storeFind (storeSet d m k v) k' = if k' = k then (if v = d then none else some v) else storeFind m k' := by
  unfold storeSet; split <;> simp_all [storeFind_ins, storeFind_del]

/-! ### The canonical form -/

theorem storeSorted_cons (e : Nat × α) (r : Store α) :
    storeSorted (e :: r) = true ↔ (∀ x ∈ r, e.1 < x.1) ∧ storeSorted r = true := by
  induction r generalizing e with
  | nil => simp [storeSorted]
  | cons f r ih =>
    obtain ⟨k, v⟩ := e
    obtain ⟨k', v'⟩ := f
    simp only [storeSorted, Bool.and_eq_true, decide_eq_true_eq, List.mem_cons, forall_eq_or_imp]
    constructor
    · rintro ⟨h, hs⟩
      exact ⟨⟨h, fun x hx => lt_trans h (((ih (k', v')).1 hs).1 x hx)⟩, hs⟩
    · rintro ⟨⟨h, _⟩, hs⟩; exact ⟨h, hs⟩

theorem storeDel_mem {m : Store α} {k : Nat} {x : Nat × α} (h : x ∈ storeDel m k) : x ∈ m ∧ x.1 ≠ k := by
  induction m with
  | nil => simp [storeDel] at h
  | cons e r ih =>
    unfold storeDel at h
    split at h
    · have := ih h; simp_all
    · rcases List.mem_cons.1 h with h | h
      · subst h; simp_all [eq_comm]
      · have := ih h; simp_all

theorem storeIns_mem {m : Store α} {k : Nat} {v : α} {x : Nat × α} (h : x ∈ storeIns k v m) : x = (k, v) ∨ x ∈ m := by
  induction m with
  | nil => simp_all [storeIns]
  | cons e r ih =>
    unfold storeIns at h
    split at h
    · simpa using h
    · split at h
      · rcases List.mem_cons.1 h with h | h <;> simp_all
      · rcases List.mem_cons.1 h with h | h
        · simp_all
        · rcases ih h with h | h <;> simp_all

theorem storeSorted_del {m : Store α} (k : Nat) (h : storeSorted m = true) : storeSorted (storeDel m k) = true := by
  induction m with
  | nil => rfl
  | cons e r ih =>
    have h' := (storeSorted_cons e r).1 h
    unfold storeDel
    split
    · exact ih h'.2
    · exact (storeSorted_cons _ _).2 ⟨fun x hx => h'.1 x (storeDel_mem hx).1, ih h'.2⟩

theorem storeSorted_ins {m : Store α} (k : Nat) (v : α) (h : storeSorted m = true) :
    storeSorted (storeIns k v m) = true := by
  induction m with
  | nil => rfl
  | cons e r ih =>
    have h' := (storeSorted_cons e r).1 h
    unfold storeIns
    split
    · next hk =>
      refine (storeSorted_cons _ _).2 ⟨fun x hx => ?_, h⟩
      rcases List.mem_cons.1 hx with hx | hx
      · subst hx; exact hk
      · exact lt_trans hk (h'.1 x hx)
    · split
      · next hk => subst hk; exact (storeSorted_cons _ _).2 ⟨h'.1, h'.2⟩
      · next h1 h2 =>
        refine (storeSorted_cons _ _).2 ⟨fun x hx => ?_, ih h'.2⟩
        rcases storeIns_mem hx with hx | hx
        · subst hx; simp only; omega
        · exact h'.1 x hx

/-- A write keeps the canonical form. -/
theorem memoryWf_set [DecidableEq α] (d : α) (m : Store α) (k : Nat) (v : α) (h : Memory.wf d m = true) :
    Memory.wf d (storeSet d m k v) = true := by
  simp only [Memory.wf, Bool.and_eq_true, List.all_eq_true, decide_eq_true_eq] at h ⊢
  unfold storeSet
  split
  · exact ⟨storeSorted_del k h.1, fun x hx => h.2 x (storeDel_mem hx).1⟩
  · next hv =>
    refine ⟨storeSorted_ins k v h.1, fun x hx => ?_⟩
    rcases storeIns_mem hx with hx | hx
    · subst hx; exact hv
    · exact h.2 x hx

/-- Removing an entry keeps the canonical form. -/
theorem memoryWf_del [DecidableEq α] (d : α) (m : Store α) (k : Nat) (h : Memory.wf d m = true) :
    Memory.wf d (storeDel m k) = true := by
  simp only [Memory.wf, Bool.and_eq_true, List.all_eq_true, decide_eq_true_eq] at h ⊢
  exact ⟨storeSorted_del k h.1, fun x hx => h.2 x (storeDel_mem hx).1⟩

theorem storeSorted_append {m n : Store α} (hm : storeSorted m = true) (hn : storeSorted n = true)
    (h : ∀ x ∈ m, ∀ y ∈ n, x.1 < y.1) : storeSorted (m ++ n) = true := by
  induction m with
  | nil => simpa using hn
  | cons e r ih =>
    have h' := (storeSorted_cons e r).1 hm
    rw [List.cons_append]
    refine (storeSorted_cons _ _).2 ⟨fun x hx => ?_, ih h'.2 (fun x hx => h x (List.mem_cons_of_mem _ hx))⟩
    rcases List.mem_append.1 hx with hx | hx
    · exact h'.1 x hx
    · exact h e List.mem_cons_self x hx

theorem storeSorted_filter {m : Store α} (p : Nat × α → Bool) (h : storeSorted m = true) :
    storeSorted (m.filter p) = true := by
  induction m with
  | nil => rfl
  | cons e r ih =>
    have h' := (storeSorted_cons e r).1 h
    rw [List.filter_cons]
    split
    · exact (storeSorted_cons _ _).2 ⟨fun x hx => h'.1 x (List.mem_of_mem_filter hx), ih h'.2⟩
    · exact ih h'.2

/-- Leaving entries out keeps the canonical form. -/
theorem memoryWf_filter [DecidableEq α] (d : α) (m : Store α) (p : Nat × α → Bool) (h : Memory.wf d m = true) :
    Memory.wf d (m.filter p) = true := by
  simp only [Memory.wf, Bool.and_eq_true, List.all_eq_true, decide_eq_true_eq] at h ⊢
  exact ⟨storeSorted_filter p h.1, fun x hx => h.2 x (List.mem_of_mem_filter hx)⟩

/-- A fill keeps the canonical form. -/
theorem memoryWf_fill [DecidableEq α] (d : α) (m : Store α) (lo n : Nat) (f : Nat → α) (h : Memory.wf d m = true) :
    Memory.wf d (storeFill d m lo n f) = true := by
  have key : ∀ x ∈ (List.range n).filterMap (fun i => if f i = d then none else some (lo + i, f i)),
      lo ≤ x.1 ∧ x.1 < lo + n ∧ x.2 ≠ d := by
    intro x hx
    obtain ⟨i, hi, he⟩ := List.mem_filterMap.1 hx
    have hi := List.mem_range.1 hi
    split at he
    · cases he
    · next hf => cases he; exact ⟨by simp, by simpa using hi, hf⟩
  have mid : storeSorted ((List.range n).filterMap (fun i => if f i = d then none else some (lo + i, f i))) = true := by
    clear key h
    induction n with
    | zero => rfl
    | succ n ih =>
      rw [List.range_succ, List.filterMap_append]
      refine storeSorted_append ih ?_ ?_
      · simp only [List.filterMap_cons, List.filterMap_nil]
        split <;> rfl
      · intro x hx y hy
        obtain ⟨i, hi, he⟩ := List.mem_filterMap.1 hx
        obtain ⟨j, hj, hd⟩ := List.mem_filterMap.1 hy
        have hi := List.mem_range.1 hi
        simp only [List.mem_singleton] at hj
        subst hj
        split at he
        · cases he
        · split at hd
          · cases hd
          · cases he; cases hd; simpa using hi
  simp only [Memory.wf, Bool.and_eq_true, List.all_eq_true, decide_eq_true_eq] at h ⊢
  unfold storeFill
  refine ⟨?_, ?_⟩
  · refine storeSorted_append (storeSorted_append (storeSorted_filter _ h.1) mid ?_) (storeSorted_filter _ h.1) ?_
    · intro x hx y hy
      have h1 := (List.mem_filter.1 hx).2
      have h2 := (key y hy).1
      simp only [decide_eq_true_eq] at h1
      omega
    · intro x hx y hy
      have h2 := (List.mem_filter.1 hy).2
      simp only [decide_eq_true_eq] at h2
      rcases List.mem_append.1 hx with hx | hx
      · have h1 := (List.mem_filter.1 hx).2
        simp only [decide_eq_true_eq] at h1
        omega
      · have := (key x hx).2.1; omega
  · intro x hx
    rcases List.mem_append.1 hx with hx | hx
    · rcases List.mem_append.1 hx with hx | hx
      · exact h.2 x (List.mem_of_mem_filter hx)
      · exact (key x hx).2.2
    · exact h.2 x (List.mem_of_mem_filter hx)

end Sys2Proof.Machine
end

