-- ==== Sys2Proof/Laws/Regs.lean ====
section
/-!
SUPPORT. Laws/Regs.lean: what a read of a control register, a field, an engine or a core gives after a write of another.
-/
namespace Sys2Proof.Machine

/-- A register read after a register write. -/
@[simp] theorem reg_setReg (s : State) (a b : Nat) (v : Word) :
    (s.setReg a v).reg b = if b = a then v else s.reg b := by
  unfold State.reg State.setReg storeSet
  split
  · simp only [storeGet_del]; split <;> simp_all
  · simp only [storeGet_ins]

theorem reg_setReg_self (s : State) (a : Nat) (v : Word) : (s.setReg a v).reg a = v := by simp

@[simp] theorem reg_resetReg (s : State) (a b : Nat) :
    (s.resetReg a).reg b = if b = a then regReset b else s.reg b := by
  unfold State.reg State.resetReg
  simp only [storeGet_del]

@[simp] theorem reg_setEngine (s : State) (e a : Nat) (x : Engine) : (s.setEngine e x).reg a = s.reg a := Eq.trans rfl rfl
@[simp] theorem reg_setCore (s : State) (c a : Nat) (x : SvCore) : (s.setCore c x).reg a = s.reg a := Eq.trans rfl rfl
@[simp] theorem fld_setEngine (s : State) (e : Nat) (f : Fld) (x : Engine) : (s.setEngine e x).fld f = s.fld f := Eq.trans rfl rfl
@[simp] theorem fld_setCore (s : State) (c : Nat) (f : Fld) (x : SvCore) : (s.setCore c x).fld f = s.fld f := Eq.trans rfl rfl

theorem reg_setFld (s : State) (f : Fld) (v b : Nat) :
    (s.setFld f v).reg b = if b = f.addr then putBits (s.reg f.addr) f.lo f.w v else s.reg b := by
  simp [State.setFld]

theorem mul_add_lt_mul {a b m n : Nat} (ha : a < m) (hb : b < n) : a * n + b < m * n := by
  have : (a + 1) * n ≤ m * n := Nat.mul_le_mul_right n ha
  rw [Nat.add_mul, Nat.one_mul] at this
  omega

/-- The field that was written, in a word of 32 bits. -/
theorem bitsOf_putBits_self (x : Word) (lo w v : Nat) (h : lo + w ≤ 32) : bitsOf (putBits x lo w v) lo w = v % 2 ^ w := by
  unfold bitsOf putBits
  have hx := x.isLt
  have h1 : x.toNat % 2 ^ lo < 2 ^ lo := Nat.mod_lt _ (by positivity)
  have h2 : v % 2 ^ w < 2 ^ w := Nat.mod_lt _ (by positivity)
  have hp : (2 : Nat) ^ (lo + w) = 2 ^ lo * 2 ^ w := Nat.pow_add 2 lo w
  have hlt : x.toNat / 2 ^ (lo + w) * 2 ^ (lo + w) + v % 2 ^ w * 2 ^ lo + x.toNat % 2 ^ lo < 2 ^ 32 := by
    have hq : (2 : Nat) ^ 32 = 2 ^ (32 - (lo + w)) * 2 ^ (lo + w) := by rw [← Nat.pow_add]; congr 1; omega
    have h3 : x.toNat / 2 ^ (lo + w) < 2 ^ (32 - (lo + w)) := by
      rw [Nat.div_lt_iff_lt_mul (by positivity)]; omega
    have h4 : v % 2 ^ w * 2 ^ lo + x.toNat % 2 ^ lo < 2 ^ (lo + w) := by
      rw [hp, Nat.mul_comm (2 ^ lo)]; exact mul_add_lt_mul h2 h1
    rw [hq, Nat.add_assoc]; exact mul_add_lt_mul h3 h4
  rw [BitVec.toNat_ofNat, Nat.mod_eq_of_lt hlt]
  have e : x.toNat / 2 ^ (lo + w) * 2 ^ (lo + w) + v % 2 ^ w * 2 ^ lo + x.toNat % 2 ^ lo =
      x.toNat % 2 ^ lo + 2 ^ lo * (v % 2 ^ w + 2 ^ w * (x.toNat / 2 ^ (lo + w))) := by rw [hp]; ring
  rw [e, Nat.add_mul_div_left _ _ (by positivity), Nat.div_eq_of_lt h1, Nat.zero_add, Nat.add_mul_mod_self_left,
    Nat.mod_mod]

/-- A field that does not meet the one that was written. -/
theorem bitsOf_putBits_other (x : Word) (lo w v lo' w' : Nat) (h : lo + w ≤ 32)
    (d : lo' + w' ≤ lo ∨ lo + w ≤ lo') : bitsOf (putBits x lo w v) lo' w' = bitsOf x lo' w' := by
  unfold bitsOf putBits
  have hx := x.isLt
  have h1 : x.toNat % 2 ^ lo < 2 ^ lo := Nat.mod_lt _ (by positivity)
  have h2 : v % 2 ^ w < 2 ^ w := Nat.mod_lt _ (by positivity)
  have hp : (2 : Nat) ^ (lo + w) = 2 ^ lo * 2 ^ w := Nat.pow_add 2 lo w
  have h4 : v % 2 ^ w * 2 ^ lo + x.toNat % 2 ^ lo < 2 ^ (lo + w) := by rw [hp, Nat.mul_comm (2 ^ lo)]; exact mul_add_lt_mul h2 h1
  have hlt : x.toNat / 2 ^ (lo + w) * 2 ^ (lo + w) + v % 2 ^ w * 2 ^ lo + x.toNat % 2 ^ lo < 2 ^ 32 := by
    have hq : (2 : Nat) ^ 32 = 2 ^ (32 - (lo + w)) * 2 ^ (lo + w) := by rw [← Nat.pow_add]; congr 1; omega
    have h3 : x.toNat / 2 ^ (lo + w) < 2 ^ (32 - (lo + w)) := by
      rw [Nat.div_lt_iff_lt_mul (by positivity)]; omega
    rw [hq, Nat.add_assoc]; exact mul_add_lt_mul h3 h4
  rw [BitVec.toNat_ofNat, Nat.mod_eq_of_lt hlt]
  rcases d with d | d
  · have e : x.toNat / 2 ^ (lo + w) * 2 ^ (lo + w) + v % 2 ^ w * 2 ^ lo + x.toNat % 2 ^ lo =
        x.toNat % 2 ^ lo + 2 ^ lo * (v % 2 ^ w + 2 ^ w * (x.toNat / 2 ^ (lo + w))) := by rw [hp]; ring
    have hl : (2 : Nat) ^ lo = 2 ^ (lo' + w') * 2 ^ (lo - (lo' + w')) := by rw [← Nat.pow_add]; congr 1; omega
    have key : ∀ y z : Nat, (y + 2 ^ lo * z) / 2 ^ lo' % 2 ^ w' = y / 2 ^ lo' % 2 ^ w' := by
      intro y z
      have : y + 2 ^ lo * z = y + 2 ^ lo' * (2 ^ w' * (2 ^ (lo - (lo' + w')) * z)) := by
        rw [hl, Nat.pow_add]; ring
      rw [this, Nat.add_mul_div_left _ _ (by positivity), Nat.add_mul_mod_self_left]
    rw [e, key]
    conv_rhs => rw [← Nat.mod_add_div x.toNat (2 ^ lo)]
    rw [key]
  · have key : ∀ y z : Nat, y < 2 ^ (lo + w) → (z * 2 ^ (lo + w) + y) / 2 ^ lo' = z * 2 ^ (lo + w) / 2 ^ lo' := by
      intro y z hy
      have hl : (2 : Nat) ^ lo' = 2 ^ (lo + w) * 2 ^ (lo' - (lo + w)) := by rw [← Nat.pow_add]; congr 1; omega
      rw [hl, ← Nat.div_div_eq_div_mul, ← Nat.div_div_eq_div_mul]
      congr 1
      rw [Nat.mul_comm, Nat.mul_add_div (by positivity), Nat.div_eq_of_lt hy, Nat.add_zero,
        Nat.mul_div_cancel_left _ (by positivity)]
    rw [Nat.add_assoc, key _ _ h4]
    conv_rhs => rw [← Nat.div_add_mod x.toNat (2 ^ (lo + w)), Nat.mul_comm (2 ^ (lo + w))]
    rw [key _ _ (Nat.mod_lt _ (by positivity))]

/-- A field reads back what was written into it. -/
theorem fld_setFld_self (s : State) (f : Fld) (v : Nat) (h : f.lo + f.w ≤ 32) : (s.setFld f v).fld f = v % 2 ^ f.w := by
  simp [State.fld, State.setFld, bitsOf_putBits_self _ _ _ _ h]

/-- A field of another register, or of other bits, keeps its value. -/
theorem fld_setFld_other (s : State) (f g : Fld) (v : Nat) (h : f.lo + f.w ≤ 32)
    (d : g.addr ≠ f.addr ∨ g.lo + g.w ≤ f.lo ∨ f.lo + f.w ≤ g.lo) : (s.setFld f v).fld g = s.fld g := by
  simp only [State.fld, State.setFld, reg_setReg]
  by_cases ha : g.addr = f.addr
  · have d' : g.lo + g.w ≤ f.lo ∨ f.lo + f.w ≤ g.lo := d.resolve_left (fun x => x ha)
    simp [ha, bitsOf_putBits_other _ _ _ _ _ _ h d']
  · simp [ha]

theorem fld_setReg_other (s : State) (g : Fld) (a : Nat) (v : Word) (d : g.addr ≠ a) : (s.setReg a v).fld g = s.fld g := by
  simp [State.fld, d]

/-! ### Engines and cores -/

@[simp] theorem engine_setEngine (s : State) (e f : Nat) (x : Engine) :
    (s.setEngine e x).engine f = if f = e then x else s.engine f := by
  simp [State.engine, State.setEngine]

@[simp] theorem engine_setReg (s : State) (a e : Nat) (v : Word) : (s.setReg a v).engine e = s.engine e := Eq.trans rfl rfl
@[simp] theorem engine_setFld (s : State) (f : Fld) (e v : Nat) : (s.setFld f v).engine e = s.engine e := Eq.trans rfl rfl
@[simp] theorem engine_setCore (s : State) (c e : Nat) (x : SvCore) : (s.setCore c x).engine e = s.engine e := Eq.trans rfl rfl
@[simp] theorem core_setCore (s : State) (c d : Nat) (x : SvCore) :
    (s.setCore c x).core d = if d = c then x else s.core d := by
  simp [State.core, State.setCore]

@[simp] theorem core_setReg (s : State) (a c : Nat) (v : Word) : (s.setReg a v).core c = s.core c := Eq.trans rfl rfl
@[simp] theorem core_setFld (s : State) (f : Fld) (c v : Nat) : (s.setFld f v).core c = s.core c := Eq.trans rfl rfl
@[simp] theorem core_setEngine (s : State) (e c : Nat) (x : Engine) : (s.setEngine e x).core c = s.core c := Eq.trans rfl rfl

end Sys2Proof.Machine
end

