-- ==== Sys2Proof/Laws/Timed.lean ====
section
/-!
SUPPORT. Laws/Timed.lean: the work of a tick boundary changes neither the tick count nor whether it runs (R39): one lemma per
operation that it uses, in the order of the model's files.
-/
namespace Sys2Proof.Machine

/-- The tick count, and whether it runs. -/
def State.timed (s : State) : Nat × Bool := (s.tick, s.tickOn)

/-- A conditional of two states that both keep what `s` holds. -/
@[simp] theorem timed_ite (s : State) (c : Prop) [Decidable c] (a b : State) (ha : a.timed = s.timed) (hb : b.timed = s.timed) :
    (if c then a else b).timed = s.timed := by split <;> assumption

/-- A fold whose every step keeps them. -/
@[simp] theorem timed_foldl {α : Type} (f : State → α → State) (h : ∀ s a, (f s a).timed = s.timed) (l : List α) (s : State) :
    (l.foldl f s).timed = s.timed := by
  induction l generalizing s with
  | nil => rfl
  | cons a l ih => rw [List.foldl_cons, ih, h]

/-- The same for a fold that carries something beside the state. -/
theorem timed_foldPair {α β : Type} (f : State × β → α → State × β) (h : ∀ x a, (f x a).1.timed = x.1.timed) (l : List α)
    (x : State × β) : (l.foldl f x).1.timed = x.1.timed := by
  induction l generalizing x with
  | nil => rfl
  | cons a l ih => rw [List.foldl_cons, ih, h]

@[simp] theorem timed_mk {a0} {a1} {a2} {a3} {a4} {a5} {a6} {a7} {a8} {a9} {a10} {a11} {a12} {a13} {a14} {a15} {a16}
    {a17} {a18} {a19} {a20} {a21} {a22} {a23} {a24} {a25} {a26} {a27} {a28} {a29} {a30} {a31} {a32} {a33} {a34} {a35}
    {a36} {a37} {a38} {a39} {a40} {a41} {a42} {a43} {a44} {a45} {a46} {a47} {a48} {a49} {a50} {a51} {a52} {a53} {a54}
    {a55} {a56} {a57} {a58} {a59} {a60} {a61} {a62} {a63} {a64} {a65} {a66} {a67} {a68} {a69} {a70} {a71} {a72} {a73}
    {a74} {a75} {a76} {a77} {a78} {a79} {a80} {a81} {a82} {a83} {a84} {a85} {a86} {a87} {a88} {a89} {a90} {a91} {a92} :
    (State.mk a0 a1 a2 a3 a4 a5 a6 a7 a8 a9 a10 a11 a12 a13 a14 a15 a16 a17 a18 a19 a20 a21 a22 a23 a24 a25 a26 a27
    a28 a29 a30 a31 a32 a33 a34 a35 a36 a37 a38 a39 a40 a41 a42 a43 a44 a45 a46 a47 a48 a49 a50 a51 a52 a53 a54 a55
    a56 a57 a58 a59 a60 a61 a62 a63 a64 a65 a66 a67 a68 a69 a70 a71 a72 a73 a74 a75 a76 a77 a78 a79 a80 a81 a82 a83
    a84 a85 a86 a87 a88 a89 a90 a91 a92).timed =
    (a3, a4) := Eq.trans rfl rfl

@[simp] theorem timed_eta (s : State) : (s.tick, s.tickOn) = s.timed := Eq.trans rfl rfl

/-! ### Machine/Ops.lean -/

@[simp] theorem timed_State_setReg (s : State) (a : Nat) (v : Word) : (State.setReg s a v).timed = s.timed := by
  simp [State.setReg]

@[simp] theorem timed_State_setFld (s : State) (f : Fld) (v : Nat) : (State.setFld s f v).timed = s.timed := by
  simp [State.setFld]

@[simp] theorem timed_State_satInc (s : State) (f : Fld) : (State.satInc s f).timed = s.timed := by
  unfold State.satInc; (repeat' split) <;> simp

@[simp] theorem timed_State_satAdd (s : State) (f : Fld) (n : Nat) : (State.satAdd s f n).timed = s.timed := by
  simp [State.satAdd]

@[simp] theorem timed_State_wrapInc (s : State) (f : Fld) : (State.wrapInc s f).timed = s.timed := by
  simp [State.wrapInc]

@[simp] theorem timed_State_resetReg (s : State) (a : Nat) : (State.resetReg s a).timed = s.timed := by
  simp [State.resetReg]

/-! ### Machine/Host.lean -/

@[simp] theorem timed_State_setCore (s : State) (c : Nat) (x : SvCore) : (State.setCore s c x).timed = s.timed := by
  simp [State.setCore]

@[simp] theorem timed_raiseEvent (s : State) (n : Nat) : (raiseEvent s n).timed = s.timed := by
  simp [raiseEvent]

@[simp] theorem timed_twnEvent (old new : State) : (twnEvent old new).timed = new.timed := by
  unfold twnEvent; split <;> simp

@[simp] theorem timed_sendMsix (s : State) (v : Nat) : (sendMsix s v).timed = s.timed := by
  unfold sendMsix; (repeat' split) <;> simp

@[simp] theorem timed_bootEvent (s : State) : (bootEvent s).timed = s.timed := by
  unfold bootEvent; dsimp only; (repeat' split) <;> simp_all

/-! ### Machine/SelfFault.lean -/

@[simp] theorem timed_State_setNv (s : State) (n : BootNv) : (State.setNv s n).timed = s.timed := by
  simp [State.setNv]

@[simp] theorem timed_State_setBoot (s : State) (b : Nat) : (State.setBoot s b).timed = s.timed := by
  unfold State.setBoot; dsimp only; (repeat' split) <;> simp_all

@[simp] theorem timed_State_setDom (s : State) (d : Nat) (x : Dom) : (State.setDom s d x).timed = s.timed := by
  simp [State.setDom]

@[simp] theorem timed_passDom (s : State) (d : Nat) : (passDom s d).timed = s.timed := by
  unfold passDom; split <;> simp

@[simp] theorem timed_passTime (s : State) : (passTime s).timed = s.timed := by simp [passTime]

@[simp] theorem timed_State_setDomSt (s : State) (d v : Nat) : (State.setDomSt s d v).timed = s.timed := by
  unfold State.setDomSt; split <;> simp

@[simp] theorem timed_keepResid (old new : State) : (keepResid old new).timed = new.timed := by simp [keepResid]

@[simp] theorem timed_showSupplies (s : State) : (showSupplies s).timed = s.timed := by unfold showSupplies; split <;> simp

@[simp] theorem timed_State_keepRws (old new : State) : (State.keepRws old new).timed = new.timed := by
  simp [State.keepRws]

@[simp] theorem timed_showRecs (s : State) (n : Nat) (l : List BootEntry) : (showRecs s n l).timed = s.timed := by
  induction l generalizing s n with
  | nil => rfl
  | cons e l ih => unfold showRecs; split <;> simp [ih]

@[simp] theorem timed_showGens (s : State) : (showGens s).timed = s.timed := by simp [showGens]

@[simp] theorem timed_showBoot (s : State) : (showBoot s).timed = s.timed := by simp [showBoot]

@[simp] theorem timed_showCause (s : State) (e : BootEntry) : (showCause s e).timed = s.timed := by
  simp [showCause]

@[simp] theorem timed_pushEntry (s : State) (e : BootEntry) : (pushEntry s e).timed = s.timed := by
  simp [pushEntry]

@[simp] theorem timed_pcieKeptOn (s : State) : (pcieKeptOn s).timed = s.timed := by simp [pcieKeptOn]

@[simp] theorem timed_phaseC1 (s : State) (own : Option BootEntry) : (phaseC1 s own).timed = s.timed := by
  simp [phaseC1]

@[simp] theorem timed_floatOutputs (s : State) : (floatOutputs s).timed = s.timed := by simp [floatOutputs]

@[simp] theorem timed_recordCause (s : State) (cause : Nat) (counted : Bool) (detail : Nat) :
    (recordCause s cause counted detail).timed = s.timed := by
  unfold recordCause; (repeat' split) <;> simp

@[simp] theorem timed_domsOff (s : State) (keep : List Nat) : (domsOff s keep).timed = s.timed := by
  unfold domsOff
  exact timed_foldl _ (fun s d => by split <;> simp) _ _

@[simp] theorem timed_countFailure (s : State) (cause : Nat) (detail : Nat) :
    (countFailure s cause detail).timed = s.timed := by
  simp [countFailure]

@[simp] theorem timed_recordEngFault (s : State) (c : Nat) (kind : Nat) (unit : Nat) (addr : Nat) (cycle : Nat) (inj : Bool) :
    (recordEngFault s c kind unit addr cycle inj).timed = s.timed := by
  unfold recordEngFault; (repeat' split) <;> simp

/-! ### Machine/EngineCore.lean -/

@[simp] theorem timed_State_setEngine (s : State) (e : Nat) (x : Engine) : (State.setEngine s e x).timed = s.timed := by
  simp [State.setEngine]

@[simp] theorem timed_State_setEngState (s : State) (e : Nat) (v : Nat) :
    (State.setEngState s e v).timed = s.timed := by
  simp [State.setEngState]

@[simp] theorem timed_correctedError (s : State) (e : Nat) (data : Bool) :
    (correctedError s e data).timed = s.timed := by
  simp [correctedError]

@[simp] theorem timed_queueWriteBack (s : State) (e : Nat) (a : Nat) : (queueWriteBack s e a).timed = s.timed := by
  unfold queueWriteBack; dsimp only; (repeat' split) <;> simp_all

@[simp] theorem timed_disarm (s : State) (e : Nat) : (disarm s e).timed = s.timed := by simp [disarm]

@[simp] theorem timed_issueSlots (s : State) (e : Nat) (slots : List Slot) :
    (issueSlots s e slots).timed = s.timed := by
  simp [issueSlots]

@[simp] theorem timed_slotOp (s : State) (e : EngNo) (i : Instr) (slots : List Slot) (f : Engine → Engine) :
    (slotOp s e i slots f).timed = s.timed := by
  unfold slotOp; (repeat' split) <;> simp

@[simp] theorem timed_endCycle (s : State) (e : Nat) : (endCycle s e).timed = s.timed := by simp [endCycle]

/-! ### Machine/Params.lean -/

@[simp] theorem timed_State_setFlip (s : State) (b : Nat) (v : Nat) : (State.setFlip s b v).timed = s.timed := by
  simp [State.setFlip]

@[simp] theorem timed_putEngineCopy (s : State) (e : Nat) (p : Nat) (c : Nat) (w : Nat) (v : Word) :
    (putEngineCopy s e p c w v).timed = s.timed := by
  simp [putEngineCopy]

@[simp] theorem timed_writeCopy (s : State) (c : Nat) (b : Nat) (w : Nat) (v : Word) :
    (writeCopy s c b w v).timed = s.timed := by
  unfold writeCopy; dsimp only; (repeat' split) <;> simp_all

@[simp] theorem timed_writeBoth (s : State) (b : Nat) (w : Nat) (v : Word) : (writeBoth s b w v).timed = s.timed := by
  simp [writeBoth]

/-! ### Machine/Delay.lean -/

@[simp] theorem timed_State_setAge (s : State) (r : LineRec) (v : Nat) : (State.setAge s r v).timed = s.timed := by
  simp [State.setAge]

@[simp] theorem timed_putLineWord (s : State) (r : LineRec) (p : Nat) (v : Word) :
    (putLineWord s r p v).timed = s.timed := by
  unfold putLineWord; (repeat' split) <;> simp

/-! ### Machine/EngineX.lean -/

@[simp] theorem timed_xOp (e : EngNo) (i : Instr) (f : Engine → Engine) (s : State) :
    (xOp e i f s).timed = s.timed := by
  simp [xOp]

@[simp] theorem timed_sendHops (s : State) (e : Nat) : (sendHops s e).timed = s.timed := by simp [sendHops]

@[simp] theorem timed_landHops (s : State) (e : Nat) : (landHops s e).timed = s.timed := by simp [landHops]

@[simp] theorem timed_finjWrite (s : State) (c : Nat) (e : Nat) (kind : Nat) (arm : Nat) :
    (finjWrite s c e kind arm).timed = s.timed := by
  simp [finjWrite]

@[simp] theorem timed_clearFlagLog (s : State) (c n : Nat) : (clearFlagLog s c n).timed = s.timed := by
  induction n with
  | zero => rfl
  | succ n ih => simp [clearFlagLog, ih]

/-! ### Machine/Partition.lean -/

@[simp] theorem timed_discardGroups (s : State) (p : Group → Bool) : (discardGroups s p).timed = s.timed := by
  unfold discardGroups; (repeat' split) <;> simp

@[simp] theorem timed_breakLease (s : State) (i : Nat) : (breakLease s i).timed = s.timed := by
  unfold breakLease; (repeat' split) <;> simp

@[simp] theorem timed_endLease (s : State) (i : Nat) : (endLease s i).timed = s.timed := by simp [endLease]

@[simp] theorem timed_breakLeases (s : State) (p : Lease → Bool) : (breakLeases s p).timed = s.timed := by
  simp [breakLeases]

@[simp] theorem timed_cellsToTarget (s : State) (p : Nat) : (cellsToTarget s p).timed = s.timed := by
  simp [cellsToTarget]

@[simp] theorem timed_haltEngines (s : State) (p : Nat) : (haltEngines s p).timed = s.timed := by
  unfold haltEngines; apply timed_foldl; intro s r; dsimp only; (repeat' split) <;> simp

@[simp] theorem timed_startLines (s : State) (e : Nat) : (startLines s e).timed = s.timed := by
  simp [startLines]

@[simp] theorem timed_clearBridges (s : State) (e : Nat) : (clearBridges s e).timed = s.timed := by
  simp [clearBridges]

@[simp] theorem timed_startEngine (s : State) (e : Nat) : (startEngine s e).timed = s.timed := by
  unfold startEngine; (repeat' split) <;> simp

@[simp] theorem timed_resetActions (s : State) (p : Nat) : (resetActions s p).timed = s.timed := by
  simp [resetActions]

@[simp] theorem timed_setPartOp (s : State) (o : PartOp) : (setPartOp s o).timed = s.timed := by
  simp [setPartOp]

@[simp] theorem timed_dropPartOp (s : State) (p : Nat) : (dropPartOp s p).timed = s.timed := by
  simp [dropPartOp]

@[simp] theorem timed_abortNow (s : State) (p : Nat) : (abortNow s p).timed = s.timed := by simp [abortNow]

@[simp] theorem timed_scheduleAbort (s : State) (p : Nat) (r : Nat) : (scheduleAbort s p r).timed = s.timed := by
  unfold scheduleAbort; (repeat' split) <;> simp

@[simp] theorem timed_joinFrame (s : State) (i : CtlItem) : (joinFrame s i).timed = s.timed := by
  unfold joinFrame; (repeat' split) <;> simp

@[simp] theorem timed_sendCtl (s : State) (i : CtlItem) : (sendCtl s i).timed = s.timed := by
  simp [sendCtl]

@[simp] theorem timed_forward (s : State) (i : Nat → CtlItem) : (forward s i).timed = s.timed := by
  unfold forward; (repeat' split) <;> simp

@[simp] theorem timed_addReset (s : State) (p : Nat) : (addReset s p).timed = s.timed := by simp [addReset]

@[simp] theorem timed_acceptReset (s : State) (p : Nat) : (acceptReset s p).timed = s.timed := by
  simp [acceptReset]

@[simp] theorem timed_doPartReset (s : State) (p : Nat) : (doPartReset s p).timed = s.timed := by
  unfold doPartReset; (repeat' split) <;> simp

@[simp] theorem timed_doPartDone (s : State) (p : Nat) : (doPartDone s p).timed = s.timed := by
  unfold doPartDone; (repeat' split) <;> simp

@[simp] theorem timed_partResetWrite (s : State) (v : Word) : (partResetWrite s v).timed = s.timed := by
  unfold partResetWrite; dsimp only; (repeat' split) <;> simp_all

/-! ### Machine/Commit.lean -/

@[simp] theorem timed_admitGroup_admitLast (s : State) (p : Nat) (who : SessId) (seq : Nat) (own : Option (Nat × Nat))
    (ents : List Entry) : (admitGroup.admitLast s p who seq own ents).st.timed = s.timed := by
  unfold admitGroup.admitLast; (repeat' split) <;> simp

@[simp] theorem timed_admitGroup (s : State) (p : Nat) (who : SessId) (seq : Nat) (h : Word) (os : List Offer) :
    (admitGroup s p who seq h os).st.timed = s.timed := by
  unfold admitGroup; dsimp only; (repeat' split) <;> first | rfl | exact timed_admitGroup_admitLast _ _ _ _ _ _

@[simp] theorem timed_decideGroup (s : State) (p : Nat) (who : SessId) (seq : Nat) (h : Word) (os : List Offer) :
    (decideGroup s p who seq h os).st.timed = s.timed := by
  unfold decideGroup; (repeat' split) <;> simp

@[simp] theorem timed_remember (s : State) (r : Remembered) : (remember s r).timed = s.timed := by
  unfold remember; (repeat' split) <;> simp

@[simp] theorem timed_serveCommit (s : State) (p : Nat) (who : SessId) (seq : Word) (h : Word) (es : List RawEntry) :
    (serveCommit s p who seq h es).st.timed = s.timed := by
  unfold serveCommit; (repeat' split) <;> simp

@[simp] theorem timed_serveRead (s : State) (p : Nat) (block : Nat) (first : Nat) (rsv : Nat) (count : Nat) :
    (serveRead s p block first rsv count).st.timed = s.timed := by
  unfold serveRead; (repeat' split) <;> simp

@[simp] theorem timed_grantLease (s : State) (p : Nat) (who : SessId) (duration : Nat) (bs : List Nat) :
    (grantLease s p who duration bs).st.timed = s.timed := by
  simp [grantLease]

@[simp] theorem timed_serveAcquire (s : State) (p : Nat) (who : SessId) (duration : Nat) (blocks : List Half) :
    (serveAcquire s p who duration blocks).st.timed = s.timed := by
  unfold serveAcquire; dsimp only; (repeat' split) <;> simp_all

@[simp] theorem timed_serveRenew (s : State) (p : Nat) (who : SessId) (h : Word) (duration : Nat) :
    (serveRenew s p who h duration).st.timed = s.timed := by
  unfold serveRenew; dsimp only; (repeat' split) <;> simp_all

@[simp] theorem timed_serveRelease (s : State) (p : Nat) (who : SessId) (h : Word) :
    (serveRelease s p who h).st.timed = s.timed := by
  unfold serveRelease; (repeat' split) <;> simp

@[simp] theorem timed_serveReset (s : State) (p : Nat) : (serveReset s p).st.timed = s.timed := by
  unfold serveReset; (repeat' split) <;> simp

@[simp] theorem timed_endSoon (s : State) (n : Nat) : (endSoon s n).timed = s.timed := by
  unfold endSoon; dsimp only; (repeat' split) <;> simp_all

@[simp] theorem timed_serve (s : State) (p : Nat) (who : SessId) (x1 : AudonReq) :
    (serve s p who x1).st.timed = s.timed := by
  unfold serve; (repeat' split) <;> simp

@[simp] theorem timed_noteStatus (s : State) (st : Nat) : (noteStatus s st).timed = s.timed := by
  unfold noteStatus; (repeat' split) <;> simp

@[simp] theorem timed_answerSession (s : State) (n : Nat) (op : Nat) (reqId : Nat) (r : Reply) :
    (answerSession s n op reqId r).timed = s.timed := by
  unfold answerSession; (repeat' split) <;> simp

@[simp] theorem timed_answerSubmit (s : State) (r : Reply) : (answerSubmit s r).timed = s.timed := by
  simp [answerSubmit]

@[simp] theorem timed_deliver (s : State) (a : Asker) (r : Reply) : (deliver s a r).timed = s.timed := by
  unfold deliver; (repeat' split) <;> simp

@[simp] theorem timed_answer (s : State) (a : Asker) (r : Reply) (rem : Option Remembered) :
    (answer s a r rem).timed = s.timed := by
  unfold answer; cases rem <;> simp

@[simp] theorem timed_conclude (v : Served) (a : Asker) : (conclude v a).timed = v.st.timed := by
  unfold conclude; (repeat' split) <;> simp

@[simp] theorem timed_request (n : Nat) (reqId : Word) (flags : Byte) (q : AudonReq) (s : State) :
    (request n reqId flags q s).timed = s.timed := by
  unfold request; (repeat' split) <;> simp

@[simp] theorem timed_serveSubmit (s : State) (who : SessId) (es : List (Word × Word)) (count : Nat) :
    (serveSubmit s who es count).st.timed = s.timed := by
  unfold serveSubmit; (repeat' split) <;> simp

@[simp] theorem timed_submitWrite (s : State) (v : Word) : (submitWrite s v).timed = s.timed := by
  unfold submitWrite; dsimp only; (repeat' split) <;> simp_all

@[simp] theorem timed_confirmUpTo (s : State) (n : Nat) : (confirmUpTo s n).timed = s.timed := by
  simp [confirmUpTo]

@[simp] theorem timed_replicaLate (s : State) : (replicaLate s).timed = s.timed := by
  unfold replicaLate; dsimp only; (repeat' split) <;> simp_all

@[simp] theorem timed_leaseDue (s : State) (i : Nat) : (leaseDue s i).timed = s.timed := by
  unfold leaseDue; (repeat' split) <;> simp

@[simp] theorem timed_leaseSel (s : State) (v : Word) : (leaseSel s v).timed = s.timed := by
  unfold leaseSel; dsimp only; (repeat' split) <;> simp_all

@[simp] theorem timed_flipBlock (s : State) (b : Nat) : (flipBlock s b).timed = s.timed := by
  unfold flipBlock; (repeat' split) <;> simp

@[simp] theorem timed_doFlips (s : State) : (doFlips s).timed = s.timed := by simp [doFlips]

@[simp] theorem timed_groupWindow (s : State) (g : Group) : (groupWindow s g).1.timed = s.timed := by
  unfold groupWindow; (repeat' split) <;> simp

@[simp] theorem timed_commitWindow (s : State) : (commitWindow s).timed = s.timed := by
  unfold commitWindow
  dsimp only
  simp
  exact timed_foldPair _ (by intro x a; simp) _ _

@[simp] theorem timed_dropDone (s : State) : (dropDone s).timed = s.timed := by simp [dropDone]

@[simp] theorem timed_State_setCell (s : State) (n : Nat) (c : Cell) : (State.setCell s n c).timed = s.timed := by
  simp [State.setCell]

@[simp] theorem timed_cellStep3 (s : State) (r : CellRec) : (cellStep3 s r).timed = s.timed := by
  simp [cellStep3]

@[simp] theorem timed_cellStep4 (s : State) (n : Nat) : (cellStep4 s n).timed = s.timed := by
  unfold cellStep4; dsimp only; (repeat' split) <;> simp_all

/-! ### Machine/Thorn.lean -/

@[simp] theorem timed_logTrip (s : State) (gi : Nat) (cause : Nat) (t : Nat) :
    (logTrip s gi cause t).timed = s.timed := by
  unfold logTrip; dsimp only; (repeat' split) <;> simp_all

@[simp] theorem timed_noteCauses (s : State) (gi : Nat) (g : Guard) (t : Nat) (cs : List Nat) (may : List Nat) :
    (noteCauses s gi g t cs may).1.timed = s.timed := by
  simp [noteCauses]

@[simp] theorem timed_thornSample (s : State) (gi : Nat) (r : ThornRec) (part : Nat) (y : Word) (t : Nat) (tm : Nat) (j : Nat) (factor : Nat) (bits : Nat) :
    (thornSample s gi r part y t tm j factor bits).st.timed = s.timed := by
  unfold thornSample; dsimp only; (repeat' split) <;> simp_all

@[simp] theorem timed_noteFault (s : State) (gi : Nat) (t : Nat) : (noteFault s gi t).timed = s.timed := by
  unfold noteFault; dsimp only; (repeat' split) <;> simp_all

@[simp] theorem timed_launchWord (s : State) (kind port ch j : Nat) :
    (launchWord s kind port ch j).1.timed = s.timed := by
  unfold launchWord
  (repeat' split)
  · rfl
  · exact timed_foldl _ (by intro s g; simp) _ _
  · rfl

@[simp] theorem timed_clearTrips (s : State) : (clearTrips s).timed = s.timed := by simp [clearTrips]

@[simp] theorem timed_sampleLinks (s : State) : (sampleLinks s).timed = s.timed := by
  unfold sampleLinks; apply timed_foldl; intro s r; dsimp only; (repeat' split) <;> simp

@[simp] theorem timed_updateSilence (s : State) : (updateSilence s).timed = s.timed := by simp [updateSilence]

/-! ### Machine/Net.lean -/

@[simp] theorem timed_streamRead (s : State) : (streamRead s).timed = s.timed := by simp [streamRead]

@[simp] theorem timed_addStreamWrite (s : State) (key : Nat) (t : Nat) (e : List Word) :
    (addStreamWrite s key t e).timed = s.timed := by
  simp [addStreamWrite]

@[simp] theorem timed_streamWrite (s : State) : (streamWrite s).timed = s.timed := by
  unfold streamWrite; dsimp only; (repeat' split) <;> simp_all

@[simp] theorem timed_applyEntry (s : State) (key : Nat) (e : List Word) : (applyEntry s key e).timed = s.timed := by
  simp [applyEntry]

@[simp] theorem timed_applyStreams (s : State) : (applyStreams s).timed = s.timed := by simp [applyStreams]

@[simp] theorem timed_State_setCnt (s : State) (key : Nat) (c : StreamCnt) :
    (State.setCnt s key c).timed = s.timed := by
  simp [State.setCnt]

@[simp] theorem timed_clearNetCounts (s : State) : (clearNetCounts s).timed = s.timed := by
  simp [clearNetCounts]

@[simp] theorem timed_netCtlWrite (s : State) (v : Word) : (netCtlWrite s v).timed = s.timed := by
  unfold netCtlWrite; (repeat' split) <;> simp

@[simp] theorem timed_addSample (s : State) (k : Nat) (d : Nat) (r : RxSample) :
    (addSample s k d r).timed = s.timed := by
  unfold addSample; (repeat' split) <;> simp

@[simp] theorem timed_streamPacket (s : State) (key : Nat) (leg : Nat) (ts : Nat) (body : List Byte) :
    (streamPacket s key leg ts body).timed = s.timed := by
  unfold streamPacket; dsimp only; (repeat' split) <;> simp_all

@[simp] theorem timed_audonDatagram (s : State) (part : Nat) (more : Bool) (d : Udp) :
    (audonDatagram s part more d).timed = s.timed := by
  unfold audonDatagram; dsimp only; (repeat' split) <;> simp_all

@[simp] theorem timed_passSv (s : State) (f : SvFrame) : (passSv s f).timed = s.timed := by
  simp [passSv]

@[simp] theorem timed_ptpMessage (s : State) (p : Nat) (ns : Nat) (d : Udp) :
    (ptpMessage s p ns d).timed = s.timed := by
  unfold ptpMessage; (repeat' split) <;> simp

@[simp] theorem timed_classify (s : State) (p : Nat) (ns : Nat) (x1 : EthBody) :
    (classify s p ns x1).timed = s.timed := by
  unfold classify; (repeat' split) <;> simp

@[simp] theorem timed_captureEntry (s : State) (t key : Nat) : (captureEntry s t key).timed = s.timed := by
  unfold captureEntry
  apply timed_foldl
  intro s j
  dsimp only
  refine timed_ite s _ _ _ ?_ ?_
  · exact timed_foldl _ (by intro s c; split <;> simp) _ _
  · rw [timed_State_setCnt]
    exact timed_foldl _ (by intro s c; split <;> simp) _ _

@[simp] theorem timed_captureNet (s : State) : (captureNet s).timed = s.timed := by simp [captureNet]

@[simp] theorem timed_launchSample (s : State) (e : List Word) (j : Nat) : (launchSample s e j).1.timed = s.timed := by
  unfold launchSample
  exact timed_foldPair _ (by intro x c; simp) _ _

@[simp] theorem timed_feedSample (s : State) (key : Nat) (i : Nat) (j : Nat) (e : List Word) :
    (feedSample s key i j e).timed = s.timed := by
  simp [feedSample]

@[simp] theorem timed_feedTx (s : State) (m : Nat) (key : Nat) (e : List Word) :
    (feedTx s m key e).timed = s.timed := by
  unfold feedTx; apply timed_foldl; intro s r; dsimp only; (repeat' split) <;> simp

@[simp] theorem timed_feedEnding (s : State) (m : Nat) (key : Nat) (e : List Word) :
    (feedEnding s m key e).timed = s.timed := by
  unfold feedEnding; apply timed_foldl; intro s r; dsimp only; (repeat' split) <;> simp

@[simp] theorem timed_dropEnded (s : State) : (dropEnded s).timed = s.timed := by simp [dropEnded]

@[simp] theorem timed_launchNet (s : State) : (launchNet s).timed = s.timed := by simp [launchNet]

@[simp] theorem timed_sendPacket (s : State) (x : Nat × List Word × Nat × Nat) : (sendPacket s x).timed = s.timed := by
  simp [sendPacket]

@[simp] theorem timed_ptpAdj (s : State) (v : Word) : (ptpAdj s v).timed = s.timed := by
  simp [ptpAdj]

@[simp] theorem timed_setPhc (s : State) (t : Nat) : (setPhc s t).timed = s.timed := by simp [setPhc]

@[simp] theorem timed_ptpStep (s : State) (v : Word) : (ptpStep s v).timed = s.timed := by
  simp [ptpStep]

@[simp] theorem timed_phcTick (s : State) : (phcTick s).timed = s.timed := by
  unfold phcTick; (repeat' split) <;> simp

@[simp] theorem timed_gridStart (s : State) : (gridStart s).timed = s.timed := by
  unfold gridStart; (repeat' split) <;> simp

@[simp] theorem timed_putOrigin (s : State) (o : Nat) : (putOrigin s o).timed = s.timed := by simp [putOrigin]

@[simp] theorem timed_setOrigin (s : State) : (setOrigin s).timed = s.timed := by
  unfold setOrigin; (repeat' split) <;> simp

@[simp] theorem timed_showMediaErr (s : State) : (showMediaErr s).timed = s.timed := by simp [showMediaErr]

/-! ### Machine/Exchange.lean -/

@[simp] theorem timed_putIn (s : State) (e : Nat) (w : Nat) (v : Word) : (putIn s e w v).timed = s.timed := by
  simp [putIn]

@[simp] theorem timed_putInRun (s : State) (e : Nat) (w : Nat) (vs : List Word) :
    (putInRun s e w vs).timed = s.timed := by
  simp [putInRun]

@[simp] theorem timed_landTickHops (s : State) : (landTickHops s).timed = s.timed := by simp [landTickHops]

@[simp] theorem timed_landInputs (s : State) : (landInputs s).timed = s.timed := by simp [landInputs]

@[simp] theorem timed_bridgeDeliver (s : State) (r : BridgeRec) (vs : List Word) :
    (bridgeDeliver s r vs).timed = s.timed := by
  unfold bridgeDeliver
  split
  · exact timed_foldl _ (by intro s a; simp) _ _
  · split
    · simp
    · split
      · rfl
      · exact timed_foldl _ (by intro s a; simp) _ _

@[simp] theorem timed_runBridge (s : State) (r : BridgeRec) : (runBridge s r).timed = s.timed := by
  simp [runBridge]

@[simp] theorem timed_runBridges (s : State) : (runBridges s).timed = s.timed := by simp [runBridges]

@[simp] theorem timed_takeOutputs (s : State) : (takeOutputs s).timed = s.timed := by simp [takeOutputs]

@[simp] theorem timed_carryWords (s : State) : (carryWords s).timed = s.timed := by simp [carryWords]

@[simp] theorem timed_formOutput (s : State) (r : IoRec) (j : Nat) : (formOutput s r j).timed = s.timed := by
  unfold formOutput; (repeat' split) <;> simp

@[simp] theorem timed_formOutputs (s : State) : (formOutputs s).timed = s.timed := by
  unfold formOutputs; (repeat' split) <;> simp

@[simp] theorem timed_logFlags (s : State) (c : Nat) : (logFlags s c).timed = s.timed := by simp [logFlags]

@[simp] theorem timed_watchCells (s : State) (c : Nat) : (watchCells s c).timed = s.timed := by
  simp [watchCells]

@[simp] theorem timed_endWindows (s : State) (c : Nat) : (endWindows s c).timed = s.timed := by
  simp [endWindows]

@[simp] theorem timed_swapCluster (s : State) (c : Nat) : (swapCluster s c).timed = s.timed := by
  simp [swapCluster]

@[simp] theorem timed_captureAsrc (s : State) (n : Nat) : (captureAsrc s n).timed = s.timed := by
  unfold captureAsrc; (repeat' split) <;> simp

@[simp] theorem timed_closeInputs (s : State) : (closeInputs s).timed = s.timed := by
  unfold closeInputs; (repeat' split) <;> simp

@[simp] theorem timed_captureInputs (s : State) : (captureInputs s).timed = s.timed := by simp [captureInputs]

/-! ### Machine/Banks.lean -/

@[simp] theorem timed_handBank (s : State) (b : Nat) (owner : Nat) : (handBank s b owner).timed = s.timed := by
  simp [handBank]

@[simp] theorem timed_bankOwnerWrite (s : State) (b : Nat) (v : Word) : (bankOwnerWrite s b v).timed = s.timed := by
  unfold bankOwnerWrite; dsimp only; (repeat' split) <;> simp_all

@[simp] theorem timed_zeroBank (s : State) (b : Nat) : (zeroBank s b).timed = s.timed := by simp [zeroBank]

@[simp] theorem timed_bankPwrWrite (s : State) (b : Nat) (v : Word) : (bankPwrWrite s b v).timed = s.timed := by
  unfold bankPwrWrite; dsimp only; (repeat' split) <;> simp_all

@[simp] theorem timed_takeBank (s : State) (b : Nat) : (takeBank s b).timed = s.timed := by simp [takeBank]

@[simp] theorem timed_applyBanks (s : State) : (applyBanks s).timed = s.timed := by simp [applyBanks]

@[simp] theorem timed_retainBanks (s : State) (c : Nat) (sleep : Bool) : (retainBanks s c sleep).timed = s.timed := by
  unfold retainBanks; apply timed_foldl; intro s r; dsimp only; (repeat' split) <;> simp

@[simp] theorem timed_clearMemCounts (s : State) : (clearMemCounts s).timed = s.timed := by
  simp [clearMemCounts]

@[simp] theorem timed_retrain (s : State) (ch : Nat) (warn : Bool) : (retrain s ch warn).timed = s.timed := by
  unfold retrain; (repeat' split) <;> simp

/-! ### Machine/SvLoad.lean -/

@[simp] theorem timed_placeImages (s : State) (x : CoreImage) (y : CoreImage) :
    (placeImages s x y).timed = s.timed := by
  simp [placeImages]

@[simp] theorem timed_State_setMbx (s : State) (w : Nat) (v : Half) : (State.setMbx s w v).timed = s.timed := by
  simp [State.setMbx]

@[simp] theorem timed_answerService (s : State) (status : Nat) : (answerService s status).timed = s.timed := by
  simp [answerService]

@[simp] theorem timed_newPeriod (s : State) : (newPeriod s).timed = s.timed := by simp [newPeriod]

@[simp] theorem timed_coreStop (s : State) (c : Nat) (cause : Nat) (prot : Bool) :
    (coreStop s c cause prot).timed = s.timed := by
  unfold coreStop; (repeat' split) <;> simp

@[simp] theorem timed_kickWrite (s : State) (v : Word) : (kickWrite s v).timed = s.timed := by
  unfold kickWrite; (repeat' split) <;> simp

@[simp] theorem timed_flashGo (s : State) (c : Nat) (op : Nat) : (flashGo s c op).timed = s.timed := by
  unfold flashGo; dsimp only; (repeat' split) <;> simp_all

@[simp] theorem timed_flashDone (s : State) (err : Bool) : (flashDone s err).timed = s.timed := by
  unfold flashDone; (repeat' split) <;> simp

@[simp] theorem timed_serviceRun (s : State) (write : Bool) (err : Bool) :
    (serviceRun s write err).timed = s.timed := by
  unfold serviceRun; dsimp only; (repeat' split) <;> simp_all

/-! ### Machine/Ports.lean -/

@[simp] theorem timed_fsCheck (s : State) (key : Nat) (locked : Bool) (good : Bool) :
    (fsCheck s key locked good).timed = s.timed := by
  unfold fsCheck; (repeat' split) <;> simp

@[simp] theorem timed_clearFs (s : State) (key : Nat) : (clearFs s key).timed = s.timed := by simp [clearFs]

@[simp] theorem timed_showPhase (s : State) (f : Fld) (fs : Option (BitVec 8)) :
    (showPhase s f fs).timed = s.timed := by
  unfold showPhase; (repeat' split) <;> simp

@[simp] theorem timed_tdmFrameStart (s : State) (port : Nat) : (tdmFrameStart s port).timed = s.timed := by
  simp [tdmFrameStart]

@[simp] theorem timed_tdmWord (s : State) (port : Nat) (slot : Nat) (j : Nat) :
    (tdmWord s port slot j).1.timed = s.timed := by
  unfold tdmWord; (repeat' split) <;> simp

@[simp] theorem timed_clearTdmCounts (s : State) : (clearTdmCounts s).timed = s.timed := by
  simp [clearTdmCounts]

@[simp] theorem timed_asrcTake (s : State) (n : Nat) (chB : Bool) (v : Word) :
    (asrcTake s n chB v).timed = s.timed := by
  simp [asrcTake]

@[simp] theorem timed_stepAsrc (s : State) (n : Nat) : (stepAsrc s n).timed = s.timed := by
  unfold stepAsrc; dsimp only; (repeat' split) <;> simp_all

@[simp] theorem timed_clearAesCounts (s : State) : (clearAesCounts s).timed = s.timed := by
  simp [clearAesCounts]

@[simp] theorem timed_qsSeqCheck (s : State) (lane : Nat) (seq : Nat) : (qsSeqCheck s lane seq).timed = s.timed := by
  unfold qsSeqCheck; dsimp only; (repeat' split) <;> simp_all

@[simp] theorem timed_qsReceive (s : State) (lane : Nat) (raw : Word) : (qsReceive s lane raw).1.timed = s.timed := by
  unfold qsReceive; (repeat' split) <;> simp

@[simp] theorem timed_qsMix (s : State) (r : QsMixRec) (j : Nat) : (qsMix s r j).1.timed = s.timed := by
  unfold qsMix; dsimp only; (repeat' split) <;> simp_all

@[simp] theorem timed_qsOutput (s : State) (lane : Nat) (j : Nat) : (qsOutput s lane j).1.timed = s.timed := by
  unfold qsOutput; dsimp only; (repeat' split) <;> simp_all

@[simp] theorem timed_clearQsCounts (s : State) : (clearQsCounts s).timed = s.timed := by simp [clearQsCounts]

@[simp] theorem timed_startTdm (s : State) : (startTdm s).timed = s.timed := by
  simp [startTdm, apply_ite State.timed]

@[simp] theorem timed_startQs (s : State) : (startQs s).timed = s.timed := by
  unfold startQs; (repeat' split) <;> simp

@[simp] theorem timed_startPorts (s : State) : (startPorts s).timed = s.timed := by simp [startPorts]

/-! ### Machine/Dma.lean -/

@[simp] theorem timed_State_setChan (s : State) (n : Nat) (c : Chan) : (State.setChan s n c).timed = s.timed := by
  simp [State.setChan]

@[simp] theorem timed_showStopped (s : State) : (showStopped s).timed = s.timed := by simp [showStopped]

@[simp] theorem timed_State_setChanSt (s : State) (n : Nat) (v : Nat) : (State.setChanSt s n v).timed = s.timed := by
  simp [State.setChanSt]

@[simp] theorem timed_dmaEvent (s : State) (n : Nat) (always : Bool) : (dmaEvent s n always).timed = s.timed := by
  unfold dmaEvent; dsimp only; (repeat' split) <;> simp_all

@[simp] theorem timed_putOnchipByte (s : State) (space : Nat) (a : Nat) (b : Byte) :
    (putOnchipByte s space a b).timed = s.timed := by
  unfold putOnchipByte; (repeat' split) <;> simp

@[simp] theorem timed_putBytes (s : State) (space : Nat) (a : Nat) (bs : List Byte) :
    (putBytes s space a bs).timed = s.timed := by
  unfold putBytes; (repeat' split) <;> simp

@[simp] theorem timed_meetFind (s : State) (space a words : Nat) (f : MemFind) : (meetFind s space a words f).timed = s.timed := by
  unfold meetFind; dsimp only; (repeat' split) <;> simp

@[simp] theorem timed_meetWrite (s : State) (space a len : Nat) (f : MemFind) : (meetWrite s space a len f).timed = s.timed := by
  unfold meetWrite; split <;> simp

@[simp] theorem timed_writeStatus (s : State) (n : Nat) (result : Nat) (f : MemFind) : (writeStatus s n result f).timed = s.timed := by
  unfold writeStatus; (repeat' split) <;> simp

@[simp] theorem timed_dmaFail (s : State) (n : Nat) (cause : Nat) (f : MemFind) : (dmaFail s n cause f).timed = s.timed := by
  unfold dmaFail; (repeat' split) <;> simp

@[simp] theorem timed_fillRule (s : State) (n : Nat) : (fillRule s n).timed = s.timed := by
  unfold fillRule; dsimp only; (repeat' split) <;> simp_all

@[simp] theorem timed_fillState (s : State) (n : Nat) : (fillState s n).timed = s.timed := by
  unfold fillState; (repeat' split) <;> simp

@[simp] theorem timed_fillSub (s : State) (n : Nat) (k : Nat) : (fillSub s n k).timed = s.timed := by
  simp [fillSub]

@[simp] theorem timed_fillWritten (s : State) (n : Nat) (k : Nat) : (fillWritten s n k).timed = s.timed := by
  simp [fillWritten, apply_ite State.timed]

@[simp] theorem timed_dmaRequest (s : State) (n : Nat) : (dmaRequest s n).timed = s.timed := by
  unfold dmaRequest; dsimp only; (repeat' split) <;> simp_all

@[simp] theorem timed_dmaStart (s : State) (n : Nat) : (dmaStart s n).timed = s.timed := by
  unfold dmaStart; dsimp only; (repeat' split) <;> simp_all

@[simp] theorem timed_dmaStop (s : State) (n : Nat) (f : MemFind) : (dmaStop s n f).timed = s.timed := by
  unfold dmaStop; (repeat' split) <;> simp

@[simp] theorem timed_dmaBell (s : State) (n : Nat) : (dmaBell s n).timed = s.timed := by
  unfold dmaBell; (repeat' split) <;> simp

@[simp] theorem timed_dmaSoft (s : State) (n : Nat) : (dmaSoft s n).timed = s.timed := by
  unfold dmaSoft; (repeat' split) <;> simp

@[simp] theorem timed_dmaCtl (s : State) (n : Nat) (v : Word) : (dmaCtl s n v).timed = s.timed := by
  unfold dmaCtl; (repeat' split) <;> simp

@[simp] theorem timed_dmaComplete (s : State) (n : Nat) (d : List Word) (fs fo : MemFind) :
    (dmaComplete s n d fs fo).timed = s.timed := by
  unfold dmaComplete; dsimp only; (repeat' split) <;> simp_all

@[simp] theorem timed_barrierDone (s : State) (n : Nat) (fs fo : MemFind) : (barrierDone s n fs fo).timed = s.timed := by
  unfold barrierDone; (repeat' split) <;> simp

@[simp] theorem timed_dmaDescriptor (s : State) (n : Nat) (d : List Word) : (dmaDescriptor s n d).timed = s.timed := by
  unfold dmaDescriptor; dsimp only; (repeat' split) <;> simp_all

@[simp] theorem timed_dmaWriteBeat (s : State) (n : Nat) (d : List Word) (m : BeatMeet) : (dmaWriteBeat s n d m).timed = s.timed := by
  unfold dmaWriteBeat; dsimp only; (repeat' split) <;> simp_all

@[simp] theorem timed_takeData (s : State) (n : Nat) (bs : List Byte) : (takeData s n bs).timed = s.timed := by
  simp [takeData]

@[simp] theorem timed_dmaReadBeat (s : State) (n : Nat) (d : List Word) (m : BeatMeet) : (dmaReadBeat s n d m).timed = s.timed := by
  unfold dmaReadBeat; dsimp only; (repeat' split) <;> simp_all

@[simp] theorem timed_startBurst (s : State) (n : Nat) (d : List Word) : (startBurst s n d).timed = s.timed := by
  unfold startBurst; dsimp only; (repeat' split) <;> simp_all

@[simp] theorem timed_dmaBeatOf (s : State) (n : Nat) (m : BeatMeet) : (dmaBeatOf s n m).timed = s.timed := by
  unfold dmaBeatOf; dsimp only; (repeat' split) <;> simp_all

@[simp] theorem timed_countWait (s : State) (n : Nat) : (countWait s n).timed = s.timed := by
  unfold countWait; (repeat' split) <;> simp

@[simp] theorem timed_newShare (s : State) (n : Nat) : (newShare s n).timed = s.timed := by
  unfold newShare; dsimp only; (repeat' split) <;> simp_all

@[simp] theorem timed_stopChan (s : State) (n : Nat) : (stopChan s n).timed = s.timed := by
  unfold stopChan; (repeat' split) <;> simp

@[simp] theorem timed_resumeChan (s : State) (n : Nat) : (resumeChan s n).timed = s.timed := by
  unfold resumeChan; dsimp only; (repeat' split) <;> simp_all

@[simp] theorem timed_clearDmaCounts (s : State) : (clearDmaCounts s).timed = s.timed := by
  simp [clearDmaCounts]

/-! ### Machine/Clock.lean -/

@[simp] theorem timed_State_setPlla (s : State) (v : Nat) : (State.setPlla s v).timed = s.timed := by
  simp [State.setPlla]

@[simp] theorem timed_State_setDco (s : State) (v : Int) : (State.setDco s v).timed = s.timed := by
  simp [State.setDco]

@[simp] theorem timed_showValid (s : State) : (showValid s).timed = s.timed := by simp [showValid]

@[simp] theorem timed_markSource (s : State) (n : Nat) (v : Bool) : (markSource s n v).timed = s.timed := by
  simp [markSource]

@[simp] theorem timed_enterHoldover (s : State) : (enterHoldover s).timed = s.timed := by simp [enterHoldover]

@[simp] theorem timed_acquire (s : State) (n : Nat) : (acquire s n).timed = s.timed := by
  unfold acquire; dsimp only; (repeat' split) <;> simp_all

@[simp] theorem timed_changeSource (s : State) (n : Nat) : (changeSource s n).timed = s.timed := by
  simp [changeSource]

@[simp] theorem timed_stepWord (s : State) : (stepWord s).timed = s.timed := by
  unfold stepWord; dsimp only; (repeat' split) <;> simp_all

@[simp] theorem timed_codeOr (s : State) (f : Fld) (v : Nat) (limit : Nat) : (codeOr s f v limit).timed = s.timed := by
  unfold codeOr; (repeat' split) <;> simp

@[simp] theorem timed_refselWrite (s : State) (v : Word) : (refselWrite s v).timed = s.timed := by
  unfold refselWrite; dsimp only; (repeat' split) <;> simp_all

@[simp] theorem timed_pllaCtl (s : State) (v : Word) : (pllaCtl s v).timed = s.timed := by
  unfold pllaCtl; dsimp only; (repeat' split) <;> simp_all

@[simp] theorem timed_clkOutWrite (s : State) (n : Nat) (div : Bool) (v : Word) :
    (clkOutWrite s n div v).timed = s.timed := by
  unfold clkOutWrite; (repeat' split) <;> simp

@[simp] theorem timed_wclkWrite (s : State) (v : Word) : (wclkWrite s v).timed = s.timed := by
  simp [wclkWrite]

@[simp] theorem timed_clkOutBoundary (s : State) (n : Nat) : (clkOutBoundary s n).timed = s.timed := by
  simp [clkOutBoundary]

@[simp] theorem timed_clkBoundary (s : State) : (clkBoundary s).timed = s.timed := by simp [clkBoundary]

@[simp] theorem timed_latchTick (s : State) (p : Path) : (latchTick s p).timed = s.timed := by
  simp [latchTick]

/-! ### Machine/Power.lean -/

@[simp] theorem timed_wakeDom (s : State) (d : Nat) (src : Nat) : (wakeDom s d src).timed = s.timed := by
  unfold wakeDom; dsimp only; (repeat' split) <;> simp_all

@[simp] theorem timed_showPinned (s : State) : (showPinned s).timed = s.timed := by
  unfold showPinned; apply timed_foldl; intro s r; dsimp only; (repeat' split) <;> simp

@[simp] theorem timed_sleepDom (s : State) (d : Nat) (quiet : Bool) (withWake : Bool) :
    (sleepDom s d quiet withWake).timed = s.timed := by
  unfold sleepDom; dsimp only; (repeat' split) <;> simp_all

@[simp] theorem timed_resetRange (s : State) (lo : Nat) (hi : Nat) : (resetRange s lo hi).timed = s.timed := by
  simp [resetRange]

@[simp] theorem timed_loadPortRegs (s : State) : (loadPortRegs s).timed = s.timed := by simp [loadPortRegs]

@[simp] theorem timed_loadNetRegs (s : State) : (loadNetRegs s).timed = s.timed := by simp [loadNetRegs]

@[simp] theorem timed_loseDomain (s : State) (d : Nat) : (loseDomain s d).timed = s.timed := by
  unfold loseDomain; (repeat' split) <;> simp

@[simp] theorem timed_restartPorts (s : State) (d : Nat) : (restartPorts s d).timed = s.timed := by
  unfold restartPorts; (repeat' split) <;> simp

@[simp] theorem timed_clusterEngines (s : State) (c : Nat) (fromSt : Nat) (toSt : Nat) :
    (clusterEngines s c fromSt toSt).timed = s.timed := by
  simp [clusterEngines, apply_ite State.timed]

@[simp] theorem timed_sleepCluster (s : State) (c : Nat) : (sleepCluster s c).timed = s.timed := by
  simp [sleepCluster]

@[simp] theorem timed_wakeCluster (s : State) (c : Nat) (src : Nat) : (wakeCluster s c src).timed = s.timed := by
  simp [wakeCluster]

@[simp] theorem timed_resumeCluster (s : State) (c : Nat) : (resumeCluster s c).timed = s.timed := by
  unfold resumeCluster; dsimp only; (repeat' split) <;> simp_all

@[simp] theorem timed_evalCluster (s : State) (c : Nat) : (evalCluster s c).timed = s.timed := by
  unfold evalCluster; dsimp only; (repeat' split) <;> simp_all

@[simp] theorem timed_countOverlap (old s : State) : (countOverlap old s).timed = s.timed := by simp [countOverlap]

@[simp] theorem timed_clusterWrite (s : State) (a : Nat) (v : Word) : (clusterWrite s a v).timed = s.timed := by
  unfold clusterWrite; (repeat' split) <;> simp

@[simp] theorem timed_applyCluster (s : State) (a : Nat) (v : Word) : (applyCluster s a v).timed = s.timed := by
  unfold applyCluster; dsimp only; (repeat' split) <;> simp_all

@[simp] theorem timed_applyClusters (s : State) : (applyClusters s).timed = s.timed := by
  simp [applyClusters]

@[simp] theorem timed_domCtlWrite (s : State) (d : Nat) (v : Word) : (domCtlWrite s d v).timed = s.timed := by
  unfold domCtlWrite; (repeat' split) <;> simp

@[simp] theorem timed_clearPwrCounts (s : State) : (clearPwrCounts s).timed = s.timed := by
  simp [clearPwrCounts]

@[simp] theorem timed_residency (s : State) (ms : Nat) : (residency s ms).timed = s.timed := by
  unfold residency; (repeat' split) <;> simp

@[simp] theorem timed_thermal (s : State) (was : Option Int) : (thermal s was).timed = s.timed := by
  unfold thermal; dsimp only; (repeat' split) <;> simp_all

@[simp] theorem timed_clearPeak (s : State) : (clearPeak s).timed = s.timed := by simp [clearPeak]

@[simp] theorem timed_amonGoodCode (s : State) (n : Nat) (code : Nat) : (amonGoodCode s n code).timed = s.timed := by
  simp [amonGoodCode]

@[simp] theorem timed_amonTest (s : State) (n : Nat) (p : Nat) (sus : Bool) (code : Nat) (moved : Bool) :
    (amonTest s n p sus code moved).timed = s.timed := by
  unfold amonTest; (repeat' split) <;> simp

@[simp] theorem timed_amonCtlWrite (s : State) (n : Nat) (v : Word) : (amonCtlWrite s n v).timed = s.timed := by
  unfold amonCtlWrite; dsimp only; (repeat' split) <;> simp_all

/-! ### Machine/Twin.lean -/

@[simp] theorem timed_State_setRipe (s : State) (v : Nat) : (State.setRipe s v).timed = s.timed := by
  simp [State.setRipe]

@[simp] theorem timed_showAlive (s : State) : (showAlive s).timed = s.timed := by simp [showAlive]

@[simp] theorem timed_twnChange (f : State → State) (s : State) (h : (f s).timed = s.timed) :
    (twnChange f s).timed = s.timed := by simp [twnChange, h]

@[simp] theorem timed_startEngines (s : State) : (startEngines s).timed = s.timed := by
  unfold startEngines; apply timed_foldl; intro s r; dsimp only; (repeat' split) <;> simp

@[simp] theorem timed_leavePair (s : State) : (leavePair s).timed = s.timed := by simp [leavePair]

@[simp] theorem timed_undoItem (s : State) (x1 : Undo) : (undoItem s x1).timed = s.timed := by
  unfold undoItem; (repeat' split) <;> simp

@[simp] theorem timed_dropUnconfirmed (s : State) (n : Nat) : (dropUnconfirmed s n).timed = s.timed := by
  unfold dropUnconfirmed
  simp only [timed_mk, timed_eta]
  generalize List.filter _ s.twin.taken = l
  induction l with
  | nil => rfl
  | cons a l ih => rw [List.foldr_cons, timed_undoItem, ih]

@[simp] theorem timed_takeOwnership (s : State) (sole : Bool) : (takeOwnership s sole).timed = s.timed := by
  unfold takeOwnership; dsimp only; (repeat' split) <;> simp_all

@[simp] theorem timed_giveUpOwnership (s : State) (upto : Nat) : (giveUpOwnership s upto).timed = s.timed := by
  unfold giveUpOwnership; (repeat' split) <;> simp

@[simp] theorem timed_newStream (s : State) : (newStream s).timed = s.timed := by simp [newStream]

@[simp] theorem timed_compareGroup (s : State) (g : Nat) : (compareGroup s g).timed = s.timed := by
  unfold compareGroup; dsimp only; (repeat' split) <;> simp_all

@[simp] theorem timed_compareCrcs (s : State) : (compareCrcs s).timed = s.timed := by
  unfold compareCrcs; (repeat' split) <;> simp

@[simp] theorem timed_makeCrcs (s : State) : (makeCrcs s).timed = s.timed := by simp [makeCrcs]

@[simp] theorem timed_endMute (s : State) (g : Nat) (t : Nat) : (endMute s g t).timed = s.timed := by
  unfold endMute; (repeat' split) <;> simp

@[simp] theorem timed_endDiverge (s : State) (g : Nat) : (endDiverge s g).timed = s.timed := by
  unfold endDiverge; (repeat' split) <;> simp

@[simp] theorem timed_clearDiverge (s : State) : (clearDiverge s).timed = s.timed := by simp [clearDiverge]

@[simp] theorem timed_linkDown (s : State) : (linkDown s).timed = s.timed := by
  unfold linkDown; (repeat' split) <;> simp

@[simp] theorem timed_skewError (s : State) : (skewError s).timed = s.timed := by
  unfold skewError; (repeat' split) <;> simp

@[simp] theorem timed_partnerFell (s : State) : (partnerFell s).timed = s.timed := by
  unfold partnerFell; dsimp only; (repeat' split) <;> simp_all

@[simp] theorem timed_takeoverNotice (s : State) : (takeoverNotice s).timed = s.timed := by
  unfold takeoverNotice; (repeat' split) <;> simp

@[simp] theorem timed_detachAfter (s : State) (n : Nat) : (detachAfter s n).timed = s.timed := by
  unfold detachAfter; (repeat' split) <;> simp

@[simp] theorem timed_requestHandover (s : State) (h : Word) : (requestHandover s h).timed = s.timed := by
  unfold requestHandover; (repeat' split) <;> simp

@[simp] theorem timed_handoverGo (s : State) : (handoverGo s).timed = s.timed := by
  unfold handoverGo; (repeat' split) <;> simp

@[simp] theorem timed_plannedHandover (s : State) : (plannedHandover s).timed = s.timed := by
  unfold plannedHandover; (repeat' split) <;> simp

@[simp] theorem timed_twinLeave (s : State) : (twinLeave s).timed = s.timed := by
  unfold twinLeave; (repeat' split) <;> simp

@[simp] theorem timed_dropPromises (s : State) : (dropPromises s).timed = s.timed := by simp [dropPromises]

@[simp] theorem timed_joinRequest (s : State) (j : Nat) : (joinRequest s j).timed = s.timed := by
  unfold joinRequest; (repeat' split) <;> simp

@[simp] theorem timed_showOversize (s : State) : (showOversize s).timed = s.timed := by simp [showOversize]

@[simp] theorem timed_markEqual (s : State) (es : List Nat) : (markEqual s es).timed = s.timed := by
  simp [markEqual]

@[simp] theorem timed_equalize (s : State) : (equalize s).timed = s.timed := by
  unfold equalize; apply timed_foldl; intro s r; dsimp only; split <;> simp

@[simp] theorem timed_chooseCopy (s : State) : (chooseCopy s).timed = s.timed := by simp [chooseCopy]

@[simp] theorem timed_becomeRipe (s : State) : (becomeRipe s).timed = s.timed := by
  unfold becomeRipe; dsimp only; (repeat' split) <;> simp_all

@[simp] theorem timed_joinProgress (s : State) : (joinProgress s).timed = s.timed := by
  unfold joinProgress
  split
  · dsimp only
    rw [timed_becomeRipe, timed_State_setReg]
    split <;> simp
  · split
    · rfl
    · split <;> simp

@[simp] theorem timed_writeCopyWord (s : State) (w : CopyWord) : (writeCopyWord s w).timed = s.timed := by
  unfold writeCopyWord; (repeat' split) <;> simp

@[simp] theorem timed_releaseKept (s : State) : (releaseKept s).timed = s.timed := by
  unfold releaseKept; (repeat' split) <;> simp

/-! ### Machine/Load.lean -/

@[simp] theorem timed_showVerdict (s : State) (e : VErr) : (showVerdict s e).timed = s.timed := by
  simp [showVerdict]

@[simp] theorem timed_loadClock (s : State) : (loadClock s).timed = s.timed := by simp [loadClock]

@[simp] theorem timed_loadDomains (s : State) : (loadDomains s).timed = s.timed := by simp [loadDomains]

@[simp] theorem timed_loadEngine (s : State) (e : Nat) : (loadEngine s e).timed = s.timed := by
  unfold loadEngine; (repeat' split) <;> simp

@[simp] theorem timed_loadBank (s : State) (r : BankRec) : (loadBank s r).timed = s.timed := by
  simp [loadBank]

@[simp] theorem timed_loadPart (s : State) (r : PartRec) : (loadPart s r).timed = s.timed := by
  simp [loadPart]

@[simp] theorem timed_loadBlock (s : State) (r : BlockRec) : (loadBlock s r).timed = s.timed := by
  simp [loadBlock]

@[simp] theorem timed_startCells (s : State) (rs : List CellRec) : (startCells s rs).timed = s.timed := by
  simp [startCells]

@[simp] theorem timed_loadDma (s : State) : (loadDma s).timed = s.timed := by simp [loadDma]

@[simp] theorem timed_loadTwin (s : State) : (loadTwin s).timed = s.timed := by simp [loadTwin]

@[simp] theorem timed_loadThorn (s : State) : (loadThorn s).timed = s.timed := by simp [loadThorn]

@[simp] theorem timed_loadSessions (s : State) : (loadSessions s).timed = s.timed := by simp [loadSessions]

@[simp] theorem timed_loadParams (s : State) : (loadParams s).timed = s.timed := by simp [loadParams]

@[simp] theorem timed_loadFrame (s : State) : (loadFrame s).timed = s.timed := by unfold loadFrame; split <;> simp

@[simp] theorem timed_loadImage (s : State) : (loadImage s).timed = s.timed := by simp [loadImage]

@[simp] theorem timed_applyGenBlock (s : State) (x : Nat × Nat × List Word) : (applyGenBlock s x).timed = s.timed := by
  unfold applyGenBlock; (repeat' split) <;> simp

@[simp] theorem timed_applyGen (s : State) (n : Nat) : (applyGen s n).timed = s.timed := by simp [applyGen]

/-! ### Machine/Boot.lean -/

@[simp] theorem timed_countFail (s : State) : (countFail s).timed = s.timed := by simp [countFail]

@[simp] theorem timed_startCold (s : State) : (startCold s).timed = s.timed := by
  unfold startCold; (repeat' split) <;> simp

@[simp] theorem timed_endPhase (s : State) (n : Nat) : (endPhase s n).timed = s.timed := by simp [endPhase]

@[simp] theorem timed_lockBand (s : State) (band : Nat) : (lockBand s band).timed = s.timed := by
  simp [lockBand]

@[simp] theorem timed_refuseCtl (s : State) : (refuseCtl s).timed = s.timed := by simp [refuseCtl]

@[simp] theorem timed_stopProving (s : State) : (stopProving s).timed = s.timed := by simp [stopProving]

@[simp] theorem timed_confirmWrite (s : State) (path : Path) : (confirmWrite s path).timed = s.timed := by
  unfold confirmWrite; (repeat' split) <;> simp

@[simp] theorem timed_saveWrite (s : State) : (saveWrite s).timed = s.timed := by
  unfold saveWrite; (repeat' split) <;> simp

@[simp] theorem timed_saveStep (s : State) : (saveStep s).timed = s.timed := by
  unfold saveStep; (repeat' split) <;> simp

@[simp] theorem timed_slotActiveSet (s : State) (v : Nat) : (slotActiveSet s v).timed = s.timed := by
  unfold slotActiveSet; (repeat' split) <;> simp

@[simp] theorem timed_refuseOtp (s : State) : (refuseOtp s).timed = s.timed := by simp [refuseOtp]

@[simp] theorem timed_otpRead (s : State) (arg : Nat) : (otpRead s arg).timed = s.timed := by
  unfold otpRead; (repeat' split) <;> simp

@[simp] theorem timed_otpGo (s : State) (path : Path) : (otpGo s path).timed = s.timed := by
  unfold otpGo; dsimp only; (repeat' split) <;> simp_all

@[simp] theorem timed_otpCtlWrite (s : State) (path : Path) (v : Word) : (otpCtlWrite s path v).timed = s.timed := by
  unfold otpCtlWrite; (repeat' split) <;> simp

@[simp] theorem timed_otpAsk (s : State) (path : Path) (op : Nat) (arg : Nat) :
    (otpAsk s path op arg).timed = s.timed := by
  simp [otpAsk]

/-! ### Machine/Graft.lean -/

@[simp] theorem timed_espGo (s : State) (op : Nat) (slot : Nat) (part : Nat) :
    (espGo s op slot part).timed = s.timed := by
  unfold espGo; (repeat' split) <;> simp

@[simp] theorem timed_espCtlWrite (s : State) (v : Word) : (espCtlWrite s v).timed = s.timed := by
  unfold espCtlWrite; (repeat' split) <;> simp

@[simp] theorem timed_espEnd (s : State) (v : VErr) (passed : Bool) : (espEnd s v passed).timed = s.timed := by
  simp [espEnd]

@[simp] theorem timed_graftPending (s : State) (part : Nat) (g : GraftPassed) :
    (graftPending s part g).timed = s.timed := by
  unfold graftPending; dsimp only; (repeat' split) <;> simp_all

@[simp] theorem timed_graftItem (s : State) (part : Nat) (st : Nat) : (graftItem s part st).timed = s.timed := by
  unfold graftItem; (repeat' split) <;> simp

@[simp] theorem timed_takeImage (s : State) (p : Passed) : (takeImage s p).timed = s.timed := by
  simp [takeImage]

@[simp] theorem timed_slotUnread (s : State) : (slotUnread s).timed = s.timed := by simp [slotUnread]

@[simp] theorem timed_besideVerified (s : State) (o : EspOp) (flashErr : Option Nat) :
    (besideVerified s o flashErr).timed = s.timed := by
  unfold besideVerified; (repeat' split) <;> simp

@[simp] theorem timed_doGraftReset (s : State) (p : Nat) : (doGraftReset s p).timed = s.timed := by
  unfold doGraftReset; (repeat' split) <;> simp

@[simp] theorem timed_graftBlocks (s : State) (p : Nat) : (graftBlocks s p).timed = s.timed := by
  unfold graftBlocks; (repeat' split) <;> simp

@[simp] theorem timed_applyStructure (s : State) (p : Nat) (str : Structure) :
    (applyStructure s p str).timed = s.timed := by
  unfold applyStructure
  dsimp only
  rw [timed_showOversize]
  refine Eq.trans (timed_foldl _ ?_ _ _) ?_
  · intro t e; split <;> simp
  · simp

@[simp] theorem timed_doGraftDone (s : State) (p : Nat) : (doGraftDone s p).timed = s.timed := by
  unfold doGraftDone
  split
  · split
    · dsimp only
      rw [timed_State_setReg, timed_State_setFld]
      refine Eq.trans (timed_foldl _ (by intro t e; simp) _ _) ?_
      simp only [timed_cellsToTarget, timed_dropPartOp, timed_mk, timed_eta]
      split <;> simp
    · rfl
  · rfl

/-! ### Machine/Link.lean -/

@[simp] theorem timed_tookItem (s : State) (ctl : Nat) (u : Undo) : (tookItem s ctl u).timed = s.timed := by
  unfold tookItem; (repeat' split) <;> simp

@[simp] theorem timed_takeGroup (s : State) (ctl : Nat) (p : Nat) (who : SessId) (ta : Nat) (tick : Nat) (lease : Option (Nat × Nat)) (ents : List Entry) :
    (takeGroup s ctl p who ta tick lease ents).timed = s.timed := by
  simp [takeGroup]

@[simp] theorem timed_takeLease (s : State) (ctl : Nat) (i : Nat) (l : Lease) :
    (takeLease s ctl i l).timed = s.timed := by
  simp [takeLease]

@[simp] theorem timed_takePower (s : State) (c : Nat) (sleeping : Bool) (wakeAt : Nat) :
    (takePower s c sleeping wakeAt).timed = s.timed := by
  simp [takePower]

@[simp] theorem timed_stageAgain (s : State) (b : Option Nat) (g : Group) : (stageAgain s b g).timed = s.timed := by
  simp [stageAgain, apply_ite State.timed]

@[simp] theorem timed_writeParam (s : State) (b : Nat) (flip : Nat) (ws : List Word) :
    (writeParam s b flip ws).timed = s.timed := by
  simp [writeParam]

@[simp] theorem timed_flipParams (s : State) : (flipParams s).timed = s.timed := by simp [flipParams]

@[simp] theorem timed_writeParams (s : State) (n : Nat) (used : Store Nat) :
    (writeParams s n used).timed = s.timed := by
  induction n generalizing s used with
  | zero => rfl
  | succ n ih =>
    unfold writeParams
    split
    · rfl
    · dsimp only
      split
      · rw [ih]; simp
      · rfl

@[simp] theorem timed_takeInflight (s : State) (g : Group) : (takeInflight s g).timed = s.timed := by
  simp [takeInflight]

@[simp] theorem timed_takeReset (s : State) (ctl : Nat) (p : Nat) (r : Nat) :
    (takeReset s ctl p r).timed = s.timed := by
  unfold takeReset; (repeat' split) <;> simp

@[simp] theorem timed_relayedReset (s : State) (p : Nat) : (relayedReset s p).timed = s.timed := by
  unfold relayedReset; (repeat' split) <;> simp

@[simp] theorem timed_linkItem (s : State) (x1 : CtlItem) : (linkItem s x1).timed = s.timed := by
  unfold linkItem; (repeat' split) <;> simp

@[simp] theorem timed_heartbeat (s : State) (f : LinkFrame) : (heartbeat s f).timed = s.timed := by
  simp [heartbeat]

@[simp] theorem timed_showImage (s : State) (f : LinkFrame) : (showImage s f).timed = s.timed := by
  simp [showImage]

@[simp] theorem timed_checkTick (s : State) (f : LinkFrame) : (checkTick s f).timed = s.timed := by
  unfold checkTick; (repeat' split) <;> simp

@[simp] theorem timed_dropAcked (s : State) (n : Nat) : (dropAcked s n).timed = s.timed := by simp [dropAcked]

@[simp] theorem timed_takeShared (s : State) (f : LinkFrame) : (takeShared s f).timed = s.timed := by
  unfold takeShared; (repeat' split) <;> simp

@[simp] theorem timed_takeItems (s : State) (f : LinkFrame) : (takeItems s f).timed = s.timed := by
  unfold takeItems; (repeat' split) <;> simp

@[simp] theorem timed_linkBody (s : State) (f : LinkFrame) : (linkBody s f).timed = s.timed := by
  unfold linkBody; dsimp only; (repeat' split) <;> simp_all

@[simp] theorem timed_roleClash (s : State) : (roleClash s).timed = s.timed := by
  unfold roleClash; (repeat' split) <;> simp

@[simp] theorem timed_loadAnswer (s : State) : (loadAnswer s).timed = s.timed := by
  unfold loadAnswer; (repeat' split) <;> simp

@[simp] theorem timed_linkFrame (s : State) (f : LinkFrame) : (linkFrame s f).timed = s.timed := by
  unfold linkFrame; dsimp only; (repeat' split) <;> simp_all

@[simp] theorem timed_bulkShare (s : State) (room : Nat) : (bulkShare s room).1.timed = s.timed := by
  unfold bulkShare; dsimp only; (repeat' split) <;> simp_all

@[simp] theorem timed_formFrame (s : State) : (formFrame s).timed = s.timed := by
  unfold formFrame; dsimp only; (repeat' split) <;> simp_all

@[simp] theorem timed_shareNet (s : State) (words : Store Word) : (shareNet s words).timed = s.timed := by
  unfold shareNet; (repeat' split) <;> simp

/-! ### Machine/Session.lean -/

@[simp] theorem timed_unmask (s : State) (v : Nat) : (unmask s v).timed = s.timed := by
  unfold unmask; dsimp only; (repeat' split) <;> simp_all

@[simp] theorem timed_dbSv (s : State) (path : Path) : (dbSv s path).timed = s.timed := by
  unfold dbSv; (repeat' split) <;> simp

@[simp] theorem timed_dbHost (s : State) : (dbHost s).timed = s.timed := by
  unfold dbHost; (repeat' split) <;> simp

@[simp] theorem timed_dbLb (s : State) : (dbLb s).timed = s.timed := by simp [dbLb]

@[simp] theorem timed_State_setPage (s : State) (p : Nat) (x : Page) : (State.setPage s p x).timed = s.timed := by
  simp [State.setPage]

@[simp] theorem timed_pageCtl (s : State) (p : Nat) (en : Bool) (irq : Bool) (rx : Nat) (tx : Nat) :
    (pageCtl s p en irq rx tx).timed = s.timed := by
  unfold pageCtl; dsimp only; (repeat' split) <;> simp_all

@[simp] theorem timed_txTailWrite (s : State) (p : Nat) (v : Word) : (txTailWrite s p v).timed = s.timed := by
  unfold txTailWrite; (repeat' split) <;> simp

theorem timed_ringPut (s t : State) (p : Nat) (b : List Byte) (h : ringPut s p b = some t) : t.timed = s.timed := by
  unfold ringPut at h
  dsimp only at h
  (repeat' split at h) <;> first | (cases h; simp) | cases h

@[simp] theorem timed_answerPut (s : State) (p : Nat) : (answerPut s p).timed = s.timed := by
  unfold answerPut
  split
  · rfl
  · split
    · rfl
    · split
      · rfl
      · rename_i h
        dsimp only
        split <;> simp [timed_ringPut _ _ _ _ h]

@[simp] theorem timed_ringTake (s : State) (p : Nat) (b : List Byte) : (ringTake s p b).1.timed = s.timed := by
  unfold ringTake; dsimp only; (repeat' split) <;> simp_all

@[simp] theorem timed_frameTake (s : State) (x1 : AudonSrc) : (frameTake s x1).1.timed = s.timed := by
  unfold frameTake; (repeat' split) <;> simp

@[simp] theorem timed_authFail (s : State) : (authFail s).timed = s.timed := by simp [authFail]

@[simp] theorem timed_showSes (s : State) (p : Nat) : (showSes s p).timed = s.timed := by simp [showSes]

@[simp] theorem timed_openArrives (s : State) (f : Inbound) : (openArrives s f).timed = s.timed := by
  unfold openArrives; (repeat' split) <;> simp

@[simp] theorem timed_sendOpen (s : State) (a : Answer) : (sendOpen s a).timed = s.timed := by
  unfold sendOpen; (repeat' split) <;> simp

@[simp] theorem timed_openDecide (s : State) : (openDecide s).timed = s.timed := by
  unfold openDecide; dsimp only; (repeat' split) <;> simp_all

@[simp] theorem timed_serveBody (s : State) (n : Nat) (b : List Byte) : (serveBody s n b).timed = s.timed := by
  unfold serveBody; (repeat' split) <;> simp

@[simp] theorem timed_reqAccepted (s : State) (n : Nat) (e : Session) (f : Inbound) (q : Nat) :
    (reqAccepted s n e f q).timed = s.timed := by
  unfold reqAccepted; (repeat' split) <;> simp

@[simp] theorem timed_reqArrives (s : State) (f : Inbound) : (reqArrives s f).timed = s.timed := by
  unfold reqArrives; dsimp only; (repeat' split) <;> simp_all

@[simp] theorem timed_endSessions (s : State) : (endSessions s).timed = s.timed := by simp [endSessions]

@[simp] theorem timed_clearSesCounts (s : State) : (clearSesCounts s).timed = s.timed := by
  simp [clearSesCounts]

@[simp] theorem timed_keyGo (s : State) : (keyGo s).timed = s.timed := by
  unfold keyGo; (repeat' split) <;> simp

@[simp] theorem timed_keyCtlWrite (s : State) (path : Path) (v : Word) : (keyCtlWrite s path v).timed = s.timed := by
  unfold keyCtlWrite; dsimp only; (repeat' split) <;> simp

/-! ### Machine/Control.lean -/

@[simp] theorem timed_plainWrite (s : State) (a : Nat) (v : Word) : (plainWrite s a v).timed = s.timed := by
  unfold plainWrite; (repeat' split) <;> simp

@[simp] theorem timed_freshWord (s : State) : (freshWord s).1.timed = s.timed := by simp [freshWord]

@[simp] theorem timed_eccRead (ecc : Ecc) (r : State × Word) : (eccRead ecc r).1.timed = r.1.timed := by
  unfold eccRead; split <;> simp

@[simp] theorem timed_mbxPut (s : State) (w : Nat) (v : Word) (be : BitVec 4) : (mbxPut s w v be).timed = s.timed := by simp [mbxPut]

@[simp] theorem timed_mbxWrite (s : State) (path : Path) (w : Nat) (v : Word) (be : BitVec 4) (ecc : Ecc) :
    (mbxWrite s path w v be ecc).timed = s.timed := by
  unfold mbxWrite; (repeat' split) <;> simp

@[simp] theorem timed_collide (s : State) (w : Nat) (kind : Nat) : (collide s w kind).timed = s.timed := by
  simp [collide]

@[simp] theorem timed_showRead (s : State) (path : Path) (v : Word) : (showRead s path v).timed = s.timed := by
  simp [showRead]

@[simp] theorem timed_lbMeets (s : State) (w : Nat) (write : Bool) (x1 : LbMeet) :
    (lbMeets s w write x1).timed = s.timed := by
  cases x1 <;> simp only [lbMeets] <;> (repeat' split) <;> simp

@[simp] theorem timed_lbMbxWrite (s : State) (w : Nat) (v : Word) (be : BitVec 4) (m : LbMeet) :
    (lbMbxWrite s w v be m).timed = s.timed := by
  unfold lbMbxWrite; (repeat' split) <;> simp

@[simp] theorem timed_lbMbxRead (s : State) (w : Nat) (m : LbMeet) : (lbMbxRead s w m).1.timed = s.timed := by
  cases m <;> simp [lbMbxRead]

@[simp] theorem timed_paramRead (s : State) (o : Nat) : (paramRead s o).1.timed = s.timed := by
  unfold paramRead; (repeat' split) <;> simp

@[simp] theorem timed_paramWrite (s : State) (o : Nat) (f : Word → Word) : (paramWrite s o f).timed = s.timed := by
  unfold paramWrite; (repeat' split) <;> simp

@[simp] theorem timed_flashCmdWrite (s : State) (c : Nat) (v : Word) : (flashCmdWrite s c v).timed = s.timed := by
  unfold flashCmdWrite; (repeat' split) <;> simp

@[simp] theorem timed_clkWrite (s : State) (path : Path) (a : Nat) (v : Word) :
    (clkWrite s path a v).timed = s.timed := by
  unfold clkWrite; (repeat' split) <;> simp

@[simp] theorem timed_pwrWrite (s : State) (a : Nat) (v : Word) : (pwrWrite s a v).timed = s.timed := by
  unfold pwrWrite; (repeat' split) <;> simp

@[simp] theorem timed_monWrite (s : State) (a : Nat) (v : Word) : (monWrite s a v).timed = s.timed := by
  unfold monWrite; (repeat' split) <;> simp

@[simp] theorem timed_cmtWrite (s : State) (a : Nat) (v : Word) : (cmtWrite s a v).timed = s.timed := by
  unfold cmtWrite; (repeat' split) <;> simp

@[simp] theorem timed_twnCtlWrite (s : State) (v : Word) : (twnCtlWrite s v).timed = s.timed := by
  unfold twnCtlWrite; (repeat' split) <;> simp

@[simp] theorem timed_restartMask (s : State) (mask : Word) : (restartMask s mask).timed = s.timed := by
  simp [restartMask, apply_ite State.timed]

@[simp] theorem timed_chanWrite (s : State) (n : Nat) (o : Nat) (a : Nat) (v : Word) :
    (chanWrite s n o a v).timed = s.timed := by
  unfold chanWrite; (repeat' split) <;> simp

@[simp] theorem timed_dmaWrite (s : State) (path : Path) (a : Nat) (v : Word) :
    (dmaWrite s path a v).timed = s.timed := by
  unfold dmaWrite; (repeat' split) <;> simp

@[simp] theorem timed_portWrite (s : State) (a : Nat) (v : Word) : (portWrite s a v).timed = s.timed := by
  unfold portWrite; (repeat' split) <;> simp

@[simp] theorem timed_strCmdWrite (s : State) (v : Word) : (strCmdWrite s v).timed = s.timed := by
  unfold strCmdWrite; (repeat' split) <;> simp

@[simp] theorem timed_strwWrite (s : State) (w : Nat) (v : Word) : (strwWrite s w v).timed = s.timed := by
  unfold strwWrite; (repeat' split) <;> simp

@[simp] theorem timed_netWrite (s : State) (a : Nat) (v : Word) : (netWrite s a v).timed = s.timed := by
  unfold netWrite; (repeat' split) <;> simp

@[simp] theorem timed_memWrite (s : State) (path : Path) (a : Nat) (v : Word) :
    (memWrite s path a v).timed = s.timed := by
  unfold memWrite; (repeat' split) <;> simp

@[simp] theorem timed_mbxDbWrite (s : State) (path : Path) (v : Word) : (mbxDbWrite s path v).timed = s.timed := by
  unfold mbxDbWrite; (repeat' split) <;> simp

@[simp] theorem timed_filtWrite (s : State) (i : Nat) (v : Word) : (filtWrite s i v).timed = s.timed := by
  simp [filtWrite]

@[simp] theorem timed_setSelWin (s : State) (w : HostWin) : (setSelWin s w).timed = s.timed := by
  simp [setSelWin]

@[simp] theorem timed_mbxBlockWrite (s : State) (path : Path) (a : Nat) (v : Word) :
    (mbxBlockWrite s path a v).timed = s.timed := by
  unfold mbxBlockWrite; (repeat' split) <;> simp

@[simp] theorem timed_engWrite (s : State) (c : Nat) (o : Nat) (a : Nat) (v : Word) :
    (engWrite s c o a v).timed = s.timed := by
  unfold engWrite; (repeat' split) <;> simp

@[simp] theorem timed_regRead (s : State) (path : Path) (a : Nat) : (regRead s path a).1.timed = s.timed := by
  unfold regRead; (repeat' split) <;> simp

@[simp] theorem timed_ctlRead (s : State) (path : Path) (a : Nat) (ecc : Ecc) : (ctlRead s path a ecc).1.timed = s.timed := by
  unfold ctlRead; dsimp only; (repeat' split) <;> simp_all

@[simp] theorem timed_pageWrite (s : State) (p : Nat) (o : Nat) (v : Word) : (pageWrite s p o v).timed = s.timed := by
  unfold pageWrite; dsimp only; (repeat' split) <;> simp_all

@[simp] theorem timed_bar2Write (s : State) (p : Nat) (o : Nat) (v : Word) (be : BitVec 4) :
    (bar2Write s p o v be).timed = s.timed := by
  unfold bar2Write; (repeat' split) <;> simp

@[simp] theorem timed_bar4Write (s : State) (n : Nat) (dw : Nat) (v : Word) : (bar4Write s n dw v).timed = s.timed := by
  unfold bar4Write; (repeat' split) <;> simp

@[simp] theorem timed_lbStep (s : State) : (lbStep s).timed = s.timed := by
  unfold lbStep; (repeat' split) <;> simp

@[simp] theorem timed_lbFresh (s : State) : (lbFresh s).timed = s.timed := by simp [lbFresh]

@[simp] theorem timed_lbLoRead (s : State) (m : LbMeet) : (lbLoRead s m).timed = s.timed := by
  unfold lbLoRead; dsimp only; (repeat' split) <;> simp_all

@[simp] theorem timed_lbHiRead (s : State) : (lbHiRead s).timed = s.timed := by simp [lbHiRead]

@[simp] theorem timed_lbLoWrite (s : State) (v : Half) : (lbLoWrite s v).timed = s.timed := by
  simp [lbLoWrite]

@[simp] theorem timed_lbWindowWrite (s : State) (loc : Nat) (v : Half) (m : LbMeet) :
    (lbWindowWrite s loc v m).timed = s.timed := by
  unfold lbWindowWrite; dsimp only; (repeat' split) <;> simp_all

/-! ### Machine/Sv.lean -/

@[simp] theorem timed_onCore (c : Nat) (f : SvCore → SvCore) (s : State) : (onCore c f s).timed = s.timed := by
  simp [onCore]

@[simp] theorem timed_cwinLowRead (s : State) (c : Nat) (a : Nat) : (cwinLowRead s c a).1.timed = s.timed := by
  simp [cwinLowRead]

@[simp] theorem timed_cwinLowWrite (s : State) (c : Nat) (v : Half) : (cwinLowWrite s c v).timed = s.timed := by
  simp [cwinLowWrite]

@[simp] theorem timed_badAddr (s : State) : (badAddr s).timed = s.timed := by simp [badAddr]

@[simp] theorem timed_svRead (s : State) (c : Nat) (a : Nat) : (svRead s c a).1.timed = s.timed := by
  unfold svRead; (repeat' split) <;> simp

@[simp] theorem timed_svEcc (s : State) (c : Nat) (a : Nat) (x1 : Ecc) : (svEcc s c a x1).timed = s.timed := by
  unfold svEcc; (repeat' split) <;> simp

@[simp] theorem timed_svFetchEcc (s : State) (c : Fin 2) (ecc : Ecc) : (svFetchEcc s c ecc).timed = s.timed := by
  unfold svFetchEcc; (repeat' split) <;> simp

/-! ### Machine/Boundary.lean -/

@[simp] theorem timed_writeLine (s : State) (r : LineRec) : (writeLine s r).timed = s.timed := by
  unfold writeLine; (repeat' split) <;> simp

@[simp] theorem timed_ageLine (s : State) (r : LineRec) : (ageLine s r).timed = s.timed := by
  simp [ageLine]

@[simp] theorem timed_writeLines (s : State) : (writeLines s).timed = s.timed := by simp [writeLines]

@[simp] theorem timed_moveBurst (s : State) (r : LineRec) (lag : Nat) : (moveBurst s r lag).timed = s.timed := by
  simp [moveBurst]

@[simp] theorem timed_burstRead (s : State) (used : Store Nat) (ch : Nat) (f : BurstFinding) (b : BadBurst) :
    (burstRead s used ch f b).1.timed = s.timed := by
  unfold burstRead; dsimp only; (repeat' split) <;> simp_all

@[simp] theorem timed_dauItem (c : Nat) (fs : List BurstFinding) (x : State × Store Nat) (i : Nat × Nat) :
    (dauItem c fs x i).1.timed = x.1.timed := by
  unfold dauItem; dsimp only; (repeat' split) <;> simp

@[simp] theorem timed_dauCluster (fs : List BurstFinding) (x : State × Store Nat) (c : Nat) :
    (dauCluster fs x c).1.timed = x.1.timed := by
  unfold dauCluster
  split
  · rfl
  · split
    · rfl
    · exact timed_foldPair _ (by intro x a; simp) _ _

@[simp] theorem timed_runDau (s : State) (fs : List BurstFinding) : (runDau s fs).timed = s.timed := by
  unfold runDau
  exact timed_foldPair _ (by intro x a; simp) _ _

@[simp] theorem timed_linkPins (s : State) (p : TickPins) : (linkPins s p).timed = s.timed := by
  unfold linkPins; (repeat' split) <;> simp

@[simp] theorem timed_takeMeasures (s : State) (p : TickPins) (join : Bool) : (takeMeasures s p join).timed = s.timed := by
  unfold takeMeasures; dsimp only; (repeat' split) <;> simp_all

@[simp] theorem timed_newTick (s : State) : (newTick s).timed = s.timed := by simp [newTick]

@[simp] theorem timed_splitPair (s : State) : (splitPair s).timed = s.timed := by
  unfold splitPair; dsimp only; (repeat' split) <;> simp_all

@[simp] theorem timed_changeOwner (s : State) : (changeOwner s).timed = s.timed := by
  unfold changeOwner; dsimp only; (repeat' split) <;> simp_all

@[simp] theorem timed_ownership (s : State) : (ownership s).timed = s.timed := by simp [ownership]

@[simp] theorem timed_releaseFloat (s : State) : (releaseFloat s).timed = s.timed := by
  unfold releaseFloat; (repeat' split) <;> simp

@[simp] theorem timed_breakPeers (s : State) (all : Bool) : (breakPeers s all).timed = s.timed := by
  simp [breakPeers]

@[simp] theorem timed_breaksAndResets (s : State) (peers : Bool) : (breaksAndResets s peers).timed = s.timed := by
  simp [breaksAndResets]

@[simp] theorem timed_flipStep (s : State) : (flipStep s).timed = s.timed := by simp [flipStep]

@[simp] theorem timed_gainStep (s : State) : (gainStep s).timed = s.timed := by simp [gainStep]

@[simp] theorem timed_startWindows (s : State) : (startWindows s).timed = s.timed := by
  simp [startWindows, apply_ite State.timed]

@[simp] theorem timed_windowStep (s : State) : (windowStep s).timed = s.timed := by
  unfold windowStep; dsimp only; (repeat' split) <;> simp_all

@[simp] theorem timed_windowWrites (s : State) : (windowWrites s).timed = s.timed := by simp [windowWrites]

@[simp] theorem timed_joinSnapshot (s : State) (j : Nat) : (joinSnapshot s j).timed = s.timed := by
  simp [joinSnapshot]

@[simp] theorem timed_joinPairs (s : State) (j : Nat) : (joinPairs s j).timed = s.timed := by simp [joinPairs]

@[simp] theorem timed_paramShare (s : State) : (paramShare s).timed = s.timed := by
  unfold paramShare; (repeat' split) <;> simp

@[simp] theorem timed_ownerJoin (s : State) : (ownerJoin s).timed = s.timed := by
  unfold ownerJoin; (repeat' split) <;> simp

@[simp] theorem timed_originStep (s : State) : (originStep s).timed = s.timed := by
  unfold originStep; dsimp only; (repeat' split) <;> simp_all

@[simp] theorem timed_countMs (s : State) : (countMs s).timed = s.timed := by
  unfold countMs; dsimp only; (repeat' split) <;> simp_all

@[simp] theorem timed_pairChecks (s : State) : (pairChecks s).timed = s.timed := by simp [pairChecks]

@[simp] theorem timed_boundarySteps (s : State) (peers : Bool) : (boundarySteps s peers).timed = s.timed := by
  simp [boundarySteps]

@[simp] theorem timed_boundaryRest (s : State) (p : TickPins) : (boundaryRest s p).timed = s.timed := by
  unfold boundaryRest; dsimp only; (repeat' split) <;> simp_all

@[simp] theorem timed_startRole (s : State) (k : StartKind) : (startRole s k).timed = s.timed := by
  unfold startRole; (repeat' split) <;> simp

/-! ### Machine/EngineA.lean -/

@[simp] theorem timed_aOp (e : EngNo) (i : Instr) (f : Engine → List Eff) (s : State) :
    (aOp e i f s).timed = s.timed := by
  simp [aOp]

@[simp] theorem timed_longOp (e : EngNo) (i : Instr) (d : Nat) (f : Engine → List Eff) (s : State) :
    (longOp e i d f s).timed = s.timed := by
  simp [longOp]

@[simp] theorem timed_aTwo (f : Word → Word → Word) (e : EngNo) (i : Instr) (vd : VNo) (vs : VNo) (s : State) :
    (aTwo f e i vd vs s).timed = s.timed := by
  simp [aTwo]

@[simp] theorem timed_aTwoSat (f : Int → Int → Int) (e : EngNo) (i : Instr) (vd : VNo) (vs : VNo) (s : State) :
    (aTwoSat f e i vd vs s).timed = s.timed := by
  simp [aTwoSat]

@[simp] theorem timed_aOne (f : Word → Word) (e : EngNo) (i : Instr) (vd : VNo) (s : State) :
    (aOne f e i vd s).timed = s.timed := by
  simp [aOne]

@[simp] theorem timed_aOneSat (f : Word → Int) (e : EngNo) (i : Instr) (vd : VNo) (s : State) :
    (aOneSat f e i vd s).timed = s.timed := by
  simp [aOneSat]

/-! ### Machine/EngineL.lean -/

/-! ### The first fetches (Machine/Boundary.lean) -/

/-- No injection of an uncorrectable fetch is armed in cluster `c` (R70). -/
def fetchUnarmed (s : State) (c : Nat) : Prop := s.fld (Reg.ENG_FINJ_arm c) = 0 ∨ s.fld (Reg.ENG_FINJ_kind c) ≠ 5

theorem fetchUnarmed_setFld (s : State) (f : Fld) (v c : Nat) (h : f.lo + f.w ≤ 32)
    (ha : f.addr ≠ Reg.ENG_FINJ c) (hs : fetchUnarmed s c) : fetchUnarmed (s.setFld f v) c := by
  unfold fetchUnarmed at *
  rw [fld_setFld_other _ _ _ _ h (Or.inl (Ne.symm ha)), fld_setFld_other _ _ _ _ h (Or.inl (Ne.symm ha))]; exact hs

theorem fetchUnarmed_correctedError (s : State) (e c : Nat) (hs : fetchUnarmed s c) :
    fetchUnarmed (correctedError s e false) c := by
  simp only [correctedError, State.satInc, Bool.false_eq_true, if_false]
  refine fetchUnarmed_setFld _ _ _ _ (by simp [Reg.ENG_FLAGS_ce])
    (by simp only [Reg.ENG_FLAGS_ce, Reg.ENG_FLAGS, Reg.ENG_FINJ]; omega) ?_
  split
  · exact fetchUnarmed_setFld _ _ _ _ (by simp [Reg.ENG_ECC_CNT_ce_prog])
      (by simp only [Reg.ENG_ECC_CNT_ce_prog, Reg.ENG_ECC_CNT, Reg.ENG_FINJ]; omega) hs
  · exact hs

theorem fetchUnarmed_disarm (s : State) (e c : Nat) (hs : fetchUnarmed s c) : fetchUnarmed (disarm s e) c := by
  unfold fetchUnarmed disarm at *
  by_cases h : c = e / 16
  · subst h; left; rw [fld_setFld_self _ _ _ (by simp [Reg.ENG_FINJ_arm])]; simp
  · have ha : ∀ g : Fld, g.addr = Reg.ENG_FINJ c → g.addr ≠ (Reg.ENG_FINJ_arm (e / 16)).addr := by
      intro g hg; rw [hg]; simp only [Reg.ENG_FINJ_arm, Reg.ENG_FINJ]; omega
    rw [fld_setFld_other _ _ _ _ (by simp [Reg.ENG_FINJ_arm]) (Or.inl (ha _ rfl)),
      fld_setFld_other _ _ _ _ (by simp [Reg.ENG_FINJ_arm]) (Or.inl (ha _ rfl))]
    exact hs

/-- A fetch that finds nothing uncorrectable keeps the tick, and arms nothing. -/
theorem timed_openCycle (s : State) (e : Nat) (f : Fetch) (hf : ∀ u, f ≠ .bad u) (hs : fetchUnarmed s (e / 16)) :
    (openCycle s e f).timed = s.timed ∧ ∀ c, fetchUnarmed s c → fetchUnarmed (openCycle s e f) c := by
  have hx : (fetchFinding s e f).timed = s.timed ∧ ∀ c, fetchUnarmed s c → fetchUnarmed (fetchFinding s e f) c := by
    cases f with
    | clean => exact ⟨rfl, fun _ h => h⟩
    | corrected => exact ⟨by simp [fetchFinding], fun c h => fetchUnarmed_correctedError s e c h⟩
    | bad u => exact absurd rfl (hf u)
  have h5 : armedKind (fetchFinding s e f) e ≠ 5 := by
    have := hx.2 _ hs
    unfold armedKind; dsimp only
    split
    · rename_i h
      rcases this with h' | h'
      · omega
      · exact h'
    · omega
  unfold openCycle fetchWord
  split
  · dsimp only
    split
    · exact ⟨by simp [disarm, hx.1], fun c h => fetchUnarmed_correctedError _ _ _ (fetchUnarmed_disarm _ _ _ (hx.2 c h))⟩
    · exact hx
  · exact ⟨rfl, fun _ h => h⟩

theorem fetchOf_clean (fs : List (Nat × Fetch)) (h : ∀ x ∈ fs, ∀ u, x.2 ≠ .bad u) (e : Nat) (u : Bool) :
    fetchOf fs e ≠ .bad u := by
  unfold fetchOf
  cases hx : fs.find? (fun f => f.1 == e) with
  | none => simp
  | some x => simpa using h x (List.mem_of_find?_eq_some hx) u

/-- The first fetches of a tick keep it, where none finds an uncorrectable word and none is armed (R39). -/
theorem timed_fetchFirst (s : State) (fs : List (Nat × Fetch)) (hf : ∀ x ∈ fs, ∀ u, x.2 ≠ .bad u)
    (hs : ∀ p ∈ s.str.progs, fetchUnarmed s (p.engine / 16)) : (fetchFirst s fs).timed = s.timed := by
  unfold fetchFirst
  generalize s.str.progs = l at hs
  induction l generalizing s with
  | nil => rfl
  | cons p l ih =>
    have h := timed_openCycle s p.engine (fetchOf fs p.engine) (fetchOf_clean fs hf _) (hs p List.mem_cons_self)
    rw [List.foldl_cons, ih _ (fun q hq => h.2 _ (hs q (List.mem_cons_of_mem _ hq))), h.1]

/-- The work of a boundary keeps the tick, where the first fetches find nothing uncorrectable (R39). -/
theorem timed_boundaryWork (s : State) (p : TickPins) (peers : Bool) (hf : ∀ x ∈ p.fetch, ∀ u, x.2 ≠ .bad u)
    (hs : ∀ q ∈ (boundarySteps s peers).str.progs, fetchUnarmed (boundarySteps s peers) (q.engine / 16)) :
    (boundaryWork s p peers).timed = s.timed := by
  simp [boundaryWork, timed_fetchFirst _ _ hf hs]

end Sys2Proof.Machine
end

