-- ==== Sys2Proof/Tests/Slice0.lean ====
section
/-!
SUPPORT. Tests/Slice0.lean: the worked examples of the spec as named theorems, the smoke test of WellFormed, and for every
statement with hypotheses a theorem that shows a state and operands which meet them.
-/

namespace Sys2Proof.Machine

set_option Elab.async false

/-- Engine 0 in RUN with its program window open. -/
def runningEngine : State := (State.reset.setEngState 0 engRun).setEngine 0 { win := true }

/-- Engine `e` in RUN, the word at its program counter being `w`. -/
def issuing (e : Nat) (w : BitVec 64) : State :=
  (State.reset.setEngState e engRun).setEngine e { win := true, prog := [(0, w)] }

/-- The same with an injection of kind 4 armed on engine 0. -/
def armedEngine : State := ((runningEngine.setFld (Reg.ENG_FINJ_arm 0) 1).setFld (Reg.ENG_FINJ_kind 0) 4)

/-- Engine 15, a warden, in RUN with its program window open. -/
def runningWarden : State := (State.reset.setEngState 15 engRun).setEngine 15 { win := true }

/-- Engine 0 of partition 0 asks for gain cell 5 of its partition. -/
def cellAsker : State :=
  { runningEngine with
    eng := [(0, { win := true, prog := [(0, 0x60)], v := [(32, 0x80000005)] })],
    str := { cells := [{ cell := 5, partition := 0, tgtBlock := 0, tgtWord := 0, watchEngine := 0, watchWord := 0, timeoutMs := 0 }],
             progs := [{ engine := 0, partition := 0, sleepable := false, words := [], execCycles := 1, mCount := 0,
                         carried := [], handles := [] }] } }

/-- A tier-1 line lies in bank 0. -/
def lineHolder : State :=
  { State.reset with str := { lines := [{ cluster := 0, line := 0, tier := 1, partition := 1, writer := 0, preload := 0,
                                          srcWord := 0, base := 0, lenM1 := 9, taps := [] }] } }

/-- A device in RUN with partition 1. -/
def onePartition : State :=
  ({ State.reset with
      str := { parts := [{ id := 1, graftable := true, maxSessions := 4, queueM1 := 3, share := 8, leaseQuota := 16, windows := [] }] } } :
    State).setBoot bootRun

/-- A device in LOAD whose phases `ps` have ended. -/
def loadPhases (ps : List Nat) : State := { State.reset.setBoot bootLoad with phases := ps }

/-- One of a pair of twins that both run. -/
def pairedTwin (owner : Nat) : State :=
  (((({ onePartition with str := { board := { twinMode := 1 } }, twin := { paired := true, partnerRipe := ripeRipe } } : State).setFld
    Reg.TWN_STAT_owner owner).setFld Reg.TWN_STAT_partner_alive 1).setReg Reg.TWN_HO_TICK 4)

/-- A device whose load has ended, so that every register is reached. -/
def loaded (s : State) : State := { s with phases := [1, 2, 3, 4, 5, 6] }

/-- The same in RIPENING. -/
def reached : State := loaded (State.reset.setBoot bootRipening)

/-- A twin without a partner whose link is aligned. -/
def freeTwin (owner boot : Nat) : State :=
  ((({ State.reset with str := { board := { twinMode := 1 } }, twin := { image := 0 } } : State).setFld Reg.TWN_STAT_owner owner).setFld
    Reg.TWN_LINK_aligned 1).setBoot boot

/-- The same, the set of engine 3 with its one carried K register being the one that this tick copies. -/
def copyingTwin : State :=
  let p : ProgRec := { engine := 3, partition := 1, sleepable := false, words := [], execCycles := 1, mCount := 0, carried := [69], handles := [] }
  let s := freeTwin 0 bootRipening
  { s with str := { s.str with progs := [p] }, twin := { s.twin with copyNow := [3] } }

/-- A routed output channel 0 of port 0 of a kind. -/
def outRoute (kind : Nat) : IoRec :=
  { num := 0, dir := 1, kind := kind, port := 0, channel := 0, partition := 1, engine := 0, word := 0, k := 1, wordBits := 24 }

/-- A device in RUN with partition 1, one block of it, and an open session on a doorbell page. -/
def openSession : State :=
  let b : BlockRec := { block := 3, partition := 1, holders := 0, engines := [], init := [] }
  let p : PartRec := { id := 1, graftable := true, maxSessions := 4, queueM1 := 3, share := 8, leaseQuota := 16, windows := [(0, 1)] }
  let e : Session := { part := 1, epoch := 1, bell := true, addr := 0, high := 0, seen := [], txSeq := 0, idle := 0, ending := false }
  ({ State.reset with str := { parts := [p], blocks := [b] }, sessions := [(5, e)] } : State).setBoot bootRun

/-- An OPEN_REQ of partition 1 under key 5 with key_id 7. -/
def openFrame : List Byte :=
  let h : List Byte := frameHeader 0 52 0xFFFF 1 0 ++ leBytes 4 7 ++ List.replicate 16 3
  h ++ gcmTag (roundKeys (keyReq ⟨5, 7, true⟩ ((h.drop 20).take 16) 1)) (frameNonce 0) h []

/-- A session of partition 1 over UDP. -/
def netSession : Session :=
  { part := 1, epoch := 1, bell := false, addr := 0, high := 0, seen := [], txSeq := 0, idle := 10000, ending := false }

/-- Its first frame, a PING. -/
def pingFrame : List Byte :=
  let c : List Byte := gcmText (keyOf 0) (frameNonce 1) [8, 0, 0, 0, 1, 2, 3, 4]
  let g : List Byte := frameHeader 2 40 5 1 1
  g ++ c ++ gcmTag (keyOf 0) (frameNonce 1) g c


/-! ### Witnesses: each shows what meets the hypotheses of the statement it names -/

/-! StepTakesTheFrontCommand -/

theorem witness_StepTakesTheFrontCommand : State.reset.pending = [] := rfl

/-! WellFormedCommandsAnswerANextState -/

theorem witness_WellFormedCommandsAnswerANextState :
    (Instr.lda 0 0 0 48).wellFormed = true ∧ (Instr.lda 0 0 0 49).wellFormed = false ∧ (Instr.rep 0 0).wellFormed = false := by
  decide +kernel

/-! CommandsLeaveTheQueueToTheStep -/

theorem witness_CommandsLeaveTheQueueToTheStep :
    exec .memCntClr State.reset = .next (gated State.reset Reg.MEM_CTL (clearMemCounts State.reset)) := rfl

/-! OtpIsProgrammedByItsOwnCommandAlone -/

theorem witness_OtpIsProgrammedByItsOwnCommandAlone :
    Instr.restart ≠ .otpProgramDone ∧ exec .memCntClr State.reset = .next (gated State.reset Reg.MEM_CTL (clearMemCounts State.reset)) := ⟨nofun, rfl⟩

/-! OtpIsNeverTakenBack -/

theorem witness_OtpIsNeverTakenBack :
    step { State.reset with pending := [.memCntClr] } = .next (gated State.reset Reg.MEM_CTL (clearMemCounts State.reset)) := rfl

/-! OtpStaysLegal -/

theorem witness_OtpStaysLegal : State.reset.otp.legal ∧
    step { State.reset with pending := [.memCntClr] } = .next (gated State.reset Reg.MEM_CTL (clearMemCounts State.reset)) :=
  ⟨⟨nofun, List.nodup_nil, nofun, List.nodup_nil, by decide, nofun, nofun, nofun, nofun⟩, rfl⟩

/-! RegistersHoldTheirTableValueAtReset -/

theorem witness_RegistersHoldTheirTableValueAtReset :
    State.reset.reg (Reg.CLK_OUT_DIV 7) = 1 ∧ State.reset.reg (Reg.ENG_STAT 7 15) = 4 ∧
      State.reset.reg (Reg.MEM_BANK_OWNER 383) = 0x40000000 ∧ State.reset.reg (Reg.MEM_BANK_PWR 383) = 0x22 ∧
      State.reset.reg (Reg.PWR_DOM_CTL 2) = 0x40000000 ∧ State.reset.reg (Reg.PWR_DOM_CTL 16) = 0x40000000 ∧
      State.reset.reg (Reg.PWR_DOM_CTL 1) = 0 ∧ State.reset.reg (Reg.CLK_OUT_DIV 8) = 0 := by
  decide +kernel

/-! TwoRegisterOperationsPutTheirTableResultInFlight -/

theorem witness_TwoRegisterOperationsPutTheirTableResultInFlight :
    ∀ x ∈ ([
      (0x20840000000, .add 0 1 2), (0x40840000000, .sub 0 1 2), (0xA0840000000, .mov 0 1 2),
      (0xC0840000000, .min_ 0 1 2), (0xE0840000000, .max_ 0 1 2), (0x100840000000, .and_ 0 1 2),
      (0x120840000000, .or_ 0 1 2), (0x140840000000, .xor_ 0 1 2), (0x160840000000, .sel 0 1 2),
      (0x180840000000, .clt 0 1 2), (0x1A0840000000, .cle 0 1 2), (0x60840000000, .adds 0 1 2),
      (0x80840000000, .subs 0 1 2), (0x1C0860000000, .shi 0 1 3), (0x1C0FE0000000, .shi 0 1 63),
      (0x1E0860000000, .sht 0 1 3), (0x1E0FE0000000, .sht 0 1 63)] :
      List (BitVec 64 × Instr)), slotFree (issuing 0 x.1) 0 x.2 [.a] = true := by decide +kernel

/-! UnaryOperationsPutTheirTableResultInFlight -/

theorem witness_UnaryOperationsPutTheirTableResultInFlight :
    ∀ x ∈ ([
      (0x860000000, .not_ 0 1), (0x820000000, .neg 0 1), (0x840000000, .abs 0 1), (0x880000000, .exp 0 1),
      (0x8A0000000, .norm 0 1), (0x900000000, .bxrd 0 1), (0xD80000000, .flgrd 0 1), (0xDC0000000, .rrbrd 0 1),
      (0xAE0000000, .bxs 0 1 7), (0xB60000000, .expa 0 1 3), (0xC60000000, .aprd 0 1 .lo 3),
      (0xCE0000000, .aprd 0 1 .mid 3), (0xD60000000, .aprd 0 1 .hi 3), (0x383420000000, .ext 0 3 1 40 false true),
      (0x383440000000, .ext 0 3 1 40 true false)] :
      List (BitVec 64 × Instr)), slotFree (issuing 0 x.1) 0 x.2 [.a] = true := by decide +kernel

/-! FlagExponentAccumulatorAndLongFormOperations -/

theorem witness_OperationsOnFlagsBlockExponentAndAccumulators :
    ∀ x ∈ ([
      (0x0, .nop 0), (0x8C0000000, .trk 0 1), (0xE0000000, .bxclr 0), (0x3E0000000, .aclr 0 3),
      (0xE60000000, .apwr 0 1 .lo 3), (0xEE0000000, .apwr 0 1 .mid 3), (0xF60000000, .apwr 0 1 .hi 3),
      (0x1FDA0000000, .flgclr 0 63), (0xFDE0000000, .rrbset 0 31), (0xF80000000, .rrbwr 0 1)] :
      List (BitVec 64 × Instr)), slotFree (issuing 0 x.1) 0 x.2 [.a] = true := by decide +kernel

theorem witness_LongFormsPutTheirImmediateOrMoveInFlight :
    ∀ x ∈ ([
      (0x17E8000280, .setk 0 9 5), (0x37E8000280, .setm 0 9 5), (0x57E8000280, .addk 0 9 5),
      (0x77E8000280, .addm 0 9 5), (0x87E2000280, .setvh 0 1 5), (0xA7E2000280, .setvl 0 1 5),
      (0xC7E2000280, .insl 0 1 5), (0xFFE0E00000, .lda 0 3 1 48), (0x10FE4100000, .movkv 0 false 9 1),
      (0x11FE4100000, .movkv 0 true 9 1), (0x12FE4100000, .movvk 0 false 9 1), (0x13FE4100000, .movvk 0 true 9 1)] :
      List (BitVec 64 × Instr)), slotFree (issuing 0 x.1) 0 x.2 [.a, .l0, .l1] = true := by decide +kernel

/-! FetchMarksIssuedSlotsAndClosedSlotsDoNothing -/

theorem witness_FetchMarksTheSlotsAndChangesNothingElse :
    (canIssue runningEngine 0 = true ∧ armedKind runningEngine 0 ≠ 4 ∧ armedKind runningEngine 0 ≠ 5) ∧
    (canIssue armedEngine 0 = true ∧ armedKind armedEngine 0 = 4) ∧ canIssue State.reset 0 = false ∧
    (let s := runningEngine.setEngine 0 { runningEngine.engine 0 with dead := true }
     (s.engine 0).dead = true) := by decide +kernel

theorem witness_SlotsThatCannotIssueDoNothing :
    (∀ x ∈ ([(.mpy 0 default, [.m]), (.mac 0 default, [.m]), (.msu 0 default, [.m]), (.add 0 0 0, [.a]), (.neg 0 0, [.a]),
      (.nop 0, [.a]), (.setk 0 0 0, [.a, .l0, .l1]), (.addm 0 0 0, [.a, .l0, .l1]), (.xnop 0, [.x]), (.xw 0 0, [.x]),
      (.endProg 0, [.x]), (.xr 0 0 .clean, [.x]), (.reqDelayTap 0 0 [], [.x]), (.reqGainCell 0 0, [.x]),
      (.ld 0 .l0 .plain 0 0 .clean, [.l0, .l1]), (.st 0 .l1 .circ 0 0, [.l1]), (.rot 0, [.x]), (.phase 0, [.x]),
      (.ext 0 0 0 0 true true, [.a]), (.lda 0 0 0 48, [.a, .l0, .l1]), (.movvk 0 true 0 0, [.a, .l0, .l1]),
      (.loop 0 false 0 0, [.a, .x])] : List (Instr × List Slot)), slotFree State.reset 0 x.1 x.2 = false) ∧
    slotFree State.reset 15 (.rep 15 0) [.a, .x] = false ∧ (15 : EngNo).val % 16 = 15 ∧ (48 : Fin 64).val ≤ 48 ∧
    canIssue State.reset 0 = false := by decide +kernel

/-! ResultsInFlightArriveAtTheirDistance -/

theorem witness_ResultsInFlightArriveAtTheirDistance :
    ((runningEngine.setEngine 0 { runningEngine.engine 0 with fly := [⟨1, .wrV .a 5 7⟩] }).engine 0).fly = [⟨1, .wrV .a 5 7⟩] ∧
    Slot.a ≠ Slot.m ∧ armedKind runningEngine 0 ≠ 5 := by decide +kernel

/-! QuadMultiplyAccumulateUpdatesItsAccumulators -/

theorem witness_QuadMultiplyAccumulateUpdatesItsAccumulators :
    (let o : MOp := ⟨true, false, false, 5, 2, 4, 0⟩
     slotFree (issuing 0 0x60A5000000000000) 0 (.mpy 0 o) [.m] = true ∧ slotFree (issuing 0 0xA0A5000000000000) 0 (.mac 0 o) [.m] = true ∧
     slotFree (issuing 0 0xE0A5000000000000) 0 (.msu 0 o) [.m] = true ∧ o.resBad = 0) ∧
    armedKind runningEngine 0 ≠ 1 := by decide +kernel

/-! LoadsAndStoresReachTheirWordAndMoveTheirPointer -/

theorem witness_LoadReadsItsWordAndMovesItsPointer :
    ∀ x ∈ ([
      (0x4580000, .ld 0 .l0 .plain 5 2 .clean, .l0), (0x8B00, .ld 0 .l1 .plain 5 2 .clean, .l1),
      (0x8580000, .ld 0 .l0 .post 5 2 .clean, .l0), (0x10B00, .ld 0 .l1 .post 5 2 .clean, .l1),
      (0xC580000, .ld 0 .l0 .circ 5 2 .clean, .l0), (0x18B00, .ld 0 .l1 .circ 5 2 .clean, .l1),
      (0x10580000, .ld 0 .l0 .offset 5 2 .clean, .l0), (0x20B00, .ld 0 .l1 .offset 5 2 .clean, .l1)] :
      List (BitVec 64 × Instr × LSlot)), lFree (issuing 0 x.1) 0 x.2.1 x.2.2 = true ∧ armedKind (issuing 0 x.1) 0 ≠ 2 ∧
      armedKind (issuing 0 x.1) 0 ≠ 3 := by decide +kernel

theorem witness_LoadMeetsInjectionsAndErrors :
    (∀ k ∈ [2, 3], let s := ((issuing 0 0x4580000).setFld (Reg.ENG_FINJ_arm 0) 1).setFld (Reg.ENG_FINJ_kind 0) k
      armedKind s 0 = k ∧ lFree s 0 (.ld 0 .l0 .plain 5 2 .clean) .l0 = true) ∧
    lFree (issuing 0 0x4580000) 0 (.ld 0 .l0 .plain 5 2 .corrected) .l0 = true ∧
    lFree (issuing 0 0x4580000) 0 (.ld 0 .l0 .plain 5 2 .uncorrectable) .l0 = true := by decide +kernel

theorem witness_StoreWritesOneWordOutsideTheParameterBlocks :
    ∀ x ∈ ([
      (0x14580000, .st 0 .l0 .plain 5 2, .l0), (0x28B00, .st 0 .l1 .plain 5 2, .l1),
      (0x18580000, .st 0 .l0 .post 5 2, .l0), (0x30B00, .st 0 .l1 .post 5 2, .l1),
      (0x1C580000, .st 0 .l0 .circ 5 2, .l0), (0x38B00, .st 0 .l1 .circ 5 2, .l1)] :
      List (BitVec 64 × Instr × LSlot)), lFree (issuing 0 x.1) 0 x.2.1 x.2.2 = true := by decide +kernel

/-! SequenceOperationsAskForTheirLoopPhaseOrEnd -/

theorem witness_SequenceOperationsAskForTheirLoopPhaseOrEnd :
    slotFree (issuing 0 0) 0 (.xnop 0) [.x] = true ∧ slotFree (issuing 0 1) 0 (.rot 0) [.x] = true ∧
    slotFree (issuing 0 2) 0 (.phase 0) [.x] = true ∧ slotFree (issuing 0 5) 0 (.endProg 0) [.x] = true ∧
    slotFree (issuing 0 0x3FFFE0000003) 0 (.loop 0 true 63 1023) [.a, .x] = true ∧
    (slotFree (issuing 15 0xFFFE0000004) 15 (.rep 15 32767) [.a, .x] = true ∧ (15 : EngNo).val % 16 = 15) ∧
    (0 : EngNo).val % 16 ≠ 15 := by decide +kernel

/-! ExchangePointersMoveAndRequestsReplaceTheirRegister -/

theorem witness_ExchangeReadsAndWritesMoveTheirPointers :
    slotFree (issuing 0 0x23) 0 (.xr 0 3 .clean) [.x] = true ∧ slotFree (issuing 0 0x23) 0 (.xr 0 3 .uncorrectable) [.x] = true ∧
    slotFree (issuing 0 0x43) 0 (.xw 0 3) [.x] = true := by decide +kernel

/-- Engine 0 asks for tap 0 of line 0, in the tier given. -/
def tapAsker (tier : Nat) : State :=
  { issuing 0 0x60 with
    str := { lines := [{ cluster := 0, line := 0, tier := tier, partition := 0, writer := 0, preload := 0, srcWord := 0,
                         base := 0, lenM1 := 9, taps := [⟨3, 0, 0, 0⟩] }],
             banks := [⟨⟨0x3FF, 0⟩, 0, 1, 0, 0, 1, 0⟩],
             progs := [{ engine := 0, partition := 0, sleepable := false, words := [], execCycles := 1, mCount := 0,
                         carried := [], handles := [(0, 0)] }] } }

theorem witness_RequestsReplaceTheirRegisterByTapOrGain :
    (∀ tier ∈ [1, 2], let s := tapAsker tier
      slotFree s 0 (.reqDelayTap 0 0 [.clean]) [.x] = true ∧ ((s.engine 0).rd 32).getLsbD 31 = false ∧
      (tapAsked (fetched s 0 [.x]) 0 0).map (fun a => (a.1.tier, a.1.cluster, a.2.2.2.1)) = some (tier, 0, 3 * 65536)) ∧
    (let b : BadBurst := { engine := 0, line := 0, tap := 0, pos := 0, got := [], reported := false }
     let s : State := { tapAsker 2 with badBursts := [b] }
     ∀ r ∈ s.str.lines, badBurst s 0 r 0 (linePos s r 3) = some b ∧
       badBurst (tapAsker 2) 0 r 0 (linePos (tapAsker 2) r 3) = none) ∧
    (let s := issuing 0 0x60
     slotFree s 0 (.reqDelayTap 0 0 []) [.x] = true ∧ tapAsked (fetched s 0 [.x]) 0 0 = none) ∧
    (slotFree cellAsker 0 (.reqGainCell 0 0) [.x] = true ∧ ((cellAsker.engine 0).rd 32).getLsbD 31 = true ∧
      bitsOf ((cellAsker.engine 0).rd 32) 12 19 = 0 ∧
      ((fetched cellAsker 0 [.x]).str.cells.find? (fun r => r.cell == 5)).map (·.partition) =
        (fetched cellAsker 0 [.x]).engPart 0) ∧
    (let s : State := { cellAsker with str := { cellAsker.str with progs := [] } }
     (fetched s 0 [.x]).engPart 0 ≠ some 0) := by decide +kernel

/-! EngineCycleCompletesWhatIsDueAndGoesOn -/

theorem witness_EngineCycleCompletesWhatIsDueAndGoesOn :
    canIssue runningEngine 0 = true ∧ sendHops runningEngine 0 = runningEngine ∧
    landHops runningEngine 0 = runningEngine ∧ armedKind runningEngine 0 ≠ 4 ∧ armedKind runningEngine 0 ≠ 5 := by decide +kernel

/-! FaultInjectionArmsAndFaultRecordsClear -/

theorem witness_FaultInjectionArmsAndFaultRecordsClear :
    (reaches reached (Reg.ENG_FAULT 7) = true ∧ reaches reached (Reg.ENG_FINJ 7) = true) ∧
    (1 ≤ (1 : Fin 8).val ∧ (1 : Fin 8).val ≤ 5) ∧ (1 ≤ (5 : Fin 8).val ∧ (5 : Fin 8).val ≤ 5) ∧
    bitsOf (0 : Word) 0 1 = 0 ∧ bitsOf (1 : Word) 1 3 = 0 := by decide +kernel

/-! BanksChangeOwnerAndPowerByTheirTables -/

theorem witness_BankOwnershipFollowsTheTransferTable :
    (Path.sv0 = .sv0 ∧ bitsOf (0x01020000 : Word) 24 1 = 1 ∧ reaches reached (Reg.MEM_BANK_OWNER 383) = true) ∧
    handoverOk (({ reached with str := { xfers := [{ bank := 3, fromP := 0x100, toP := 2 }] } } : State).setFld
      (Reg.MEM_BANK_PWR_state 3) 0) 3 2 = true ∧
    handoverOk reached 3 2 = false ∧
    (let s := State.reset.setFld (Reg.MEM_BANK_OWNER_state 3) 1
     s.fld (Reg.MEM_BANK_OWNER_state 3) = 1 ∧ s.bankOwned.contains 3 = false) := by decide +kernel

theorem witness_BankPowerKeepsOrLosesTheWords :
    (reaches reached (Reg.MEM_BANK_PWR 0) = true ∧ reaches reached (Reg.MEM_BANK_PWR 383) = true) ∧
    (let s := reached.setFld (Reg.MEM_BANK_PWR_state 0) 0
     bankHasLine s 0 = false ∧ bankHasWindow s 0 = false ∧ s.fld (Reg.MEM_BANK_PWR_state 0) = 0) ∧
    (let s := reached.setFld (Reg.MEM_BANK_PWR_state 383) 1
     s.fld (Reg.MEM_BANK_PWR_state 383) = 1 ∧ s.bankOn.contains 383 = false) ∧
    (let s := reached.setFld (Reg.MEM_BANK_PWR_state 383) 2
     s.fld (Reg.MEM_BANK_PWR_state 383) = 2 ∧ s.bankFill.contains 383 = false) ∧
    (reaches (loaded (lineHolder.setBoot bootRun)) (Reg.MEM_BANK_PWR 0) = true ∧ ¬ (bankHasLine lineHolder 0 = false ∧ bankHasWindow lineHolder 0 = false)) ∧
    ({ State.reset with bankFill := [7] } : State).bankFill.contains 7 = true ∧
    (let s : State := { State.reset.setFld Reg.MEM_DRAM_STAT_train 2 with tickOn := true, tick := 96, retrainDue := 96 }
     s.tickOn = true ∧ s.fld Reg.MEM_DRAM_STAT_train = 2 ∧ (0 : Fin 16).val = s.retrainCh ∧ s.retrainDue ≤ s.tick ∧
     (1 : Fin 16).val ≠ s.retrainCh) := by decide +kernel

/-! PartitionResetsAreScheduledAndThenRestart -/

theorem witness_PartitionResetRequestsAreScheduledOrRefused :
    let f : State := { pairedTwin 0 with str := { (pairedTwin 0).str with parts := onePartition.str.parts } }
    (∀ s ∈ [reached, loaded f, loaded onePartition], reaches s Reg.PART_RESET = true) ∧
    bitsOf (0x80000001 : Word) 31 1 = 1 ∧ bitsOf (1 : Word) 31 1 ≠ 1 ∧
    (f.follows = true ∧ f.twinMode = true ∧ (f.part 1).isSome = true ∧ (f.partOp 1).isNone = true ∧ f.boot = bootRun) ∧
    (bitsOf (0x80000001 : Word) 0 8 ≠ 0 ∧ (onePartition.part 1).isSome = true ∧ onePartition.boot = bootRun) ∧
    (onePartition.partOp 1).isNone = true ∧ onePartition.follows = false ∧
    ({ onePartition with partOps := [⟨1, false, 9, none, 0⟩] } : State).partOp 1 ≠ none ∧
    (State.reset.part 1).isSome = false := by decide +kernel

theorem witness_PartitionResetDiscardsAndRestarts :
    (let o : PartOp := ⟨1, false, 0, none, 0⟩
     ({ onePartition with partOps := [o] } : State).partOp 1 = some o ∧ o.graft = false ∧ o.done = none ∧ o.start ≤ onePartition.tick) ∧
    (let o : PartOp := ⟨1, true, 0, none, 64⟩
     ({ onePartition with partOps := [o] } : State).partOp 1 = some o ∧ o.graft = true ∧ o.done = none ∧ o.start ≤ onePartition.tick) ∧
    (let o : PartOp := ⟨1, false, 0, some 0, 0⟩
     ({ onePartition with partOps := [o] } : State).partOp 1 = some o ∧ o.graft = false ∧ o.done = some 0 ∧ 0 ≤ onePartition.tick) ∧
    (let o : PartOp := ⟨1, true, 0, some 0, 64⟩
     let s : State := { onePartition with partOps := [o], graftNew := some ({}, []) }
     s.partOp 1 = some o ∧ o.graft = true ∧ o.done = some 0 ∧ 0 ≤ s.tick ∧ s.graftNew = some ({}, [])) := by decide +kernel

/-! VerificationsStartWhenIdleAndEndWithTheirVerdict -/

theorem witness_VerificationsBesideAudioStartWhenIdle :
    (∀ s ∈ [reached, loaded onePartition], reaches s Reg.ESP_LOAD_CTL = true) ∧
    (reached.setFld Reg.ESP_STAT_state 1).fld Reg.ESP_STAT_state ≠ 0 ∧
    (reached.fld Reg.ESP_STAT_state = 0 ∧ reached.boot ≠ bootRun) ∧
    (onePartition.fld Reg.ESP_STAT_state = 0 ∧ onePartition.boot = bootRun ∧ (onePartition.partOp 1).isNone = true ∧
      onePartition.follows = false) := by decide +kernel

theorem witness_VerificationsEndWithTheirVerdict :
    (onePartition.boot ≠ bootVerify ∧ ({ onePartition with espOp := some ⟨0, 0, 0, 0⟩ } : State).espOp = some ⟨0, 0, 0, 0⟩) ∧
    (⟨0, 0, 0, 0⟩ : EspOp).op = 0 ∧ (⟨1, 0, 1, 0⟩ : EspOp).op = 1 ∧
    (∃ e, verifyGraftImg onePartition 1 0 = .error e) ∧
    ((State.reset.setBoot bootVerify).boot = bootVerify ∧
      ∃ e, verifyBundle (State.reset.setBoot bootVerify) (slotImg (State.reset.setBoot bootVerify).bootFlash 0) = .error e) := by
  refine ⟨by decide +kernel, by decide, by decide, ⟨_, rfl⟩, by decide +kernel, ⟨_, rfl⟩⟩

/-! SourceChangesPassThroughHoldover -/

theorem witness_SourceChangesPassThroughHoldover :
    (let s := (State.reset.setFld Reg.CLK_STAT_cur_src 2).setPlla pllaLocked
     s.fld Reg.CLK_STAT_cur_src = 2 ∧ s.plla = pllaLocked) ∧
    (let s := (State.reset.setFld Reg.CLK_STAT_cur_src 1).setPlla pllaAcquire
     s.fld Reg.NET_PTP_CTL_valid ≠ 1 ∧ s.fld Reg.CLK_STAT_cur_src = 1 ∧ s.plla = pllaAcquire ∧ s.clk.hadLock = false) ∧
    (let s := ((State.reset.setFld Reg.CLK_STAT_cur_src 1).setFld Reg.NET_PTP_CTL_valid 1).setPlla pllaHoldover
     srcValid s 1 = false ∧ s.clk.servoMs < 2000 ∧ s.fld Reg.NET_PTP_CTL_valid = 1 ∧
     (s.reg Reg.NET_PTP_ADJ).toInt.natAbs ≤ 858993 ∧ s.fld Reg.CLK_PLLA_CTL_freeze = 0) ∧
    (let s := ((State.reset.setFld Reg.CLK_STAT_cur_src 3).setFld (Reg.AES_RX_STAT_lock 0) 1).setPlla pllaHoldover
     srcValid s 3 = false ∧ s.fld (Reg.AES_RX_STAT_lock (s.fld Reg.CLK_REFSEL_aes_rx)) = 1 ∧ s.fld Reg.CLK_STAT_cur_src = 3 ∧
     s.fld Reg.TWN_LINK_aligned ≠ 1 ∧ srcValid s 4 = false) ∧
    (let s := (State.reset.setFld Reg.CLK_STAT_cur_src 2).setPlla pllaHoldover
     srcValid s 2 = false ∧ s.fld Reg.CLK_STAT_cur_src = 2 ∧ s.plla = pllaHoldover ∧ s.fld Reg.CLK_PLLA_CTL_freeze = 0) ∧
    (let s := ((({ State.reset with clk := { valid := [(3, true)], validMs := [(3, 10000)] } } : State).setFld
        Reg.CLK_REFSEL_alt_en 1).setFld Reg.CLK_REFSEL_alt_sel 3).setPlla pllaHoldover
     s.plla = pllaHoldover ∧ s.fld Reg.CLK_REFSEL_alt_en = 1 ∧ s.fld Reg.CLK_PLLA_CTL_freeze = 0 ∧
     s.fld Reg.CLK_STAT_cur_src ≠ s.fld Reg.CLK_REFSEL_alt_sel ∧ srcValid s (s.fld Reg.CLK_REFSEL_alt_sel) = true ∧
     1000 ≤ storeGet 0 s.clk.validMs (s.fld Reg.CLK_REFSEL_alt_sel)) ∧
    (let s := (({ State.reset with clk := { valid := [(3, true)], validMs := [(3, 10000)] } } : State).setFld
        Reg.CLK_REFSEL_revert 1).setFld Reg.CLK_REFSEL_sel 3
     s.fld Reg.CLK_REFSEL_revert = 1 ∧ s.fld Reg.CLK_STAT_cur_src ≠ s.fld Reg.CLK_REFSEL_sel ∧
     srcValid s (s.fld Reg.CLK_REFSEL_sel) = true ∧ 10000 ≤ storeGet 0 s.clk.validMs (s.fld Reg.CLK_REFSEL_sel)) ∧
    (reaches reached Reg.CLK_REFSEL = true ∧ bitsOf (2 : Word) 0 3 < 5 ∧ bitsOf (2 : Word) 0 3 ≠ reached.fld Reg.CLK_REFSEL_sel) := by
  decide +kernel

/-! PllAKeepsItsWordWithinItsLimits -/

theorem witness_PllAKeepsItsWordWithinItsLimits :
    State.reset.dco.natAbs ≤ 858993 ∧
    (let s := ({ State.reset with clk := { inBandMs := 1000 } } : State).setFld Reg.CLK_STAT_cur_src 2 |>.setPlla pllaAcquire
     s.dco.natAbs ≤ 858993 ∧ s.plla = pllaAcquire ∧ s.fld Reg.CLK_STAT_cur_src ≠ 0 ∧
     lockMs (if s.fld Reg.CLK_PLLA_CTL_acq_fast = 1 then 6 else s.clk.bw) ≤ s.clk.inBandMs) ∧
    (let s := (State.reset.setFld Reg.CLK_PLLA_CTL_slew 1).setPlla pllaAcquire
     s.dco.natAbs ≤ 858993 ∧ s.plla = pllaAcquire ∧ s.fld Reg.CLK_PLLA_CTL_slew ≠ 0) ∧
    (let s := reached.setFld Reg.CLK_PLLA_CTL_freeze 1
     reaches s Reg.CLK_PLLA_CTL = true ∧ s.fld Reg.CLK_PLLA_CTL_freeze = 1 ∧ bitsOf (0 : Word) 8 1 = 0 ∧ srcValid s (s.fld Reg.CLK_STAT_cur_src) = true) ∧
    (reached.fld Reg.CLK_PLLA_CTL_freeze = 0 ∧ bitsOf (0x100 : Word) 8 1 = 1) := by decide +kernel

/-! ClockOutputSettingsWaitForTheBoundary -/

theorem witness_ClockOutputSettingsWaitForTheBoundary :
    (accessible (reached.setFld (Reg.PWR_DOM_CTL_state 12) 0) .pcie Reg.TICK_COUNT0 ∧ accessible reached .sv1 Reg.TICK_COUNT0) ∧
      reaches reached (Reg.CLK_OUT_CTL 7) = true ∧ reaches reached Reg.CLK_WCLK_CTL = true :=
  ⟨⟨⟨by decide +kernel, fun _ => by decide +kernel⟩, ⟨by decide +kernel, nofun⟩⟩, by decide +kernel, by decide +kernel⟩

/-! SelfDetectedFaultsAreRaisedOncePerStart -/

theorem witness_SelfDetectedFaultsAreRaisedOncePerStart :
    (onePartition.boot = bootRun ∧ onePartition.faultStart = false ∧ onePartition.nv.pend = none) ∧
    (railWatched (onePartition.setFld (Reg.PWR_DOM_CTL_state 1) 0) 0 = true) ∧
    (State.reset.boot = bootCold ∧ State.reset.faultStart = false ∧ State.reset.nv.pend = none ∧
      (State.reset.setFld Reg.BOOT_STATE_proving 1).fld Reg.BOOT_STATE_proving = 1 ∧
      State.reset.fld Reg.BOOT_STATE_proving ≠ 1) ∧
    ((onePartition.setBoot bootLoad).boot = bootLoad ∧ (onePartition.setBoot bootCoppice).boot = bootCoppice) ∧
    (let s : State := { onePartition with hold := some 10, railsOut := [5] }
     s.hold = some 10 ∧ s.railsOut ≠ []) ∧
    ({ onePartition with hold := some 10 } : State).railsOut = [] ∧ onePartition.coreOut = false ∧
    ({ onePartition with faultStart := true } : State).faultStart = true ∧
    ({ onePartition with hold := some 11 } : State).hold = some 11 ∧ tempOf onePartition 0 ≤ 800 := by decide +kernel

/-! StartRunsItsPhasesInOrder -/

theorem witness_StartRunsItsPhasesInOrder :
    (State.reset.bootRead.begun = false ∧ State.reset.bootRead.pend = none ∧ State.reset.bootCopy 0 = none ∧
      State.reset.bootCopy 1 = none ∧ (State.reset.setNv { begun := true }).bootRead.begun = true ∧
      (State.reset.setNv { pend := some (8, false, 0) }).bootRead.pend = some (8, false, 0)) ∧
    (onePartition.boot ≠ bootCold) ∧
    (State.reset.boot = bootCold ∧ (State.reset.setFld Reg.ESP_STAT_state 4).fld Reg.ESP_STAT_state = 4 ∧
      State.reset.hold ≠ some 11) ∧
    ((loadPhases []).boot = bootLoad ∧ (loadPhases []).phases = [] ∧
      tjOk { loadPhases [] with str := { clock := { tjMin := -128, tjMax := 127 } } } = true) ∧
    ((loadPhases [1, 2, 3]).boot = bootLoad ∧ newestReadable (loadPhases [1, 2, 3]) = none ∧
      (loadPhases [1, 2, 3]).str.settingsRequired = false) ∧
    (let s := (loadPhases [1, 2, 3, 4]).setFld Reg.SV_STAT_state 1
     s.boot = bootLoad ∧ s.phases = [1, 2, 3, 4] ∧ s.fld Reg.SV_STAT_state = 1) := by decide +kernel

theorem witness_StartRunsItsPhasesInOrder_generation :
    (let s : State := { loadPhases [1, 2, 3] with
        gens := [(1, Gen.sealed { valid := true, schema := 5 })],
        str := { schema := 5, parts := [{ id := 0, graftable := false, maxSessions := 1, queueM1 := 0, share := 1,
                                          leaseQuota := 0, windows := [] }] } }
     s.boot = bootLoad ∧ s.phases = [1, 2, 3] ∧ newestReadable s = some 1) := by decide +kernel

/-! FailedStartsAreCountedOnce -/

theorem witness_FailedStartsAreCountedOnce :
    (State.reset.nv.pend = none ∧ (loadPhases []).boot = bootLoad ∧ (loadPhases []).phases = [] ∧
      tjOk { loadPhases [] with str := { clock := { tjMin := 0, tjMax := 50 } } } = false) ∧
    ((loadPhases [1, 2, 3]).boot = bootLoad ∧ (loadPhases [1, 2, 3]).phases = [1, 2, 3] ∧ newestReadable (loadPhases [1, 2, 3]) = none) ∧
    ({ loadPhases [1, 2, 3] with str := { settingsRequired := true } } : State).str.settingsRequired = true ∧
    (State.reset.setFld Reg.PWR_AON_LDO_lp_active 1).fld Reg.PWR_AON_LDO_lp_active = 1 ∧
    (let s := (State.reset.setBoot bootWaitHost).setFld Reg.HOST_WAIT_wait 5
     s.boot = bootWaitHost ∧ s.fld Reg.HOST_WAIT_wait ≠ 0) ∧
    (let s := (State.reset.setBoot bootRun).setFld Reg.BOOT_STATE_proving 1
     s.boot = bootRun ∧ s.fld Reg.BOOT_STATE_proving = 1 ∧ s.hold = none) ∧
    (let s : State := ({ loadPhases [1, 2, 3, 4, 5] with str := { board := { twinMode := 1 } } } : State).setFld Reg.TWN_STAT_role 1
     s.boot = bootLoad ∧ s.phases.contains 5 = true ∧ s.twinMode = true ∧ s.fld Reg.TWN_STAT_role = 1 ∧
     s.fld Reg.TWN_LINK_aligned = 0) := by decide +kernel

/-! BootControlActsOnlyInItsStates -/

theorem witness_BootControlActsOnlyInItsStates :
    (∀ s ∈ [onePartition, State.reset.setBoot bootWaitHost, State.reset.setBoot bootCoppice, State.reset.setBoot bootVerify],
      reaches s Reg.BOOT_CTL = true ∧ reaches s Reg.SLOT_ACTIVE = true) ∧ Path.lb ≠ .pcie ∧
    (onePartition.setFld (Reg.PWR_DOM_CTL_state 12) 0).fld (Reg.PWR_DOM_CTL_state 12) = 0 ∧
    (onePartition.boot = bootRun ∧ onePartition.save = none) ∧ (State.reset.setBoot bootVerify).boot ≠ bootRun ∧
    (State.reset.setBoot bootVerify).boot ≠ bootWaitHost ∧ (State.reset.setBoot bootVerify).boot ≠ bootCoppice ∧
    ({ onePartition with save := some ⟨1, 4, [], []⟩ } : State).save = some ⟨1, 4, [], []⟩ ∧
    (State.reset.setBoot bootWaitHost).boot = bootWaitHost ∧
    (let s := (State.reset.setBoot bootCoppice).setFld Reg.COPPICE_CAUSE_reason 1
     s.boot = bootCoppice ∧ s.fld Reg.COPPICE_CAUSE_reason = 1) ∧
    (let s := (State.reset.setBoot bootCoppice).setFld Reg.COPPICE_CAUSE_reason 2
     s.boot = bootCoppice ∧ s.fld Reg.COPPICE_CAUSE_reason ≠ 1) ∧
    (let s : State := ({ onePartition with twin := { paired := true, partnerRipe := ripeRipe } } : State).setFld Reg.TWN_STAT_owner 1
     s.boot = bootRun ∧ s.owns = true ∧ s.twin.paired = true ∧ s.twin.partnerRipe = ripeRipe ∧
     s.fld Reg.TWN_STAT_link_down = 0) := by decide +kernel

/-! OtpRequestsAreCheckedAndThenProgrammed -/

theorem witness_OtpRequestsAreCheckedAndThenProgrammed :
    (let s := State.reset.setBoot bootCoppice
     (reaches s Reg.BOOT_OTP_CTL = true ∧ Path.lb ≠ .pcie ∧ s.boot = bootCoppice ∧ s.otpNext = none) ∧ 0 ∉ s.otp.keyProg ∧ 0 ∉ s.otp.revoked ∧
     liveKeys s.otp ≠ [0] ∧ s.otp.failLimit = none ∧ s.otp.hostWait = none ∧ storeFind s.otp.stub 0 = none ∧
     s.otp.stubCfg = none ∧ s.otp.bootSrc = none) ∧
    (let s := (State.reset.setBoot bootCoppice).setReg (Reg.BOOT_OTP_DATA 0) 5
     s.otp.minSec < (s.reg (Reg.BOOT_OTP_DATA 0)).toNat % 128 ∧ (s.reg (Reg.BOOT_OTP_DATA 0)).toNat % 128 ≤ 64 ∧
     2 ≤ (s.reg (Reg.BOOT_OTP_DATA 0)).toNat % 8) ∧
    ({ State.reset with otpNext := some ⟨4, 0, 7, 0, 0⟩ } : State).otpNext = some ⟨4, 0, 7, 0, 0⟩ := by decide +kernel

/-! OwnershipMovesByTakeoverHandoverOrYield -/

theorem witness_OwnershipMovesByTakeoverHandoverOrYield :
    (let s := pairedTwin 1
     s.fld Reg.TWN_STAT_partner_alive = 1 ∧ (s.twinMode = true ∧ s.serving = true ∧ s.faultStart = false) ∧ s.owns = true ∧
     handoverAccepted s (s.reg Reg.TWN_HO_TICK) = true ∧ reaches (loaded s) Reg.TWN_CTL = true ∧
     handoverAccepted (loaded s) ((loaded s).reg Reg.TWN_HO_TICK) = true) ∧
    (let s := pairedTwin 0
     s.fld Reg.TWN_STAT_partner_alive = 1 ∧ (s.twinMode = true ∧ s.serving = true ∧ s.faultStart = false) ∧ s.owns = false ∧
     s.twin.paired = true ∧ s.faultStart = false) ∧
    (let s : State := { pairedTwin 1 with faultStart := true }
     s.fld Reg.TWN_STAT_partner_alive = 1 ∧ ¬ (s.twinMode = true ∧ s.serving = true ∧ s.faultStart = false)) ∧
    handoverAccepted (onePartition.setFld Reg.TWN_STAT_owner 1) 0 = false ∧
    (({ pairedTwin 1 with twin := { hoPend := some 0 } } : State).twin.hoPend = some 0 ∧ 0 ≤ (pairedTwin 1).tick) ∧
    State.reset.twin.hoPend = none := by decide +kernel

/-! LinkSupervisionDetachesOneTwin -/

theorem witness_LinkSupervisionDetachesOneTwin :
    (let s : State := ({ pairedTwin 0 with tickOn := true } : State).setFld (Reg.PWR_DOM_CTL_state 13) 0
     (s.twinMode = true ∧ s.domOn 13 = true ∧ (s.serving = true ∨ s.boot = bootLoad)) ∧ false.toNat = s.fld Reg.TWN_STAT_role ∧
     true.toNat ≠ s.fld Reg.TWN_STAT_role ∧ s.twin.paired = true ∧ s.tickOn = true ∧ (9 : Word) ≠ BitVec.ofNat 32 s.tick ∧
     s.follows = true) ∧
    (let s : State := { pairedTwin 0 with twin := { (pairedTwin 0).twin with silent := 2 } }
     2 ≤ s.twin.silent ∧ s.fld Reg.TWN_STAT_partner_alive = 1 ∧ s.fld Reg.TWN_STAT_link_down = 0 ∧ s.twin.paired = true) ∧
    (let s : State := ({ pairedTwin 0 with twin := { (pairedTwin 0).twin with skewTicks := 16 } } : State).setFld Reg.TWN_STAT_role 1
     16 ≤ s.twin.skewTicks ∧ s.twin.paired = true ∧ tickFollower s = true) ∧
    ((pairedTwin 1).owns = true ∧ (pairedTwin 1).twin.paired = true) ∧
    (reaches (loaded (pairedTwin 0)) Reg.TWN_CTL = true ∧ (loaded (pairedTwin 0)).owns = false) ∧
    (let s := (freeTwin 0 bootLoad).setFld (Reg.PWR_DOM_CTL_state 13) 0
     s.tickOn = false ∧ s.twinMode = true ∧ s.boot = bootLoad ∧ s.domOn 13 = true) ∧
    ¬ (State.reset.twinMode = true ∧ State.reset.domOn 13 = true ∧
       (State.reset.serving = true ∨ State.reset.boot = bootLoad)) := by decide +kernel

/-! JoinersCopyConvergeAndRipen -/

theorem witness_JoinersCopyConvergeAndRipen :
    (let s := freeTwin 0 bootRipening
     (s.twinMode = true ∧ s.fld Reg.TWN_STAT_link_down = 0 ∧ s.fld Reg.TWN_LINK_aligned = 1 ∧ skewHigh s = false ∧
      s.twin.image < 2 ∧ s.fld Reg.TWN_LINK_role_clash = 0 ∧ s.twin.paired = false) ∧ s.owns = false ∧ s.boot = bootRipening) ∧
    (let s := freeTwin 1 bootRun
     s.owns = true ∧ s.boot = bootRun ∧ s.twin.joinTick = none ∧ s.tick + 8 ≤ (8 : BitVec 64).toNat) ∧
    (pairedTwin 0).twin.paired = true ∧ reaches reached Reg.TWN_CTL = true ∧
    (let s : State := (copyingTwin).setRipe ripeCopying
     s.ripe = ripeCopying ∧ s.twin.copyNow.contains 3 = true ∧ s.eqSince 3 = 0 ∧
     ([.k 3 1 9] : List CopyWord).map copyName = (readSet s s.twin.copyNow).map copyName) ∧
    (let s := (freeTwin 0 bootRipening).setRipe ripeConverging
     ripeNow s = true) ∧ ripeNow State.reset = false := by decide +kernel

theorem witness_JoinersCopyConvergeAndRipen_bulk :
    (let r : LineRec := { cluster := 0, line := 2, tier := 2, partition := 1, writer := 0, preload := 0,
                          srcWord := 0, base := 0, lenM1 := 9, taps := [] }
     let s : State := ({ State.reset with str := { lines := [r] }, twin := { eqFrom := [(0, 1)] } } : State).setRipe ripeCopying
     s.line 0 2 = some r ∧ r.tier = 2 ∧ s.ripe = ripeCopying ∧ s.eqSince (16 * 0 + r.writer) ≠ 0) := by decide +kernel

/-! TickCountStartsAtZeroAndAdvancesByOne -/

theorem witness_TickCountStartsAtZeroAndAdvancesByOne :
    (let s : State := { State.reset with tickOn := true }
     s.tickOn = true ∧ s.twin.yield = false ∧ s.twin.restartAfterHo = false) ∧ State.reset.tickOn = false ∧
    ((loadPhases [1, 2, 3, 4, 5]).boot = bootLoad ∧ (loadPhases [1, 2, 3, 4, 5]).phases = [1, 2, 3, 4, 5] ∧
      (loadPhases [1, 2, 3, 4, 5]).twinMode = false) ∧
    (let s : State := ({ loadPhases [1, 2, 3, 4, 5] with str := { board := { twinMode := 1 } }, twin := { partnerBoot := bootRun } } :
       State).setFld Reg.TWN_STAT_role 1
     s.boot = bootLoad ∧ s.phases = [1, 2, 3, 4, 5] ∧ s.twinMode = true ∧ s.fld Reg.TWN_STAT_role = 1 ∧
     s.fld Reg.TWN_LINK_role_clash = 0 ∧ s.twin.partnerBoot = bootRun ∧ ({ s.twin with image := 1 } : Twin).image < 2) ∧
    (let s : State := { (freeTwin 0 bootRipening).setRipe ripeJoining with tickOn := true, twin := { joinTick := some 99 } }
     s.twin.joinTick = some 99 ∧ s.tickOn = true ∧ s.ripe = ripeJoining ∧ s.owns = false) ∧
    State.reset.twin.joinTick = none := by decide +kernel

/-! GuardsSwapWindowsAndInstantsMoveWords -/

theorem witness_GuardsSwapWindowsAndInstantsMoveWords :
    (let s : State := { State.reset with tickOn := true }
     s.tickOn = true ∧ swapped s 7 = false ∧ s.twinMode = false) ∧ State.reset.tickOn = false ∧
    swapped ({ State.reset with guarded := [7] } : State) 7 = true ∧
    findingSeen State.reset 7 ⟨.data 0 3, 0, true⟩ = true ∧ findingSeen State.reset 7 ⟨.data 0 64, 0, true⟩ = false ∧
    findingSeen State.reset 7 ⟨.prog 0 3 true, 0, true⟩ = true ∧ findingSeen State.reset 7 ⟨.window 0 3, 9, false⟩ = true ∧
    State.reset.fld (Reg.ENG_FAULT_valid 7) = 0 ∧
    (let s : State := { freeTwin 1 bootRun with tickOn := true }
     s.tickOn = true ∧ s.twinMode = true ∧ usesOwner s = false ∧ (∀ e ∈ s.io.netHeld, e.1 < chanKey 1 0 0 0)) ∧
    (let s : State := { freeTwin 0 bootRun with tickOn := true, twin := { followed := true } }
     usesOwner s = true ∧ s.twin.ownerNet = none) := by decide +kernel

/-! TdmGroupsFrameAndCarryTheirSlots -/

/-- TDM group 0 in state `st`, its domain on. -/
def tdmGroup (st : Nat) : State := (State.reset.setFld (Reg.PWR_DOM_CTL_state 14) 0).setFld (Reg.TDM_GSTAT_state 0) st

theorem witness_TdmGroupsFrameAndCarryTheirSlots :
    ((tdmGroup 1).domOn 14 = true ∧ (tdmGroup 1).fld (Reg.TDM_GSTAT_state 0) = 1) ∧
    (let s := tdmGroup 2
     s.fld (Reg.TDM_GSTAT_state 0) = 2 ∧ s.fld (Reg.TDM_GCFG_master 0) = 0 ∧ fsGoodAt none = false ∧ fsGoodAt (some 8) = true ∧
     storeGet 0 s.io.fsBad 0 = 0) ∧
    ({ tdmGroup 1 with io := { fsGood := [(0, 16)] } } : State).fld (Reg.TDM_GSTAT_state 0) = 1 ∧
    16 ≤ storeGet 0 ({ tdmGroup 1 with io := { fsGood := [(0, 16)] } } : State).io.fsGood 0 ∧
    (let s : State := { tdmGroup 2 with floated := false, str := { io := [outRoute 1] } }
     s.fld (Reg.TDM_GSTAT_state 0) = 2 ∧ s.domOn 14 = true ∧ s.floated = false ∧ drives s 1 0 0 s.launchTick = true ∧
     s.str.io.any (fun r => r.dir == 1 && r.kind == 1 && r.port == 0) = true) := by decide +kernel

/-! AesReceiversRepeatAndTransmittersCount -/

/-- A locked AES3 receiver 0, its domain on. -/
def aesLocked : State := (State.reset.setFld (Reg.PWR_DOM_CTL_state 16) 0).setFld (Reg.AES_RX_STAT_lock 0) 1

/-- AES3 port 0 enabled both ways and routed. -/
def aesPort : State :=
  { State.reset.setFld (Reg.PWR_DOM_CTL_state 16) 0 with
    floated := false,
    str := { ports := [{ kind := 2, port := 0, set := [1, 1, 1] }],
             io := [outRoute 2] } }

theorem witness_AesReceiversRepeatAndTransmittersCount :
    (aesLocked.fld (Reg.AES_RX_STAT_lock 0) = 1 ∧ aesLocked.domOn 16 = true ∧ aesLocked.fld (Reg.AES_ASRC_STAT_state 0) ≠ 2) ∧
    State.reset.fld (Reg.AES_RX_STAT_lock 0) = 0 ∧ (2048 ≤ (8192 : Half).toNat ∧ (8192 : Half).toNat ≤ 32768 ∧ (3 : Fin 9) ≠ 0) ∧
    (cfgByte aesPort 2 0 0 = 1 ∧ aesPort.fld (Reg.AES_RX_STAT_lock 0) = 0 ∧ aesPort.domOn 16 = true) ∧
    (aesLocked.setFld (Reg.AES_ASRC_STAT_state 0) 1).fld (Reg.AES_ASRC_STAT_state 0) ≠ 0 ∧
    txDrives State.reset 0 = false ∧ (txDrives aesPort 0 = true ∧ (0 : Fin 4).val < txQ aesPort 0) ∧
    (List.replicate 24 (0 : Byte)).length = 24 := by decide +kernel

/-! QuicksetInputWordsAreCheckedByWord -/

/-- Lane 0 mixed, guarded and driven. -/
def qsDriven : State :=
  { (State.reset.setFld (Reg.PWR_DOM_CTL_state 15) 0).setFld Reg.QS_STAT_state 2 with
    floated := false,
    str := { qsmix := [{ output := 0, partition := 1, pblock := 0, di := 1, bq := 0 }],
             thorn := [{ kind := 3, port := 0, channel := 0, flags := 0, amon := 0, window := 1000, peak := 1, knee := 1, rms := 1,
                         dc := 0, amonHot := 0 }] } }

theorem witness_QuicksetInputWordsAreCheckedByWord_output :
    qsDriven.domOn 15 = true ∧ (0 : Fin 16).val < qsDriven.qsPerTick ∧
    (qsDriven.str.qsmix.find? (fun r => r.output == 0)).isSome = true ∧ (guardOf qsDriven 3 0 0).isSome = true ∧
    qsDriven.fld Reg.QS_STAT_state = 2 ∧ drives qsDriven 3 0 0 (qsLaunch qsDriven 0) = true := by decide +kernel

/-- The Quickset port in state `st`, its domain on. -/
def qsPort (st : Nat) : State := (State.reset.setFld (Reg.PWR_DOM_CTL_state 15) 0).setFld Reg.QS_STAT_state st

theorem witness_QuicksetInputWordsAreCheckedByWord :
    ((qsPort 2).domOn 15 = true ∧ (qsPort 2).fld Reg.QS_STAT_state = 2 ∧ storeGet 0 (qsPort 2).io.fsBad 4 = 0) ∧
    qsWordGood 0 = false ∧ qsWordGood 0x000000A0 = true ∧ bitsOf (0x000000A0 : Word) 4 1 = 0 ∧ qsWordGood 0x000000B2 = true ∧
    (qsPort 1).fld Reg.QS_STAT_state = 1 ∧ (qsPort 1).fld Reg.QS_CFG_master = 0 ∧
    16 ≤ storeGet 0 ({ qsPort 1 with io := { fsGood := [(4, 16)] } } : State).io.fsGood 4 ∧
    storeGet 0 ({ qsPort 2 with io := { fsBad := [(4, 1)] } } : State).io.fsBad 4 ≠ 0 ∧ State.reset.domOn 15 = false ∧
    twinGroup (qsPort 1) 3 0 0 = none ∧ ((qsPort 1).setFld Reg.TICK_RATE_mult 1).qsPerTick ≤ (9 : Fin 16).val ∧ (qsPort 2).fld Reg.QS_CFG_master = 0 ∧ fsGoodAt (some 8) = true ∧
    fsGoodAt none = false ∧
    ((qsPort 1).str.qsmix.find? (fun r => r.output == 0)).isNone = true ∧ (0 : Fin 16).val < (qsPort 1).qsPerTick := by
  decide +kernel

/-! NetworkFramesAreClassedOnce -/

/-- Ethernet port 0 up, with domain NET on, a session filter for partition 1 and a receive stream. -/
def netUp : State :=
  ({ State.reset with
      net := { filt := [(0, [0x81000001, 5000, 0, 0])], entries := [(0, [0x88000000, 0xE0000007, 0, 0x13890000, 0, 0, 0, 0])] } } : State).setFld (Reg.PWR_DOM_CTL_state 11) 0 |>.setFld
    (Reg.NET_PORT_STAT_link 0) 1

/-- A datagram to that filter, and one to that stream with an RTP header and one sample. -/
def toSession : Udp := { src := 1, dst := 0, sport := 9, dport := 5000, frag := false, payload := [1, 2, 3] }
def toStream : Udp :=
  { src := 1, dst := 0xE0000007, sport := 9, dport := 5001, frag := false,
    payload := [128, 96, 0, 0, 0, 0, 0, 0, 0, 0, 0, 1, 5, 6] }

theorem witness_NetworkFramesAreClassedOnce :
    (netUp.domOn 11 = true ∧ netUp.fld (Reg.NET_PORT_STAT_link 0) = 1) ∧ macIsOurs 0 (BitVec.allOnes 48) = true ∧
    frameClassed netUp 0 .other = false ∧ State.reset.fld (Reg.NET_PORT_STAT_link 0) = 0 ∧
    (toSession.dport ≠ 319 ∧ toSession.dport ≠ 320 ∧ toSession.dst.toNat = ownIp netUp 0 ∧
      filterMatch netUp 0 toSession = some (1, false) ∧ toSession.payload.length ≤ 1472 ∧
      audonBytes netUp + toSession.payload.length ≤ 65536) ∧
    (toStream.dst.toNat ≠ ownIp netUp 0 ∧ streamMatch netUp 0 toStream = some (0, 0, 0, [5, 6])) ∧
    (let r : PortRec := { kind := 0, port := 0, set := [2, 0, 1] }
     let s : State := { State.reset with str := { ports := [r] }, net := { downMs := [(0, 2000)] } }
     s.portCfg 0 0 = some r ∧ r.byte 2 % 2 = 1 ∧ 2 ≤ r.byte 0 ∧ s.fld (Reg.NET_PORT_STAT_link 0) = 0 ∧
     2000 ≤ storeGet 0 s.net.downMs 0) := by decide +kernel

/-- Of two addresses one is not the port's own, whatever that is. -/
theorem witness_NetworkFramesAreClassedOnce_other : ∃ mac : BitVec 48, macIsOurs 0 mac = false := by
  by_cases h : Config.macAddr = 2#48
  · exact ⟨4#48, by simp [macIsOurs, h]⟩
  · exact ⟨2#48, by simp [macIsOurs, Ne.symm h]⟩

/-! StreamEntriesApplyLaterAndDuePacketsGoOut -/

theorem witness_StreamWritesTakeEffectTwoTicksLater :
    (reaches reached Reg.NET_STR_CMD = true ∧ reaches reached Reg.NET_CTL = true ∧ reaches State.reset Reg.NET_STR_CMD = false ∧
      reaches State.reset Reg.NET_CTL = false) ∧
    (let s := ((loaded onePartition).setReg (Reg.NET_STRW 0) 0x88000000).setReg (Reg.NET_STRW 7) 1
     let e := (List.range 8).map (fun w => s.reg (Reg.NET_STRW w))
     reaches s Reg.NET_STR_CMD = true ∧ entryStatus s (s.fld Reg.NET_STR_SEL_tx == 1) (selKey s) e = 0) ∧
    (let e := (List.range 8).map (fun w => reached.reg (Reg.NET_STRW w))
     entryStatus reached (reached.fld Reg.NET_STR_SEL_tx == 1) (selKey reached) e ≠ 0) ∧
    bitsOf (1 : Word) 1 1 = 0 := by decide +kernel

theorem witness_TransmitStreamsSendDuePackets :
    (duePackets State.reset).find? (fun x => x.1 % 1024 == 512 && !(duePackets State.reset).any (fun y => goesBefore y x)) = none ∧
    (let e : List Word := [0x88000000, 7, 0, 0x13890000, 0, 0, 0, 0]
     let q := (List.range 6).map (fun i => (512, i, [BitVec.ofNat 32 i]))
     let s : State := ({ State.reset with net := { entries := [(512, e)], tx := q } } : State).setFld (Reg.PWR_DOM_CTL_state 11) 0
     s.domOn 11 = true ∧ (duePackets s).find? (fun x => x.1 % 1024 == 512 && !(duePackets s).any (fun y => goesBefore y x)) = some (512, e, 0, 5)) ∧
    State.reset.domOn 11 = false ∧ (reaches reached Reg.NET_PTP_ADJ && reaches reached Reg.NET_PTP_STEP && reaches reached Reg.NET_PTP_CTL) = true ∧
    (reaches State.reset Reg.NET_PTP_ADJ || reaches State.reset Reg.NET_PTP_STEP || reaches State.reset Reg.NET_PTP_CTL) = false := by
  decide +kernel

/-! SessionRequestsAreRefusedRelayedOrServed -/

theorem witness_SessionRequestsAreRefusedRelayedOrServed :
    (storeFind State.reset.sessions 5).isNone = true ∧ (storeFind openSession.sessions 5).isSome = true ∧ (1 : Byte) ≠ 0 ∧
    (relays (pairedTwin 0) .reset = true ∧ (pairedTwin 0).follows = true) := by decide +kernel

/-! CommitsBookTheirFlipOrChangeNothing -/

theorem witness_CommitsBookTheirFlipOrChangeNothing :
    let e : Session := { part := 1, epoch := 1, bell := true, addr := 0, high := 0, seen := [], txSeq := 0, idle := 0, ending := false }
    let s := openSession
    let who : SessId := ⟨5, 1, false⟩
    let os := rawOffers s 1 [⟨0, 7, 0, 0x08000000⟩]
    let l : Lease := { part := 1, who := who, serial := 2, blocks := [3], endTick := 9, relAt := none }
    (storeFind s.sessions 5 = some e ∧ s.follows = false ∧ s.leads = false ∧ rememberedFor s who 4 = none) ∧
    (let u : State := { pairedTwin 1 with sessions := s.sessions, str := { s.str with board := { twinMode := 1 } } }
     u.leads = true ∧ u.follows = false ∧ checkState u 1 = none ∧ checkWindows (rawOffers u 1 [⟨0, 7, 0, 0x08000000⟩]) = none ∧
     step8 u 1 ((rawOffers u 1 [⟨0, 7, 0, 0x08000000⟩]).map Offer.entry) u.tick = true) ∧
    (checkState s 1 = none ∧ checkWindows os = none ∧ checkForm s 1 os = none ∧ checkLeases s none os = none ∧
      step8 s 1 (os.map Offer.entry) s.tick = true) ∧
    (heldLease s who 0x00028000 = none ∧ bitsOf (0x00028000 : Word) 15 1 = 1) ∧
    (let u : State := { s with leases := [(0, l)] }
     heldLease u who 0x00028000 = some (0, l) ∧ checkLeases u (some 0) os = none ∧
     u.tick + 2 + groupTicks os.length (u.share 1) + u.pl < l.endTick) ∧
    (rawOffers s 1 [⟨9, 7, 0, 0⟩]).findIdx? (fun o => o.block.isNone) = some 0 ∧
    (checkForm s 1 (rawOffers s 1 [⟨0, 64, 0, 0⟩])).isSome = true ∧
    rememberedFor { s with remembered := [⟨who, 4, 0, 3⟩] } who 4 = some ⟨who, 4, 0, 3⟩ := by decide +kernel

/-! ReadsLeasesAndResetsAnswerAsTheirRulesSay -/

theorem witness_ReadsLeasesAndResetsAnswerAsTheirRulesSay :
    let e : Session := { part := 1, epoch := 1, bell := true, addr := 0, high := 0, seen := [], txSeq := 0, idle := 0, ending := false }
    let s := openSession
    let who : SessId := ⟨5, 1, false⟩
    let os : List Offer := [(0 : Half)].map (fun x => ⟨x.toNat, windowBlock s 1 x.toNat, true, 0, 0⟩)
    let l : Lease := { part := 1, who := who, serial := 2, blocks := [3], endTick := 9, relAt := none }
    (storeFind s.sessions 5 = some e ∧ s.follows = false ∧ s.leads = false ∧ checkState s 1 = none) ∧
    (let u : State := { pairedTwin 1 with sessions := s.sessions, str := { s.str with board := { twinMode := 1 } } }
     storeFind u.sessions 5 = some e ∧ u.follows = false ∧ u.leads = true ∧ checkState u 1 = none ∧
     leaseRoom u 1 who 16 [3] u.tick = true) ∧
    windowBlock s 1 0 = some 3 ∧ windowBlock s 1 1 = none ∧
    (checkWindows os = none ∧ ((s.part 1).map (·.leaseQuota)).getD 0 = 16 ∧ checkLeases s none os = none ∧
      leaseRoom s 1 who 16 (os.map (fun o => o.block.getD 0)) s.tick = true) ∧
    (let u : State := { s with leases := [(0, l)] }
     heldLease u who 0x00028000 = some (0, l) ∧ (u.groups.all (fun g => g.lease != some (0, 2))) = true) ∧
    heldLease s who 0 = none ∧ (s.part 1).isSome = true := by decide +kernel

/-! FlipsLeasesAndCellsActAtTheirBoundary -/

theorem witness_FlipsLeasesAndCellsActAtTheirBoundary :
    let g : Group := { part := 1, who := ⟨5, 1, false⟩, seq := 0, ents := [⟨3, 7, 1⟩], ta := 0, tick := 0, lease := some (0, 2),
                       stage := [], echo := [], nStaged := 1, nEchoed := 0, phase := .staged, waiting := false, forwarded := false }
    let l : Lease := { part := 1, who := ⟨5, 1, false⟩, serial := 2, blocks := [3], endTick := 0, relAt := none }
    let s : State := { openSession with groups := [g], leases := [(0, l), (1, { l with relAt := some 0 }), (2, { l with endTick := 9 })] }
    ((s.groups.filter (fun g => g.phase == GroupPhase.staged && decide (g.tick ≤ s.tick))).filter
      (fun g => groupNames g 3)).length = 1 ∧ groupNames g 4 = false ∧
    (storeFind s.leases 0 = some l ∧ l.endTick ≤ s.tick ∧ g.lease = some (0, 2) ∧ g.who = l.who) ∧
    (storeFind s.leases 1).isSome = true ∧ s.tick < leaseEnds { l with endTick := 9 } ∧ (storeFind s.leases 3).isNone = true ∧
    (({ s with cells := [(0, { pending := true, deadline := 0, target := 5 })] } : State).cell 0).pending = true ∧
    bitsOf (0 : Word) 0 14 = 0 ∧ reaches (loaded s) Reg.LEASE_SEL = true ∧ (storeFind (loaded s).leases 0).isSome = true ∧
    reaches reached Reg.LEASE_SEL = true ∧ (storeFind reached.leases 0).isNone = true ∧ reaches s Reg.LEASE_SEL = false := by decide +kernel

/-! SubmissionsAndRepliesWaitForTheFollower -/

theorem witness_SubmissionsAndRepliesWaitForTheFollower :
    (let b : BlockRec := { block := 3, partition := 0, holders := 0, engines := [], init := [] }
     let p : PartRec := { id := 0, graftable := false, maxSessions := 1, queueM1 := 3, share := 8, leaseQuota := 16, windows := [(0, 1)] }
     let s : State := ({ State.reset with str := { parts := [p], blocks := [b] }, subm := [(0, 0x00030000), (1, 5)] } : State).setBoot bootRun
     let os := submitOffers s (submitEntries s 0 0)
     reaches (loaded s) Reg.CMT_SUBMIT = true ∧ reaches s Reg.CMT_SUBMIT = false ∧
     s.fld Reg.CMT_SUBMIT_busy = 0 ∧ s.follows = false ∧ s.leads = false ∧ (pairedTwin 1).leads = true ∧ checkState s 0 = none ∧
     checkWindows os = none ∧ checkForm s 0 os = none ∧ checkLeases s none os = none ∧
     step8 s 0 (os.map Offer.entry) s.tick = true) ∧
    (bitsOf (0x80000000 : Word) 31 1 = 1 ∧ bitsOf (0x80000000 : Word) 16 12 + (bitsOf (0x80000000 : Word) 0 12 + 1) ≤ 4096) ∧
    (reached.setFld Reg.CMT_SUBMIT_busy 1).fld Reg.CMT_SUBMIT_busy = 1 ∧ reaches (reached.setFld Reg.CMT_SUBMIT_busy 1) Reg.CMT_SUBMIT = true ∧
    reaches (loaded (pairedTwin 0)) Reg.CMT_SUBMIT = true ∧ (pairedTwin 0).follows = true ∧
    (let h : Held := ⟨4, 0, .session 5 1 9, { status := 0, tickB := 3 }, none⟩
     let s : State := { openSession with held := [h], tick := 1 }
     s.held.filter (fun x => decide (x.ctl ≤ (4 : Word).toNat)) = [h] ∧ (storeFind s.sessions 5).isSome = true ∧ h.ta + 1 ≤ s.tick) ∧
    (∀ h ∈ State.reset.held, State.reset.tick < h.ta + 1) := by decide +kernel

/-! SupervisorAluWritesItsResultAndFlags -/

/-- Firmware runs; core 0 stands at word 0 of its memory, which holds `w`, then `v`. -/
def svCode (w v : Half) : State :=
  ((State.reset.setFld (Reg.PWR_DOM_CTL_state 1) 0).setFld Reg.SV_STAT_state 1).setCore 0 { pc := 0, mem := [(0, w), (1, v)] }

theorem witness_SupervisorAluWritesItsResultAndFlags :
    svRuns (svCode 0 0) 0 = true ∧ ((svCode 0 0).core 0).fly = [] ∧ svSpells (svCode 0x22 0) 0 (.svNop 0) = false ∧
    ∀ p ∈ [(Instr.svMov 0 1 2, (0x4024 : Half)), (.svAdd 0 1 2, 0x4224), (.svAdc 0 1 2, 0x4424), (.svSub 0 1 2, 0x4624),
        (.svSbc 0 1 2, 0x4824), (.svAnd 0 1 2, 0x4A24), (.svOr 0 1 2, 0x4C24), (.svXor 0 1 2, 0x4E24), (.svShl 0 1 2, 0x5024),
        (.svShr 0 1 2, 0x5224), (.svSar 0 1 2, 0x5424), (.svCmp 0 1 2, 0x5624), (.svTst 0 1 2, 0x5E24), (.svAddi 0 1 0x83, 0x6183),
        (.svMovi 0 1 0x83, 0x7183), (.svNop 0, 0x0000), (.svNot 0 1, 0x0022), (.svNeg 0 1, 0x0042), (.svPar 0 1, 0x0062),
        (.svBrev 0 1, 0x0082), (.svSwab 0 1, 0x00A2), (.svMovw 0 1 0x1234, 0x2810), (.svAddw 0 1 0x1234, 0x2910),
        (.svSubw 0 1 0x1234, 0x2A10), (.svAndw 0 1 0x1234, 0x2B10), (.svOrw 0 1 0x1234, 0x2C10), (.svXorw 0 1 0x1234, 0x2D10),
        (.svCmpw 0 1 0x1234, 0x2E10), (.svTstw 0 1 0x1234, 0x2F10)],
      svSpells (svCode p.2 0x1234) 0 p.1 = true := by decide +kernel

/-! SupervisorMovesProductsAndSpecialRegisters -/

theorem witness_SupervisorMovesProductsAndSpecialRegisters :
    let s : State := (State.reset.setFld (Reg.PWR_DOM_CTL_state 1) 0).setFld Reg.SV_STAT_state 1
    let t : State := s.setCore 0 { s.core 0 with fly := [⟨0, true, .w 3 7⟩] }
    svRuns s 0 = true ∧ (s.core 0).age.slot = none ∧ s.fld Reg.SV_STAT_state = 1 ∧ s.svStop = none ∧
    (0 : Fin 16).val % 2 = 0 ∧ (1 : Fin 16).val % 2 = 1 ∧ 7 ≤ (7 : Fin 16).val ∧ (t.core 0).fly = [⟨0, true, .w 3 7⟩] ∧
    (s.core 0).fly = [] ∧ ((svCode 0x3C10 0).core 0).age.fly = [] ∧
    (∀ p ∈ [(Instr.svMul 0 1 2, (0x5824 : Half)), (.svMulhu 0 1 2, 0x5A24), (.svMulhs 0 1 2, 0x5C24), (.svMovb 0 1 2, 0x1828),
        (.svAddb 0 1 2, 0x1A24), (.svBlo 0 1 2, 0x1B42), (.svBhi 0 1 2, 0x1C42), (.svSetbl 0 1 2, 0x1D24), (.svSetbh 0 1 2, 0x1E24),
        (.svSetb 0 1 0xAB1234, 0x31AB), (.svCrc16 0 1 2, 0x3812), (.svCrc32 0 2 3, 0x3923), (.svCrc32 0 3 2, 0x3932),
        (.svCrc16b 0 1 2, 0x3A12), (.svCrc32b 0 2 3, 0x3B23), (.svMfs 0 1 5, 0x3C15), (.svMfs 0 1 0, 0x3C10), (.svMts 0 3 2, 0x3D23), (.svMts 0 0 2, 0x3D20), (.svMts 0 5 2, 0x3D25), (.svMfs 0 1 7, 0x3C17),
        (.svWait 0, 0x00C0), (.svSig 0, 0x00E0)],
      svSpells (svCode p.2 0x1234) 0 p.1 = true ∧ (svCode p.2 0x1234).svStop = none ∧
        (svCode p.2 0x1234).fld Reg.SV_STAT_state = 1) ∧ svSpells (svCode 0x22 0) 0 (.svSig 0) = false ∧
    ((t.setCore 0 { even := 1, evt := 1 }).core 0).evt &&& ((t.setCore 0 { even := 1, evt := 1 }).core 0).even ≠ 0 := by
  decide +kernel

/-! SupervisorLoadsStoresAndWindowWords -/

theorem witness_SupervisorLoadsStoresAndWindowWords :
    let at_ (w : Half) (a : Addr24) (prot : Nat) : State :=
      (svCode w 5).setCore 0 { (svCode w 5).core 0 with bAddr := [(2, a)], protWords := prot }
    let ea (s : State) : Nat := ((s.core 0).age.baseAt (svmBase (.short 1 2 5)) + svmDisp (.short 1 2 5)).toNat
    (∀ e ∈ [Ecc.clean, .corrected, .uncorrectable], svSpells (at_ 0x8A05 8 4) 0 (.svLd 0 (.short 1 2 5) e) = true ∧
      svSpells (at_ 0xCA05 8 4) 0 (.svSt 0 (.short 1 2 5) e) = true) ∧
    (∀ q ∈ [(Instr.svLd 0 (.short 1 2 5) .clean, (8 : Addr24)), (.svLd 0 (.short 1 2 5) .clean, 0x200000),
        (.svLd 0 (.short 1 2 5) .clean, 0x600000), (.svLd 0 (.short 1 2 5) .clean, 0x400000)], svSpells (at_ 0x8A05 q.2 4) 0 q.1 = true ∧
      (at_ 0x8A05 q.2 4).fld Reg.SV_STAT_state = 1 ∧ (at_ 0x8A05 q.2 4).svStop = none ∧ ((at_ 0x8A05 q.2 4).core 0).age.fly = []) ∧
    svSpells (at_ 0x2028 8 4) 0 (.svLd 0 (.long 1 2 5) .clean) = true ∧ svSpells (at_ 0x2228 8 4) 0 (.svSt 0 (.long 1 2 5) .clean) = true ∧
    svSpells (at_ 0x2428 8 4) 0 (.svLdb 0 1 2 5 (.corrected, .uncorrectable)) = true ∧ svSpells (at_ 0x2428 0x200000 4) 0 (.svLdb 0 1 2 5 (.clean, .clean)) = true ∧ svSpells (at_ 0x2628 8 4) 0 (.svStb 0 1 2 5 .clean .clean) = true ∧
    ea (at_ 0xCA05 8 4) = 13 ∧ ((at_ 0xCA05 8 4).core 0).age.protWords ≤ 13 ∧
    ea (at_ 0xCA05 8 99) < ((at_ 0xCA05 8 99).core 0).age.protWords ∧ ea (at_ 0x8A05 0x200000 0) = 0x200005 ∧
    ea (at_ 0x8A05 0x600000 0) = 0x600005 ∧ ea (at_ 0xCA05 0x400000 0) = 0x400005 ∧
    svStopDue (svCode 0x1800 0) 0 6 = true ∧ svStopDue (svCode 0x1801 0) 0 2 = true ∧ svStopDue (svCode 0x1801 0) 0 5 = false ∧
    svRuns (svCode 0x1801 0) 0 = true := by decide +kernel

/-! BranchesHaveOneDelaySlot -/

theorem witness_BranchesHaveOneDelaySlot :
    let at_ (w : Half) (g : Option (Option Addr24)) : State :=
      (svCode w 0x1234).setCore 0 { (svCode w 0x1234).core 0 with slot := g }
    (∀ q ∈ [(Instr.svBra 0 5, none), (.svBra 0 5, some none), (.svBra 0 5, some (some (9 : Addr24)))],
      svSpells (at_ 0x1005 q.2) 0 q.1 = true ∧ ((at_ 0x1005 q.2).core 0).age.slot = q.2 ∧
      (at_ 0x1005 q.2).fld Reg.SV_STAT_state = 1 ∧ (at_ 0x1005 q.2).svStop = none) ∧
    (∀ p ∈ [(Instr.svCall 0 5, (0x1405 : Half)), (.svJmpb 0 2, 0x1940), (.svBcc 0 3 5, 0x0985),
          (.svBcc 0 14 5, 0x0F05), (.svBcc 0 15 5, 0x0F85), (.svWait 0, 0x00C0), (.svNop 0, 0), (.svMovw 0 1 0x1234, 0x2810)],
        svSpells (svCode p.2 0x1234) 0 p.1 = true) ∧
    svSpells (svCode 0 0) 0 (.svBra 0 5) = false := by decide +kernel

/-! WatchdogRestartsBothCoresAndKicksRenewIt -/

theorem witness_WatchdogRestartsBothCoresAndKicksRenewIt :
    let s : State := (State.reset.setFld (Reg.PWR_DOM_CTL_state 1) 0).setFld Reg.SV_STAT_state 1
    let t : State := State.reset.setFld Reg.SV_STAT_state 2
    s.domOn 1 = true ∧ s.fld Reg.SV_STAT_state ≠ 2 ∧ s.wdtWarned = false ∧ (s.setBoot bootRun).boot ≠ bootLoad ∧ s.svStop = none ∧
    (s.setFld (Reg.PWR_DOM_CTL_state 1) 2).domOn 1 = false ∧ State.reset.fld Reg.SV_STAT_state ≠ 2 ∧ reaches reached Reg.SV_WDT_KICK = true ∧
    reaches State.reset Reg.SV_WDT_KICK = false ∧
    (let u : State := { s.setBoot bootLoad with phases := [1, 2] }
     u.boot = bootLoad ∧ u.phases.contains 2 = true ∧ u.nv.pend = none ∧ u.domOn 1 = true) ∧ t.nv.pend = none ∧
    ({ s.setBoot bootRun with svStop := some (1, 6, true) } : State).svStop = some (1, 6, true) ∧
    t.fld Reg.SV_STAT_state = 2 ∧ t.fld Reg.SV_WDT_STAT_reload = 0 ∧
    (t.setFld Reg.SV_WDT_STAT_reload 1).fld Reg.SV_WDT_STAT_reload = 1 ∧
    (signedFirmware (t.setFld Reg.SV_WDT_STAT_reload 1) 0).isNone = true := by decide +kernel

/-! FlashCommandsAreCheckedAndThenChangeTheirBytes -/

theorem witness_FlashCommandsAreCheckedAndThenChangeTheirBytes :
    let s : State := { State.reset with nv := { State.reset.nv with slotLkg := 0 } }
    let u : State := s.setReg Reg.SV_FLASH_ADDR 0x4000000
    reaches (loaded (u.setBoot bootRun)) Reg.SV_FLASH_CMD = true ∧ reaches s Reg.SV_FLASH_CMD = false ∧ (loaded (u.setBoot bootRun)).flashOp = none ∧
    let req (op slot : Half) : State := ((((s.setFld Reg.SV_STAT_state 1).setMbx 0x1F000 (0x8000 ||| op)).setMbx 0x1F005 slot).setMbx 0x1F004 256)
    u.flashOp = none ∧ (u.reg Reg.SV_FLASH_ADDR).toNat / 0x4000000 = 1 ∧ u.nv.slotLkg = 0 ∧ slotRead u 1 = false ∧
    (pageSource u 0 (u.fld Reg.SV_FLASH_SRC_src)).isSome = true ∧ (s.reg Reg.SV_FLASH_ADDR).toNat / 0x4000000 = s.nv.slotLkg ∧
    ({ s with flashOp := some (1, 0, []) } : State).flashOp = some (1, 0, []) ∧ flashByte s.flash 0 = 0xFF ∧
    (∀ q ∈ [(req 1 0, false, 1), (req 2 0, true, 2)], serviceOn q.1 = true ∧ serviceBusy q.1 = true ∧ serviceOp q.1 = q.2.2 ∧
      serviceRefusal q.1 q.2.1 ≠ 0) ∧
    (∀ q ∈ [(req 1 1, false, 1), (req 2 1, true, 2)], serviceOn q.1 = true ∧ serviceBusy q.1 = true ∧ serviceOp q.1 = q.2.2 ∧
      serviceRefusal q.1 q.2.1 = 0) ∧ serviceOn s = false := by decide +kernel

/-! DmaCommandsMoveTheirChannelThroughItsStates -/

theorem witness_DmaCommandsMoveTheirChannelThroughItsStates :
    let w : WinRec := { space := 0, access := 3, channel := 0, partition := 1, base := 0, length := 32 }
    let s : State := { State.reset.setBoot bootRun with phases := [1, 2], str := { wins := [w] }, tickOn := true }
    let at_ (k : Nat) : State := s.setFld (Reg.DMA_CH_STAT_state 0) k
    let paced (k sel st : Nat) : State := ((at_ st).setFld (Reg.DMA_CH_CFG_pace 0) k).setFld (Reg.DMA_CH_CFG_req_sel 0) sel
    reaches s (Reg.DMA_CH_CTL 0) = true ∧ reaches (at_ 1) (Reg.DMA_CH_CTL 0) = true ∧ reaches s (Reg.DMA_CH_FILL_DEC 0) = true ∧
    reaches s Reg.DMA_RESTART = true ∧ reaches State.reset (Reg.DMA_CH_CTL 0) = false ∧
    statusOk (at_ 1) 0 = true ∧ ringSpace (at_ 1) 0 = 0 ∧ statusOk { at_ 1 with str := {} } 0 = false ∧
    dmaOn s = true ∧ s.chanSt 0 = dmaIdle ∧ s.fld (Reg.DMA_CH_CFG_pace 0) ≠ 2 ∧ (∃ x ∈ s.str.wins, x.channel = (0 : Fin 32).val) ∧
    (∀ x ∈ s.str.wins, x.channel ≠ (1 : Fin 32).val) ∧ s.chanSt 1 = dmaIdle ∧
    (paced 2 0 0).fld (Reg.DMA_CH_CFG_pace 0) = 2 ∧ (paced 2 0 0).fld (Reg.DMA_CH_MARKS_hi 0) ≤ (paced 2 0 0).fld (Reg.DMA_CH_MARKS_lo 0) ∧
    dmaOn (paced 2 0 0) = true ∧ (at_ 1).chanSt 0 ≠ dmaIdle ∧ (at_ 1).chanSt 0 ≠ dmaFault ∧ (at_ 2).chanSt 0 = dmaEmpty ∧
    (at_ 4).chanSt 0 = dmaStopped ∧ s.fld Reg.DMA_ERR_valid = 0 ∧ dmaOn State.reset = false ∧
    (∀ q ∈ [(paced 1 1 3, 1), (paced 1 0 3, 0)], q.1.fld (Reg.DMA_CH_CFG_req_sel 0) = q.2 ∧ q.1.fld (Reg.DMA_CH_CFG_pace 0) = 1 ∧
      q.1.chanSt 0 = dmaWait ∧ (q.1.chan 0).fromTick ≤ q.1.tick ∧ q.1.tickOn = true ∧ q.1.fld (Reg.DMA_CH_STAT_pending 0) < 3 ∧
      reaches q.1 (Reg.DMA_CH_CTL 0) = true) ∧
    (State.reset.tickOn = false) := by decide +kernel

/-! DmaBeatsReadCheckAndWriteWhatTheirDescriptorNames -/

theorem witness_DmaBeatsReadCheckAndWriteWhatTheirDescriptorNames :
    let w (sp : Nat) : WinRec := { space := sp, access := 3, channel := 0, partition := 1, base := 0, length := 64 }
    let d : List Word := [0x80000000 ||| BitVec.ofNat 32 (2 ^ 21 + 2 ^ 19), 40, 0, 0, 0, 0]
    let s : State := (({ State.reset.setBoot bootRun with phases := [1, 2], str := { wins := [w 0, w 1] } } : State).setFld
      (Reg.DMA_CH_STAT_state 0) dmaRun).setFld (Reg.PWR_DOM_CTL_state 12) 0
    let host (c : Chan) : State := ((s.setChan 0 c).setReg (Reg.MEM_BANK_PWR 0) 0).setReg (Reg.MEM_BANK_OWNER 0) 1
    let alone (s : State) : Bool := dmaOn s && hasBeat s 0 && (List.range 31).all (fun m => !hasBeat s (m + 1)) &&
      storeGet 0 s.dma.last (s.fld (Reg.DMA_CH_CFG_prio 0)) == 0 && (s.chan 0).share == 0
    let mv (b : List Byte) : Chan := { phase := .move, desc := some d, buf := b }
    alone s = true ∧ (s.chan 0).phase = .fetch ∧ ringSpace s 0 = 0 ∧
    beatOk s 0 0 (ringAt s 0) 32 false = true ∧ beatOk { s with str := {} } 0 0 (ringAt s 0) 32 false = false ∧
    alone { s with str := {} } = true ∧
    (let t := (host {}).setFld (Reg.DMA_CH_RING_SIZE_space 0) 1
     alone t = true ∧ ringSpace t 0 = 1 ∧ beatOk t 0 1 (ringAt t 0) 32 false = true ∧ statusOk t 0 = true ∧
     ringAt t 0 / 0x40000 < 384) ∧
    (let t := host (mv [])
     alone t = true ∧ paceOf t 0 ≠ 1 ∧ canWrite t 0 d = false ∧ dSrcSpace d = 1 ∧
     beatOk t 0 1 (nextRead d 0 (moveEnd t 0 d)).1 (nextRead d 0 (moveEnd t 0 d)).2 false = true ∧
     beatOk { t with str := {} } 0 1 (nextRead d 0 (moveEnd t 0 d)).1 (nextRead d 0 (moveEnd t 0 d)).2 false = false) ∧
    (let t := ((host (mv [])).setFld (Reg.DMA_CH_CFG_pace 0) 1).setFld (Reg.DMA_CH_STAT_pending 0) 1
     alone t = true ∧ paceOf t 0 = 1 ∧ (t.chan 0).burst = 0 ∧ t.fld (Reg.DMA_CH_STAT_pending 0) ≠ 0) ∧
    (let t := host (mv (List.replicate 40 7))
     alone t = true ∧ canWrite t 0 d = true ∧ dDstSpace d = 1 ∧
     t.done 0 + writeLen d (t.done 0) (dLen d) < dLen d ∧ beatOk t 0 1 0 (writeLen d 0 (dLen d)) true = true ∧
     (let q := t.setFld (Reg.DMA_CH_DONE_done 0) 32
      alone q = true ∧ canWrite q 0 d = true ∧ q.done 0 + writeLen d (q.done 0) (dLen d) = dLen d ∧ dBarrier d = false ∧ dKeep d = false ∧
      statusOk q 0 = true ∧ beatOk q 0 (ringSpace q 0) (ringAt q 0) 4 true = true)) ∧
    (let t := host { mv [] with asked := true }
     (t.chan 0).asked = true ∧ t.chanSt 0 ≠ dmaStopped) ∧ (s.chan 0).asked = false ∧
    dOwn (bytesWords ([] : List Byte)) = false ∧
    (let ws := bytesWords ([0, 0, 0, 0x80] ++ List.replicate 28 (0 : Byte))
     dOwn ws = true ∧ dMalformed ws = true) ∧
    (let ws := bytesWords ([0, 0, 0, 0x80, 4] ++ List.replicate 27 (0 : Byte))
     dOwn ws = true ∧ dMalformed ws = false) ∧
    (let t := host { mv [] with phase := .barrier }
     (t.chan 0).phase = .barrier ∧ t.chanSt 0 = dmaRun ∧ statusOk t 0 = true ∧
     statusOk { t with str := {} } 0 = false ∧ (t.setFld (Reg.DMA_CH_STAT_state 0) dmaStopped).chanSt 0 = dmaStopped) ∧
    alone (host { mv [] with phase := .arrived }) = true := by
  decide +kernel

/-! DomainsSleepWakeAndResumeByTheirRules -/

theorem witness_DomainsSleepWakeAndResumeByTheirRules :
    let io : IoRec := { num := 0, dir := 0, kind := 1, port := 0, channel := 0, partition := 1, engine := 0, word := 0, k := 1, wordBits := 24 }
    let s : State := ({ State.reset with str := { io := [io], drams := [{ partition := 0, graftBuf := false, base := 0, length := 0 }] } } : State)
    let f : EthFrame := { port := 0, len := 64, fcsOk := true, mac := BitVec.allOnes 48, ns := 0, body := .arp }
    let dm (d st : Nat) : State := (loaded s).setFld (Reg.PWR_DOM_CTL_state d) st
    let idle : State := (dm 10 0).setFld (Reg.PWR_DOM_CTL_idle_target 10) 2
    let en (x : Dom) : State := (dm 10 3).setDom 10 x
    f.fcsOk = true ∧ macIsOurs f.port f.mac = true ∧ frameClassed s f.port f.body = true ∧
    s.str.io.any (fun r => r.dir == 0 && r.kind == (activityDom 0).2.2) = true ∧
    (true && s.fld (Reg.PWR_DOM_CTL_det_level 14) == 0) = true ∧
    (isClusterDom 10 = false ∧ domPinned idle 10 = false ∧ idle.domSt 10 = domStOn ∧ targetOk 10 (idle.fld (Reg.PWR_DOM_CTL_idle_target 10)) = true ∧
      domIdle idle 10 = true) ∧ (idle.setFld (Reg.PWR_IDLE_TMR_idle 10) 5).fld (Reg.PWR_IDLE_TMR_idle 10) ≠ 0 ∧
    (isClusterDom 10 = false ∧ domNeeded s 10 = true ∧ s.hold.isNone = true ∧ s.boot ≠ bootWaitHost ∧ s.boot ≠ bootCoppice ∧ (dm 10 1).domSt 10 = domStRet ∧ (dm 10 3).domSt 10 = domStEntering) ∧
    ((en { target := 1 }).dom 10).target = 1 ∧ ((en { target := 2 }).dom 10).target = 2 ∧
    ((en { target := 1, latched := some 2 }).dom 10).latched = some 2 ∧ domNeeded (en { target := 1, latched := some 2 }) 10 = true ∧
    ((dm 10 4).dom 10).ready < 3 ∧ 3 ≤ (((dm 10 4).setDom 10 { ready := 3 }).dom 10).ready ∧
    (clusterControl (Reg.PWR_IDLE_TMR 3) = true ∧ (State.reset.setBoot bootRun).boot = bootRun ∧
      (State.reset.setBoot bootRun).twinMode = false ∧ State.reset.boot ≠ bootRun) ∧ clusterControl 0 = false ∧ isClusterDom 2 = true ∧
    reaches reached (Reg.PWR_DOM_CTL 10) = true ∧ reaches reached (Reg.PWR_IDLE_TMR 3) = true ∧ reaches State.reset (Reg.PWR_DOM_CTL 10) = false ∧
    (pairedTwin 1).leads = true ∧ (pairedTwin 1).boot = bootRun ∧ reaches (loaded (pairedTwin 1)) (Reg.PWR_IDLE_TMR 3) = true ∧
    storeGet 0 ({ State.reset with wakeAt := [(1, 1)] } : State).wakeAt 1 ≠ 0 := by decide +kernel

/-! MonitorsRaiseWarningsAndFaultsFromTheirReadings -/

theorem witness_MonitorsRaiseWarningsAndFaultsFromTheirReadings :
    let s : State := State.reset.setFld (Reg.PWR_DOM_CTL_state 1) 0
    let a : State := s.setFld (Reg.MON_AMON_CTL_en 0) 1
    (∃ t : Half, t.toInt < 1000 ∧ 880 ≤ t.toInt) ∧ (∃ t : Half, 1000 ≤ t.toInt) ∧ s.domOn 1 = true ∧ storeGet 0 s.hotRun 1 = 0 ∧
    0 < storeGet 0 ({ s with hotRun := [(1, 1)] } : State).hotRun 1 ∧ (State.reset.setFld (Reg.PWR_DOM_CTL_state 1) 2).domOn 1 = false ∧
    railWatched (s.setBoot bootRun) 0 = true ∧ railWatched State.reset 0 = false ∧
    (s.setFld (Reg.MON_AMON_CTL_cmp_en 0) 1).fld (Reg.MON_AMON_CTL_cmp_en 0) = 1 ∧
    ((s.setFld (Reg.MON_AMON_CTL_cmp_en 0) 1).setFld (Reg.MON_AMON_CTL_cmp_dir 0) 1).fld (Reg.MON_AMON_CTL_cmp_dir 0) = 1 ∧
    s.fld (Reg.MON_AMON_DATA_cmp 0) = 0 ∧ a.fld (Reg.MON_AMON_CTL_en 0) = 1 ∧
    a.fld (Reg.MON_AMON_CTL_owire_en 0) = 0 ∧ (a.setFld (Reg.MON_AMON_CTL_owire_en 0) 1).fld (Reg.MON_AMON_CTL_owire_en 0) = 1 ∧
    storeGet 0 a.amonPlain 0 = 0 ∧ storeGet 0 ({ a with amonPlain := [(0, 9)] } : State).amonPlain 0 = 9 ∧
    isClusterDom 3 = true ∧ asleep (s.setFld ⟨Reg.PWR_SIL_STAT, 9, 1⟩ 1) 1 = true ∧ asleep s 1 = false ∧ storeGet 0 s.wakeAt 1 = 0 := by
  refine ⟨⟨900, by decide⟩, ⟨1000, by decide⟩, ?_⟩
  decide +kernel

/-! AliasAndRegisterWritesReachExactlyTheirWord -/

theorem witness_AliasAndRegisterWritesReachExactlyTheirWord :
    let s : State := ({ State.reset.setBoot bootRun with phases := [1, 2] } : State).setFld (Reg.PWR_DOM_CTL_state 12) 0
    let b : State := { s with lb := { ptr := 0x140004 } }
    let g : State := s.setCore 0 { protWords := 9 }
    svRuns s 0 = true ∧ ¬ (8 < (s.core 0).protWords) ∧ svRuns g 0 = true ∧ 8 < (g.core 0).protWords ∧
    s.svStop = none ∧ reaches s Reg.MBX_DB = true ∧ reaches State.reset Reg.MBX_DB = false ∧ reaches s Reg.TICK_COUNT0 = true ∧ pcieOn State.reset = false ∧
    (let n : State := (s.setFld (Reg.PWR_DOM_CTL_state 11) 0).setFld (Reg.NET_PORT_STAT_link 0) 1
     let n : State := { n with str := { n.str with ports := [{ kind := 0, port := 0, set := [0, 0, 4] }] } }
     n.fld Reg.SV_STAT_state ≠ 2 ∧ n.domOn 11 = true ∧ n.fld (Reg.NET_PORT_STAT_link 0) ≠ 0 ∧ sendsNothing n = false ∧
       (n.portCfg 0 0).any (fun r => r.byte 2 / 4 % 2 == 1) = true) ∧ svRuns (s.setFld Reg.SV_STAT_state 2) 0 = false ∧
    reaches s 0x1FF8000 = true ∧ reaches s 0x1800000 = true ∧ pcieOn s = true ∧ reaches State.reset 0x1800000 = false ∧
    reaches s Reg.MBX_CFG = true ∧ (regRow 0x100 = none ∨ regRow 0x3C = none) ∧ inMailbox 0x3C = false ∧ inParams 0x3C = false ∧
    inAlias 0x3C = false ∧ inMailbox 0x140000 = true ∧ reaches s 0x140000 = true ∧
    (c1Done b = true ∧ inMailbox b.lb.ptr.toNat = true ∧ reaches b b.lb.ptr.toNat = true ∧ b.lb.ptr.toNat % 4 = 0 ∧ serviceBusy b = false) ∧
    serviceBusy (s.setMbx 0x1F000 0x8000) = true ∧ s.domOn 12 = true ∧
    c1Done State.reset = false ∧ (s.setFld Reg.MBX_CFG_host_en 1).fld Reg.MBX_CFG_host_en = 1 ∧
    storeGet false ({ s with msix := { open' := [(0, true)] } } : State).msix.open' (s.fld Reg.MBX_CFG_host_vec) = true ∧
    storeGet false s.msix.open' (s.fld Reg.MBX_CFG_host_vec) = false ∧ State.reset.domOn 12 = false ∧
    s.fld Reg.MBX_CFG_host_en = 0 := by decide +kernel

/-! CounterClearsZeroTheirFieldsAlone -/

theorem witness_CounterClearsZeroTheirFieldsAlone :
    [Reg.MEM_CTL, Reg.CMT_CTL, Reg.PWR_CTL, Reg.TDM_CTL, Reg.AES_CTL, Reg.QS_CTL, Reg.DMA_CTL, Reg.SES_CFG, Reg.THN_CTL, Reg.ENG_CTL 7,
      Reg.MON_THERM_CTL, Reg.NET_CTL].all (fun a => reaches reached a && !reaches State.reset a) = true := by decide +kernel

/-! DoorbellPagesRunTheirRings -/

theorem witness_DoorbellPagesRunTheirRings :
    let a : Answer := { bell := true, part := 1, session := 5, frame := 1, op := 7, reqId := 9, reply := { status := 0 } }
    let s : State := { onePartition with hostWins := [(1, { cfg := 2 })] }
    let r : State := ((s.setPage 1 { en := true, run := true }).setFld (Reg.PWR_DOM_CTL_state 12) 0)
    let w : State := { r with bellOut := [a] }
    (s.part 1).isSome = true ∧ (s.page 1).en = false ∧ inHostWin s 1 0 4096 = true ∧ inHostWin { s with hostWins := [] } 1 0 4096 = false ∧
    (r.page 1).en = true ∧ (s.part 2).isSome = false ∧ (w.page 1).run = true ∧ w.domOn 12 = true ∧
    w.bellOut.find? (fun a => a.part == (1 : Fin 256).val) = some a ∧ (answerFrame a).length = 60 ∧ 64 ≤ rxRoom (w.page 1) ∧
    pcieOn r = true ∧ sesOn r = true ∧
    (let z : State := r.setPage 1 { (r.page 1) with txTail := 64 }
     (z.page 1).txHead ≠ (z.page 1).txTail % 4096 ∧ z.bellOut.any (fun a => a.part == (1 : Fin 256).val) = false ∧ frameNat openFrame 2 2 = 52 ∧
       storeFind z.sessions 5 = none ∧ frameNat (pingFrame.set 2 200) 2 2 = 200 ∧ frameNat pingFrame 1 1 = 2) ∧
    storeGet false ({ w with msix := { open' := [(0, true)] } } : State).msix.open' 0 = true ∧
    rxRoom ((w.setPage 1 { (w.page 1) with rxTail := 4080 }).page 1) < (answerFrame a).length ∧
    s.bellOut.find? (fun a => a.part == (1 : Fin 256).val) = none := by decide +kernel

/-! SessionsOpenAuthenticateAndEnd -/

theorem witness_SessionsOpenAuthenticateAndEnd :
    let q : OpenReq := { part := 1, bell := false, addr := 9, ms := 2000 }
    let k : KeySlot := ⟨5, 7, true⟩
    reaches reached Reg.SES_KEY_CTL = true ∧ reaches State.reset Reg.SES_KEY_CTL = false ∧
    reached.boot ≠ bootRun ∧ reached.boot ≠ bootWaitHost ∧ (reached.setFld (Reg.PWR_DOM_CTL_state 12) 0).fld (Reg.PWR_DOM_CTL_state 12) = 0 ∧
    onePartition.boot = bootRun ∧ frameNat openFrame 1 1 = 0 ∧ onePartition.openReqs.length < 256 ∧
    256 ≤ (List.replicate 256 q).length ∧ State.reset.boot = bootCold ∧
    (onePartition.setFld Reg.SV_STAT_state 1).fld Reg.SV_STAT_state = 1 ∧ onePartition.fld Reg.SV_STAT_state ≠ 1 ∧ 2000 ≤ q.ms ∧
    onePartition.fld Reg.SES_CFG_idle ≠ 0 ∧ onePartition.fld Reg.SES_CFG_idle ≤ netSession.idle ∧ onePartition.keyOp = none ∧
    ({ onePartition with keyOp := some (1, k) } : State).keyOp = some (1, k) ∧ frameNat pingFrame 1 1 = 2 ∧
    headerOk ⟨1, false, 9, pingFrame⟩ 2 = true ∧ frameNat pingFrame 4 2 = 5 ∧ netSession.bell = false ∧ netSession.part = 1 := by
  decide +kernel

/-- The request of `openFrame` is authentic for its key, and for no other. -/
theorem witness_openFrame_authentic :
    openOk { onePartition with keys := [(1, ⟨5, 7, true⟩)] } ⟨1, false, 9, openFrame⟩ = true ∧
    openOk onePartition ⟨1, false, 9, openFrame⟩ = false := by decide +kernel

/-- The tag of `pingFrame` verifies under the session's key and its number is new; with another tag it does not. -/
theorem witness_pingFrame_authentic :
    (gcmTag (keyOf netSession.kIn) (frameNonce (frameNat pingFrame 8 8)) (pingFrame.take 16) ((pingFrame.take 24).drop 16) ==
      pingFrame.drop 24 && seqFresh netSession (frameNat pingFrame 8 8)) = true ∧
    (gcmTag (keyOf netSession.kIn) (frameNonce 1) (pingFrame.take 16) ((pingFrame.take 24).drop 16) ==
      List.replicate 16 (0 : Byte)) = false := by decide +kernel

/-! ExponentOfAWordCountsItsSignBits -/

/-- Engine 0 holds 0x0030_0000 in V5, 0 in V6 and 0xFFFF_FFFF in V7; the word at its program counter is EXP or NORM of one of them. -/
theorem witness_ExponentOfAWordCountsItsSignBits :
    ∀ x ∈ ([(0x2880000000, .exp 0 5, 5, 0x300000), (0x28A0000000, .norm 0 5, 5, 0x300000), (0x3080000000, .exp 0 6, 6, 0),
        (0x30A0000000, .norm 0 6, 6, 0), (0x3880000000, .exp 0 7, 7, 0xFFFFFFFF), (0x38A0000000, .norm 0 7, 7, 0xFFFFFFFF)] :
        List (BitVec 64 × Instr × Nat × Word)),
      let s : State := { runningEngine with
        eng := [(0, { win := true, prog := [(0, x.1)], v := [(5, 0x300000), (7, 0xFFFFFFFF)] })] }
      slotFree s 0 x.2.1 [.a] = true ∧ ((fetched s 0 [.a]).engine 0).rd x.2.2.1 = x.2.2.2 := by decide +kernel

/-! ### Worked examples of the spec, and published vectors of the standards it names -/

/-- The check string "123456789" gives 0xE306_9283 (the example under R322, and R189). -/
theorem test_crc32c_check_string :
    crc32c [0x31, 0x32, 0x33, 0x34, 0x35, 0x36, 0x37, 0x38, 0x39] = 0xE3069283 := by decide +kernel

/-- SHA-256 of "abc" (FIPS 180-4, the standard R191 names). -/
theorem test_sha256_abc :
    sha256 [0x61, 0x62, 0x63] = 0xba7816bf8f01cfea414140de5dae2223b00361a396177a9cb410ff61f20015ad := by decide +kernel

/-- AES-256 of the block 00112233…ff under the key 000102…1f (FIPS 197, C.3). -/
theorem test_aes256_block :
    aesBlock (roundKeys ((List.range 32).map (fun i => BitVec.ofNat 8 i)))
        ((List.range 16).map (fun i => BitVec.ofNat 8 (17 * i))) =
      [0x8e, 0xa2, 0xb7, 0xca, 0x51, 0x67, 0x45, 0xbf, 0xea, 0xfc, 0x49, 0x90, 0x4b, 0x49, 0x60, 0x89] := by decide +kernel

/-- A gain of −16 applied to −1.0 extracts as 0x7FFF_FFFF with FLG.sat (the example under R57). -/
theorem test_gain_minus_sixteen :
    sat32 (extractExact (BitVec.ofInt 80 (2 ^ 58)) 27 true) = 0x7FFFFFFF ∧
      outside32 (extractExact (BitVec.ofInt 80 (2 ^ 58)) 27 true) = true := by decide +kernel

/-- The exponents of the example under R61. -/
theorem test_exponents_of_four_outputs :
    [0x00300000, 0xFFE00000, 0x00001234, 0xFFFF8000].map exp32 = [9, 10, 18, 16] := by decide +kernel

/-- The next stage's inputs of the same example, with BX = 9 and guard 1. -/
theorem test_block_scaling_by_eight :
    [0x00300000, 0xFFE00000, 0x00001234, 0xFFFF8000].map (fun v => sat32 (bxsExact v 9 1)) =
      [0x30000000, 0xE0000000, 0x00123400, 0xFF800000] := by decide +kernel

/-- The three samples of the soft-knee example under R226. -/
theorem test_soft_knee :
    [0x07000000, 0x09000000, 0x0A800000].map (fun z => thornLimit z 0x06000000 0x08000000) =
      [0x06E00000, 0x07E00000, 0x08000000] := by decide +kernel

/-- The first sample of that example on its 24-bit port, with u1 − u2 = 6. -/
theorem test_soft_knee_port_word : clampTo 24 (roundHalfEven (0x06E00000 + 6) 4) = 0x6E0000 := by decide +kernel

/-- MEM_BANK_OWNER100 lies at 0x000F_0190 (the example of chapter 18). -/
theorem test_bank_owner_address : Reg.MEM_BANK_OWNER 100 = 0xF0190 := by decide

/-- The 48 kHz word clock of the example under R34: CLK_OUT3_CTL = 0x0000_3121 is coarse 49, fine 2, enabled. -/
theorem test_word_clock_delay :
    (match exec (.clkOutConfig 3 false 0x3121) reached with
      | .next t => (t.fld (Reg.CLK_OUT_CTL_dly_coarse 3), t.fld (Reg.CLK_OUT_CTL_dly_fine 3), t.fld (Reg.CLK_OUT_CTL_en 3))
      | _ => (0, 0, 0)) = (49, 2, 1) := by decide +kernel

/-! ### Instruction words of the spec's own examples (chapters 04 and 14) -/

/-- The body word of the FIR example (Table 04.14): MAC shared, V0 by the quad V40, ACC0; LD V0 post; LD V36 circular. -/
theorem test_fir_body_word : decodeWord 0 0x801400000801C800 =
    [.mac 0 ⟨false, false, false, 0, 10, 0, 0⟩, .nop 0, .ld 0 .l0 .post 0 0 .clean, .ld 0 .l1 .circ 36 0 .clean, .xnop 0] := by
  decide +kernel

/-- The LOOP word of the same example: one word, 64 times, rotating; LD V0 post; LD V37 circular. -/
theorem test_fir_loop_word : decodeWord 0 0x00002007E801CA03 =
    [.ld 0 .l0 .post 0 0 .clean, .ld 0 .l1 .circ 37 0 .clean, .loop 0 true 0 63] := by decide +kernel

/-- LD W4, 0(B1); CRC32 W2, W4; CRC32B W2, W1 (the example under R322). -/
theorem test_supervisor_example_words :
    decodeSv 0 0xA100 0 = some (.svLd 0 (.short 4 1 0) .clean) ∧ decodeSv 0 0x3924 0 = some (.svCrc32 0 2 4) ∧
      decodeSv 0 0x3B21 0 = some (.svCrc32b 0 2 1) := by decide +kernel

/-! ### Well-formedness (R86, R97) -/

/-- A long-form load of an accumulator shifts by at most 48. -/
theorem test_lda_shift_above_48_is_ill_formed : (Instr.lda 0 0 0 49).wellFormed = false := by decide

/-- REP runs on wardens alone. -/
theorem test_rep_on_a_plain_engine_is_ill_formed : (Instr.rep 14 0).wellFormed = false := by decide

/-- An ill-formed LDA is refused, by name. -/
theorem test_ill_formed_lda_is_refused : exec (.lda 0 0 0 49) State.reset = .refused (.illFormed "LDA") := rfl

/-- An ill-formed REP is refused, by name. -/
theorem test_ill_formed_rep_is_refused : exec (.rep 14 0) State.reset = .refused (.illFormed "REP") := rfl

/-- The well-formed neighbours are accepted. -/
theorem test_well_formed_neighbours :
    (Instr.lda 0 0 0 48).wellFormed = true ∧ (Instr.rep 15 0).wellFormed = true := by decide

/-! ### The queue (log entry 1) and stores -/

/-- With an empty queue the block idles. -/
theorem test_empty_queue_idles : step State.reset = .next State.reset := rfl

/-- A store that holds its default nowhere and rises strictly is in canonical form; writing the default removes the entry. -/
theorem test_store_form :
    storeSet (0 : Word) (storeSet 0 [(3, 7)] 2 5) 3 0 = [(2, 5)] ∧ Memory.wf (0 : Word) [(2, 5), (3, 7)] = true ∧
      Memory.wf (0 : Word) [(3, 7), (2, 5)] = false ∧ Memory.wf (0 : Word) [(2, 0)] = false := by decide +kernel

/-- The memories of the reset state are in canonical form. -/
theorem test_reset_memories_are_canonical :
    (Memory.wf (0 : Word) State.reset.pstA && Memory.wf (0 : Word) State.reset.pstB && Memory.wf (0 : Word) State.reset.delay &&
      Memory.wf (0 : Word) State.reset.regs) = true := by decide +kernel

/-- CLK_PLLB_FRAC reads its value after a cold start (chapter 02). -/
theorem test_pllb_frac_at_reset : State.reset.reg Reg.CLK_PLLB_FRAC = 0xC0000000 := by decide +kernel

/-- No word spells a command: the table gives its rows no bits. -/
theorem test_no_word_spells_a_command (n w : Nat) : decodeTableWord n w = none := rfl

end Sys2Proof.Machine
end

section
/-!
PROOFS. What a chain of field writes changes: the frames `onlyFlds` and `onlyRegs` grow by one write at a time.
-/
namespace Sys2Proof.Machine

theorem bitsOf_lt (v : Word) (lo w : Nat) : bitsOf v lo w < 2 ^ w := Nat.mod_lt _ (by positivity)

/-- A field reads back a number of its width. -/
theorem fld_setFld_of_lt {s : State} {f : Fld} {v : Nat} (h : f.lo + f.w ≤ 32) (hv : v < 2 ^ f.w) : (s.setFld f v).fld f = v := by
  rw [fld_setFld_self _ _ _ h, Nat.mod_eq_of_lt hv]

/-- A field reads back the bits of a written word that are its own. -/
theorem fld_setFld_bits (s : State) (f : Fld) (v : Word) (lo w : Nat) (h : f.lo + f.w ≤ 32) (hw : f.w = w) :
    (s.setFld f (bitsOf v lo w)).fld f = bitsOf v lo w :=
  fld_setFld_of_lt h (hw ▸ bitsOf_lt v lo w)

/-- A field holds a number of its width. -/
theorem fld_lt (s : State) (f : Fld) : s.fld f < 2 ^ f.w := Nat.mod_lt _ (by positivity)

theorem onlyFlds_refl (fs : List Fld) (s : State) : onlyFlds fs s s := ⟨rfl, fun _ _ => rfl⟩

theorem onlyFlds_setFld {fs : List Fld} {s t : State} (h : onlyFlds fs s t) {f : Fld} (hf : f ∈ fs) (hw : f.lo + f.w ≤ 32)
    (v : Nat) : onlyFlds fs s (t.setFld f v) := by
  obtain ⟨hst, hkept⟩ := h
  refine ⟨?_, fun g hg => ?_⟩
  · obtain ⟨r, rfl⟩ : ∃ r, t = { s with regs := r } := ⟨_, hst⟩
    rfl
  · rw [fld_setFld_other _ _ _ _ hw (hg f hf), hkept g hg]

theorem onlyRegs_refl (as : List Nat) (s : State) : onlyRegs as s s := ⟨rfl, fun _ _ => rfl⟩

theorem onlyRegs_setFld {as : List Nat} {s t : State} (h : onlyRegs as s t) {f : Fld} (hf : f.addr ∈ as) (v : Nat) :
    onlyRegs as s (t.setFld f v) := by
  obtain ⟨hst, hkept⟩ := h
  refine ⟨?_, fun a ha => ?_⟩
  · obtain ⟨r, rfl⟩ : ∃ r, t = { s with regs := r } := ⟨_, hst⟩
    rfl
  · have hne : a ≠ f.addr := fun e => ha (e ▸ hf)
    rw [reg_setFld, if_neg hne, hkept a ha]

end Sys2Proof.Machine
end

section
/-!
PROOFS. Clock outputs, the tuning-voltage warning and the latched read of TICK_COUNT (R32, R34, R35, R40).
-/
namespace Sys2Proof.Machine

/-- Two paths share a holding register where both are cores of the supervisor (R40). -/
theorem holdNum_eq_iff (q p : Path) :
    holdNum q = holdNum p ↔ q = p ∨ ((q = .sv0 ∨ q = .sv1) ∧ (p = .sv0 ∨ p = .sv1)) := by
  cases q <;> cases p <;> decide

/-- A path that reaches a register passes its gate (R265, R369). -/
theorem gatedBy_accessible {s t : State} {path : Path} {a : Nat} (h : accessible s path a) : gatedBy s path a t = t := by
  obtain ⟨hreach, hon⟩ := h
  by_cases hp : path = .pcie
  · subst hp; rw [gatedBy_pcie_on (hon rfl), gated_reached hreach]
  · rw [gatedBy_local hp, gated_reached hreach]

theorem clkOutWrite_div (s : State) (n : Nat) (v : Word) :
    onlyFlds [Reg.CLK_OUT_DIV_div_m1 n] s (clkOutWrite s n true v) ∧
      (clkOutWrite s n true v).fld (Reg.CLK_OUT_DIV_div_m1 n) = if bitsOf v 0 16 = 0 then 1 else bitsOf v 0 16 := by
  refine ⟨onlyFlds_setFld (onlyFlds_refl _ s) (by simp) (by simp [Reg.CLK_OUT_DIV_div_m1]) _, ?_⟩
  have hw := bitsOf_lt v 0 16
  rw [clkOutWrite, if_pos rfl]
  exact fld_setFld_of_lt (by simp [Reg.CLK_OUT_DIV_div_m1]) (by simp only [Reg.CLK_OUT_DIV_div_m1]; split <;> omega)

theorem clkOutWrite_ctl (s : State) (n : Nat) (v : Word) :
    let t := clkOutWrite s n false v
    onlyRegs [Reg.CLK_OUT_CTL n] s t ∧ t.fld (Reg.CLK_OUT_CTL_en n) = bitsOf v 0 1 ∧ t.fld (Reg.CLK_OUT_CTL_inv n) = bitsOf v 1 1 ∧
      t.fld (Reg.CLK_OUT_CTL_dly_fine n) = bitsOf v 4 4 ∧ t.fld (Reg.CLK_OUT_CTL_dly_coarse n) = bitsOf v 8 12 := by
  have addr {f : Fld} (h : f.addr = Reg.CLK_OUT_CTL n) : f.addr ∈ [Reg.CLK_OUT_CTL n] := by simp [h]
  refine ⟨onlyRegs_setFld (onlyRegs_setFld (onlyRegs_setFld (onlyRegs_setFld (onlyRegs_refl _ s)
    (addr rfl) _) (addr rfl) _) (addr rfl) _) (addr rfl) _, ?_⟩
  simp [clkOutWrite, fld_setFld_bits, fld_setFld_other, Reg.CLK_OUT_CTL_en, Reg.CLK_OUT_CTL_inv,
    Reg.CLK_OUT_CTL_dly_fine, Reg.CLK_OUT_CTL_dly_coarse]

theorem wclkWrite_flds (s : State) (v : Word) :
    let t := wclkWrite s v
    onlyFlds [Reg.CLK_WCLK_CTL_en, Reg.CLK_WCLK_CTL_dly] s t ∧ t.fld Reg.CLK_WCLK_CTL_en = bitsOf v 0 1 ∧
      t.fld Reg.CLK_WCLK_CTL_dly = bitsOf v 16 16 := by
  refine ⟨onlyFlds_setFld (onlyFlds_setFld (onlyFlds_refl _ s) (by simp) (by decide) _) (by simp) (by decide) _, ?_⟩
  simp [wclkWrite, fld_setFld_bits, fld_setFld_other, Reg.CLK_WCLK_CTL_en, Reg.CLK_WCLK_CTL_dly]

theorem execVtuneWarn_flds (near : Bool) (s : State) :
    ∃ t, execVtuneWarn near s = .next t ∧ onlyFlds [Reg.CLK_STAT_vtune_warn, Reg.CLK_STAT_vtune_seen] s t ∧
      t.fld Reg.CLK_STAT_vtune_warn = near.toNat ∧ (near = true → t.fld Reg.CLK_STAT_vtune_seen = 1) ∧
      (near = false → t.fld Reg.CLK_STAT_vtune_seen = s.fld Reg.CLK_STAT_vtune_seen) := by
  refine ⟨_, rfl, ?_⟩
  have hwarn := onlyFlds_setFld (onlyFlds_refl [Reg.CLK_STAT_vtune_warn, Reg.CLK_STAT_vtune_seen] s)
    (f := Reg.CLK_STAT_vtune_warn) (by simp) (by decide) near.toNat
  cases near
  case false => exact ⟨hwarn, by simp [fld_setFld_self, Reg.CLK_STAT_vtune_warn], by simp,
    fun _ => fld_setFld_other _ _ _ _ (by decide) (by decide)⟩
  case true =>
    refine ⟨onlyFlds_setFld hwarn (by simp) (by decide) _, ?_⟩
    simp [fld_setFld_self, fld_setFld_other, Reg.CLK_STAT_vtune_warn, Reg.CLK_STAT_vtune_seen]

/-- The low word goes to the path that reads, the high word to its holding register; the other holding registers keep theirs (R40). -/
theorem execTickCountRead_latches (path : Path) (s : State) (h : accessible s path Reg.TICK_COUNT0) :
    ∃ t, execTickCountRead path s = .next t ∧ t = { s with tickHold := t.tickHold, readData := t.readData } ∧
      storeGet 0 t.readData (pathNum path) = BitVec.ofNat 32 s.tick ∧
      ∀ q, storeGet 0 t.tickHold (holdNum q) =
        if holdNum q = holdNum path then BitVec.ofNat 32 (s.tick / 2 ^ 32) else storeGet 0 s.tickHold (holdNum q) := by
  refine ⟨_, congrArg Host.Outcome.next (gatedBy_accessible h), rfl, ?_, fun q => ?_⟩
  · rw [storeGet_set, if_pos rfl]
  · rw [latchTick, storeGet_set]

/-- Settles O25: each write is a chain of field writes of its own register, and the read latches through `storeSet`. -/
theorem clockOutputSettingsWaitForTheBoundary : Obligations.ClockOutputSettingsWaitForTheBoundary := by
  unfold Obligations.ClockOutputSettingsWaitForTheBoundary
  intro n v near path s hpath hout hwclk
  have passes {t : State} {a : Nat} (h : reaches s a = true) :
      (Host.Outcome.next (gated s a t) : Host.Outcome State Fault Refusal) = .next t := by rw [gated_reached h]
  refine ⟨⟨_, passes hout, clkOutWrite_div s n v⟩, ⟨_, passes hout, clkOutWrite_ctl s n v⟩,
    ⟨_, passes hwclk, wclkWrite_flds s v⟩, execVtuneWarn_flds near s, ?_⟩
  obtain ⟨t, hexec, hframe, hread, hhold⟩ := execTickCountRead_latches path s hpath
  refine ⟨t, hexec, hframe, ?_, fun q => ?_⟩
  · rw [← hread]; cases path <;> rfl
  · rw [hhold q]; simp only [holdNum_eq_iff]

end Sys2Proof.Machine
end

section
/-!
PROOFS. PLL-A: what each of its operations does to CLK_STAT, the control word and the clock's own state, and the frame that
they share: registers of the CLK block, `State.clk` and the counter of free values alone change (R23 to R29).
-/
namespace Sys2Proof.Machine

/-- From `s` to `t` the registers at the addresses `as`, the clock's own state and the counter of free values alone change. -/
def onlyClk (as : List Nat) (s t : State) : Prop :=
  t = { s with regs := t.regs, clk := t.clk, freeCtr := t.freeCtr } ∧ regsKept as s t

/-- `s` with the clock's own state `c` and the counter of free values at `n`. -/
def State.putClk (s : State) (c : Clk) (n : Nat) : State := { s with clk := c, freeCtr := n }

section
variable (s : State) (c : Clk) (n : Nat)

@[simp] theorem clk_putClk : (s.putClk c n).clk = c := Eq.trans rfl rfl
@[simp] theorem reg_putClk (a : Nat) : (s.putClk c n).reg a = s.reg a := Eq.trans rfl rfl
@[simp] theorem fld_putClk (f : Fld) : (s.putClk c n).fld f = s.fld f := Eq.trans rfl rfl
@[simp] theorem dco_putClk : (s.putClk c n).dco = s.dco := Eq.trans rfl rfl
@[simp] theorem plla_putClk : (s.putClk c n).plla = s.plla := Eq.trans rfl rfl
@[simp] theorem srcValid_putClk (m : Nat) : srcValid (s.putClk c n) m = (m == 0 || storeGet false c.valid m) := Eq.trans rfl rfl
end

/-! ### The frame -/

section
variable {as : List Nat} {s t : State}

theorem onlyClk_refl (as : List Nat) (s : State) : onlyClk as s s := ⟨rfl, fun _ _ => rfl⟩

theorem onlyClk_putClk (h : onlyClk as s t) (c : Clk) (n : Nat) : onlyClk as s (t.putClk c n) := by
  obtain ⟨hst, hkept⟩ := h
  obtain ⟨r, c', n', rfl⟩ : ∃ r c' n', t = { s with regs := r, clk := c', freeCtr := n' } := ⟨_, _, _, hst⟩
  exact ⟨rfl, hkept⟩

theorem onlyClk_setReg (h : onlyClk as s t) {a : Nat} (ha : a ∈ as) (v : Word) : onlyClk as s (t.setReg a v) := by
  obtain ⟨hst, hkept⟩ := h
  refine ⟨?_, fun b hb => ?_⟩
  · obtain ⟨r, c', n', rfl⟩ : ∃ r c' n', t = { s with regs := r, clk := c', freeCtr := n' } := ⟨_, _, _, hst⟩
    rfl
  · have hne : b ≠ a := fun e => hb (e ▸ ha)
    rw [reg_setReg, if_neg hne, hkept b hb]

theorem onlyClk_setFld (h : onlyClk as s t) {f : Fld} (hf : f.addr ∈ as) (v : Nat) : onlyClk as s (t.setFld f v) :=
  onlyClk_setReg h hf _

theorem onlyClk_ite {t' : State} (c : Prop) [Decidable c] (h : onlyClk as s t) (h' : onlyClk as s t') :
    onlyClk as s (if c then t else t') := by split <;> assumption

end

/-! ### PLL-A's state and its control word -/

@[simp] theorem dco_setFld (s : State) (f : Fld) (v : Nat) (h : f.addr ≠ Reg.CLK_PLLA_DCO) : (s.setFld f v).dco = s.dco := by
  rw [State.dco, reg_setFld, if_neg (Ne.symm h), State.dco]

theorem clampDco_le (v : Int) : (clampDco v).natAbs ≤ 858993 := by unfold clampDco; omega

@[simp] theorem dco_setDco (s : State) (v : Int) : (s.setDco v).dco = clampDco v := by
  have h := clampDco_le v
  rw [State.dco, State.setDco, reg_setReg_self, BitVec.toInt_ofInt, Int.bmod_eq_of_le] <;> omega

@[simp] theorem fld_setDco (s : State) (f : Fld) (v : Int) (h : f.addr ≠ Reg.CLK_PLLA_DCO) : (s.setDco v).fld f = s.fld f :=
  fld_setReg_other _ _ _ _ h
@[simp] theorem plla_setDco (s : State) (v : Int) : (s.setDco v).plla = s.plla := fld_setDco _ _ _ (by decide)
@[simp] theorem srcValid_setFld (s : State) (f : Fld) (v m : Nat) : srcValid (s.setFld f v) m = srcValid s m := Eq.trans rfl rfl

@[simp] theorem plla_setPlla (s : State) (v : Nat) : (s.setPlla v).plla = v % 4 := fld_setFld_self _ _ _ (by decide)

theorem plla_setFld (s : State) (f : Fld) (v : Nat) (h : f.lo + f.w ≤ 32) (d : Reg.CLK_STAT_plla_state.apart f) :
    (s.setFld f v).plla = s.plla := fld_setFld_other _ _ _ _ h d

/-! ### What is left by the frame -/

section
variable {as : List Nat} {s t u : State}

theorem onlyClk_trans (h : onlyClk as s t) (h' : onlyClk as t u) : onlyClk as s u := by
  obtain ⟨hst, hkept⟩ := h
  obtain ⟨htu, hkept'⟩ := h'
  refine ⟨?_, fun a ha => (hkept' a ha).trans (hkept a ha)⟩
  obtain ⟨r, c, n, rfl⟩ : ∃ r c n, t = { s with regs := r, clk := c, freeCtr := n } := ⟨_, _, _, hst⟩
  exact htu

theorem onlyClk_mono {bs : List Nat} (h : onlyClk as s t) (hsub : as ⊆ bs) : onlyClk bs s t :=
  ⟨h.1, fun a ha => h.2 a (fun h' => ha (hsub h'))⟩

/-- A field outside the frame's registers keeps its value. -/
theorem onlyClk_fld (h : onlyClk as s t) {f : Fld} (hf : f.addr ∉ as) : t.fld f = s.fld f := by
  rw [State.fld, h.2 _ hf, State.fld]

theorem onlyClk_dco (h : onlyClk as s t) (hf : Reg.CLK_PLLA_DCO ∉ as) : t.dco = s.dco := by rw [State.dco, h.2 _ hf, State.dco]

end

/-! ### Valid sources (R25) -/

section
variable (s : State) (n : Nat) (v : Bool)

/-- The clock's own state once source `n` is marked valid or lost. -/
def markedClk : Clk := { s.clk with valid := storeSet false s.clk.valid n v, validMs := storeSet 0 s.clk.validMs n 0 }

theorem markSource_eq : markSource s n v = showValid (s.putClk (markedClk s n v) s.freeCtr) := rfl

theorem onlyClk_showValid : onlyClk [Reg.CLK_STAT] s (showValid s) :=
  onlyClk_setFld (onlyClk_setFld (onlyClk_refl _ s) (by decide) _) (by decide) _

theorem onlyClk_markSource : onlyClk [Reg.CLK_STAT] s (markSource s n v) :=
  onlyClk_trans (onlyClk_putClk (onlyClk_refl _ s) _ _) (onlyClk_showValid _)

/-- Only ref_valid and alt_valid, bits 5 and 6 of CLK_STAT, change with the display. -/
theorem fld_showValid {f : Fld} (h : f.addr ≠ Reg.CLK_STAT ∨ f.lo + f.w ≤ 5 ∨ 7 ≤ f.lo) : (showValid s).fld f = s.fld f := by
  have hr : f.addr ≠ Reg.CLK_STAT ∨ f.lo + f.w ≤ 5 ∨ 6 ≤ f.lo := by omega
  have ha : f.addr ≠ Reg.CLK_STAT ∨ f.lo + f.w ≤ 6 ∨ 7 ≤ f.lo := by omega
  rw [showValid, fld_setFld_other _ _ _ _ (by decide) ha, fld_setFld_other _ _ _ _ (by decide) hr]

theorem fld_markSource {f : Fld} (h : f.addr ≠ Reg.CLK_STAT ∨ f.lo + f.w ≤ 5 ∨ 7 ≤ f.lo) :
    (markSource s n v).fld f = s.fld f := by rw [markSource_eq, fld_showValid _ h, fld_putClk]

@[simp] theorem plla_showValid : (showValid s).plla = s.plla := fld_showValid s (by decide)
@[simp] theorem dco_markSource : (markSource s n v).dco = s.dco := onlyClk_dco (onlyClk_markSource s n v) (by decide)
@[simp] theorem srcValid_showValid (m : Nat) : srcValid (showValid s) m = srcValid s m := Eq.trans rfl rfl

/-- The source that is marked is then valid or not as marked; XTAL always is. -/
theorem srcValid_markSource : srcValid (markSource s n v) n = (n == 0 || v) := by
  simp [markSource_eq, markedClk]

end

/-! ### HOLDOVER and ACQUIRE (R26, R27) -/

section
variable (s : State) (n : Nat)

/-- The control word with which PLL-A enters HOLDOVER. -/
def heldWord : Int :=
  if s.plla = pllaAcquire ∧ s.clk.hadLock = false then s.clk.frozen
  else if s.plla = pllaHoldover then s.dco else holdoverMean s

/-- The clock's own state as HOLDOVER begins, and as an acquisition begins. -/
def heldClk : Clk := { s.clk with frozen := heldWord s, inBandMs := 0, slewAcc := 0 }
def acquiringClk : Clk := { s.clk with inBandMs := 0, hadLock := false }

theorem enterHoldover_eq : enterHoldover s =
    (((s.putClk (heldClk s) (s.freeCtr + 1)).setDco (heldWord s)).setPlla pllaHoldover).setFld Reg.CLK_STAT_holdover_entered 1 := rfl

theorem acquire_eq : acquire s n =
    if srcValid s n = true ∧ s.fld Reg.CLK_PLLA_CTL_freeze = 0 then
      ((s.putClk (acquiringClk s) s.freeCtr).setFld Reg.CLK_STAT_cur_src n).setPlla pllaAcquire
    else (s.putClk (acquiringClk s) s.freeCtr).setFld Reg.CLK_STAT_cur_src n := by
  have hf : ((s.putClk (acquiringClk s) s.freeCtr).setFld Reg.CLK_STAT_cur_src n).fld Reg.CLK_PLLA_CTL_freeze =
      s.fld Reg.CLK_PLLA_CTL_freeze := fld_setFld_other _ _ _ _ (by decide) (by decide)
  rw [← hf]; rfl

theorem onlyClk_enterHoldover : onlyClk [Reg.CLK_STAT, Reg.CLK_PLLA_DCO] s (enterHoldover s) := by
  rw [enterHoldover_eq]
  refine onlyClk_setFld (onlyClk_setFld ?_ (by decide) _) (by decide) _
  exact onlyClk_setReg (onlyClk_putClk (onlyClk_refl _ s) _ _) (by decide) _

theorem onlyClk_acquire : onlyClk [Reg.CLK_STAT] s (acquire s n) := by
  have h := onlyClk_setFld (onlyClk_putClk (onlyClk_refl [Reg.CLK_STAT] s) (acquiringClk s) s.freeCtr)
    (f := Reg.CLK_STAT_cur_src) (by decide) n
  rw [acquire_eq]
  exact onlyClk_ite _ (onlyClk_setFld h (by decide) _) h

theorem onlyClk_changeSource : onlyClk [Reg.CLK_STAT, Reg.CLK_PLLA_DCO] s (changeSource s n) :=
  onlyClk_trans (onlyClk_enterHoldover s) (onlyClk_mono (onlyClk_acquire _ n) (by simp))

@[simp] theorem dco_enterHoldover : (enterHoldover s).dco = clampDco (heldWord s) := by
  simp (disch := decide) [enterHoldover_eq, State.setPlla]

@[simp] theorem plla_enterHoldover : (enterHoldover s).plla = pllaHoldover := by
  rw [enterHoldover_eq, plla_setFld _ _ _ (by decide) (.inr (by decide)), plla_setPlla]; rfl

theorem fld_holdover_entered : (enterHoldover s).fld Reg.CLK_STAT_holdover_entered = 1 := by
  rw [enterHoldover_eq]; exact fld_setFld_self _ _ _ (by decide)

/-- Of CLK_STAT, HOLDOVER's entry writes plla_state and holdover_entered alone. -/
theorem fld_enterHoldover {f : Fld} (hd : f.addr ≠ Reg.CLK_PLLA_DCO)
    (h : f.addr ≠ Reg.CLK_STAT ∨ (2 ≤ f.lo ∧ (f.lo + f.w ≤ 17 ∨ 18 ≤ f.lo))) : (enterHoldover s).fld f = s.fld f := by
  have he : f.addr ≠ Reg.CLK_STAT ∨ f.lo + f.w ≤ 17 ∨ 18 ≤ f.lo := by omega
  have hp : f.addr ≠ Reg.CLK_STAT ∨ f.lo + f.w ≤ 0 ∨ 2 ≤ f.lo := by omega
  rw [enterHoldover_eq, fld_setFld_other _ _ _ _ (by decide) he, State.setPlla, fld_setFld_other _ _ _ _ (by decide) hp,
    fld_setDco _ _ _ hd, fld_putClk]

@[simp] theorem srcValid_enterHoldover (m : Nat) : srcValid (enterHoldover s) m = srcValid s m := Eq.trans rfl rfl

@[simp] theorem srcValid_acquire (m : Nat) : srcValid (acquire s n) m = srcValid s m := by
  rw [acquire_eq]; split <;> rfl

@[simp] theorem dco_acquire : (acquire s n).dco = s.dco := onlyClk_dco (onlyClk_acquire s n) (by decide)

theorem cur_src_acquire {n : Nat} (h : n < 8) : (acquire s n).fld Reg.CLK_STAT_cur_src = n := by
  have hc := fld_setFld_of_lt (s := s.putClk (acquiringClk s) s.freeCtr) (f := Reg.CLK_STAT_cur_src) (by decide) h
  rw [acquire_eq]
  split
  · rw [State.setPlla, fld_setFld_other _ _ _ _ (by decide) (by decide), hc]
  · exact hc

/-- PLL-A acquires a source that is valid, unless software holds it frozen. -/
theorem plla_acquire : (acquire s n).plla =
    if srcValid s n = true ∧ s.fld Reg.CLK_PLLA_CTL_freeze = 0 then pllaAcquire else s.plla := by
  rw [acquire_eq]
  split
  · rw [plla_setPlla]; rfl
  · rw [plla_setFld _ _ _ (by decide) (.inr (by decide)), plla_putClk]

/-- Of CLK_STAT, an acquisition writes plla_state and cur_src alone. -/
theorem fld_acquire {f : Fld} (h : f.addr ≠ Reg.CLK_STAT ∨ 5 ≤ f.lo) : (acquire s n).fld f = s.fld f := by
  have hc : f.addr ≠ Reg.CLK_STAT ∨ f.lo + f.w ≤ 2 ∨ 5 ≤ f.lo := by omega
  have hp : f.addr ≠ Reg.CLK_STAT ∨ f.lo + f.w ≤ 0 ∨ 2 ≤ f.lo := by omega
  rw [acquire_eq]
  split
  · rw [State.setPlla, fld_setFld_other _ _ _ _ (by decide) hp, fld_setFld_other _ _ _ _ (by decide) hc, fld_putClk]
  · rw [fld_setFld_other _ _ _ _ (by decide) hc, fld_putClk]

/-! A change of source passes through HOLDOVER. -/

@[simp] theorem srcValid_changeSource (m : Nat) : srcValid (changeSource s n) m = srcValid s m := by simp [changeSource]

theorem cur_src_changeSource {n : Nat} (h : n < 8) : (changeSource s n).fld Reg.CLK_STAT_cur_src = n := cur_src_acquire _ h

theorem holdover_entered_changeSource : (changeSource s n).fld Reg.CLK_STAT_holdover_entered = 1 := by
  rw [changeSource, fld_acquire _ _ (by decide), fld_holdover_entered]

theorem plla_changeSource : (changeSource s n).plla =
    if srcValid s n = true ∧ s.fld Reg.CLK_PLLA_CTL_freeze = 0 then pllaAcquire else pllaHoldover := by
  rw [changeSource, plla_acquire, srcValid_enterHoldover, plla_enterHoldover, fld_enterHoldover _ (by decide) (by decide)]

end

/-! ### CLK_REFSEL and CLK_PLLA_CTL as fields -/

theorem onlyClk_codeOr (s : State) (f : Fld) (v limit : Nat) : onlyClk [f.addr] s (codeOr s f v limit) :=
  onlyClk_ite _ (onlyClk_setFld (onlyClk_refl _ s) (by simp) v) (onlyClk_refl _ s)

theorem fld_codeOr_other {s : State} {f g : Fld} {v limit : Nat} (h : f.lo + f.w ≤ 32)
    (d : g.addr ≠ f.addr ∨ g.lo + g.w ≤ f.lo ∨ f.lo + f.w ≤ g.lo) : (codeOr s f v limit).fld g = s.fld g := by
  unfold codeOr
  split
  · exact fld_setFld_other _ _ _ _ h d
  · rfl

theorem fld_codeOr_self {s : State} {f : Fld} {v limit : Nat} (h : f.lo + f.w ≤ 32) (hv : v < limit) (hl : limit ≤ 2 ^ f.w) :
    (codeOr s f v limit).fld f = v := by
  rw [codeOr, if_pos hv, fld_setFld_of_lt h (hv.trans_le hl)]

end Sys2Proof.Machine
end

section
/-!
PROOFS. The 1 ms update of PLL-A, its lock, and a write of CLK_PLLA_CTL (R23, R24, R26, R28, R29).
-/
namespace Sys2Proof.Machine

section
variable (s : State)

/-! ### The control word's update -/

/-- The change that an update in ACQUIRE asks for: back to 0 on XTAL, else the loop filter's free value. -/
def askedStep : Int := if s.fld Reg.CLK_STAT_cur_src = 0 then -s.dco else (Config.freeValue s.freeCtr).toInt

/-- The state behind the control word's update in ACQUIRE, before FREE may follow. -/
def acquireStep : State :=
  (s.setDco (s.dco + limitStep (slewBudget s) (askedStep s))).putClk
    { s.clk with slewAcc := ((slewBudget s).map (·.2)).getD 0 } (s.freeCtr + 1)

theorem stepWord_acquire (h : s.plla = pllaAcquire) : stepWord s =
    if s.fld Reg.CLK_STAT_cur_src = 0 ∧ (acquireStep s).dco = 0 then (acquireStep s).setPlla pllaFree else acquireStep s := by
  unfold stepWord; rw [if_pos h]; rfl

theorem stepWord_locked (h : s.plla = pllaLocked) :
    stepWord s = (s.setDco (s.dco + (Config.freeValue s.freeCtr).toInt)).putClk s.clk (s.freeCtr + 1) := by
  unfold stepWord; rw [if_neg (by rw [h]; decide), if_pos h]; rfl

theorem stepWord_still (ha : s.plla ≠ pllaAcquire) (hl : s.plla ≠ pllaLocked) : stepWord s = s := by
  unfold stepWord; rw [if_neg ha, if_neg hl]

theorem onlyClk_acquireStep : onlyClk [Reg.CLK_STAT, Reg.CLK_PLLA_DCO] s (acquireStep s) :=
  onlyClk_putClk (onlyClk_setReg (onlyClk_refl _ s) (by decide) _) _ _

theorem onlyClk_stepWord : onlyClk [Reg.CLK_STAT, Reg.CLK_PLLA_DCO] s (stepWord s) := by
  by_cases ha : s.plla = pllaAcquire
  · rw [stepWord_acquire s ha]
    exact onlyClk_ite _ (onlyClk_setFld (onlyClk_acquireStep s) (by decide) _) (onlyClk_acquireStep s)
  by_cases hl : s.plla = pllaLocked
  · rw [stepWord_locked s hl]
    exact onlyClk_putClk (onlyClk_setReg (onlyClk_refl _ s) (by decide) _) _ _
  · rw [stepWord_still s ha hl]
    exact onlyClk_refl _ s

theorem dco_stepWord_acquire (h : s.plla = pllaAcquire) :
    (stepWord s).dco = clampDco (s.dco + limitStep (slewBudget s) (askedStep s)) := by
  have hd : (acquireStep s).dco = clampDco (s.dco + limitStep (slewBudget s) (askedStep s)) := by
    rw [acquireStep, dco_putClk, dco_setDco]
  rw [stepWord_acquire s h]
  split
  · rw [State.setPlla, dco_setFld _ _ _ (by decide), hd]
  · exact hd

/-- The update keeps the control word within its clamp (R23). -/
theorem dco_stepWord_le (hs : s.dco.natAbs ≤ 858993) : (stepWord s).dco.natAbs ≤ 858993 := by
  by_cases ha : s.plla = pllaAcquire
  · rw [dco_stepWord_acquire s ha]; exact clampDco_le _
  by_cases hl : s.plla = pllaLocked
  · rw [stepWord_locked s hl, dco_putClk, dco_setDco]; exact clampDco_le _
  · rw [stepWord_still s ha hl]; exact hs

/-- A change cut to the slew budget is no greater than it. -/
theorem limitStep_le (n m : Nat) (d : Int) : (limitStep (some (n, m)) d).natAbs ≤ n := by
  simp only [limitStep]; omega

/-- With a slew limit, the update changes the word by at most the budget of this update (R28): the clamp only shortens a step. -/
theorem dco_stepWord_slew (hs : s.dco.natAbs ≤ 858993) (h : s.plla = pllaAcquire) (hl : s.fld Reg.CLK_PLLA_CTL_slew ≠ 0) :
    ((stepWord s).dco - s.dco).natAbs ≤ (s.clk.slewAcc + slewUnits (s.fld Reg.CLK_PLLA_CTL_slew)) / 10 ^ 10 := by
  have hb : slewBudget s = some ((s.clk.slewAcc + slewUnits (s.fld Reg.CLK_PLLA_CTL_slew)) / 10 ^ 10,
      (s.clk.slewAcc + slewUnits (s.fld Reg.CLK_PLLA_CTL_slew)) % 10 ^ 10) := by simp [slewBudget, hl]
  have hd := limitStep_le ((s.clk.slewAcc + slewUnits (s.fld Reg.CLK_PLLA_CTL_slew)) / 10 ^ 10)
    ((s.clk.slewAcc + slewUnits (s.fld Reg.CLK_PLLA_CTL_slew)) % 10 ^ 10) (askedStep s)
  rw [dco_stepWord_acquire s h, hb]
  unfold clampDco
  omega

theorem plla_stepWord_locked (h : s.plla = pllaLocked) : (stepWord s).plla = pllaLocked := by
  rw [stepWord_locked s h, plla_putClk, plla_setDco, h]

end

/-! ### PLLA_UPDATE -/

/-- The clock's own state once the millisecond of an update with phase error `e` is counted. -/
def countedClk (s : State) (e : Int) : Clk :=
  { s.clk with
    validMs := s.clk.valid.foldl (fun m v => storeSet 0 m v.1 (storeGet 0 m v.1 + 1)) s.clk.validMs,
    servoMs := s.clk.servoMs + 1, bw := s.fld Reg.CLK_PLLA_CTL_bw,
    inBandMs := if e.natAbs ≤ 50 ∧ (s.plla = pllaAcquire ∨ s.plla = pllaLocked) then s.clk.inBandMs + 1 else 0 }

/-- The state behind an update with phase error `e`, before an error out of band ends LOCKED. -/
def updatedWord (s : State) (e : Int) : State :=
  let t := stepWord (s.putClk (countedClk s e) s.freeCtr)
  t.putClk { t.clk with hist := (t.dco :: t.clk.hist).take 80 } t.freeCtr

theorem execPllaUpdate_eq (err : Int) (s : State) : execPllaUpdate err s =
    .next (let t := updatedWord s (phaseErr s err)
      if t.plla = pllaLocked ∧ 50 < (phaseErr s err).natAbs then t.setPlla pllaAcquire else t) := rfl

theorem onlyClk_updatedWord (s : State) (e : Int) : onlyClk [Reg.CLK_STAT, Reg.CLK_PLLA_DCO] s (updatedWord s e) :=
  onlyClk_putClk (onlyClk_trans (onlyClk_putClk (onlyClk_refl _ s) _ _) (onlyClk_stepWord _)) _ _

theorem pllaUpdate_keeps_limits (err : Int) (s : State) (hs : s.dco.natAbs ≤ 858993) :
    ∃ t, execPllaUpdate err s = .next t ∧ onlyClk [Reg.CLK_STAT, Reg.CLK_PLLA_DCO] s t ∧ t.dco.natAbs ≤ 858993 ∧
      (s.plla = pllaFree ∨ s.plla = pllaHoldover → t.dco = s.dco ∧ t.plla = s.plla) ∧
      (s.plla = pllaAcquire → s.fld Reg.CLK_PLLA_CTL_slew ≠ 0 →
        (t.dco - s.dco).natAbs ≤ (s.clk.slewAcc + slewUnits (s.fld Reg.CLK_PLLA_CTL_slew)) / 10 ^ 10) ∧
      (s.plla = pllaLocked → t.plla = if (phaseErr s err).natAbs ≤ 50 then pllaLocked else pllaAcquire) := by
  set e := phaseErr s err with he
  set u := s.putClk (countedClk s e) s.freeCtr with hu
  have hplla : (updatedWord s e).plla = (stepWord u).plla := plla_putClk _ _ _
  set t := if (updatedWord s e).plla = pllaLocked ∧ 50 < e.natAbs then (updatedWord s e).setPlla pllaAcquire else updatedWord s e with ht
  have hdco : t.dco = (stepWord u).dco := by
    rw [ht]; split
    · rw [State.setPlla, dco_setFld _ _ _ (by decide)]; rfl
    · rfl
  refine ⟨t, execPllaUpdate_eq err s, onlyClk_ite _ (onlyClk_setFld (onlyClk_updatedWord s e) (by decide) _)
    (onlyClk_updatedWord s e), ?_, fun h => ?_, fun h hl => ?_, fun h => ?_⟩
  · rw [hdco]; exact dco_stepWord_le u hs
  · have hstill : stepWord u = u := stepWord_still u
      (by rcases h with h | h <;> rw [hu, plla_putClk, h] <;> decide) (by rcases h with h | h <;> rw [hu, plla_putClk, h] <;> decide)
    have hp : (updatedWord s e).plla = s.plla := by rw [hplla, hstill]; rfl
    have hne : s.plla ≠ pllaLocked := by rcases h with h | h <;> rw [h] <;> decide
    exact ⟨by rw [hdco, hstill]; rfl, by rw [ht, if_neg (fun c => hne (hp ▸ c.1)), hp]⟩
  · rw [hdco]; exact dco_stepWord_slew u hs h hl
  · have hp : (updatedWord s e).plla = pllaLocked := hplla.trans (plla_stepWord_locked u h)
    by_cases hb : e.natAbs ≤ 50
    · rw [if_pos hb, ht, if_neg (by omega), hp]
    · rw [if_neg hb, ht, if_pos ⟨hp, by omega⟩, plla_setPlla]; rfl

/-! ### CLK_PLLA_CTL (R24) -/

section
variable (s : State) (v : Word)

/-- The fields that a write of CLK_PLLA_CTL sets, before freeze acts. -/
def pllaCtlFlds : State :=
  ((codeOr (codeOr s Reg.CLK_PLLA_CTL_bw (bitsOf v 0 3) 7) Reg.CLK_PLLA_CTL_slew (bitsOf v 4 3) 5).setFld
    Reg.CLK_PLLA_CTL_freeze (bitsOf v 8 1)).setFld Reg.CLK_PLLA_CTL_acq_fast (bitsOf v 9 1)

theorem onlyClk_pllaCtlFlds : onlyClk [Reg.CLK_PLLA_CTL] s (pllaCtlFlds s v) :=
  onlyClk_setFld (onlyClk_setFld (onlyClk_trans (onlyClk_codeOr s Reg.CLK_PLLA_CTL_bw _ _)
    (onlyClk_codeOr _ Reg.CLK_PLLA_CTL_slew _ _)) (by decide) _) (by decide) _

theorem freeze_pllaCtlFlds : (pllaCtlFlds s v).fld Reg.CLK_PLLA_CTL_freeze = bitsOf v 8 1 := by
  rw [pllaCtlFlds, fld_setFld_other _ _ _ _ (by decide) (by decide)]
  exact fld_setFld_bits _ _ _ _ _ (by decide) rfl

theorem acq_fast_pllaCtlFlds : (pllaCtlFlds s v).fld Reg.CLK_PLLA_CTL_acq_fast = bitsOf v 9 1 :=
  fld_setFld_bits _ _ _ _ _ (by decide) rfl

theorem bw_pllaCtlFlds (h : bitsOf v 0 3 < 7) : (pllaCtlFlds s v).fld Reg.CLK_PLLA_CTL_bw = bitsOf v 0 3 := by
  rw [pllaCtlFlds, fld_setFld_other _ _ _ _ (by decide) (by decide), fld_setFld_other _ _ _ _ (by decide) (by decide),
    fld_codeOr_other (by decide) (by decide), fld_codeOr_self (by decide) h (by decide)]

theorem slew_pllaCtlFlds (h : bitsOf v 4 3 < 5) : (pllaCtlFlds s v).fld Reg.CLK_PLLA_CTL_slew = bitsOf v 4 3 := by
  rw [pllaCtlFlds, fld_setFld_other _ _ _ _ (by decide) (by decide), fld_setFld_other _ _ _ _ (by decide) (by decide),
    fld_codeOr_self (by decide) h (by decide)]

@[simp] theorem clk_codeOr (f : Fld) (n limit : Nat) : (codeOr s f n limit).clk = s.clk := by unfold codeOr; split <;> rfl

@[simp] theorem clk_pllaCtlFlds : (pllaCtlFlds s v).clk = s.clk := by simp [pllaCtlFlds]

theorem srcValid_of_clk {s t : State} (h : t.clk = s.clk) (n : Nat) : srcValid t n = srcValid s n := by
  rw [srcValid, h, srcValid]

theorem pllaCtl_eq : pllaCtl s v =
    if s.fld Reg.CLK_PLLA_CTL_freeze = 0 ∧ bitsOf v 8 1 = 1 then enterHoldover (pllaCtlFlds s v)
    else if s.fld Reg.CLK_PLLA_CTL_freeze = 1 ∧ bitsOf v 8 1 = 0 then acquire (pllaCtlFlds s v) (s.fld Reg.CLK_STAT_cur_src)
    else pllaCtlFlds s v := by
  rw [← freeze_pllaCtlFlds s v, ← onlyClk_fld (onlyClk_pllaCtlFlds s v) (f := Reg.CLK_STAT_cur_src) (by decide)]; rfl

/-- What follows the fields of the write leaves CLK_PLLA_CTL alone. -/
theorem onlyClk_pllaCtl : onlyClk [Reg.CLK_STAT, Reg.CLK_PLLA_DCO] (pllaCtlFlds s v) (pllaCtl s v) := by
  rw [pllaCtl_eq]
  exact onlyClk_ite _ (onlyClk_enterHoldover _) (onlyClk_ite _ (onlyClk_mono (onlyClk_acquire _ _) (by simp)) (onlyClk_refl _ _))

theorem fld_pllaCtl {f : Fld} (hf : f.addr = Reg.CLK_PLLA_CTL) : (pllaCtl s v).fld f = (pllaCtlFlds s v).fld f :=
  onlyClk_fld (onlyClk_pllaCtl s v) (by rw [hf]; decide)

theorem onlyClk_of_pllaCtl : onlyClk [Reg.CLK_STAT, Reg.CLK_PLLA_DCO, Reg.CLK_PLLA_CTL] s (pllaCtl s v) :=
  onlyClk_trans (onlyClk_mono (onlyClk_pllaCtlFlds s v) (by simp)) (onlyClk_mono (onlyClk_pllaCtl s v) (by simp))

/-- A write that leaves freeze as it is steps nothing. -/
theorem pllaCtl_freeze_same (h : bitsOf v 8 1 = s.fld Reg.CLK_PLLA_CTL_freeze) :
    (pllaCtl s v).plla = s.plla ∧ (pllaCtl s v).dco = s.dco ∧ (pllaCtl s v).clk = s.clk := by
  have ht : pllaCtl s v = pllaCtlFlds s v := by rw [pllaCtl_eq, if_neg (by omega), if_neg (by omega)]
  have hframe := onlyClk_pllaCtlFlds s v
  rw [ht]
  exact ⟨onlyClk_fld hframe (by decide), onlyClk_dco hframe (by decide), clk_pllaCtlFlds s v⟩

theorem pllaCtl_freeze_set (h0 : s.fld Reg.CLK_PLLA_CTL_freeze = 0) (h1 : bitsOf v 8 1 = 1) :
    (pllaCtl s v).plla = pllaHoldover ∧ (pllaCtl s v).fld Reg.CLK_STAT_holdover_entered = 1 := by
  rw [pllaCtl_eq, if_pos ⟨h0, h1⟩]
  exact ⟨plla_enterHoldover _, fld_holdover_entered _⟩

theorem pllaCtl_freeze_cleared (h1 : s.fld Reg.CLK_PLLA_CTL_freeze = 1) (h0 : bitsOf v 8 1 = 0)
    (hv : srcValid s (s.fld Reg.CLK_STAT_cur_src) = true) : (pllaCtl s v).plla = pllaAcquire ∧ (pllaCtl s v).dco = s.dco := by
  rw [pllaCtl_eq, if_neg (by omega), if_pos ⟨h1, h0⟩, dco_acquire, onlyClk_dco (onlyClk_pllaCtlFlds s v) (by decide), plla_acquire,
    if_pos ⟨by rw [srcValid_of_clk (clk_pllaCtlFlds s v), hv], by rw [freeze_pllaCtlFlds, h0]⟩]
  exact ⟨rfl, rfl⟩

end

/-- PLLA_LOCK of a source whose time in band is full answers LOCKED (R24). -/
theorem execPllaLock_locks (s : State) (ha : s.plla = pllaAcquire) (hc : s.fld Reg.CLK_STAT_cur_src ≠ 0)
    (hb : lockMs (if s.fld Reg.CLK_PLLA_CTL_acq_fast = 1 then 6 else s.clk.bw) ≤ s.clk.inBandMs) :
    execPllaLock s = .next { s.setPlla pllaLocked with clk := { s.clk with hadLock := true } } := by
  unfold execPllaLock; exact if_pos ⟨ha, hc, hb⟩

/-- Settles O24: each clause is what one of PLL-A's operations does, over the frame `onlyClk`. -/
theorem pllAKeepsItsWordWithinItsLimits : Obligations.PllAKeepsItsWordWithinItsLimits := by
  unfold Obligations.PllAKeepsItsWordWithinItsLimits
  intro err v s hs
  refine ⟨pllaUpdate_keeps_limits err s hs, fun ha hc hb => ⟨s.setPlla pllaLocked, execPllaLock_locks s ha hc hb, ?_, ?_⟩, fun hr =>
    ⟨pllaCtl s v, congrArg Host.Outcome.next (gated_reached hr), onlyClk_of_pllaCtl s v, ?_, ?_, fun h => ?_, fun h => ?_,
      pllaCtl_freeze_same s v, pllaCtl_freeze_set s v, pllaCtl_freeze_cleared s v⟩⟩
  · exact plla_setPlla s _
  · exact onlyFlds_setFld (onlyFlds_refl _ s) (by simp) (by decide) _
  · rw [fld_pllaCtl s v rfl, freeze_pllaCtlFlds]
  · rw [fld_pllaCtl s v rfl, acq_fast_pllaCtlFlds]
  · rw [fld_pllaCtl s v rfl, bw_pllaCtlFlds s v h]
  · rw [fld_pllaCtl s v rfl, slew_pllaCtlFlds s v h]

end Sys2Proof.Machine
end

section
/-!
PROOFS. Loss and return of PLL-A's sources, fallback, reversion and the choice of another source (R25 to R27).
-/
namespace Sys2Proof.Machine

/-- The model's test of PTP_DCO's criteria as a proposition (Table 02.4). -/
theorem ptpDcoOk_iff (s : State) : ptpDcoOk s = true ↔
    s.clk.servoMs < 2000 ∧ s.fld Reg.NET_PTP_CTL_valid = 1 ∧ (s.reg Reg.NET_PTP_ADJ).toInt.natAbs ≤ 858993 := by
  simp [ptpDcoOk, and_assoc]

/-- The criteria of Table 02.4 that the device's own state shows, source by source. -/
theorem srcFit_iff (s : State) (n : Nat) : srcFit s n = true ↔ (n = 1 → ptpDcoOk s = true) ∧
    (n = 3 → s.fld (Reg.AES_RX_STAT_lock (s.fld Reg.CLK_REFSEL_aes_rx)) = 1) ∧ (n = 4 → s.fld Reg.TWN_LINK_aligned = 1) := by
  unfold srcFit
  split
  case h_4 h1 h3 h4 => exact iff_of_true rfl ⟨fun h => (h1 h).elim, fun h => (h3 h).elim, fun h => (h4 h).elim⟩
  all_goals simp

/-! ### REF_LOSS (R25, R26) -/

section
variable (s : State) (n : Nat)

/-- The state with source `n` marked lost, ref_lost set where PLL-A follows it or it is the primary source. -/
def lostSource : State :=
  if n = s.fld Reg.CLK_STAT_cur_src ∨ n = s.fld Reg.CLK_REFSEL_sel then (markSource s n false).setFld Reg.CLK_STAT_ref_lost 1
  else markSource s n false

theorem execRefLoss_lost (src : Fin 5) (h0 : src.val ≠ 0) (h1 : src.val = 1 → ptpDcoOk s = false) : execRefLoss src s =
    .next (if src.val = s.fld Reg.CLK_STAT_cur_src ∧ (s.plla = pllaAcquire ∨ s.plla = pllaLocked) then
      enterHoldover (lostSource s src) else lostSource s src) := by
  have hn : ¬ (src.val = 0 ∨ (src.val = 1 ∧ ptpDcoOk s = true)) := by
    rintro (h | ⟨h, hp⟩)
    · exact h0 h
    · rw [h1 h] at hp; exact Bool.false_ne_true hp
  unfold execRefLoss; exact if_neg hn

theorem onlyClk_lostSource : onlyClk [Reg.CLK_STAT] s (lostSource s n) :=
  onlyClk_ite _ (onlyClk_setFld (onlyClk_markSource s n false) (by decide) _) (onlyClk_markSource s n false)

/-- Of CLK_STAT, the loss of a source writes ref_valid, alt_valid and ref_lost alone. -/
theorem fld_lostSource {f : Fld} (h : f.addr ≠ Reg.CLK_STAT ∨ f.lo + f.w ≤ 5) : (lostSource s n).fld f = s.fld f := by
  have hm := fld_markSource s n false (f := f) (by omega)
  unfold lostSource
  split
  · rw [fld_setFld_other _ _ _ _ (by decide) (h.imp_right fun h => .inl (Nat.le_trans h (by decide))), hm]
  · exact hm

theorem srcValid_lostSource (h : n ≠ 0) : srcValid (lostSource s n) n = false := by
  have hm : srcValid (markSource s n false) n = false := by rw [srcValid_markSource]; simp [h]
  unfold lostSource
  split
  · rw [srcValid_setFld, hm]
  · exact hm

@[simp] theorem plla_lostSource : (lostSource s n).plla = s.plla := fld_lostSource s n (by decide)
@[simp] theorem dco_lostSource : (lostSource s n).dco = s.dco := onlyClk_dco (onlyClk_lostSource s n) (by decide)

theorem clk_lostSource : (lostSource s n).clk = markedClk s n false := by unfold lostSource; split <;> rfl

theorem ref_lost_lostSource (h : n = s.fld Reg.CLK_STAT_cur_src) : (lostSource s n).fld Reg.CLK_STAT_ref_lost = 1 := by
  rw [lostSource, if_pos (.inl h)]; exact fld_setFld_self _ _ _ (by decide)

/-- An acquisition that has not reached LOCKED freezes the word that was frozen first (R27). -/
theorem heldWord_unlocked (ha : s.plla = pllaAcquire) (hl : s.clk.hadLock = false) : heldWord s = s.clk.frozen := if_pos ⟨ha, hl⟩

end

theorem refLoss_enters_holdover (src : Fin 5) (s : State) (h0 : src.val ≠ 0) (h1 : src.val = 1 → ptpDcoOk s = false) :
    let n := src.val
    let cur := s.fld Reg.CLK_STAT_cur_src
    ∃ t, execRefLoss src s = .next t ∧ onlyClk [Reg.CLK_STAT, Reg.CLK_PLLA_DCO] s t ∧ srcValid t n = false ∧
      t.fld Reg.CLK_STAT_cur_src = cur ∧
      (n = cur → s.plla = pllaAcquire ∨ s.plla = pllaLocked → t.plla = pllaHoldover ∧
        t.fld Reg.CLK_STAT_holdover_entered = 1 ∧ t.fld Reg.CLK_STAT_ref_lost = 1 ∧
        (s.plla = pllaAcquire → s.clk.hadLock = false → t.dco = clampDco s.clk.frozen)) ∧
      (n ≠ cur → t.plla = s.plla ∧ t.dco = s.dco) := by
  intro n cur
  have hframe : onlyClk [Reg.CLK_STAT, Reg.CLK_PLLA_DCO] s (lostSource s n) := onlyClk_mono (onlyClk_lostSource s n) (by simp)
  refine ⟨_, execRefLoss_lost s src h0 h1, onlyClk_ite _ (onlyClk_trans hframe (onlyClk_enterHoldover _)) hframe, ?_, ?_,
    fun hc hp => ?_, fun hc => ?_⟩
  · split
    · rw [srcValid_enterHoldover, srcValid_lostSource s _ h0]
    · exact srcValid_lostSource s _ h0
  · split
    · rw [fld_enterHoldover _ (by decide) (by decide), fld_lostSource _ _ (by decide)]
    · exact fld_lostSource _ _ (by decide)
  · rw [if_pos ⟨hc, hp⟩]
    refine ⟨plla_enterHoldover _, fld_holdover_entered _, ?_, fun ha hl => ?_⟩
    · rw [fld_enterHoldover _ (by decide) (by decide), ref_lost_lostSource s _ hc]
    · rw [dco_enterHoldover, heldWord_unlocked _ (by rw [plla_lostSource, ha]) (by rw [clk_lostSource]; exact hl), clk_lostSource]
      rfl
  · rw [if_neg (fun h => hc h.1)]
    exact ⟨plla_lostSource s _, dco_lostSource s _⟩

/-! ### SOURCE_VALID_AGAIN, ALT_FALLBACK, REF_REVERT (R25, R27) -/

theorem sourceValidAgain_unfit (src : Fin 5) (s : State) (h : srcFit s src = false) : execSourceValidAgain src s = .next s := by
  unfold execSourceValidAgain; exact if_pos (.inr h)

theorem sourceValidAgain_acquires (src : Fin 5) (s : State) (hv : srcValid s src = false) (hf : srcFit s src = true)
    (hc : src.val = s.fld Reg.CLK_STAT_cur_src) (hp : s.plla = pllaHoldover) (hz : s.fld Reg.CLK_PLLA_CTL_freeze = 0) :
    ∃ t, execSourceValidAgain src s = .next t ∧ onlyClk [Reg.CLK_STAT] s t ∧ srcValid t src = true ∧ t.plla = pllaAcquire ∧
      t.dco = s.dco := by
  have hvalid : srcValid (markSource s src true) src = true := by rw [srcValid_markSource, Bool.or_true]
  have hn : ¬ (srcValid s src = true ∨ srcFit s src = false) := by rw [hv, hf]; decide
  refine ⟨acquire (markSource s src true) src, ?_, onlyClk_trans (onlyClk_markSource s _ _) (onlyClk_acquire _ _), ?_, ?_, ?_⟩
  · unfold execSourceValidAgain
    exact (if_neg hn).trans (congrArg _ (if_pos ⟨hc, hp⟩))
  · rw [srcValid_acquire, hvalid]
  · rw [plla_acquire, if_pos ⟨hvalid, by rw [fld_markSource _ _ _ (by decide), hz]⟩]
  · rw [dco_acquire, dco_markSource]

theorem altFallback_acquires (s : State) (hp : s.plla = pllaHoldover) (he : s.fld Reg.CLK_REFSEL_alt_en = 1)
    (hz : s.fld Reg.CLK_PLLA_CTL_freeze = 0) (hc : s.fld Reg.CLK_STAT_cur_src ≠ s.fld Reg.CLK_REFSEL_alt_sel)
    (hv : srcValid s (s.fld Reg.CLK_REFSEL_alt_sel) = true)
    (hm : s.fld Reg.CLK_REFSEL_alt_sel = 0 ∨ 1000 ≤ storeGet 0 s.clk.validMs (s.fld Reg.CLK_REFSEL_alt_sel)) :
    ∃ t, execAltFallback s = .next t ∧ onlyClk [Reg.CLK_STAT] s t ∧ t.plla = pllaAcquire ∧ t.fld Reg.CLK_STAT_fallback = 1 ∧
      t.fld Reg.CLK_STAT_cur_src = s.fld Reg.CLK_REFSEL_alt_sel ∧ t.dco = s.dco := by
  refine ⟨(acquire s (s.fld Reg.CLK_REFSEL_alt_sel)).setFld Reg.CLK_STAT_fallback 1, ?_,
    onlyClk_setFld (onlyClk_acquire s _) (by decide) _, ?_, fld_setFld_self _ _ _ (by decide), ?_, ?_⟩
  · unfold execAltFallback; exact if_pos ⟨hp, he, hz, hc, hv, hm⟩
  · rw [plla_setFld _ _ _ (by decide) (.inr (by decide)), plla_acquire, if_pos ⟨hv, hz⟩]
  · rw [fld_setFld_other _ _ _ _ (by decide) (by decide), cur_src_acquire s (fld_lt s Reg.CLK_REFSEL_alt_sel)]
  · rw [dco_setFld _ _ _ (by decide), dco_acquire]

theorem refRevert_changes_source (s : State) (hr : s.fld Reg.CLK_REFSEL_revert = 1)
    (hc : s.fld Reg.CLK_STAT_cur_src ≠ s.fld Reg.CLK_REFSEL_sel) (hv : srcValid s (s.fld Reg.CLK_REFSEL_sel) = true)
    (hm : s.fld Reg.CLK_REFSEL_sel = 0 ∨ 10000 ≤ storeGet 0 s.clk.validMs (s.fld Reg.CLK_REFSEL_sel)) :
    ∃ t, execRefRevert s = .next t ∧ onlyClk [Reg.CLK_STAT, Reg.CLK_PLLA_DCO] s t ∧ t.fld Reg.CLK_STAT_holdover_entered = 1 ∧
      t.fld Reg.CLK_STAT_cur_src = s.fld Reg.CLK_REFSEL_sel ∧
      t.plla = (if s.fld Reg.CLK_PLLA_CTL_freeze = 0 then pllaAcquire else pllaHoldover) := by
  refine ⟨changeSource s (s.fld Reg.CLK_REFSEL_sel), ?_, onlyClk_changeSource s _, holdover_entered_changeSource s _,
    cur_src_changeSource s (fld_lt s Reg.CLK_REFSEL_sel), ?_⟩
  · unfold execRefRevert; exact if_pos ⟨hr, hc, hv, hm⟩
  · rw [plla_changeSource, hv]; simp only [true_and]

/-! ### CLK_REFSEL (R17, R27) -/

section
variable (s : State) (v : Word)

/-- The fields that a write of CLK_REFSEL sets. -/
def refselFlds : State :=
  let t := codeOr (codeOr s Reg.CLK_REFSEL_sel (bitsOf v 0 3) 5) Reg.CLK_REFSEL_alt_sel (bitsOf v 8 3) 5
  let t := (t.setFld Reg.CLK_REFSEL_aes_rx (bitsOf v 4 3)).setFld Reg.CLK_REFSEL_alt_en (bitsOf v 12 1)
  codeOr (t.setFld Reg.CLK_REFSEL_revert (bitsOf v 13 1)) Reg.CLK_REFSEL_wclk_mult (bitsOf v 16 2) 3

/-- The same with the AES3 source and the word clock not valid where the write names another receiver or multiple (log entry 113). -/
def refselMarked : State :=
  let t := refselFlds s v
  let t := if (refselFlds s v).fld Reg.CLK_REFSEL_aes_rx ≠ s.fld Reg.CLK_REFSEL_aes_rx then markSource t 3 false else t
  if (refselFlds s v).fld Reg.CLK_REFSEL_wclk_mult ≠ s.fld Reg.CLK_REFSEL_wclk_mult then markSource t 2 false else t

theorem refselWrite_eq : refselWrite s v =
    let sel := (refselFlds s v).fld Reg.CLK_REFSEL_sel
    let cur := s.fld Reg.CLK_STAT_cur_src
    let newAes := (refselFlds s v).fld Reg.CLK_REFSEL_aes_rx ≠ s.fld Reg.CLK_REFSEL_aes_rx
    let newWclk := (refselFlds s v).fld Reg.CLK_REFSEL_wclk_mult ≠ s.fld Reg.CLK_REFSEL_wclk_mult
    let t := refselMarked s v
    showValid (if sel ≠ s.fld Reg.CLK_REFSEL_sel then changeSource t sel
      else if (cur = 3 ∧ newAes) ∨ (cur = 2 ∧ newWclk) then changeSource t cur else t) := rfl

theorem onlyClk_refselFlds : onlyClk [Reg.CLK_REFSEL] s (refselFlds s v) := by
  have hsel := onlyClk_trans (onlyClk_codeOr s Reg.CLK_REFSEL_sel (bitsOf v 0 3) 5)
    (onlyClk_codeOr _ Reg.CLK_REFSEL_alt_sel (bitsOf v 8 3) 5)
  exact onlyClk_trans (onlyClk_setFld (onlyClk_setFld (onlyClk_setFld hsel (by decide) _) (by decide) _) (by decide) _)
    (onlyClk_codeOr _ Reg.CLK_REFSEL_wclk_mult _ _)

theorem sel_refselFlds (h : bitsOf v 0 3 < 5) : (refselFlds s v).fld Reg.CLK_REFSEL_sel = bitsOf v 0 3 := by
  rw [refselFlds, fld_codeOr_other (by decide) (by decide), fld_setFld_other _ _ _ _ (by decide) (by decide),
    fld_setFld_other _ _ _ _ (by decide) (by decide), fld_setFld_other _ _ _ _ (by decide) (by decide),
    fld_codeOr_other (by decide) (by decide), fld_codeOr_self (by decide) h (by decide)]

theorem onlyClk_refselMarked : onlyClk [Reg.CLK_STAT] (refselFlds s v) (refselMarked s v) := by
  have h := onlyClk_ite ((refselFlds s v).fld Reg.CLK_REFSEL_aes_rx ≠ s.fld Reg.CLK_REFSEL_aes_rx)
    (onlyClk_markSource (refselFlds s v) 3 false) (onlyClk_refl _ _)
  exact onlyClk_ite _ (onlyClk_trans h (onlyClk_markSource _ 2 false)) h

/-- What follows the fields of the write leaves CLK_REFSEL alone. -/
theorem onlyClk_refselWrite : onlyClk [Reg.CLK_STAT, Reg.CLK_PLLA_DCO] (refselFlds s v) (refselWrite s v) := by
  have hm : onlyClk [Reg.CLK_STAT, Reg.CLK_PLLA_DCO] (refselFlds s v) (refselMarked s v) :=
    onlyClk_mono (onlyClk_refselMarked s v) (by simp)
  rw [refselWrite_eq]
  refine onlyClk_trans ?_ (onlyClk_mono (onlyClk_showValid _) (by simp))
  exact onlyClk_ite _ (onlyClk_trans hm (onlyClk_changeSource _ _)) (onlyClk_ite _ (onlyClk_trans hm (onlyClk_changeSource _ _)) hm)

theorem onlyClk_of_refselWrite : onlyClk [Reg.CLK_STAT, Reg.CLK_PLLA_DCO, Reg.CLK_REFSEL] s (refselWrite s v) :=
  onlyClk_trans (onlyClk_mono (onlyClk_refselFlds s v) (by simp)) (onlyClk_mono (onlyClk_refselWrite s v) (by simp))

theorem sel_refselWrite (h : bitsOf v 0 3 < 5) : (refselWrite s v).fld Reg.CLK_REFSEL_sel = bitsOf v 0 3 := by
  rw [onlyClk_fld (onlyClk_refselWrite s v) (by decide), sel_refselFlds s v h]

/-- A write that names another source is a change of source. -/
theorem refselWrite_new_source (h : bitsOf v 0 3 < 5) (hne : bitsOf v 0 3 ≠ s.fld Reg.CLK_REFSEL_sel) :
    refselWrite s v = showValid (changeSource (refselMarked s v) (bitsOf v 0 3)) := by
  rw [refselWrite_eq, sel_refselFlds s v h]
  exact congrArg showValid (if_pos hne)

theorem refselWrite_changes_source (h : bitsOf v 0 3 < 5) (hne : bitsOf v 0 3 ≠ s.fld Reg.CLK_REFSEL_sel) :
    let t := refselWrite s v
    t.fld Reg.CLK_STAT_holdover_entered = 1 ∧ t.fld Reg.CLK_STAT_cur_src = bitsOf v 0 3 ∧
      t.plla = (if srcValid t (bitsOf v 0 3) = true ∧ s.fld Reg.CLK_PLLA_CTL_freeze = 0 then pllaAcquire else pllaHoldover) := by
  have hz : (refselMarked s v).fld Reg.CLK_PLLA_CTL_freeze = s.fld Reg.CLK_PLLA_CTL_freeze :=
    (onlyClk_fld (onlyClk_refselMarked s v) (by decide)).trans (onlyClk_fld (onlyClk_refselFlds s v) (by decide))
  simp only [refselWrite_new_source s v h hne]
  refine ⟨?_, ?_, ?_⟩
  · rw [fld_showValid _ (by decide), holdover_entered_changeSource]
  · rw [fld_showValid _ (by decide), cur_src_changeSource _ (by omega)]
  · rw [plla_showValid, plla_changeSource, srcValid_showValid, srcValid_changeSource, hz]

end

/-- Settles O23: each command of the family is one of PLL-A's operations, over the frame `onlyClk`. -/
theorem sourceChangesPassThroughHoldover : Obligations.SourceChangesPassThroughHoldover := by
  unfold Obligations.SourceChangesPassThroughHoldover
  intro src v s n quiet cur ptpOk
  have widen {as : List Nat} {t : State} (h : onlyClk as s t)
      (hsub : as ⊆ [Reg.CLK_STAT, Reg.CLK_PLLA_DCO, Reg.CLK_REFSEL] := by simp) : quiet t := onlyClk_mono h hsub
  have hptp : ptpDcoOk s = true ↔ ptpOk := ptpDcoOk_iff s
  refine ⟨fun h0 h1 => ?_, fun _ _ hfit => ?_, fun hv hfit hc hp hz => ?_, fun hp he hz hc hv hm => ?_, fun hr hc hv hm => ?_,
    fun hreach => ?_⟩
  · obtain ⟨t, hexec, hframe, hrest⟩ := refLoss_enters_holdover src s h0
      (fun hn => Bool.eq_false_iff.2 (fun hok => h1 hn (hptp.1 hok)))
    exact ⟨t, hexec, widen hframe, hrest⟩
  · refine sourceValidAgain_unfit src s (Bool.eq_false_iff.2 fun hok => hfit ?_)
    obtain ⟨hdco, haes, hlink⟩ := (srcFit_iff s src).1 hok
    exact ⟨fun h => hptp.1 (hdco h), haes, hlink⟩
  · obtain ⟨hdco, haes, hlink⟩ := hfit
    obtain ⟨t, hexec, hframe, hrest⟩ := sourceValidAgain_acquires src s hv
      ((srcFit_iff s src).2 ⟨fun h => hptp.2 (hdco h), haes, hlink⟩) hc hp hz
    exact ⟨t, hexec, widen hframe, hrest⟩
  · obtain ⟨t, hexec, hframe, hrest⟩ := altFallback_acquires s hp he hz hc hv hm
    exact ⟨t, hexec, widen hframe, hrest⟩
  · obtain ⟨t, hexec, hframe, hrest⟩ := refRevert_changes_source s hr hc hv hm
    exact ⟨t, hexec, widen hframe, hrest⟩
  · exact ⟨refselWrite s v, congrArg Host.Outcome.next (gated_reached hreach), widen (onlyClk_of_refselWrite s v),
      sel_refselWrite s v, refselWrite_changes_source s v⟩

end Sys2Proof.Machine
end

section
/-!
PROOFS. Operations that leave the twin, the phases of the start, the structure and the registers BOOT_STATE, TWN_STAT and ESP_STAT alone: the words
that a boundary carries, the engines and ports that start, events. One lemma per operation.
-/
namespace Sys2Proof.Machine

/-- What a start and an ownership change decide or go by: the twin, the phases, the structure, and the three registers that show
them. -/
def State.face (s : State) : Twin × List Nat × Structure × Word × Word × Word :=
  (s.twin, s.phases, s.str, s.reg Reg.BOOT_STATE, s.reg Reg.TWN_STAT, s.reg Reg.ESP_STAT)

/-- The registers of `State.face`. -/
def faceRegs : List Nat := [Reg.BOOT_STATE, Reg.TWN_STAT, Reg.ESP_STAT]

theorem face_eq_iff {s t : State} : t.face = s.face ↔
    t.twin = s.twin ∧ t.phases = s.phases ∧ t.str = s.str ∧ ∀ a ∈ faceRegs, t.reg a = s.reg a := by
  simp [State.face, faceRegs]

theorem fld_of_regs {s t : State} (h : t.regs = s.regs) (f : Fld) : t.fld f = s.fld f := by
  rw [State.fld, State.reg, h, State.fld, State.reg]

theorem fld_of_face {s t : State} (h : t.face = s.face) {f : Fld} (hf : f.addr ∈ faceRegs) : t.fld f = s.fld f := by
  rw [State.fld, (face_eq_iff.1 h).2.2.2 _ hf, State.fld]

theorem face_ite {s : State} (c : Prop) [Decidable c] {a b : State} (ha : a.face = s.face) (hb : b.face = s.face) :
    (if c then a else b).face = s.face := by split <;> assumption

theorem face_foldl {α : Type} (f : State → α → State) (h : ∀ s a, (f s a).face = s.face) (l : List α) (s : State) :
    (l.foldl f s).face = s.face := by
  induction l generalizing s with
  | nil => rfl
  | cons a l ih => rw [List.foldl_cons, ih, h]

section
variable (s : State)

theorem face_setReg {a : Nat} (ha : a ∉ faceRegs) (v : Word) : (s.setReg a v).face = s.face := by
  refine face_eq_iff.2 ⟨rfl, rfl, rfl, fun b hb => ?_⟩
  have hne : b ≠ a := fun e => ha (e ▸ hb)
  rw [reg_setReg, if_neg hne]

theorem face_setFld {f : Fld} (hf : f.addr ∉ faceRegs) (v : Nat) : (s.setFld f v).face = s.face := face_setReg s hf _

theorem face_putIo (io : Io) : ({ s with io := io } : State).face = s.face := Eq.trans rfl rfl
theorem face_putNet (n : Net) : ({ s with net := n } : State).face = s.face := Eq.trans rfl rfl
@[simp] theorem face_setEngine (e : Nat) (x : Engine) : (s.setEngine e x).face = s.face := Eq.trans rfl rfl
@[simp] theorem face_raiseEvent (n : Nat) : (raiseEvent s n).face = s.face := Eq.trans rfl rfl
@[simp] theorem face_setAge (r : LineRec) (v : Nat) : (s.setAge r v).face = s.face := Eq.trans rfl rfl
@[simp] theorem face_takeOutputs : (takeOutputs s).face = s.face := Eq.trans rfl rfl
@[simp] theorem face_clearFs (key : Nat) : (clearFs s key).face = s.face := Eq.trans rfl rfl

@[simp] theorem face_twnEvent (old : State) : (twnEvent old s).face = s.face := by
  unfold twnEvent; exact face_ite _ rfl (face_raiseEvent s 12)

/-! ### The words that a boundary carries -/

@[simp] theorem face_putLineWord (r : LineRec) (p : Nat) (v : Word) : (putLineWord s r p v).face = s.face :=
  face_ite _ rfl rfl

@[simp] theorem face_writeLine (r : LineRec) : (writeLine s r).face = s.face := by
  unfold writeLine; exact face_ite _ rfl (face_putLineWord _ _ _ _)

@[simp] theorem face_writeLines : (writeLines s).face = s.face := by
  unfold writeLines
  rw [face_foldl _ (fun t r => by rw [ageLine, face_setAge]), face_foldl _ face_writeLine]

@[simp] theorem face_putIn (e w : Nat) (v : Word) : (putIn s e w v).face = s.face := face_setEngine _ _ _

@[simp] theorem face_putInRun (e w : Nat) (vs : List Word) : (putInRun s e w vs).face = s.face :=
  face_foldl _ (fun t _ => face_putIn t _ _ _) _ s

@[simp] theorem face_landTickHops : (landTickHops s).face = s.face := face_foldl _ (fun t _ => face_putInRun t _ _ _) _ s

@[simp] theorem face_landInputs : (landInputs s).face = s.face := face_foldl _ (fun t _ => face_putInRun t _ _ _) _ s

@[simp] theorem face_bridgeDeliver (r : BridgeRec) (vs : List Word) : (bridgeDeliver s r vs).face = s.face := by
  unfold bridgeDeliver
  split
  · exact face_foldl _ (fun t _ => by exact face_putIo t _) _ s
  · split
    · exact face_putInRun _ _ _ _
    · split
      · rfl
      · exact face_foldl _ (fun t _ => by exact face_putIo t _) _ s

@[simp] theorem face_runBridge (r : BridgeRec) : (runBridge s r).face = s.face := face_bridgeDeliver _ _ _

@[simp] theorem face_runBridges : (runBridges s).face = s.face := face_foldl _ face_runBridge _ _

@[simp] theorem face_carryWords : (carryWords s).face = s.face := by
  rw [carryWords, face_takeOutputs, face_runBridges, face_landInputs, face_landTickHops]

theorem face_stepAsrc (n : Nat) : (stepAsrc s n).face = s.face := by
  have hout : (Reg.AES_ASRC_STAT_ratio n).addr ∉ faceRegs := by
    simp [faceRegs, Reg.AES_ASRC_STAT_ratio, Reg.AES_ASRC_STAT, Reg.BOOT_STATE, Reg.TWN_STAT, Reg.ESP_STAT]; omega
  unfold stepAsrc
  dsimp only
  split
  · exact (face_setFld _ hout _).trans (face_putIo s _)
  · exact face_putIo s _

/-! ### Engines and ports that start -/

@[simp] theorem face_setEngState (e v : Nat) : (s.setEngState e v).face = s.face :=
  face_setFld s (by simp [faceRegs, Reg.ENG_STAT_state, Reg.ENG_STAT, Reg.BOOT_STATE, Reg.TWN_STAT, Reg.ESP_STAT]; omega) _

@[simp] theorem face_startLines (e : Nat) : (startLines s e).face = s.face := face_foldl _ (fun t r => face_setAge t r _) _ s

@[simp] theorem face_clearBridges (e : Nat) : (clearBridges s e).face = s.face :=
  face_foldl _ (fun t _ => by exact face_putIo t _) _ s

@[simp] theorem face_startEngine (e : Nat) : (startEngine s e).face = s.face := by
  unfold startEngine
  rw [face_startLines, face_clearBridges, face_setEngine]
  exact face_ite _ (face_setEngState s e engRun) rfl

@[simp] theorem face_startEngines : (startEngines s).face = s.face := by
  unfold startEngines
  refine face_foldl _ (fun t p => ?_) _ s
  dsimp only
  split
  · rw [face_setEngState, face_startEngine]
  · exact face_startEngine t p.engine

@[simp] theorem face_joinEngines : (joinEngines s).face = s.face := by
  unfold joinEngines
  rw [face_foldl _ (fun t r => face_setAge t r 0), face_startEngines]

@[simp] theorem face_gridStart : (gridStart s).face = s.face := by
  unfold gridStart
  split
  · exact (face_putNet _ _).trans (face_putNet s _)
  · rfl

@[simp] theorem face_startTdm : (startTdm s).face = s.face := by
  unfold startTdm
  refine face_foldl _ (fun t g => ?_) _ s
  have hout : (Reg.TDM_GSTAT_state g).addr ∉ faceRegs := by
    simp [faceRegs, Reg.TDM_GSTAT_state, Reg.TDM_GSTAT, Reg.BOOT_STATE, Reg.TWN_STAT, Reg.ESP_STAT]; omega
  exact face_ite _ rfl ((face_clearFs _ _).trans (face_setFld t hout _))

@[simp] theorem face_startQs : (startQs s).face = s.face := by
  unfold startQs
  split
  · rfl
  · exact (face_putIo _ _).trans ((face_clearFs _ _).trans (face_setFld s (by decide) _))

@[simp] theorem face_startPorts : (startPorts s).face = s.face := by rw [startPorts, face_startQs, face_startTdm]

/-! ### BOOT_STATE -/

theorem sendMsix_frame (v : Nat) : ∃ m, sendMsix s v = { s with msix := m } := by
  unfold sendMsix
  (repeat' split) <;> exact ⟨_, rfl⟩

theorem bootEvent_frame : ∃ l m, bootEvent s = { s with lb := l, msix := m } := by
  unfold bootEvent
  dsimp only
  split
  · obtain ⟨m, hm⟩ := sendMsix_frame { s with lb := { s.lb with bootChg := true } } (s.fld Reg.MBX_CFG_boot_vec)
    exact ⟨_, m, hm⟩
  · exact ⟨_, s.msix, rfl⟩

/-- A change of BOOT_STATE writes that field; beside it, the interrupts, the boot record and the clock outputs follow. -/
theorem setBoot_frame (b : Nat) : ∃ l m n r c,
    s.setBoot b = { s.setFld Reg.BOOT_STATE_state b with lb := l, msix := m, nv := n, recs := r, clk := c } := by
  have hevent : ∃ l m, (if s.boot = b then s else bootEvent s) = { s with lb := l, msix := m } := by
    split
    · exact ⟨s.lb, s.msix, rfl⟩
    · exact bootEvent_frame s
  obtain ⟨l, m, h⟩ := hevent
  unfold State.setBoot State.setNv
  rw [h]
  dsimp only
  split <;> exact ⟨l, m, _, _, _, rfl⟩

@[simp] theorem twin_setBoot (b : Nat) : (s.setBoot b).twin = s.twin := by
  obtain ⟨l, m, n, r, c, h⟩ := setBoot_frame s b
  rw [h, State.setFld_twin]

@[simp] theorem phases_setBoot (b : Nat) : (s.setBoot b).phases = s.phases := by
  obtain ⟨l, m, n, r, c, h⟩ := setBoot_frame s b
  rw [h, State.setFld_phases]

theorem regs_setBoot (b : Nat) : (s.setBoot b).regs = (s.setFld Reg.BOOT_STATE_state b).regs := by
  obtain ⟨l, m, n, r, c, h⟩ := setBoot_frame s b
  rw [h]

theorem fld_setBoot {f : Fld} (b : Nat) (hf : f.addr ≠ Reg.BOOT_STATE) : (s.setBoot b).fld f = s.fld f := by
  rw [fld_of_regs (regs_setBoot s b), fld_setFld_other _ _ _ _ (by decide) (.inl hf)]

theorem boot_setBoot {b : Nat} (hb : b < 8) : (s.setBoot b).boot = b := by
  rw [State.boot, fld_of_regs (regs_setBoot s b), fld_setFld_of_lt (by decide) hb]

end

end Sys2Proof.Machine
end

section
/-!
PROOFS. The ownership work of a boundary neither asks for a yield nor makes a restart wait (R41, R267, R273): `twin.yield` and
`twin.restartAfterHo` pass through it. One lemma per operation.
-/
namespace Sys2Proof.Machine

/-- A yield is asked for; a restart waits for a handover. -/
def State.waits (s : State) : Bool × Bool := (s.twin.yield, s.twin.restartAfterHo)

theorem waits_of_twin {s t : State} (h : t.twin = s.twin) : t.waits = s.waits := by rw [State.waits, h, State.waits]

theorem waits_of_face {s t : State} (h : t.face = s.face) : t.waits = s.waits := waits_of_twin (face_eq_iff.1 h).1

theorem waits_ite {s : State} (c : Prop) [Decidable c] {a b : State} (ha : a.waits = s.waits) (hb : b.waits = s.waits) :
    (if c then a else b).waits = s.waits := by split <;> assumption

section
variable (s : State)

@[simp] theorem waits_setFld (f : Fld) (v : Nat) : (s.setFld f v).waits = s.waits := Eq.trans rfl rfl
@[simp] theorem waits_wrapInc (f : Fld) : (s.wrapInc f).waits = s.waits := Eq.trans rfl rfl
@[simp] theorem waits_newTick : (newTick s).waits = s.waits := Eq.trans rfl rfl
@[simp] theorem waits_newStream : (newStream s).waits = s.waits := Eq.trans rfl rfl
@[simp] theorem waits_leavePair : (leavePair s).waits = s.waits := by
  unfold leavePair
  exact waits_setFld _ _ _
@[simp] theorem waits_twnEvent (old : State) : (twnEvent old s).waits = s.waits := waits_of_face (face_twnEvent s old)

@[simp] theorem waits_linkPins (p : TickPins) : (linkPins s p).waits = s.waits := by
  unfold linkPins
  split
  · rfl
  · simp [State.waits, apply_ite State.twin]

@[simp] theorem waits_takeMeasures (p : TickPins) (join : Bool) : (takeMeasures s p join).waits = s.waits := by
  unfold takeMeasures
  rw [waits_of_face (face_foldl _ face_stepAsrc _ _)]
  simp [State.waits, apply_ite State.twin]

@[simp] theorem waits_linkDown : (linkDown s).waits = s.waits := by
  unfold linkDown
  refine waits_ite _ ?_ rfl
  rw [waits_twnEvent]
  exact waits_ite _ (by rw [waits_leavePair, waits_newStream, waits_setFld]) (by rw [waits_newStream, waits_setFld])

@[simp] theorem waits_skewError : (skewError s).waits = s.waits := by
  unfold skewError
  exact waits_ite _ (by rw [waits_twnEvent, waits_leavePair, waits_setFld]) rfl

/-- Undoing a forwarded item leaves the twin alone. -/
theorem twin_undoItem (u : Undo) : (undoItem s u).twin = s.twin := by
  unfold undoItem
  (repeat' split) <;> simp

@[simp] theorem waits_dropUnconfirmed (n : Nat) : (dropUnconfirmed s n).waits = s.waits := by
  have hfold (l : List (Nat × Undo)) : (l.foldr (fun t s => undoItem s t.2) s).waits = s.waits := by
    induction l with
    | nil => rfl
    | cons u l ih => rw [List.foldr_cons, waits_of_twin (twin_undoItem _ _), ih]
  exact hfold _

/-- The leader's part of a split of the pair, and the follower's (R248). -/
def leaderSplit : State :=
  match s.twin.splitAt with
  | some x =>
    if x ≤ s.tick then
      let t : State := { s with twin := { s.twin with splitAt := none } }
      if t.twin.paired then (leavePair t).setFld Reg.TWN_STAT_replica_detach 1 else t
    else s
  | none => s

def followerDetach : State :=
  match s.twin.detach with
  | some n =>
    let t : State := { s with twin := { s.twin with detach := none } }
    if t.follows then (leavePair (dropUnconfirmed t n)).setFld Reg.TWN_STAT_replica_detach 1 else t
  | none => s

theorem splitPair_eq : splitPair s = followerDetach (leaderSplit s) := rfl

@[simp] theorem waits_leaderSplit : (leaderSplit s).waits = s.waits := by
  unfold leaderSplit
  split
  · refine waits_ite _ (waits_ite _ ?_ rfl) rfl
    rw [waits_setFld, waits_leavePair]
    rfl
  · rfl

@[simp] theorem waits_followerDetach : (followerDetach s).waits = s.waits := by
  unfold followerDetach
  split
  · refine waits_ite _ ?_ rfl
    rw [waits_setFld, waits_leavePair, waits_dropUnconfirmed]
    rfl
  · rfl

@[simp] theorem waits_splitPair : (splitPair s).waits = s.waits := by
  rw [splitPair_eq, waits_followerDetach, waits_leaderSplit]

@[simp] theorem waits_setBoot (b : Nat) : (s.setBoot b).waits = s.waits := waits_of_twin (twin_setBoot s b)

@[simp] theorem waits_takeOwnership (sole : Bool) : (takeOwnership s sole).waits = s.waits := by
  have hstart (t : State) (c : Prop) [Decidable c] : (if c then startEngines t else t).waits = t.waits :=
    waits_ite _ (waits_of_face (face_startEngines t)) rfl
  have hrun (t : State) : (if t.boot = bootRipening then t.setBoot bootRun else t).waits = t.waits :=
    waits_ite _ (waits_setBoot t _) rfl
  unfold takeOwnership
  refine waits_ite _ rfl (waits_ite _ ?_ ?_)
  · rw [waits_leavePair]
    exact (hrun _).trans (hstart _ _)
  · exact (hrun _).trans (hstart _ _)

@[simp] theorem waits_giveUpOwnership (upto : Nat) : (giveUpOwnership s upto).waits = s.waits := by
  have hgive := (waits_wrapInc (s.setFld Reg.TWN_STAT_owner 0) Reg.TWN_STAT_handovers).trans (waits_setFld s _ _)
  unfold giveUpOwnership
  refine waits_ite _ ?_ rfl
  exact hgive

/-- A twin that gives up its ownership at once leaves the pair with its outputs floated (R246, R267). -/
theorem waits_floatAlone : ({ leavePair (giveUpOwnership { s with twin := { s.twin with ownNext := none } } 0) with floated := true } :
    State).waits = s.waits :=
  (waits_leavePair _).trans (waits_giveUpOwnership _ 0)

@[simp] theorem waits_changeOwner : (changeOwner s).waits = s.waits := by
  unfold changeOwner
  split
  · rfl
  · rw [waits_takeOwnership]; rfl
  · exact waits_ite _ (waits_floatAlone s) ((waits_setFld _ _ _).trans (waits_floatAlone s))

@[simp] theorem waits_plannedHandover : (plannedHandover s).waits = s.waits := by
  unfold plannedHandover
  dsimp only
  split
  · rfl
  · refine waits_ite _ (waits_ite _ ?_ (waits_ite _ ?_ rfl)) rfl
    · rw [waits_giveUpOwnership]; rfl
    · rw [waits_takeOwnership]; rfl

@[simp] theorem waits_ownership : (ownership s).waits = s.waits := by
  rw [ownership, waits_plannedHandover, waits_changeOwner, waits_splitPair, waits_skewError, waits_linkDown]

end

end Sys2Proof.Machine
end

section
/-!
PROOFS. The tick: its boundaries, its start and the joining tick (R39, R41, R252, R261, R266).
-/
namespace Sys2Proof.Machine

/-! ### A boundary's work keeps the tick -/

/-- The state `u` is at tick `n` with the tick running, and so is `t` behind the boundary work of `u`, unless a first fetch finds an
uncorrectable word or one is armed. -/
def runsAt (pins : TickPins) (u t : State) (peers : Bool) (n : Nat) : Prop :=
  u.tick = n ∧ u.tickOn = true ∧
    ((∀ x ∈ pins.fetch, ∀ up, x.2 ≠ .bad up) →
      (∀ q ∈ (boundarySteps u peers).str.progs, fetchUnarmed (boundarySteps u peers) (q.engine / 16)) → t.tick = n ∧ t.tickOn = true)

theorem tick_of_timed {s : State} {n : Nat} (h : s.timed = (n, true)) : s.tick = n ∧ s.tickOn = true := Prod.ext_iff.1 h

theorem runsAt_boundaryWork {pins : TickPins} {u : State} {n : Nat} (peers : Bool) (h : u.timed = (n, true)) :
    runsAt pins u (boundaryWork u pins peers) peers n := by
  obtain ⟨htick, hon⟩ := tick_of_timed h
  exact ⟨htick, hon, fun hf hs => tick_of_timed ((timed_boundaryWork u pins peers hf hs).trans h)⟩

/-- A signalled change of TWN_STAT keeps the tick. -/
theorem runsAt_twnEvent {pins : TickPins} {u t : State} {peers : Bool} {n : Nat} (s : State) (h : runsAt pins u t peers n) :
    runsAt pins u (twnEvent s t) peers n := by
  obtain ⟨htick, hon, hwork⟩ := h
  exact ⟨htick, hon, fun hf hs => tick_of_timed ((timed_twnEvent s t).trans (Prod.ext_iff.2 (hwork hf hs)))⟩

/-! ### TICK_BOUNDARY (R41) -/

/-- The state at the boundary of tick `n` before its ownership work. -/
def enteredTick (s : State) (n : Nat) (p : TickPins) : State :=
  newTick (carryWords (writeLines (takeMeasures (linkPins { s with tick := n } p) p false)))

/-- The same behind it. -/
def ownedTick (s : State) (n : Nat) (p : TickPins) : State := twnEvent (enteredTick s n p) (ownership (enteredTick s n p))

/-- The leases of the partner's sessions break at the boundary where the partner has stopped and no change of owner is due. -/
def peersGone (s : State) (n : Nat) (p : TickPins) : Bool :=
  (enteredTick s n p).twin.peerGone && (enteredTick s n p).twin.ownNext.isNone

/-- Where no restart is due, a boundary goes on with its work. -/
theorem boundaryAt_goes_on {s : State} {n : Nat} {p : TickPins} (h : restartDue (ownedTick s n p) = none) :
    boundaryAt s n p = boundaryWork (ownedTick s n p) p (peersGone s n p) := by
  unfold boundaryAt
  dsimp only
  split
  · rename_i hc
    exact absurd (hc.symm.trans h) (by simp)
  · rfl

theorem timed_ownedTick (s : State) (n : Nat) (p : TickPins) : (ownedTick s n p).timed = (n, s.tickOn) := by
  simp [ownedTick, enteredTick]

theorem waits_ownedTick (s : State) (n : Nat) (p : TickPins) : (ownedTick s n p).waits = s.waits := by
  rw [ownedTick, waits_twnEvent, waits_ownership, enteredTick, waits_newTick, waits_of_face (face_carryWords _),
    waits_of_face (face_writeLines _), waits_takeMeasures, waits_linkPins]
  rfl

theorem restartDue_none {s : State} (h : s.waits = (false, false)) : restartDue s = none := by
  obtain ⟨hyield, hrestart⟩ := Prod.ext_iff.1 h
  have hy : s.twin.yield = false := hyield
  have hr : s.twin.restartAfterHo = false := hrestart
  simp [restartDue, hy, hr]

theorem tickBoundary_advances (pins : TickPins) (s : State) (hon : s.tickOn = true) (hy : s.twin.yield = false)
    (hr : s.twin.restartAfterHo = false) :
    ∃ u peers, execTickBoundary pins s = .next (boundaryWork u pins peers) ∧
      runsAt pins u (boundaryWork u pins peers) peers (s.tick + 1) := by
  have hdue : restartDue (ownedTick s (s.tick + 1) pins) = none :=
    restartDue_none ((waits_ownedTick s _ pins).trans (Prod.ext_iff.2 ⟨hy, hr⟩))
  refine ⟨ownedTick s (s.tick + 1) pins, peersGone s (s.tick + 1) pins, ?_, runsAt_boundaryWork _ ((timed_ownedTick s _ pins).trans (by rw [hon]))⟩
  rw [execTickBoundary, if_pos hon, boundaryAt_goes_on hdue]

/-! ### JOIN_TICK (R252) -/

/-- The joiner with the owner's count `j`. -/
def adoptedTick (s : State) (j : Nat) : State :=
  { s with tick := j, retrainDue := ((s.retrainDue : Int) + j - s.tick).toNat }

/-- A joiner at its joining tick `j`, before its engines start. -/
def joinedTick (s : State) (j : Nat) (p : TickPins) : State :=
  let t : State := newTick (carryWords (takeMeasures (linkPins (adoptedTick s j) p) p true))
  { t with twin := { t.twin with
    paired := true, matched := [], eqFrom := [], bulkDone := [], joinTick := none, copyFrom := some j, copyNow := [] } }

/-- The same with its engines started and COPYING shown. -/
def copyingTick (s : State) (j : Nat) (p : TickPins) : State :=
  joinEngines (twnChange (fun t => t.setRipe ripeCopying) (joinedTick s j p))

theorem execJoinTick_eq (pins : TickPins) (s : State) {j : Nat} (hj : s.twin.joinTick = some j) (hon : s.tickOn = true)
    (hripe : s.ripe = ripeJoining) (howns : s.owns = false) :
    execJoinTick pins s = .next (boundaryWork (copyingTick s j pins) pins false) := by
  unfold execJoinTick
  split
  · rename_i h
    exact absurd (hj.symm.trans h) (by simp)
  · rename_i i h
    obtain rfl : j = i := Option.some.inj (hj.symm.trans h)
    rw [if_pos ⟨hon, hripe, howns⟩]
    rfl

/-! ### What the boundary's first work leaves of TWN_STAT -/

/-- Of the registers that show a start, the link's pins write TWN_STAT.partner_alive alone. -/
theorem fld_linkPins (s : State) (p : TickPins) {f : Fld} (hf : f.addr ∈ faceRegs)
    (hs : f.addr ≠ Reg.TWN_STAT ∨ f.lo + f.w ≤ 15 ∨ 16 ≤ f.lo) : (linkPins s p).fld f = s.fld f := by
  have hlink : f.addr ≠ Reg.TWN_LINK := fun e => by rw [e] at hf; revert hf; decide
  have hskew : f.addr ≠ Reg.TWN_SKEW := fun e => by rw [e] at hf; revert hf; decide
  have hpins (lanes aligned skew : Nat) : (((s.setFld Reg.TWN_LINK_lanes_up lanes).setFld Reg.TWN_LINK_aligned aligned).setFld
      Reg.TWN_SKEW_skew skew).fld f = s.fld f := by
    rw [fld_setFld_other _ _ _ _ (by decide) (.inl hskew), fld_setFld_other _ _ _ _ (by decide) (.inl hlink),
      fld_setFld_other _ _ _ _ (by decide) (.inl hlink)]
  have halive (t : State) : (if p.alive then t.setFld Reg.TWN_STAT_partner_alive 1 else t).fld f = t.fld f := by
    split
    · exact fld_setFld_other _ _ _ _ (by decide) hs
    · rfl
  unfold linkPins
  split
  · rfl
  · exact (halive _).trans (hpins _ _ _)

/-- The measurements write TWN_STAT.input_own alone. -/
theorem fld_takeMeasures (s : State) (p : TickPins) (join : Bool) {f : Fld} (hf : f.addr ∈ faceRegs)
    (hs : f.addr ≠ Reg.TWN_STAT ∨ f.lo + f.w ≤ 27 ∨ 28 ≤ f.lo) : (takeMeasures s p join).fld f = s.fld f := by
  have hown (c : Bool) : (if c then s.setFld Reg.TWN_STAT_input_own 1 else s).fld f = s.fld f := by
    split
    · exact fld_setFld_other _ _ _ _ (by decide) hs
    · rfl
  unfold takeMeasures
  rw [fld_of_face (face_foldl _ face_stepAsrc _ _) hf]
  exact hown _

/-! ### JOIN_TICK: what the joiner begins with -/

section
variable (s : State) (j : Nat) (p : TickPins)

theorem timed_joinedTick : (joinedTick s j p).timed = (j, s.tickOn) := by simp [joinedTick, adoptedTick]

theorem regs_joinedTick : (joinedTick s j p).regs = (carryWords (takeMeasures (linkPins (adoptedTick s j) p) p true)).regs := by
  unfold joinedTick newTick
  dsimp only

theorem owns_joinedTick : (joinedTick s j p).owns = s.owns := by
  have hf := calc (joinedTick s j p).fld Reg.TWN_STAT_owner
    _ = (carryWords (takeMeasures (linkPins (adoptedTick s j) p) p true)).fld Reg.TWN_STAT_owner := fld_of_regs (regs_joinedTick s j p) _
    _ = (takeMeasures (linkPins (adoptedTick s j) p) p true).fld Reg.TWN_STAT_owner := fld_of_face (face_carryWords _) (by decide)
    _ = (linkPins (adoptedTick s j) p).fld Reg.TWN_STAT_owner := fld_takeMeasures _ p true (by decide) (by decide)
    _ = (adoptedTick s j).fld Reg.TWN_STAT_owner := fld_linkPins _ p (by decide) (by decide)
    _ = s.fld Reg.TWN_STAT_owner := fld_of_regs rfl _
  rw [State.owns, hf, State.owns]

theorem face_copyingTick : (copyingTick s j p).face = ((joinedTick s j p).setRipe ripeCopying).face := by
  rw [copyingTick, face_joinEngines, twnChange, face_twnEvent]

theorem timed_copyingTick : (copyingTick s j p).timed = (j, s.tickOn) := by
  rw [← timed_joinedTick s j p]
  simp [copyingTick, joinEngines]

theorem twin_copyingTick : (copyingTick s j p).twin = (joinedTick s j p).twin :=
  (face_eq_iff.1 (face_copyingTick s j p)).1.trans (State.setFld_twin _ _ _)

theorem ripe_copyingTick : (copyingTick s j p).ripe = ripeCopying := by
  rw [State.ripe, fld_of_face (face_copyingTick s j p) (by decide)]
  exact fld_setFld_of_lt (by decide) (by decide)

theorem owns_copyingTick : (copyingTick s j p).owns = s.owns := by
  rw [← owns_joinedTick s j p, State.owns, fld_of_face (face_copyingTick s j p) (by decide), State.setRipe,
    fld_setFld_other _ _ _ _ (by decide) (by decide), State.owns]

/-- From its joining tick on the twin is paired, and no copy has made anything equal yet. -/
theorem joinedTick_pairs : (joinedTick s j p).twin.paired = true ∧ (joinedTick s j p).twin.matched = [] ∧
    (joinedTick s j p).twin.eqFrom = [] := by
  unfold joinedTick
  exact ⟨rfl, rfl, rfl⟩

end

theorem joinTick_starts_copying (pins : TickPins) (s : State) {j : Nat} (hj : s.twin.joinTick = some j) (hon : s.tickOn = true)
    (hripe : s.ripe = ripeJoining) (howns : s.owns = false) :
    ∃ u, execJoinTick pins s = .next (boundaryWork u pins false) ∧ runsAt pins u (boundaryWork u pins false) false j ∧
      u.twin.paired = true ∧ u.ripe = ripeCopying ∧ u.twin.matched = [] ∧ u.twin.eqFrom = [] ∧ u.owns = false := by
  obtain ⟨hpaired, hmatched, heq⟩ := joinedTick_pairs s j pins
  rw [← twin_copyingTick] at hpaired hmatched heq
  exact ⟨copyingTick s j pins, execJoinTick_eq pins s hj hon hripe howns,
    runsAt_boundaryWork false ((timed_copyingTick s j pins).trans (by rw [hon])), hpaired, ripe_copyingTick s j pins, hmatched, heq,
    (owns_copyingTick s j pins).trans howns⟩

/-! ### The start of the tick generator -/

section
variable (s : State)

/-- The time that passes before the tick runs shows in registers and takes free values. -/
theorem onlyShown_passTime : onlyShown s (passTime s) := by
  unfold passTime
  generalize List.range 17 = ds
  suffices h : ∀ t, onlyShown s t → onlyShown s (ds.foldl passDom t) from h s (onlyShown_refl s)
  induction ds with
  | nil => exact fun t h => h
  | cons d ds ih =>
    intro t h
    obtain ⟨r, c, n, rfl⟩ := h
    obtain ⟨r', c', n', h'⟩ := onlyShown_passDom { s with regs := r, sv := c, freeCtr := n } d
    exact ih _ ⟨r', c', n', h'⟩

/-- The state at tick 0 with L6 ended, before PCIe may go off. -/
def zeroTick : State :=
  (endPhase { passTime s with tickOn := true, tick := 0, retrainDue := retrainPeriod s } 6).setFld Reg.ESP_STAT_state 0

/-- Domain PCIE goes off behind the registers that show a start. -/
theorem face_tickZero : (tickZero s).face = (zeroTick s).face := by
  have hpcie : ((zeroTick s).setDomSt 12 domStOff).face = (zeroTick s).face := by
    unfold State.setDomSt
    refine face_ite _ rfl ?_
    rw [face_raiseEvent, passDom_tick (by rfl), face_setFld _ (by decide)]
  have hz : tickZero s = if (zeroTick s).str.board.pcieEn = 1 then zeroTick s else (zeroTick s).setDomSt 12 domStOff := rfl
  rw [hz]
  exact face_ite _ rfl hpcie

theorem timed_tickZero : (tickZero s).timed = (0, true) := by
  have hz : (zeroTick s).timed = (0, true) := by simp [zeroTick, endPhase]
  rw [← hz]
  exact timed_ite (zeroTick s) _ _ _ rfl (timed_State_setDomSt _ _ _)

theorem phases_tickZero : (tickZero s).phases = s.phases ++ [6] := by
  obtain ⟨r, c, n, h⟩ := onlyShown_passTime s
  rw [(face_eq_iff.1 (face_tickZero s)).2.1, zeroTick, h]
  rfl

theorem twinMode_tickZero : (tickZero s).twinMode = s.twinMode := by
  obtain ⟨r, c, n, h⟩ := onlyShown_passTime s
  rw [State.twinMode, (face_eq_iff.1 (face_tickZero s)).2.2.1, zeroTick, h]
  rfl

theorem esp_state_tickZero : (tickZero s).fld Reg.ESP_STAT_state = 0 := by
  rw [fld_of_face (face_tickZero s) (by decide)]
  exact fld_setFld_of_lt (by decide) (by decide)

theorem role_tickZero : (tickZero s).fld Reg.TWN_STAT_role = (passTime s).fld Reg.TWN_STAT_role := by
  rw [fld_of_face (face_tickZero s) (by decide), zeroTick, fld_setFld_other _ _ _ _ (by decide) (by decide)]
  rfl

end

end Sys2Proof.Machine
end

section
/-!
PROOFS. TICK_GENERATOR_START: how a start ends, and the state at tick 0 (Table 11.3 L6, Table 11.5, R262, R266).
-/
namespace Sys2Proof.Machine

section
variable (s : State) (k : StartKind) (p : TickPins)

/-- Tick 0 with its link pins read, before the start shows its role. -/
def pinnedTick : State := heardAll (linkPins (gridStart (tickZero s)) p)

/-- Tick 0 with the role, the ports and the engines of a start of kind `k`. -/
def firstTick : State := newTick (showAlive (startState (startPorts (startRole (pinnedTick s p) k)) k))

theorem startTick_eq : startTick s k p = boundaryWork (firstTick s k p) p false := rfl

/-! ### Before the role -/

theorem timed_pinnedTick : (pinnedTick s p).timed = (0, true) := by simp [pinnedTick, heardAll, timed_tickZero]

theorem linkPins_kept (t : State) : (linkPins t p).phases = t.phases ∧ (linkPins t p).str = t.str := by
  unfold linkPins
  split
  · exact ⟨rfl, rfl⟩
  · simp [apply_ite State.phases, apply_ite State.str]

theorem phases_pinnedTick : (pinnedTick s p).phases = s.phases ++ [6] :=
  (linkPins_kept p _).1.trans ((face_eq_iff.1 (face_gridStart _)).2.1.trans (phases_tickZero s))

theorem twinMode_pinnedTick : (pinnedTick s p).twinMode = s.twinMode := by
  have hstr : (pinnedTick s p).str = (tickZero s).str := (linkPins_kept p _).2.trans (face_eq_iff.1 (face_gridStart _)).2.2.1
  rw [State.twinMode, hstr, ← State.twinMode, twinMode_tickZero]

theorem fld_pinnedTick {f : Fld} (hf : f.addr ∈ faceRegs) (hs : f.addr ≠ Reg.TWN_STAT ∨ f.lo + f.w ≤ 15 ∨ 16 ≤ f.lo) :
    (pinnedTick s p).fld f = (tickZero s).fld f :=
  (fld_of_regs rfl f).trans ((fld_linkPins _ p hf hs).trans (fld_of_face (face_gridStart _) hf))

/-! ### Behind the role -/

theorem timed_startState (t : State) : (startState t k).timed = t.timed := by cases k <;> simp [startState]

theorem timed_firstTick : (firstTick s k p).timed = (0, true) := by
  rw [firstTick, timed_newTick, timed_showAlive, timed_startState, timed_startPorts, timed_startRole, timed_pinnedTick]

theorem fld_startState (t : State) {f : Fld} (hf : f.addr ∈ faceRegs) (hb : f.addr ≠ Reg.BOOT_STATE) :
    (startState t k).fld f = t.fld f := by
  cases k
  case joiner => exact fld_setBoot t _ hb
  all_goals exact (fld_of_face (face_startEngines _) hf).trans (fld_setBoot t _ hb)

theorem twin_startState (t : State) : (startState t k).twin = t.twin := by
  cases k
  case joiner => exact twin_setBoot t _
  all_goals exact (face_eq_iff.1 (face_startEngines _)).1.trans (twin_setBoot t _)

theorem phases_startState (t : State) : (startState t k).phases = t.phases := by
  cases k
  case joiner => exact phases_setBoot t _
  all_goals exact (face_eq_iff.1 (face_startEngines _)).2.1.trans (phases_setBoot t _)

theorem boot_startState (t : State) : (startState t k).boot = if k = .joiner then bootRipening else bootRun := by
  cases k
  case joiner => exact boot_setBoot t (by decide)
  all_goals exact (fld_of_face (face_startEngines _) (by decide)).trans (boot_setBoot t (by decide))

theorem fld_firstTick {f : Fld} (hf : f.addr ∈ faceRegs) (hb : f.addr ≠ Reg.BOOT_STATE)
    (ha : f.addr ≠ Reg.TWN_STAT ∨ f.lo + f.w ≤ 14 ∨ 15 ≤ f.lo) :
    (firstTick s k p).fld f = (startRole (pinnedTick s p) k).fld f := by
  have hnew (t : State) : (newTick t).fld f = t.fld f := fld_of_regs rfl f
  rw [firstTick, hnew, showAlive, fld_setFld_other _ _ _ _ (by decide) ha, fld_startState k _ hf hb,
    fld_of_face (face_startPorts _) hf]

theorem boot_firstTick : (firstTick s k p).boot = if k = .joiner then bootRipening else bootRun := by
  have hnew (t : State) : (newTick t).boot = t.boot := fld_of_regs rfl _
  rw [firstTick, hnew, showAlive, State.boot, fld_setFld_other _ _ _ _ (by decide) (by decide), ← State.boot, boot_startState]

theorem paired_firstTick : (firstTick s k p).twin.paired = (startRole (pinnedTick s p) k).twin.paired := by
  have hnew (t : State) : (newTick t).twin.paired = t.twin.paired := by unfold newTick; rfl
  rw [firstTick, hnew, showAlive, State.setFld_twin, twin_startState, (face_eq_iff.1 (face_startPorts _)).1]

theorem phases_startRole (t : State) : (startRole t k).phases = t.phases := by
  unfold startRole
  split
  · rfl
  · cases k <;> simp [State.setRipe]

theorem phases_firstTick : (firstTick s k p).phases = s.phases ++ [6] := by
  have hnew (t : State) : (newTick t).phases = t.phases := by unfold newTick; rfl
  rw [firstTick, hnew, showAlive, State.setFld_phases, phases_startState, (face_eq_iff.1 (face_startPorts _)).2.1,
    phases_startRole, phases_pinnedTick]

/-! ### The role (R232, R236, R266) -/

theorem startRole_alone {t : State} (h : t.twinMode = false) : startRole t k = t := by rw [startRole, if_pos h]

theorem startRole_joiner {t : State} (h : t.twinMode = true) :
    startRole t .joiner = (t.setFld Reg.TWN_STAT_owner 0).setRipe ripeDetached := by
  rw [startRole, if_neg (by simp [h])]

theorem startRole_common {t : State} (h : t.twinMode = true) : startRole t .common =
    (({ t with twin := { t.twin with paired := true } } : State).setFld Reg.TWN_STAT_owner
      (t.fld Reg.TWN_STAT_role == 0).toNat).setRipe ripeRipe := by
  rw [startRole, if_neg (by simp [h])]

/-- What a start writes of TWN_STAT.owner and ripe_state, tick 0 shows. -/
theorem role_firstTick {t : State} {o : Bool} {r : Nat} (hr : r < 8)
    (h : startRole (pinnedTick s p) k = (t.setFld Reg.TWN_STAT_owner o.toNat).setRipe r) :
    (firstTick s k p).owns = o ∧ (firstTick s k p).ripe = r := by
  constructor
  · rw [State.owns, fld_firstTick s k p (by decide) (by decide) (by decide), h, State.setRipe,
      fld_setFld_other _ _ _ _ (by decide) (by decide), fld_setFld_self _ _ _ (by decide)]
    cases o <;> rfl
  · rw [State.ripe, fld_firstTick s k p (by decide) (by decide) (by decide), h]
    exact fld_setFld_of_lt (by decide) hr

end

/-! ### The kinds of start (Table 11.5) -/

section
variable {s : State} {pins : TickPins} {common : Bool} {k : StartKind}

theorem tickGeneratorStart_runs (hb : s.boot = bootLoad) (hp : s.phases = [1, 2, 3, 4, 5]) (hk : startKind s pins common = some k) :
    execTickGeneratorStart pins common s = .next (twnEvent s (boundaryWork (firstTick s k pins) pins false)) ∧
      runsAt pins (firstTick s k pins) (twnEvent s (boundaryWork (firstTick s k pins) pins false)) false 0 := by
  have hat : atPhase s [1, 2, 3, 4, 5] = true := by simp [atPhase, hb, hp]
  refine ⟨?_, runsAt_twnEvent s (runsAt_boundaryWork false (timed_firstTick s k pins))⟩
  rw [execTickGeneratorStart, if_pos hat, hk, ← startTick_eq]

theorem tickGeneratorStart_waits (h : s.boot ≠ bootLoad ∨ 5 ∉ s.phases) : execTickGeneratorStart pins common s = .next s := by
  have hat : ¬ atPhase s [1, 2, 3, 4, 5] = true := by
    intro ha
    simp only [atPhase, Bool.and_eq_true, beq_iff_eq] at ha
    obtain ⟨hb, hp⟩ := ha
    exact h.elim (fun hn => hn hb) (fun hn => hn (by rw [hp]; decide))
  rw [execTickGeneratorStart, if_neg hat]

theorem startKind_alone (h : s.twinMode = false) : startKind s pins common = some .sole := by
  unfold startKind; exact if_pos (.inl h)

/-- Neither a single device nor one that shares its role with the partner starts by the twins' rows of the table. -/
theorem startKind_twin (ht : s.twinMode = true) (hc : s.fld Reg.TWN_LINK_role_clash = 0) (ha : pins.aligned = true) :
    startKind s pins common =
      if s.fld Reg.TWN_STAT_role = 0 then some (if (common && decide (s.twin.image < 2)) = true then .common else .sole)
      else if (common && decide (s.twin.image < 2)) = true then some .common
      else if s.twin.partnerBoot = bootRun ∨ s.twin.partnerBoot = bootRipening then some .joiner else none := by
  simp [startKind, ht, hc, ha]

theorem startKind_joiner (ht : s.twinMode = true) (hr : s.fld Reg.TWN_STAT_role = 1) (hc : s.fld Reg.TWN_LINK_role_clash = 0)
    (ha : pins.aligned = true) (hcold : common = false ∨ 2 ≤ s.twin.image)
    (hp : s.twin.partnerBoot = bootRun ∨ s.twin.partnerBoot = bootRipening) : startKind s pins common = some .joiner := by
  have hpair : ¬ (common && decide (s.twin.image < 2)) = true := by
    rcases hcold with h | h
    · simp [h]
    · simp [Nat.not_lt.2 h]
  rw [startKind_twin ht hc ha, if_neg (by omega), if_neg hpair, if_pos hp]

theorem startKind_common (ht : s.twinMode = true) (hc : s.fld Reg.TWN_LINK_role_clash = 0) (ha : pins.aligned = true)
    (hcold : common = true) (hi : s.twin.image < 2) : startKind s pins common = some .common := by
  have hpair : (common && decide (s.twin.image < 2)) = true := by simp [hcold, hi]
  rw [startKind_twin ht hc ha, if_pos hpair, if_pos hpair]
  split <;> rfl

theorem firstTick_alone (ht : s.twinMode = false) : (firstTick s .sole pins).fld Reg.ESP_STAT_state = 0 := by
  rw [fld_firstTick _ _ _ (by decide) (by decide) (by decide), startRole_alone _ ((twinMode_pinnedTick s pins).trans ht),
    fld_pinnedTick _ _ (by decide) (by decide), esp_state_tickZero]

theorem firstTick_joiner (ht : s.twinMode = true) :
    (firstTick s .joiner pins).owns = false ∧ (firstTick s .joiner pins).ripe = ripeDetached :=
  role_firstTick s .joiner pins (by decide) (startRole_joiner ((twinMode_pinnedTick s pins).trans ht))

/-- Of two twins that start cold as a pair, the one that shows role A once the tick runs owns. -/
theorem firstTick_common (ht : s.twinMode = true) :
    (firstTick s .common pins).twin.paired = true ∧ (firstTick s .common pins).ripe = ripeRipe ∧
      (firstTick s .common pins).owns = ((passTime s).fld Reg.TWN_STAT_role == 0) := by
  have hstart := startRole_common ((twinMode_pinnedTick s pins).trans ht)
  obtain ⟨howns, hripe⟩ := role_firstTick s .common pins (by decide) hstart
  refine ⟨?_, hripe, ?_⟩
  · rw [paired_firstTick, hstart, State.setRipe, State.setFld_twin, State.setFld_twin]
  · rw [howns, fld_pinnedTick _ _ (by decide) (by decide), role_tickZero]

end

theorem joinTick_none (pins : TickPins) (s : State) (h : s.twin.joinTick = none) : execJoinTick pins s = .next s := by
  unfold execJoinTick; rw [h]

/-! ### The time before the tick -/

/-- The residency count of a domain, more by a free number of milliseconds. -/
def countedDom (s : State) (d : Nat) : State :=
  s.satAdd (Reg.PWR_RESID_ms d (residState s d)) (Config.freeValue s.freeCtr).toNat

theorem passDom_eq (s : State) (d : Nat) : passDom s d =
    if s.tickOn then s else (countedDom s d).putClk (countedDom s d).clk (s.freeCtr + 1) := by
  unfold passDom countedDom State.putClk
  split <;> rfl

theorem residState_lt {s : State} {d : Nat} (h : (s.dom d).target < 8) : residState s d < 8 := by
  have hst : s.domSt d < 8 := fld_lt s (Reg.PWR_DOM_CTL_state d)
  unfold residState
  dsimp only
  split
  · exact h
  · split <;> omega

theorem doms_passDom (s : State) (d : Nat) : (passDom s d).doms = s.doms := by
  have hput (t : State) (c : Clk) (n : Nat) : (t.putClk c n).doms = t.doms := rfl
  rw [passDom_eq]
  split
  · rfl
  · rw [hput, countedDom, State.satAdd_doms]

theorem reg_passDom {s : State} {d : Nat} (hd : d < 17) (h : (s.dom d).target < 8) :
    (passDom s d).reg Reg.TWN_STAT = s.reg Reg.TWN_STAT := by
  have hne : Reg.TWN_STAT ≠ (Reg.PWR_RESID_ms d (residState s d)).addr := by
    have hr := residState_lt h
    simp only [Reg.TWN_STAT, Reg.PWR_RESID_ms, Reg.PWR_RESID]; omega
  rw [passDom_eq]
  split
  · rfl
  · rw [reg_putClk, countedDom, State.satAdd, reg_setFld, if_neg hne]

/-- Domains whose targets are states of Table 16.1 pass their time without touching TWN_STAT. -/
theorem reg_foldl_passDom (ds : List Nat) (s : State) (h : ∀ d ∈ ds, d < 17 ∧ (s.dom d).target < 8) :
    (ds.foldl passDom s).reg Reg.TWN_STAT = s.reg Reg.TWN_STAT := by
  induction ds generalizing s with
  | nil => rfl
  | cons d ds ih =>
    obtain ⟨hd, htarget⟩ := h d List.mem_cons_self
    refine (ih (passDom s d) fun e he => ?_).trans (reg_passDom hd htarget)
    rw [State.dom, doms_passDom, ← State.dom]
    exact h e (List.mem_cons_of_mem _ he)

/-- The time that passes before the tick leaves the role alone where every domain's target is a state, as in all that the block
reaches. -/
theorem role_passTime {s : State} (h : ∀ d, (s.dom d).target < 8) :
    (passTime s).fld Reg.TWN_STAT_role = s.fld Reg.TWN_STAT_role :=
  congrArg (bitsOf · _ _) (reg_foldl_passDom _ s fun d hd => ⟨List.mem_range.1 hd, h d⟩)

/-! ### Why O34 stays unsettled

O34 speaks of every state. In one whose domain 0 enters the state 0x17FC1, which Table 16.1 does not have, the model counts the time
before the tick at the address of TWN_STAT: a free value is added to that register, and with it to the role that a common cold
start reads. Nothing can be proved of a free value. If all of them are 0, O34 holds, so that its negation has no proof; if the first
is 1, the state in which such a start begins has the wrong owner. -/

/-- A twin of role A ready to start cold with its partner, its domain 0 entering a state that does not exist. -/
def wildTarget : State :=
  (({ loadPhases [1, 2, 3, 4, 5] with
      str := { board := { twinMode := 1 } }, twin := { image := 0 }, doms := [(0, { target := 0x17FC1 })] } : State).setFld
    (Reg.PWR_DOM_CTL_state 0) domStEntering).setReg Reg.TWN_STAT 0xFFF

/-- It meets what O34 asks of a common cold start. -/
theorem wildTarget_starts_cold : wildTarget.boot = bootLoad ∧ wildTarget.phases = [1, 2, 3, 4, 5] ∧ wildTarget.twinMode = true ∧
    wildTarget.fld Reg.TWN_LINK_role_clash = 0 ∧ wildTarget.twin.image < 2 ∧ wildTarget.fld Reg.TWN_STAT_role = 0 := by
  decide +kernel

theorem reg_passTime_wildTarget (h : Config.freeValue 0 = 1) : (passTime wildTarget).reg Reg.TWN_STAT = 0x1000 := by
  have hoff : wildTarget.tickOn = false := by decide +kernel
  have hctr : wildTarget.freeCtr = 0 := by decide +kernel
  have hresid : Reg.PWR_RESID_ms 0 (residState wildTarget 0) = ⟨Reg.TWN_STAT, 0, 32⟩ := by decide +kernel
  have hword : putBits (wildTarget.reg Reg.TWN_STAT) 0 32
      (min (wildTarget.fld ⟨Reg.TWN_STAT, 0, 32⟩ + (1 : Word).toNat) (2 ^ 32 - 1)) = 0x1000 := by decide +kernel
  have hfirst : (passDom wildTarget 0).reg Reg.TWN_STAT = 0x1000 := by
    rw [passDom_eq, if_neg (by rw [hoff]; decide), reg_putClk, countedDom, hresid, hctr, h, State.satAdd, reg_setFld, if_pos rfl,
      hword]
  have htargets : ∀ d ∈ List.range' 1 16, d < 17 ∧ (wildTarget.dom d).target < 8 := by decide +kernel
  have hrange : List.range 17 = 0 :: List.range' 1 16 := rfl
  rw [passTime, hrange, List.foldl_cons, reg_foldl_passDom _ _ fun d hd => ?_, hfirst]
  rw [State.dom, doms_passDom, ← State.dom]
  exact htargets d hd

/-- Where the first free value is 1, this twin of role A starts as one that does not own. -/
theorem wildTarget_does_not_own (pins : TickPins) (h : Config.freeValue 0 = 1) : (firstTick wildTarget .common pins).owns = false := by
  obtain ⟨-, -, htwin, -⟩ := wildTarget_starts_cold
  obtain ⟨-, -, howns⟩ := firstTick_common (pins := pins) htwin
  rw [howns, State.fld, show Reg.TWN_STAT_role.addr = Reg.TWN_STAT from rfl, reg_passTime_wildTarget h]
  decide

/-- O34, from the fact that the time before the tick leaves the role alone (`role_passTime` for the states that the block reaches). -/
theorem tickCountStartsAtZeroAndAdvancesByOne_of_role_kept
    (hkept : ∀ s : State, (passTime s).fld Reg.TWN_STAT_role = s.fld Reg.TWN_STAT_role) :
    Obligations.TickCountStartsAtZeroAndAdvancesByOne := by
  unfold Obligations.TickCountStartsAtZeroAndAdvancesByOne
  intro pins common s
  refine ⟨tickBoundary_advances pins s, fun hoff => ?_, fun hb hp ht => ?_, fun hb hp ht hr hc ha hcold hpartner => ?_,
    fun hb hp ht hc ha hcold hi _ => ?_, tickGeneratorStart_waits, fun j hj hon hripe howns =>
      joinTick_starts_copying pins s hj hon hripe howns, fun hj => ?_⟩
  · exact congrArg Host.Outcome.next (if_neg (by simp [hoff]))
  · obtain ⟨hexec, hruns⟩ := tickGeneratorStart_runs hb hp (startKind_alone (pins := pins) (common := common) ht)
    exact ⟨_, hexec, hruns, boot_firstTick s .sole pins, (phases_firstTick s .sole pins).trans (by rw [hp]; rfl), firstTick_alone ht⟩
  · obtain ⟨hexec, hruns⟩ := tickGeneratorStart_runs hb hp (startKind_joiner ht hr hc ha hcold hpartner)
    exact ⟨_, hexec, hruns, boot_firstTick s .joiner pins, firstTick_joiner ht⟩
  · obtain ⟨hexec, hruns⟩ := tickGeneratorStart_runs hb hp (startKind_common ht hc ha hcold hi)
    obtain ⟨hpaired, hripe, howns⟩ := firstTick_common (pins := pins) ht
    exact ⟨_, hexec, hruns, boot_firstTick s .common pins, hpaired, hripe, howns.trans (by rw [hkept])⟩
  · exact joinTick_none pins s hj

/-- A count that a free value 0 is added to stays as it is. -/
theorem putBits_whole (x : Word) : putBits x 0 32 (min (bitsOf x 0 32 + 0) (2 ^ 32 - 1)) = x := by
  apply BitVec.eq_of_toNat_eq
  have hx := x.isLt
  simp only [putBits, bitsOf, BitVec.toNat_ofNat]
  omega

theorem reg_passDom_zero (h : ∀ n, Config.freeValue n = 0) (s : State) (d a : Nat) : (passDom s d).reg a = s.reg a := by
  have hword (r : Nat) : putBits (s.reg r) 0 32 (min (s.fld ⟨r, 0, 32⟩ + (0 : Word).toNat) (2 ^ 32 - 1)) = s.reg r :=
    putBits_whole (s.reg r)
  rw [passDom_eq]
  split
  · rfl
  · rw [reg_putClk, countedDom, h, State.satAdd, reg_setFld]
    split
    · next ha => rw [ha]; exact hword _
    · rfl

/-- O34, from free values that are all 0: counting the time before the tick then changes no register. -/
theorem tickCountStartsAtZeroAndAdvancesByOne_of_freeValue_zero (h : ∀ n, Config.freeValue n = 0) :
    Obligations.TickCountStartsAtZeroAndAdvancesByOne := by
  have hfold (ds : List Nat) (s : State) : (ds.foldl passDom s).reg Reg.TWN_STAT = s.reg Reg.TWN_STAT := by
    induction ds generalizing s with
    | nil => rfl
    | cons d ds ih => exact (ih (passDom s d)).trans (reg_passDom_zero h s d _)
  exact tickCountStartsAtZeroAndAdvancesByOne_of_role_kept fun s => congrArg (bitsOf · _ _) (hfold _ s)

end Sys2Proof.Machine
end

section
/-!
PROOFS. The issue of a slot operation that may issue: the slots are marked and its effects put in flight (R74, R77).
-/
namespace Sys2Proof.Machine

/-- A slot operation that may issue marks its slots and puts the effects it reads at issue in flight (R47, R77). -/
theorem slotOp_launch {s : State} {e : EngNo} {i : Instr} {slots : List Slot} (h : slotFree s e i slots = true) (d : Nat)
    (f : Engine → List Eff) :
    slotOp s e i slots (fun x => x.launch d (f x)) = afterIssue s e slots d (f ((fetched s e slots).engine e)) :=
  if_pos h

/-- An A-slot operation delivers at distance 1 (Table 04.2). -/
theorem aOp_issues {s : State} {e : EngNo} {i : Instr} (h : slotFree s e i [.a] = true) (f : Engine → List Eff) :
    aOp e i f s = afterIssue s e [.a] 1 (f ((fetched s e [.a]).engine e)) :=
  slotOp_launch h 1 f

/-- An operation on Vd alone puts its result in flight to the physical register that Vd names at issue (R49). -/
theorem aOne_issues {s : State} {e : EngNo} {i : Instr} (h : slotFree s e i [.a] = true) (f : Word → Word) (vd : VNo) :
    aOne f e i vd s =
      let x := (fetched s e [.a]).engine e
      afterIssue s e [.a] 1 [.wrV .a (physReg x.rrb vd.val) (f (x.rd vd.val))] :=
  aOp_issues h fun x => [aV x vd (f (x.rd vd.val))]

end Sys2Proof.Machine
end

section
/-!
PROOFS. The exponent of a word (R59, R60). A word folded by its sign bit is a number whose binary length leaves exactly the
bits that `expBits` counts.
-/
namespace Sys2Proof.Machine

theorem size_eq_log2_succ {m : Nat} (h : m ≠ 0) : m.size = m.log2 + 1 :=
  le_antisymm (Nat.size_le.mpr Nat.lt_log2_self) (Nat.lt_size.mpr (Nat.log2_self_le h))

section
variable {n : Nat} (v : BitVec n)

/-- `v` with every bit inverted where its sign bit is set. -/
def signFold : BitVec n := if v.msb then ~~~v else v

theorem getLsbD_signFold {i : Nat} (hi : i < n) : (signFold v).getLsbD i = (v.getLsbD i ^^ v.msb) := by
  unfold signFold
  cases hm : v.msb <;> simp [hi]

theorem signFold_of_msb (hm : v.msb = true) : ((signFold v).toNat : Int) = -v.toInt - 1 := by
  have hv := v.isLt
  rw [signFold, if_pos hm, BitVec.toNat_not, BitVec.toInt_eq_msb_cond, if_pos hm]
  omega

theorem signFold_of_not_msb (hm : v.msb = false) : ((signFold v).toNat : Int) = v.toInt := by
  rw [signFold, if_neg (by simp [hm]), BitVec.toInt_eq_msb_cond, if_neg (by simp [hm])]

/-- EXP is what the binary length of the folded word leaves of the bits below the sign. -/
theorem expBits_toInt : expBits n v.toInt = n - 1 - (signFold v).toNat.size := by
  have hfold : (if v.toInt < 0 then -v.toInt - 1 else v.toInt).toNat = (signFold v).toNat := by
    cases hm : v.msb
    case true => rw [if_pos (by simpa [BitVec.msb_eq_toInt] using hm), ← signFold_of_msb v hm, Int.toNat_natCast]
    case false => rw [if_neg (by simpa [BitVec.msb_eq_toInt] using hm), ← signFold_of_not_msb v hm, Int.toNat_natCast]
  have hsize (m : Nat) : (if m = 0 then 0 else Nat.log2 m + 1) = m.size := by
    split
    · next h0 => rw [h0, Nat.size_zero]
    · next h0 => exact (size_eq_log2_succ h0).symm
  rw [expBits, hfold, hsize]

theorem size_signFold_le : (signFold v).toNat.size ≤ n - 1 := by
  have h1 := BitVec.le_toInt v
  have h2 := BitVec.toInt_lt (x := v)
  have hp : ((2 ^ (n - 1) : Nat) : Int) = 2 ^ (n - 1) := by push_cast; rfl
  rw [Nat.size_le]
  cases hm : v.msb
  case true => have := signFold_of_msb v hm; omega
  case false => have := signFold_of_not_msb v hm; omega

theorem expBits_le : expBits n v.toInt ≤ n - 1 := Nat.sub_le _ _

/-- The bits that EXP counts equal the sign bit. -/
theorem getLsbD_of_expBits {i : Nat} (hlo : n - 1 - expBits n v.toInt ≤ i) (hi : i < n) : v.getLsbD i = v.msb := by
  have hsize := size_signFold_le v
  rw [expBits_toInt] at hlo
  have hbit : (signFold v).toNat.testBit i = false := Nat.testBit_lt_two_pow (Nat.size_le.mp (by omega))
  rw [BitVec.testBit_toNat, getLsbD_signFold v hi] at hbit
  simpa using hbit

/-- The bit below those that EXP counts differs from the sign bit. -/
theorem getLsbD_below_expBits (h : expBits n v.toInt < n - 1) : v.getLsbD (n - 2 - expBits n v.toInt) ≠ v.msb := by
  have hsize := size_signFold_le v
  rw [expBits_toInt] at h ⊢
  set k := (signFold v).toNat.size with hk
  have hpos : (signFold v).toNat ≠ 0 := fun h0 => by rw [h0, Nat.size_zero] at hk; omega
  have hlog := size_eq_log2_succ hpos
  have hbit := Nat.testBit_log2 hpos
  rw [BitVec.testBit_toNat, getLsbD_signFold v (by omega)] at hbit
  rw [show n - 2 - (n - 1 - k) = (signFold v).toNat.log2 by omega]
  simpa using hbit

/-- Normalisation by EXP stays within the word. -/
theorem toInt_norm (hn : 0 < n) :
    (BitVec.ofInt n (v.toInt * 2 ^ expBits n v.toInt)).toInt = v.toInt * 2 ^ expBits n v.toInt := by
  have hsize := size_signFold_le v
  have hlt : (signFold v).toNat < 2 ^ (signFold v).toNat.size := Nat.lt_size_self _
  have hscale : (2 : Int) ^ (n - 1) = 2 ^ (signFold v).toNat.size * 2 ^ expBits n v.toInt := by
    rw [← pow_add, expBits_toInt]; congr 1; omega
  have hrange : -2 ^ (signFold v).toNat.size ≤ v.toInt ∧ v.toInt < 2 ^ (signFold v).toNat.size := by
    have hlt' : ((signFold v).toNat : Int) < 2 ^ (signFold v).toNat.size := by exact_mod_cast hlt
    cases hm : v.msb
    case true => have := signFold_of_msb v hm; omega
    case false => have := signFold_of_not_msb v hm; omega
  have hpos : (0 : Int) < 2 ^ expBits n v.toInt := by positivity
  refine BitVec.toInt_ofInt_eq_self hn ?_ ?_
  · rw [hscale, ← neg_mul]; exact mul_le_mul_of_nonneg_right hrange.1 hpos.le
  · rw [hscale]; exact mul_lt_mul_of_pos_right hrange.2 hpos

end

/-- Settles O60: EXP leaves the binary length of the folded word, below which normalisation has room. -/
theorem exponentOfAWordCountsItsSignBits : Obligations.ExponentOfAWordCountsItsSignBits := by
  unfold Obligations.ExponentOfAWordCountsItsSignBits
  intro v
  refine ⟨exp32 v, expBits_le v, fun i hlo hi => getLsbD_of_expBits v hlo (by omega), getLsbD_below_expBits v, ?_,
    BitVec.ofInt 32 (v.toInt * 2 ^ exp32 v), toInt_norm v (by decide), ?_, ?_, ?_⟩
  · rintro (rfl | rfl) <;> decide
  · rintro rfl; decide
  · rintro rfl; decide
  · intro e vd s x put hv
    rw [← hv]
    exact ⟨fun h => congrArg Host.Outcome.next (aOne_issues h _ vd), fun h => congrArg Host.Outcome.next (aOne_issues h _ vd)⟩

end Sys2Proof.Machine
end

section
/-!
PROOFS. MPY, MAC and MSU (R50 to R52, R65, R80): the updates that Table 04.4 names, and the residue checks beside them.
-/
namespace Sys2Proof.Machine

/-- The overflow flag is set exactly where the exact result does not fit 80 bits (R52). -/
theorem overflows80_eq (v : Int) : overflows80 v = decide (v < -2 ^ 79 ∨ 2 ^ 79 ≤ v) := by
  have hlo := BitVec.le_toInt (BitVec.ofInt 80 v)
  have hhi := BitVec.toInt_lt (x := BitVec.ofInt 80 v)
  rw [overflows80, wrap80, decide_eq_decide]
  constructor
  · intro h
    by_contra hfit
    exact h (BitVec.toInt_ofInt_eq_self (by decide) (by omega) (by omega))
  · intro h heq
    omega

/-- The update of ACC`k` by `q`: the exact result reduced modulo 2^80, and whether it fits (R52). -/
def accUpdate (f : Int → Int → Int) (x : Engine) (k : Nat) (q : Int) : Eff :=
  let exact := f (x.accUpd k).toInt q
  .accM k (BitVec.ofInt 80 exact) (decide (exact < -2 ^ 79 ∨ 2 ^ 79 ≤ exact))

theorem macEffs_eq (op : MacOp) (o : MOp) (x : Engine) :
    macEffs op o x = (macTerms x o).map (fun t => accUpdate op.exact x t.1 t.2) := by
  simp only [macEffs, overflows80_eq, wrap80, accUpdate]

/-- The exact product of a lane, with the shared operand as X or as Y, and the Y operand signed or unsigned (R50). -/
theorem laneExact_eq (x : Engine) (o : MOp) (i : Nat) :
    let y (v : Word) : Int := if o.md = true then v.toNat else v.toInt
    laneExact x o i = if o.sh = true then (x.rd (4 * o.qi.val + i)).toInt * y (x.rd o.vs.val)
      else (x.rd o.vs.val).toInt * y (x.rd (4 * o.qi.val + i)) := by
  unfold laneExact
  cases o.sh <;> rfl

/-- The accumulators that each dst code updates, and what each takes (Table 04.4). -/
theorem macTerms_eq (x : Engine) (o : MOp) :
    let p := laneProduct x o
    macTerms x o = if o.dst = 0 then [(0, p 0), (1, p 1), (2, p 2), (3, p 3)]
      else if o.dst = 1 then [(0, p 0), (1, p 1)]
      else if o.dst = 2 then [(2, p 2), (3, p 3)]
      else if o.dst = 3 then [(0, p 0)]
      else [(o.dst.val - 4, p 0 + p 1 + p 2 + p 3)] := by
  intro p
  unfold macTerms
  generalize o.dst = d
  fin_cases d <;> rfl

/-- A quad multiply-accumulate that may issue puts its updates in flight at distance 0, and the residue checks act (R65). -/
theorem quadMac_issues {s : State} {e : EngNo} {i : Instr} {o : MOp} (op : MacOp) (h : slotFree s e i [.m] = true) :
    quadMac op e i o s =
      residueChecks (afterIssue s e [.m] 0 (macEffs op o ((fetched s e [.m]).engine e))) e o.resBad := by
  rw [quadMac, if_pos h, slotOp_launch h]

/-- The residue checks find nothing where no lane fails and no injection of kind 1 is armed (R65, R70). -/
theorem residueChecks_clean {t : State} {e : Nat} (h : armedKind t e ≠ 1) : residueChecks t e 0 = t := by
  simp [residueChecks, h]

/-- Settles O14: each of the three updates maps over the terms that Table 04.4 names. -/
theorem quadMultiplyAccumulateUpdatesItsAccumulators : Obligations.QuadMultiplyAccumulateUpdatesItsAccumulators := by
  unfold Obligations.QuadMultiplyAccumulateUpdatesItsAccumulators
  intro e o s x quad shared y full p upd effs
  have hp : p = laneProduct x o := by
    funext i
    simp only [p, full, quad, shared, y, laneProduct, laneExact_eq]
  have heffs (op : MacOp) : macEffs op o x = effs op.exact := by
    simp only [macEffs_eq, macTerms_eq, ← hp, effs, apply_ite (List.map _), List.map_cons, List.map_nil]
    rfl
  have hissue (op : MacOp) (i : Instr) (h : slotFree s e i [.m] = true) :
      quadMac op e i o s = residueChecks (afterIssue s e [.m] 0 (effs op.exact)) e o.resBad := by
    rw [quadMac_issues op h, heffs]
  refine ⟨fun h => congrArg Host.Outcome.next (hissue .mpy _ h), fun h => congrArg Host.Outcome.next (hissue .mac _ h),
    fun h => congrArg Host.Outcome.next (hissue .msu _ h), fun t hbad harm => ?_⟩
  rw [hbad]
  exact residueChecks_clean harm

end Sys2Proof.Machine
end

section
/-!
PROOFS. The fault records and the fault injection of a cluster (R69, R70): each command is a chain of field writes of its register.
-/
namespace Sys2Proof.Machine

section
variable (s : State) (c : Nat)

/-- The fields that ENG_FAULT_CLEAR writes. -/
abbrev faultMarks : List Fld := [Reg.ENG_FAULT_valid c, Reg.ENG_FAULT_more c, Reg.ENG_FAULT_injected c]

/-- The fields of ENG_FINJ. -/
abbrev finjFlds : List Fld := [Reg.ENG_FINJ_arm c, Reg.ENG_FINJ_kind c, Reg.ENG_FINJ_engine c]

/-- `s` with valid, more and injected of ENG_FAULT at 0. -/
def faultCleared : State :=
  ((s.setFld (Reg.ENG_FAULT_valid c) 0).setFld (Reg.ENG_FAULT_more c) 0).setFld (Reg.ENG_FAULT_injected c) 0

theorem onlyFlds_faultCleared : onlyFlds (faultMarks c) s (faultCleared s c) :=
  onlyFlds_setFld (onlyFlds_setFld (onlyFlds_setFld (onlyFlds_refl _ s) (by simp) (by simp [Reg.ENG_FAULT_valid]) _) (by simp)
    (by simp [Reg.ENG_FAULT_more]) _) (by simp) (by simp [Reg.ENG_FAULT_injected]) _

theorem fld_faultCleared {f : Fld} (hf : f ∈ faultMarks c) : (faultCleared s c).fld f = 0 := by
  simp only [List.mem_cons, List.not_mem_nil, or_false] at hf
  rcases hf with rfl | rfl | rfl <;>
    simp [faultCleared, fld_setFld_self, fld_setFld_other, Reg.ENG_FAULT_valid, Reg.ENG_FAULT_more, Reg.ENG_FAULT_injected]

variable (e kind arm : Nat)

theorem onlyFlds_finjWrite : onlyFlds (finjFlds c) s (finjWrite s c e kind arm) :=
  onlyFlds_setFld (onlyFlds_setFld (onlyFlds_setFld (onlyFlds_refl _ s) (by simp) (by simp [Reg.ENG_FINJ_engine]) _) (by simp)
    (by simp [Reg.ENG_FINJ_kind]) _) (by simp) (by simp [Reg.ENG_FINJ_arm]) _

/-- A kind that Table 03.6 does not list leaves the field as it is (R8). -/
theorem kind_finjWrite :
    (finjWrite s c e kind arm).fld (Reg.ENG_FINJ_kind c) = if kind ≤ 5 then kind else s.fld (Reg.ENG_FINJ_kind c) := by
  have hw : (Reg.ENG_FINJ_kind c).lo + (Reg.ENG_FINJ_kind c).w ≤ 32 := by simp [Reg.ENG_FINJ_kind]
  rw [finjWrite, fld_setFld_other _ _ _ _ (by simp [Reg.ENG_FINJ_arm]) (by simp [Reg.ENG_FINJ_arm, Reg.ENG_FINJ_kind])]
  split
  · next h => exact fld_setFld_of_lt hw (by simp only [Reg.ENG_FINJ_kind]; omega)
  · exact fld_setFld_of_lt hw (fld_lt s _)

theorem engine_finjWrite (he : e < 16) : (finjWrite s c e kind arm).fld (Reg.ENG_FINJ_engine c) = e := by
  rw [finjWrite, fld_setFld_other _ _ _ _ (by simp [Reg.ENG_FINJ_arm]) (by simp [Reg.ENG_FINJ_arm, Reg.ENG_FINJ_engine]),
    fld_setFld_other _ _ _ _ (by simp [Reg.ENG_FINJ_kind]) (by simp [Reg.ENG_FINJ_kind, Reg.ENG_FINJ_engine])]
  exact fld_setFld_of_lt (by simp [Reg.ENG_FINJ_engine]) (by simpa [Reg.ENG_FINJ_engine] using he)

/-- A write of arm = 1 with a listed kind other than 0 arms. -/
theorem arm_finjWrite_listed (h1 : 1 ≤ kind) (h5 : kind ≤ 5) : (finjWrite s c e kind 1).fld (Reg.ENG_FINJ_arm c) = 1 := by
  rw [finjWrite, fld_setFld_self _ _ _ (by simp [Reg.ENG_FINJ_arm]), if_pos h5, if_pos ⟨rfl, by omega⟩]
  rfl

/-- A write of kind 0, or of an arm other than 1, disarms. -/
theorem arm_finjWrite_off (h : kind = 0 ∨ arm ≠ 1) : (finjWrite s c e kind arm).fld (Reg.ENG_FINJ_arm c) = 0 := by
  rw [finjWrite, fld_setFld_self _ _ _ (by simp [Reg.ENG_FINJ_arm])]
  rcases h with rfl | h
  · rw [if_pos (Nat.zero_le 5), if_neg (fun a => a.2 rfl)]; rfl
  · rw [if_neg (fun a => h a.1)]; rfl

end

/-- Settles O19: each command is a chain of field writes behind the gate of its register. -/
theorem faultInjectionArmsAndFaultRecordsClear : Obligations.FaultInjectionArmsAndFaultRecordsClear := by
  unfold Obligations.FaultInjectionArmsAndFaultRecordsClear
  intro c e kind v s hfault hfinj
  have passes {t : State} {a : Nat} (h : reaches s a = true) :
      (Host.Outcome.next (gated s a t) : Host.Outcome State Fault Refusal) = .next t := by rw [gated_reached h]
  refine ⟨⟨faultCleared s c, passes hfault, fld_faultCleared s c (by simp), fld_faultCleared s c (by simp),
    fld_faultCleared s c (by simp), onlyFlds_faultCleared s c⟩, fun h1 h5 => ?_, fun hoff => ?_⟩
  · exact ⟨finjWrite s c e kind 1, passes hfinj, arm_finjWrite_listed s c e kind h1 h5,
      (kind_finjWrite s c e kind 1).trans (if_pos h5), engine_finjWrite s c e kind 1 e.isLt, onlyFlds_finjWrite s c e kind 1⟩
  · refine ⟨finjWrite s c (bitsOf v 4 4) (bitsOf v 1 3) (if bitsOf v 1 3 = 0 then bitsOf v 0 1 else 0), passes hfinj,
      arm_finjWrite_off _ _ _ _ _ ?_, kind_finjWrite _ _ _ _ _, engine_finjWrite _ _ _ _ _ (bitsOf_lt v 4 4),
      onlyFlds_finjWrite _ _ _ _ _⟩
    by_cases hk : bitsOf v 1 3 = 0
    · exact .inl hk
    · exact .inr (by simp [hk])

end Sys2Proof.Machine
end

section
/-!
PROOFS. Saturation and rounding (R56, R57): a word that satisfies the table's words for a result is the result.
-/
namespace Sys2Proof.Machine

/-- The word that holds the clamped value is the saturated result. -/
theorem sat32_eq_of_clamped {w : Word} {q : Int} (h : w.toInt = max (-2 ^ 31) (min (2 ^ 31 - 1) q)) : sat32 q = w := by
  rw [sat32, clampTo, ← h, BitVec.ofInt_toInt]

theorem outside32_iff (q : Int) : outside32 q = true ↔ q < -2 ^ 31 ∨ 2 ^ 31 - 1 < q := by
  simp only [outside32, Bool.or_eq_true, decide_eq_true_eq, gt_iff_lt]
  exact or_comm

/-- A saturating result writes the clamped word and sets sat exactly where it was clamped (R57). -/
theorem aSat_eq_of_clamped (x : Engine) (vd : VNo) {w : Word} {q : Int} (h : w.toInt = max (-2 ^ 31) (min (2 ^ 31 - 1) q)) :
    aSat x vd q =
      .wrV .a (physReg x.rrb vd.val) w :: if q < -2 ^ 31 ∨ 2 ^ 31 - 1 < q then [.flgSet 1] else [] := by
  simp only [aSat, aV, sat32_eq_of_clamped h, outside32_iff, flgSat]

/-- A result that is a word's value is not clamped. -/
theorem aSat_toInt (x : Engine) (vd : VNo) (w : Word) : aSat x vd w.toInt = [.wrV .a (physReg x.rrb vd.val) w] := by
  have hlo := BitVec.le_toInt w
  have hhi := BitVec.toInt_lt (x := w)
  rw [aSat_eq_of_clamped x vd (w := w) (by omega), if_neg (by omega)]

/-- Convergent rounding gives the nearest integer, the even one of two (R56). -/
theorem roundHalfEven_eq_of_nearest {v q : Int} {n : Nat} (hnear : 2 * |v - q * 2 ^ n| ≤ 2 ^ n)
    (htie : 2 * |v - q * 2 ^ n| = 2 ^ n → q % 2 = 0) : roundHalfEven v n = q := by
  have hpos : (0 : Int) < 2 ^ n := by positivity
  have hlo := Int.emod_nonneg v hpos.ne'
  have hhi := Int.emod_lt_of_pos v hpos
  have hdiv := Int.emod_add_mul_ediv v (2 ^ n)
  unfold roundHalfEven
  generalize (2 : Int) ^ n = p at *
  generalize hr : v % p = r at *
  generalize hk : v / p = k at *
  subst hdiv
  have hdist : r + p * k - q * p = r - (q - k) * p := by ring
  rw [hdist] at hnear htie
  have hq : q = k ∨ q = k + 1 := by
    have hup : q - k < 2 := by
      by_contra hge
      have : 2 * p ≤ (q - k) * p := mul_le_mul_of_nonneg_right (by omega) hpos.le
      have := neg_abs_le (r - (q - k) * p)
      omega
    have hdown : -1 < q - k := by
      by_contra hle
      have : (q - k) * p ≤ -1 * p := mul_le_mul_of_nonneg_right (by omega) hpos.le
      have := le_abs_self (r - (q - k) * p)
      omega
    omega
  rcases hq with rfl | rfl
  · rw [sub_self, zero_mul, sub_zero, abs_of_nonneg hlo] at hnear htie
    dsimp only
    split_ifs <;> omega
  · rw [add_sub_cancel_left, one_mul, abs_of_neg (by omega)] at hnear htie
    dsimp only
    split_ifs <;> omega

end Sys2Proof.Machine
end

section
/-!
PROOFS. The two-register and shift operations of the A slot (R83, Table 04.6).
-/
namespace Sys2Proof.Machine

/-- Two operations that leave the same state answer the same. -/
theorem next_congr {t u : State} (h : t = u) : (Host.Outcome.next t : Host.Outcome State Fault Refusal) = .next u := congrArg _ h

theorem ofInt_min_toInt (a b : Word) : BitVec.ofInt 32 (min a.toInt b.toInt) = if a.toInt ≤ b.toInt then a else b := by
  rw [min_def]
  split <;> exact BitVec.ofInt_toInt

theorem ofInt_max_toInt (a b : Word) : BitVec.ofInt 32 (max a.toInt b.toInt) = if a.toInt ≤ b.toInt then b else a := by
  rw [max_def]
  split <;> exact BitVec.ofInt_toInt

/-- A left SHI is exact, and saturates. -/
theorem shiExact_left (a : Word) {n : Int} (h : 0 ≤ n) : shiExact a n = a.toInt * 2 ^ n.toNat := if_pos h

/-- A right SHI rounds convergently. -/
theorem shiExact_right (a : Word) {n : Int} (h : n < 0) : shiExact a n = roundHalfEven a.toInt (-n).toNat := if_neg (by omega)

theorem shtVal_left (a : Word) {n : Int} (h : 0 ≤ n) : shtVal a n = BitVec.ofInt 32 (a.toInt * 2 ^ n.toNat) := if_pos h

theorem shtVal_right (a : Word) {n : Int} (h : n < 0) : shtVal a n = BitVec.ofInt 32 (a.toInt / 2 ^ (-n).toNat) := if_neg (by omega)

section
variable {s : State} {e : EngNo} {i : Instr} (h : slotFree s e i [.a] = true)
include h

/-- A two-register operation puts its result in flight to the physical register that Vd names at issue (R49). -/
theorem aTwo_issues (f : Word → Word → Word) (vd vs : VNo) :
    aTwo f e i vd vs s =
      let x := (fetched s e [.a]).engine e
      afterIssue s e [.a] 1 [.wrV .a (physReg x.rrb vd.val) (f (x.rd vd.val) (x.rd vs.val))] :=
  aOp_issues h fun x => [aV x vd (f (x.rd vd.val) (x.rd vs.val))]

/-- A saturating result in flight is the clamped word, with sat exactly where it was clamped (R57). -/
theorem aOp_saturates {f : Engine → Int} {vd : VNo} {w : Word} {q : Int} (hq : f ((fetched s e [.a]).engine e) = q)
    (hw : w.toInt = max (-2 ^ 31) (min (2 ^ 31 - 1) q)) :
    aOp e i (fun x => aSat x vd (f x)) s =
      afterIssue s e [.a] 1 (.wrV .a (physReg ((fetched s e [.a]).engine e).rrb vd.val) w ::
        if q < -2 ^ 31 ∨ 2 ^ 31 - 1 < q then [.flgSet 1] else []) := by
  rw [aOp_issues h, hq, aSat_eq_of_clamped _ vd hw]

/-- A saturating operation whose exact result is a word's value writes that word alone. -/
theorem aOp_fits {f : Engine → Int} {vd : VNo} {w : Word} (hq : f ((fetched s e [.a]).engine e) = w.toInt) :
    aOp e i (fun x => aSat x vd (f x)) s =
      afterIssue s e [.a] 1 [.wrV .a (physReg ((fetched s e [.a]).engine e).rrb vd.val) w] := by
  rw [aOp_issues h, hq, aSat_toInt]

end

/-- Settles O9: each operation puts in flight what its function makes of Vd and Vs at issue. -/
theorem twoRegisterOperationsPutTheirTableResultInFlight : Obligations.TwoRegisterOperationsPutTheirTableResultInFlight := by
  unfold Obligations.TwoRegisterOperationsPutTheirTableResultInFlight
  intro e vd vs s on x a b plain sat
  have two (f : Word → Word → Word) (i : Instr) (w : Word) (hw : f a b = w) (h : slotFree s e i [.a] = true) :
      Host.Outcome.next (aTwo f e i vd vs s) = plain w := next_congr (hw ▸ aTwo_issues h f vd vs)
  refine ⟨two _ _ _ rfl, two _ _ _ rfl, two _ _ _ rfl, two _ _ _ (ofInt_min_toInt a b).symm, two _ _ _ (ofInt_max_toInt a b).symm,
    two _ _ _ rfl, two _ _ _ rfl, two _ _ _ rfl, fun h => next_congr (aOp_issues h _), two _ _ _ rfl, two _ _ _ rfl,
    fun w hw h => next_congr (aOp_saturates h rfl hw), fun w hw h => next_congr (aOp_saturates h rfl hw),
    fun n w hn hw h => next_congr (aOp_saturates h (shiExact_left a hn) hw), fun n w hn hnear htie h => ?_,
    fun n hn h => ?_, fun n hn h => ?_⟩
  · exact next_congr (aOp_fits h ((shiExact_right a hn).trans (roundHalfEven_eq_of_nearest hnear htie)))
  · exact next_congr (shtVal_left a hn ▸ aOp_issues h _)
  · exact next_congr (shtVal_right a hn ▸ aOp_issues h _)

end Sys2Proof.Machine
end

section
/-!
PROOFS. EXT and the unary operations of the A slot that write Vd (R54, R55, R59 to R61, R82, R84).
-/
namespace Sys2Proof.Machine

/-- EXP counts the bits that equal the sign bit, and ends at one that differs (R59, R60). -/
theorem exponent_counts {n : Nat} (v : BitVec (n + 1)) :
    expBits (n + 1) v.toInt ≤ n ∧ (∀ i, n - expBits (n + 1) v.toInt ≤ i → i ≤ n → v.getLsbD i = v.getLsbD n) ∧
      (expBits (n + 1) v.toInt < n → v.getLsbD (n - 1 - expBits (n + 1) v.toInt) ≠ v.getLsbD n) := by
  have hmsb : v.msb = v.getLsbD n := v.msb_eq_getLsbD_last
  refine ⟨expBits_le v, fun i hlo hi => ?_, fun h => ?_⟩
  · rw [← hmsb]; exact getLsbD_of_expBits v hlo (by omega)
  · rw [← hmsb]; exact getLsbD_below_expBits v h

/-- The product of a word by a power of two, reduced to a word, is the word shifted left. -/
theorem ofInt_mul_two_pow (a : Word) (n : Nat) : BitVec.ofInt 32 (a.toInt * 2 ^ n) = a <<< n := by
  have hpow : BitVec.ofInt 32 (2 ^ n) = BitVec.twoPow 32 n := by
    have hcast : (2 : Int) ^ n = ((2 ^ n : Nat) : Int) := by push_cast; rfl
    rw [hcast, BitVec.ofInt_natCast]
    exact BitVec.eq_of_toNat_eq (by simp)
  rw [BitVec.ofInt_mul, BitVec.ofInt_toInt, hpow, BitVec.shiftLeft_eq_mul_twoPow]

theorem abs_toInt (a : Word) : (if a.toInt < 0 then -a.toInt else a.toInt) = |a.toInt| := by
  split
  · next h => exact (abs_of_neg h).symm
  · next h => exact (abs_of_nonneg (by omega)).symm

/-- Block scaling shifts left where BX is not below g. -/
theorem bxsExact_left (a : Word) {bx g : Nat} (h : g ≤ bx) : bxsExact a bx g = a.toInt * 2 ^ (bx - g) := by
  unfold bxsExact
  rcases h.lt_or_eq with hlt | rfl
  · exact if_pos hlt
  · simp

/-- Block scaling rounds convergently where BX is below g. -/
theorem bxsExact_right (a : Word) {bx g : Nat} (h : bx < g) : bxsExact a bx g = roundHalfEven a.toInt (g - bx) := by
  rw [bxsExact, if_neg (by omega), if_pos h]

theorem accPartRead_lo (c : Acc) : accPartRead c .lo = c.extractLsb' 0 32 := rfl

theorem accPartRead_mid (c : Acc) : accPartRead c .mid = c.extractLsb' 32 32 := BitVec.setWidth_ushiftRight_eq_extractLsb

theorem accPartRead_hi (c : Acc) : accPartRead c .hi = (c.extractLsb' 64 16).signExtend 32 :=
  congrArg (BitVec.signExtend 32) BitVec.setWidth_ushiftRight_eq_extractLsb

/-- EXT writes the extraction, saturated; with the track option BX also takes the EXP of the written word (R61, R82). -/
theorem execExt_issues {s : State} {e : EngNo} {k : Fin 4} {vd : VNo} {sh : Fin 64} {rnd trk : Bool}
    (h : slotFree s e (.ext e k vd sh rnd trk) [.a] = true) {w : Word} {q : Int}
    (hq : extractExact (((fetched s e [.a]).engine e).accRead k.val) sh.val rnd = q)
    (hw : w.toInt = max (-2 ^ 31) (min (2 ^ 31 - 1) q)) :
    execExt e k vd sh rnd trk s = .next (afterIssue s e [.a] 1
      ((.wrV .a (physReg ((fetched s e [.a]).engine e).rrb vd.val) w ::
        if q < -2 ^ 31 ∨ 2 ^ 31 - 1 < q then [.flgSet 1] else []) ++ if trk then [.bxMin (exp32 w)] else [])) := by
  rw [execExt, aOp_issues h]
  dsimp only
  rw [hq, aSat_eq_of_clamped _ vd hw, sat32_eq_of_clamped hw]

/-- Settles O10: each operation puts in flight what its function makes of the register or accumulator it reads. -/
theorem unaryOperationsPutTheirTableResultInFlight : Obligations.UnaryOperationsPutTheirTableResultInFlight := by
  unfold Obligations.UnaryOperationsPutTheirTableResultInFlight
  intro e vd k s on x a c plain sat clamped nearest
  have writes (f : Engine → Word) (i : Instr) (w : Word) (hw : f x = w) (h : slotFree s e i [.a] = true) :
      Host.Outcome.next (aOp e i (fun x => [aV x vd (f x)]) s) = plain w := next_congr (hw ▸ aOp_issues h _)
  have saturates (f : Engine → Int) (i : Instr) (w : Word) (q : Int) (hq : f x = q) (hw : clamped w q)
      (h : slotFree s e i [.a] = true) : Host.Outcome.next (aOp e i (fun x => aSat x vd (f x)) s) = sat w q [] :=
    next_congr ((aOp_saturates h hq hw).trans (by rw [List.append_nil]))
  have ha := exponent_counts a
  have hc := exponent_counts c
  refine ⟨writes (fun x => ~~~x.rd vd.val) _ _ rfl, fun w => saturates (fun x => -(x.rd vd.val).toInt) _ w _ rfl,
    fun w => saturates (fun x => if (x.rd vd.val).toInt < 0 then -(x.rd vd.val).toInt else (x.rd vd.val).toInt) _ w _ (abs_toInt a),
    ⟨exp32 a, ha.1, ha.2.1, ha.2.2, writes (fun x => BitVec.ofNat 32 (exp32 (x.rd vd.val))) _ _ rfl,
      writes (fun x => BitVec.ofInt 32 ((x.rd vd.val).toInt * 2 ^ exp32 (x.rd vd.val))) _ _ (ofInt_mul_two_pow a _)⟩,
    writes (fun x => x.bx.setWidth 32) _ _ rfl,
    fun g w hg => saturates (fun x => bxsExact (x.rd vd.val) x.bx.toNat g.val) _ w _ (bxsExact_left a hg),
    fun g w hg hnear h => next_congr (aOp_fits h ((bxsExact_right a hg).trans (roundHalfEven_eq_of_nearest hnear.1 hnear.2))),
    ⟨expA c, hc.1, hc.2.1, hc.2.2, writes (fun x => BitVec.ofNat 32 (expA (x.accRead k.val))) _ _ rfl⟩,
    writes (fun x => accPartRead (x.accRead k.val) .lo) _ _ (accPartRead_lo c),
    writes (fun x => accPartRead (x.accRead k.val) .mid) _ _ (accPartRead_mid c),
    writes (fun x => accPartRead (x.accRead k.val) .hi) _ _ (accPartRead_hi c),
    writes (fun x => x.flg.setWidth 32) _ _ rfl, writes (fun x => x.rrb.setWidth 32) _ _ rfl,
    fun sh trk w hw h => execExt_issues h rfl hw,
    fun sh trk w q hnear hw h => execExt_issues h (roundHalfEven_eq_of_nearest hnear.1 hnear.2) hw⟩

end Sys2Proof.Machine
end

section
/-!
PROOFS. Flags, block exponent, accumulator writes and long forms of the A slot (R55, R61, R75, R84 to R86).
-/
namespace Sys2Proof.Machine

/-- The low part of an accumulator replaced (R55). -/
theorem accPartWrite_lo (a : Acc) (v : Word) : accPartWrite a 0 v = a.extractLsb' 32 48 ++ v := by
  refine BitVec.eq_of_getLsbD_eq fun i hi => ?_
  rw [BitVec.getLsbD_append]
  by_cases h : i < 32
  · simp [accPartWrite, h, hi]
  · have hv : v.getLsbD i = false := v.getLsbD_of_ge i (by omega)
    simp [accPartWrite, h, hi, hv, show i - 32 < 48 by omega]

/-- The middle part replaced. -/
theorem accPartWrite_mid (a : Acc) (v : Word) :
    accPartWrite a 1 v = a.extractLsb' 64 16 ++ v ++ a.extractLsb' 0 32 := by
  refine BitVec.eq_of_getLsbD_eq fun i hi => ?_
  rw [BitVec.getLsbD_append, BitVec.getLsbD_append]
  by_cases h : i < 32
  · simp [accPartWrite, h, hi, show i < 64 by omega]
  · by_cases h' : i < 64
    · simp [accPartWrite, h, h', hi, show i - 32 < 32 by omega]
    · have hv : v.getLsbD (i - 32) = false := v.getLsbD_of_ge _ (by omega)
      simp [accPartWrite, h, h', hi, hv, show ¬ i - 32 < 32 by omega, show i - 32 - 32 = i - 64 by omega,
        show i - 64 < 16 by omega]

/-- The high part replaced, by the low half of the word. -/
theorem accPartWrite_hi (a : Acc) (v : Word) : accPartWrite a 2 v = v.extractLsb' 0 16 ++ a.extractLsb' 0 64 := by
  refine BitVec.eq_of_getLsbD_eq fun i hi => ?_
  rw [BitVec.getLsbD_append]
  by_cases h : i < 64
  · simp [accPartWrite, h, hi]
  · simp [accPartWrite, h, hi]

/-- An A-slot write of a part is seen by A-slot reads from its completion on. -/
theorem accRead_applyA_accPart (y : Engine) (k part : Nat) (w : Word) :
    (applyA y (.accPart k part w)).accRead k = accPartWrite (y.accUpd k) part w := by
  simp [applyA, Engine.setAcc, Engine.accRead]

/-- SETVH's immediate stands in the high bits. -/
theorem setvh_value (imm : BitVec 18) : imm.setWidth 32 <<< 14 = BitVec.ofNat 32 (imm.toNat * 2 ^ 14) := by
  apply BitVec.eq_of_toNat_eq
  simp [Nat.shiftLeft_eq]

/-- INSL keeps bits 31:14. -/
theorem insl_value (v : Word) (imm : BitVec 14) : (v >>> 14 <<< 14) ||| imm.setWidth 32 = v.extractLsb' 14 18 ++ imm := by
  refine BitVec.eq_of_getLsbD_eq fun i hi => ?_
  rw [BitVec.getLsbD_append]
  by_cases h : i < 14
  · simp [h, hi]
  · have himm : imm.getLsbD i = false := imm.getLsbD_of_ge i (by omega)
    simp [h, hi, himm, show i - 14 < 18 by omega]

/-- A long form takes its three slots and delivers at distance `d` (R75). -/
theorem longOp_issues {s : State} {e : EngNo} {i : Instr} (h : slotFree s e i [.a, .l0, .l1] = true) (d : Nat)
    (f : Engine → List Eff) :
    longOp e i d f s = afterIssue s e [.a, .l0, .l1] d (f ((fetched s e [.a, .l0, .l1]).engine e)) :=
  slotOp_launch h d f

/-- Settles O11: each operation puts in flight the effects that its table gives it. -/
theorem flagExponentAccumulatorAndLongFormOperations : Obligations.FlagExponentAccumulatorAndLongFormOperations := by
  unfold Obligations.FlagExponentAccumulatorAndLongFormOperations
  constructor
  · intro e v k mask val s on x out
    have short (f : Engine → List Eff) (i : Instr) (h : slotFree s e i [.a] = true) :
        Host.Outcome.next (aOp e i f s) = out (f x) := next_congr (aOp_issues h f)
    exact ⟨short _ _, short _ _, short _ _, short _ _, short _ _, short _ _, short _ _, short _ _, short _ _, short _ _,
      fun y w => (accRead_applyA_accPart y _ 0 w).trans (accPartWrite_lo _ w),
      fun y w => (accRead_applyA_accPart y _ 1 w).trans (accPartWrite_mid _ w),
      fun y w => (accRead_applyA_accPart y _ 2 w).trans (accPartWrite_hi _ w)⟩
  · intro e n v k imm i18 i14 s on x out wrV
    have long (d : Nat) (f : Engine → List Eff) (i : Instr) (r : Eff) (hf : f x = [r]) (h : slotFree s e i [.a, .l0, .l1] = true) :
        Host.Outcome.next (longOp e i d f s) = out d r := next_congr (hf ▸ longOp_issues h d f)
    refine ⟨long _ _ _ _ ?_, long _ _ _ _ rfl, long _ _ _ _ ?_, long _ _ _ _ ?_, long _ _ _ _ ?_, long _ _ _ _ rfl,
      long _ _ _ _ ?_, fun sh hsh h => ?_, long _ _ _ _ rfl, long _ _ _ _ rfl, long _ _ _ _ ?_, long _ _ _ _ ?_⟩
    · rw [BitVec.ofNat_toNat]
    · rw [BitVec.ofInt_add, BitVec.ofInt_natCast, BitVec.ofNat_toNat, BitVec.setWidth_eq]; rfl
    · rw [BitVec.ofInt_add, BitVec.ofInt_toInt]; rfl
    · rw [← setvh_value]; rfl
    · rw [← insl_value]; rfl
    · exact (if_pos (decide_eq_true hsh)).trans (long 1 _ _ _ rfl h)
    · rw [BitVec.ofNat_toNat]; rfl
    · rfl

end Sys2Proof.Machine
end

section
/-!
PROOFS. A corrected error of a fetch (R66, R70): the count of program memory and the engine's ce flag, and nothing else.
-/
namespace Sys2Proof.Machine

/-! ### Saturating counters -/

/-- A saturating counter counts up to its largest value. -/
theorem fld_satInc_self (s : State) (f : Fld) (h : f.lo + f.w ≤ 32) : (s.satInc f).fld f = min (2 ^ f.w - 1) (s.fld f + 1) := by
  have hlt := fld_lt s f
  unfold State.satInc
  split
  · next hroom => rw [fld_setFld_of_lt h hroom]; omega
  · next hfull => omega

theorem onlyFlds_satInc {fs : List Fld} {s t : State} (h : onlyFlds fs s t) {f : Fld} (hf : f ∈ fs) (hw : f.lo + f.w ≤ 32) :
    onlyFlds fs s (t.satInc f) := by
  unfold State.satInc
  split
  · exact onlyFlds_setFld h hf hw _
  · exact h

/-- Where control registers alone change, the engines keep their state. -/
theorem engine_of_onlyFlds {fs : List Fld} {s t : State} (h : onlyFlds fs s t) (i : Nat) : t.engine i = s.engine i := by
  rw [h.1]; rfl

/-! ### A corrected word of program memory -/

section
variable (s : State) (e : Nat)

/-- The fields that a corrected error of program memory changes. -/
abbrev progErrorFlds : List Fld := [Reg.ENG_ECC_CNT_ce_prog (e / 16), Reg.ENG_FLAGS_ce (e / 16) (e % 16)]

theorem onlyFlds_correctedError_prog : onlyFlds (progErrorFlds e) s (correctedError s e false) :=
  onlyFlds_setFld (onlyFlds_satInc (onlyFlds_refl _ s) (by simp) (by simp [Reg.ENG_ECC_CNT_ce_prog])) (by simp)
    (by simp [Reg.ENG_FLAGS_ce]) _

theorem count_correctedError_prog :
    (correctedError s e false).fld (Reg.ENG_ECC_CNT_ce_prog (e / 16)) =
      min 65535 (s.fld (Reg.ENG_ECC_CNT_ce_prog (e / 16)) + 1) := by
  refine (fld_setFld_other _ _ _ _ (by simp [Reg.ENG_FLAGS_ce]) (.inl ?_)).trans
    (fld_satInc_self s _ (by simp [Reg.ENG_ECC_CNT_ce_prog]))
  simp only [Reg.ENG_ECC_CNT_ce_prog, Reg.ENG_ECC_CNT, Reg.ENG_FLAGS_ce, Reg.ENG_FLAGS]
  omega

theorem flag_correctedError (data : Bool) : (correctedError s e data).fld (Reg.ENG_FLAGS_ce (e / 16) (e % 16)) = 1 :=
  fld_setFld_self _ _ _ (by simp [Reg.ENG_FLAGS_ce])

/-- Counting an error leaves the fault injection as it is. -/
theorem armedKind_correctedError_prog : armedKind (correctedError s e false) e = armedKind s e := by
  have hkept {f : Fld} (hf : f.addr = Reg.ENG_FINJ (e / 16)) : (correctedError s e false).fld f = s.fld f := by
    refine (onlyFlds_correctedError_prog s e).2 f fun g hg => .inl ?_
    simp only [List.mem_cons, List.not_mem_nil, or_false] at hg
    rcases hg with rfl | rfl
    · simp only [hf, Reg.ENG_FINJ, Reg.ENG_ECC_CNT_ce_prog, Reg.ENG_ECC_CNT]; omega
    · simp only [hf, Reg.ENG_FINJ, Reg.ENG_FLAGS_ce, Reg.ENG_FLAGS]; omega
  unfold armedKind
  dsimp only
  rw [hkept (f := Reg.ENG_FINJ_arm _) rfl, hkept (f := Reg.ENG_FINJ_engine _) rfl, hkept (f := Reg.ENG_FINJ_kind _) rfl]

/-- An injection that has fired is armed no more. -/
theorem armedKind_disarm : armedKind (disarm s e) e = 0 := by
  have harm : (disarm s e).fld (Reg.ENG_FINJ_arm (e / 16)) = 0 := fld_setFld_self _ _ _ (by simp [Reg.ENG_FINJ_arm])
  rw [armedKind, if_neg (by simp [harm])]

end

/-! ### The fetch -/

section
variable {s : State} {e : Nat}

/-- Without an injection of kind 4 or 5 a fetch finds what its word holds. -/
theorem fetchWord_unarmed {f : Fetch} (h4 : armedKind (fetchFinding s e f) e ≠ 4) (h5 : armedKind (fetchFinding s e f) e ≠ 5) :
    fetchWord s e f = fetchFinding s e f := by
  rw [fetchWord, if_neg h4, if_neg h5]

/-- An injection of kind 4 fires on a clean fetch as a corrected error (R70). -/
theorem fetchWord_injected (h4 : armedKind s e = 4) : fetchWord s e .clean = correctedError (disarm s e) e false := by
  rw [fetchWord, fetchFinding, if_pos h4]

theorem openCycle_issuing (h : canIssue s e = true) (f : Fetch) : openCycle s e f = fetchWord s e f := if_pos h

theorem openCycle_idle (h : canIssue s e = false) (f : Fetch) : openCycle s e f = s := if_neg (by simp [h])

/-- A clean fetch finds nothing where no injection of a fetch error is armed (R70). -/
theorem openCycle_clean (h4 : armedKind s e ≠ 4) (h5 : armedKind s e ≠ 5) : openCycle s e .clean = s := by
  cases h : canIssue s e
  case true => exact (openCycle_issuing h _).trans (fetchWord_unarmed (f := .clean) h4 h5)
  case false => exact openCycle_idle h _

/-- A clean fetch without an uncorrectable injection changes no engine and arms none. -/
theorem openCycle_clean_frame (h5 : armedKind s e ≠ 5) :
    (∀ i, (openCycle s e .clean).engine i = s.engine i) ∧ armedKind (openCycle s e .clean) e ≠ 5 := by
  by_cases h4 : canIssue s e = true ∧ armedKind s e = 4
  · obtain ⟨hissue, h4⟩ := h4
    rw [openCycle_issuing hissue, fetchWord_injected h4]
    refine ⟨fun i => ?_, ?_⟩
    · rw [engine_of_onlyFlds (onlyFlds_correctedError_prog _ e), disarm, engine_setFld]
    · rw [armedKind_correctedError_prog, armedKind_disarm]; decide
  · have hsame : openCycle s e .clean = s := by
      cases hissue : canIssue s e
      case true => exact openCycle_clean (fun h => h4 ⟨hissue, h⟩) h5
      case false => exact openCycle_idle hissue _
    rw [hsame]
    exact ⟨fun _ => rfl, h5⟩

end

end Sys2Proof.Machine
end

section
/-!
PROOFS. The end of an engine's cycle (R77, R79): completion touches the datapath alone, the sequence the place in the program alone.
-/
namespace Sys2Proof.Machine

/-! ### Completion -/

/-- From `x` to `y` the registers of the datapath and the operations in flight alone change. -/
def datapathOnly (x y : Engine) : Prop :=
  y = { x with v := y.v, accM := y.accM, accA := y.accA, k := y.k, m := y.m, rrb := y.rrb, bx := y.bx, flg := y.flg, fly := y.fly }

theorem datapathOnly_refl (x : Engine) : datapathOnly x x := rfl

theorem datapathOnly_trans {x y z : Engine} (hxy : datapathOnly x y) (hyz : datapathOnly y z) : datapathOnly x z := by
  obtain ⟨v, am, aa, k, m, r, b, f, l, rfl⟩ : ∃ v am aa k m r b f l, y =
      { x with v := v, accM := am, accA := aa, k := k, m := m, rrb := r, bx := b, flg := f, fly := l } :=
    ⟨_, _, _, _, _, _, _, _, _, hxy⟩
  exact hyz

theorem datapathOnly_foldl {f : Engine → Eff → Engine} (hf : ∀ x g, datapathOnly x (f x g)) (es : List Eff) (x : Engine) :
    datapathOnly x (es.foldl f x) := by
  induction es generalizing x with
  | nil => exact datapathOnly_refl x
  | cons g es ih => exact datapathOnly_trans (hf x g) (ih (f x g))

theorem datapathOnly_applyM (es : List Eff) (x : Engine) (g : Eff) : datapathOnly x (applyM es x g) := by
  unfold applyM
  split
  · split <;> exact rfl
  · exact rfl
  · exact rfl

theorem datapathOnly_applyA (x : Engine) (g : Eff) : datapathOnly x (applyA x g) := by
  unfold applyA
  split <;> exact rfl

theorem datapathOnly_applyV (slot : Slot) (x : Engine) (g : Eff) : datapathOnly x (applyV slot x g) := by
  unfold applyV
  split
  · split <;> exact rfl
  · exact rfl

theorem datapathOnly_applyK (long : Bool) (x : Engine) (g : Eff) : datapathOnly x (applyK long x g) := by
  unfold applyK
  split
  · split <;> exact rfl
  · split <;> exact rfl
  · exact rfl

theorem datapathOnly_applyBx (clr : Bool) (x : Engine) (g : Eff) : datapathOnly x (applyBx clr x g) := by
  unfold applyBx
  split
  · split <;> exact rfl
  · split <;> exact rfl
  · exact rfl

theorem datapathOnly_applyFlg (clr : Bool) (x : Engine) (g : Eff) : datapathOnly x (applyFlg clr x g) := by
  unfold applyFlg
  split
  · split <;> exact rfl
  · split <;> exact rfl
  · exact rfl

theorem datapathOnly_applyRrb (es : List Eff) (x : Engine) : datapathOnly x (applyRrb es x) := by
  unfold applyRrb
  split <;> exact rfl

theorem datapathOnly_applyAll (es : List Eff) (x : Engine) : datapathOnly x (applyAll es x) := by
  have step {y : Engine} (f : Engine → Eff → Engine) (hf : ∀ x g, datapathOnly x (f x g)) (h : datapathOnly x y) :
      datapathOnly x (es.foldl f y) := datapathOnly_trans h (datapathOnly_foldl hf es y)
  refine datapathOnly_trans ?_ (datapathOnly_applyRrb es _)
  refine step _ (datapathOnly_applyFlg false) (step _ (datapathOnly_applyFlg true) ?_)
  refine step _ (datapathOnly_applyBx false) (step _ (datapathOnly_applyBx true) ?_)
  refine step _ (datapathOnly_applyK true) (step _ (datapathOnly_applyK false) ?_)
  refine step _ (datapathOnly_applyV .x) (step _ (datapathOnly_applyV .l1) ?_)
  refine step _ (datapathOnly_applyV .l0) (step _ (datapathOnly_applyV .a) ?_)
  exact step _ datapathOnly_applyA (step _ (datapathOnly_applyM es) (datapathOnly_refl x))

/-- What completes leaves the place in the program alone. -/
theorem datapathOnly_complete (x : Engine) : datapathOnly x x.complete :=
  datapathOnly_trans (y := { x with fly := x.rest }) rfl (datapathOnly_applyAll x.due _)

/-! ### The sequence -/

section
variable {x : Engine}

theorem loopEnd_again {l : LoopLevel} {ls : List LoopLevel} (hl : x.loops = l :: ls) (hpc : x.pc = l.last) (hleft : 2 ≤ l.left) :
    x.loopEnd = { x with pc := l.first, loops := { l with left := l.left - 1 } :: ls } := by
  simp [Engine.loopEnd, hl, hpc, show ¬ l.left ≤ 1 by omega]

theorem loopEnd_over {l : LoopLevel} {ls : List LoopLevel} (hl : x.loops = l :: ls) (hpc : x.pc = l.last) (hleft : l.left ≤ 1) :
    x.loopEnd = { x with pc := x.pc + 1, loops := ls } := by
  simp [Engine.loopEnd, hl, hpc, hleft]

theorem loopEnd_within (h : ∀ l ls, x.loops = l :: ls → x.pc ≠ l.last) : x.loopEnd = { x with pc := x.pc + 1 } := by
  unfold Engine.loopEnd
  split
  · rfl
  · next l ls hl => rw [if_neg (h l ls hl)]

theorem loopEnd_frame (x : Engine) : x.loopEnd = { x with pc := x.loopEnd.pc, loops := x.loopEnd.loops } := by
  unfold Engine.loopEnd
  split
  · rfl
  · split
    · split <;> rfl
    · rfl

theorem advance_repeats (h : 2 ≤ x.rep) : x.advance = { x with rep := x.rep - 1 } := by
  rw [Engine.advance, if_pos (by omega), if_neg (by omega)]

theorem advance_last_repeat (h : x.rep = 1) : x.advance = { x.loopEnd with rep := 0 } := by
  rw [Engine.advance, if_pos (by omega), if_pos h]

theorem advance_ends (h : x.rep = 0) (he : x.seqEnd = true) : x.advance = { x with done := true, seqEnd := false } := by
  rw [Engine.advance, if_neg (by omega), if_pos he]

theorem advance_rep (h : x.rep = 0) (he : x.seqEnd = false) (hr : x.seqRep ≠ 0) :
    x.advance = { x with rep := x.seqRep, seqRep := 0, pc := x.pc + 1 } := by
  rw [Engine.advance, if_neg (by omega), if_neg (by simp [he]), if_pos hr]

theorem advance_loop (h : x.rep = 0) (he : x.seqEnd = false) (hr : x.seqRep = 0) {l : LoopLevel} (hl : x.seqLoop = some l) :
    x.advance = { x with loops := l :: x.loops, seqLoop := none, pc := x.pc + 1 } := by
  rw [Engine.advance, if_neg (by omega), if_neg (by simp [he]), if_neg (by omega)]
  simp only [hl]

theorem advance_next (h : x.rep = 0) (he : x.seqEnd = false) (hr : x.seqRep = 0) (hl : x.seqLoop = none) :
    x.advance = x.loopEnd := by
  rw [Engine.advance, if_neg (by omega), if_neg (by simp [he]), if_neg (by omega)]
  simp only [hl]

end

/-- The sequence goes on without touching the datapath. -/
theorem advance_frame (x : Engine) : x.advance = { x with
    pc := x.advance.pc, loops := x.advance.loops, rep := x.advance.rep, seqLoop := x.advance.seqLoop,
    seqRep := x.advance.seqRep, seqEnd := x.advance.seqEnd, done := x.advance.done } := by
  unfold Engine.advance
  split
  · split
    · rw [loopEnd_frame]
    · rfl
  · split
    · rfl
    · split
      · rfl
      · split
        · rfl
        · rw [loopEnd_frame]

/-! ### The cycle -/

/-- The place in the program is what it was when what is due has completed, a loop's rotation among it (R95). -/
theorem complete_launch_frame (x : Engine) (rot : List Eff) : datapathOnly x (x.launch 0 rot).complete :=
  datapathOnly_trans (y := x.launch 0 rot) rfl (datapathOnly_complete _)

/-- The end of a cycle of an engine that issues. -/
theorem endCycle_issuing {s : State} {e : Nat} (h : canIssue s e = true) :
    endCycle s e = s.setEngine e
      { ((s.engine e).launch 0 (s.engine e).loopRot).complete.advance with
        cyc := (s.engine e).cyc + 1, used := [], dead := false } := by
  rw [endCycle]
  exact congrArg (s.setEngine e) (if_pos h)

/-- The end of a cycle of an engine that issues nothing. -/
theorem endCycle_idle {s : State} {e : Nat} (h : canIssue s e = false) :
    endCycle s e = s.setEngine e
      { (s.engine e).complete with cyc := (s.engine e).cyc + 1, used := [], dead := false } := by
  rw [endCycle]
  exact congrArg (s.setEngine e) (if_neg (by simp [h]))

theorem onlyEngine_setEngine (s : State) (e : Nat) (x : Engine) : onlyEngine e s (s.setEngine e x) :=
  ⟨rfl, fun i hi => by rw [engine_setEngine, if_neg hi]⟩

theorem armedKind_endCycle (s : State) (e i : Nat) : armedKind (endCycle s e) i = armedKind s i := rfl

/-- Settles O18: the clauses are those of `Engine.advance`, on an engine whose completion has moved nothing of its sequence. -/
theorem engineCycleCompletesWhatIsDueAndGoesOn : Obligations.EngineCycleCompletesWhatIsDueAndGoesOn := by
  unfold Obligations.EngineCycleCompletesWhatIsDueAndGoesOn
  intro e s hissue hsend hland h4 h5 x
  set y := (x.launch 0 x.loopRot).complete with hy
  refine ⟨endCycle s e, ?_, ?_⟩
  · exact congrArg Host.Outcome.next
      (by rw [hsend, hland, openCycle_clean (armedKind_endCycle s e e ▸ h4) (armedKind_endCycle s e e ▸ h5)])
  have hframe : datapathOnly x y := complete_launch_frame x x.loopRot
  have hpc : y.pc = x.pc := by rw [hframe]
  have hloops : y.loops = x.loops := by rw [hframe]
  have hrep : y.rep = x.rep := by rw [hframe]
  have hseqLoop : y.seqLoop = x.seqLoop := by rw [hframe]
  have hseqRep : y.seqRep = x.seqRep := by rw [hframe]
  have hseqEnd : y.seqEnd = x.seqEnd := by rw [hframe]
  have ht : (endCycle s e).engine e = { y.advance with cyc := x.cyc + 1, used := [], dead := false } := by
    rw [endCycle_issuing hissue, engine_setEngine, if_pos rfl]
  rw [ht, endCycle_issuing hissue]
  rw [← hrep, ← hseqEnd, ← hseqRep, ← hseqLoop, ← hloops, ← hpc]
  refine ⟨onlyEngine_setEngine _ _ _, rfl, rfl, fun h => ?_, fun h => ⟨?_, fun hl => ?_⟩, fun h he => ?_, fun h he hr => ?_,
    fun l h he hr hl => ?_, fun l ls h he hr hn hl hp => ⟨fun hleft => ?_, fun hleft => ?_⟩, fun h he hr hn hp => ?_⟩
  · rw [advance_repeats h]; exact ⟨rfl, rfl⟩
  · rw [advance_last_repeat h]
  · rw [advance_last_repeat h, loopEnd_within (by simp [hl])]
  · rw [advance_ends h he]; exact ⟨rfl, rfl⟩
  · rw [advance_rep h he hr]; exact ⟨rfl, rfl⟩
  · rw [advance_loop h he hr hl]; exact ⟨rfl, rfl⟩
  · rw [advance_next h he hr hn, loopEnd_again hl hp hleft]; exact ⟨rfl, rfl⟩
  · rw [advance_next h he hr hn, loopEnd_over hl hp hleft]; exact ⟨rfl, rfl⟩
  · rw [advance_next h he hr hn, loopEnd_within hp]; exact ⟨rfl, rfl⟩

end Sys2Proof.Machine
end

section
/-!
PROOFS. A V result in flight (R77, R79): it comes one cycle nearer with each end of a cycle, and is written at its distance.
-/
namespace Sys2Proof.Machine

/-- What of an engine a V result in flight moves. -/
def flight (x : Engine) : Store Word × List Pend := (x.v, x.fly)

theorem flight_eq {x y : Engine} (h : flight x = flight y) : x.v = y.v ∧ x.fly = y.fly := Prod.mk.inj h

/-! ### Completion -/

section
variable {x : Engine} {slot : Slot} {p d : Nat} {w : Word} {rot : List Eff} (hrot : rot = [] ∨ rot = [.rotate])
include hrot

/-- A rotation beside it changes neither the registers nor what is in flight. -/
theorem flight_complete_empty (h : x.fly = []) : flight (x.launch 0 rot).complete = (x.v, []) := by
  rw [Engine.complete, Engine.due, Engine.rest, Engine.launch, h]
  rcases hrot with rfl | rfl <;> rfl

theorem flight_complete_waiting (h : x.fly = [⟨d + 1, .wrV slot p w⟩]) :
    flight (x.launch 0 rot).complete = (x.v, [⟨d, .wrV slot p w⟩]) := by
  rw [Engine.complete, Engine.due, Engine.rest, Engine.launch, h]
  rcases hrot with rfl | rfl <;> rfl

/-- No slot but M writes otherwise than by `applyV`. -/
theorem flight_complete_arriving (hslot : slot ≠ .m) (h : x.fly = [⟨0, .wrV slot p w⟩]) :
    flight (x.launch 0 rot).complete = (storeSet 0 x.v p w, []) := by
  rw [Engine.complete, Engine.due, Engine.rest, Engine.launch, h]
  cases slot
  case m => exact absurd rfl hslot
  all_goals rcases hrot with rfl | rfl <;> rfl

end

/-! ### The cycle -/

theorem flight_advance (x : Engine) : flight x.advance = flight x := by
  rw [advance_frame]; rfl

theorem loopRot_cases (x : Engine) : x.loopRot = [] ∨ x.loopRot = [.rotate] := by
  unfold Engine.loopRot
  split
  · split
    · exact .inr rfl
    · exact .inl rfl
  · exact .inl rfl

/-- The end of a cycle completes what is due, beside a loop's rotation where there is one. -/
theorem flight_endCycle (s : State) (e : Nat) : ∃ rot, (rot = [] ∨ rot = [Eff.rotate]) ∧
    flight ((endCycle s e).engine e) = flight ((s.engine e).launch 0 rot).complete := by
  cases hissue : canIssue s e
  case true =>
    refine ⟨(s.engine e).loopRot, loopRot_cases _, ?_⟩
    rw [endCycle_issuing hissue, engine_setEngine, if_pos rfl]
    exact flight_advance _
  case false =>
    refine ⟨[], .inl rfl, ?_⟩
    rw [endCycle_idle hissue, engine_setEngine, if_pos rfl, Engine.launch, List.map_nil, List.append_nil]
    rfl

/-- Words that land in the in window change neither. -/
theorem flight_landHops (s : State) (e : Nat) : flight ((landHops s e).engine e) = flight (s.engine e) := by
  have hfold (l : List Hop) (x : Engine) :
      flight (l.foldl (fun x h => { x with inFront := storeSet 0 x.inFront h.word h.val }) x) = flight x := by
    induction l generalizing x with
    | nil => rfl
    | cons h l ih => exact ih _
  have hput (x : Engine) : (s.setEngine e x).engine e = x := (engine_setEngine s e e x).trans (if_pos rfl)
  exact (congrArg flight (hput _)).trans (hfold _ _)

theorem armedKind_sendHops (s : State) (e i : Nat) : armedKind (sendHops s e) i = armedKind s i := rfl

theorem armedKind_landHops (s : State) (e i : Nat) : armedKind (landHops s e) i = armedKind s i := rfl

/-- The state after a cycle of engine `e`, with a clean fetch. -/
def cycled (s : State) (e : Nat) : State := openCycle (endCycle (landHops (sendHops s e) e) e) e .clean

theorem afterCycles_succ (e : EngNo) (n : Nat) (s : State) : afterCycles e (n + 1) s = afterCycles e n (cycled s e) := rfl

section
variable {s : State} {e : Nat} (h5 : armedKind s e ≠ 5)
include h5

/-- A clean fetch finds no uncorrectable word at the end of the cycle. -/
theorem openCycle_cycled_frame :
    (∀ i, (cycled s e).engine i = (endCycle (landHops (sendHops s e) e) e).engine i) ∧ armedKind (cycled s e) e ≠ 5 :=
  openCycle_clean_frame (by rwa [armedKind_endCycle, armedKind_landHops, armedKind_sendHops])

/-- A cycle completes what is due, beside a loop's rotation where there is one. -/
theorem flight_cycled : ∃ x rot, (rot = [] ∨ rot = [Eff.rotate]) ∧ flight x = flight (s.engine e) ∧
    flight ((cycled s e).engine e) = flight (x.launch 0 rot).complete := by
  obtain ⟨rot, hrot, hend⟩ := flight_endCycle (landHops (sendHops s e) e) e
  have hopen := (openCycle_cycled_frame h5).1 e
  exact ⟨(landHops (sendHops s e) e).engine e, rot, hrot, flight_landHops (sendHops s e) e, (congrArg flight hopen).trans hend⟩

/-- No uncorrectable injection comes to be armed. -/
theorem armedKind_cycled : armedKind (cycled s e) e ≠ 5 := (openCycle_cycled_frame h5).2

theorem flight_cycled_empty (h : (s.engine e).fly = []) : flight ((cycled s e).engine e) = ((s.engine e).v, []) := by
  obtain ⟨x, rot, hrot, hx, hc⟩ := flight_cycled h5
  obtain ⟨hv, hfly⟩ := flight_eq hx
  rw [hc, flight_complete_empty hrot (hfly.trans h), hv]

theorem flight_cycled_waiting {slot : Slot} {p d : Nat} {w : Word} (h : (s.engine e).fly = [⟨d + 1, .wrV slot p w⟩]) :
    flight ((cycled s e).engine e) = ((s.engine e).v, [⟨d, .wrV slot p w⟩]) := by
  obtain ⟨x, rot, hrot, hx, hc⟩ := flight_cycled h5
  obtain ⟨hv, hfly⟩ := flight_eq hx
  rw [hc, flight_complete_waiting hrot (hfly.trans h), hv]

theorem flight_cycled_arriving {slot : Slot} {p : Nat} {w : Word} (hslot : slot ≠ .m)
    (h : (s.engine e).fly = [⟨0, .wrV slot p w⟩]) : flight ((cycled s e).engine e) = (storeSet 0 (s.engine e).v p w, []) := by
  obtain ⟨x, rot, hrot, hx, hc⟩ := flight_cycled h5
  obtain ⟨hv, hfly⟩ := flight_eq hx
  rw [hc, flight_complete_arriving hrot hslot (hfly.trans h), hv]

end

/-! ### Cycles -/

/-- With nothing in flight the registers stay as they are. -/
theorem afterCycles_empty (e : EngNo) (n : Nat) {s : State} (h : (s.engine e).fly = []) (h5 : armedKind s e ≠ 5) :
    ∃ t, afterCycles e n s = some t ∧ (t.engine e).v = (s.engine e).v := by
  induction n generalizing s with
  | zero => exact ⟨s, rfl, rfl⟩
  | succ n ih =>
    obtain ⟨hv, hfly⟩ := Prod.ext_iff.mp (flight_cycled_empty h5 h)
    obtain ⟨t, ht, htv⟩ := ih hfly (armedKind_cycled h5)
    exact ⟨t, ht, htv.trans hv⟩

/-- A result in flight at distance `d` is written by the `d + 1`st cycle. -/
theorem afterCycles_wrV (e : EngNo) {slot : Slot} (p : Nat) (w : Word) (n : Nat) (hslot : slot ≠ .m) {d : Nat} {s : State}
    (h : (s.engine e).fly = [⟨d, .wrV slot p w⟩]) (h5 : armedKind s e ≠ 5) :
    ∃ t, afterCycles e n s = some t ∧
      (t.engine e).v = if n ≤ d then (s.engine e).v else storeSet 0 (s.engine e).v p w := by
  induction n generalizing d s with
  | zero => exact ⟨s, rfl, (if_pos (Nat.zero_le d)).symm⟩
  | succ n ih =>
    rw [afterCycles_succ]
    cases d with
    | zero =>
      obtain ⟨hv, hfly⟩ := Prod.ext_iff.mp (flight_cycled_arriving h5 hslot h)
      obtain ⟨t, ht, htv⟩ := afterCycles_empty e n hfly (armedKind_cycled h5)
      exact ⟨t, ht, by rw [htv, if_neg (by omega)]; exact hv⟩
    | succ d =>
      obtain ⟨hv, hfly⟩ := Prod.ext_iff.mp (flight_cycled_waiting h5 h)
      obtain ⟨t, ht, htv⟩ := ih hfly (armedKind_cycled h5)
      have hv' : ((cycled s e).engine e).v = (s.engine e).v := hv
      exact ⟨t, ht, by rw [htv, hv']; simp only [Nat.succ_le_succ_iff]⟩

/-- Settles O13: by induction on the cycles, the result one cycle nearer after each. -/
theorem resultsInFlightArriveAtTheirDistance : Obligations.ResultsInFlightArriveAtTheirDistance := by
  unfold Obligations.ResultsInFlightArriveAtTheirDistance
  intro e d slot p w n s hfly hslot h5
  obtain ⟨t, ht, hv⟩ := afterCycles_wrV e p w n hslot hfly h5
  refine ⟨t, ht, ?_, fun q hq => ?_⟩
  · rw [hv]
    split
    · rfl
    · rw [storeGet_set, if_pos rfl]
  · rw [hv]
    split
    · rfl
    · rw [storeGet_set, if_neg hq]

end Sys2Proof.Machine
end

section
/-!
PROOFS. The fetch of a word and the slots that cannot issue (R66, R68, R70, R74, R77, R101).
-/
namespace Sys2Proof.Machine

/-! ### The fetch -/

/-- From `s` to `t` a corrected error of engine `e`'s program memory is counted and flagged. -/
def countsProgError (e : Nat) (s t : State) : Prop :=
  t.fld (Reg.ENG_ECC_CNT_ce_prog (e / 16)) = min 65535 (s.fld (Reg.ENG_ECC_CNT_ce_prog (e / 16)) + 1) ∧
    t.fld (Reg.ENG_FLAGS_ce (e / 16) (e % 16)) = 1 ∧ onlyFlds (progErrorFlds e) s t

theorem countsProgError_correctedError (s : State) (e : Nat) : countsProgError e s (correctedError s e false) :=
  ⟨count_correctedError_prog s e, flag_correctedError s e false, onlyFlds_correctedError_prog s e⟩

section
variable {s : State} {e : Nat}

theorem openCycle_corrected (hissue : canIssue s e = true) (h4 : armedKind s e ≠ 4) (h5 : armedKind s e ≠ 5) :
    openCycle s e .corrected = correctedError s e false := by
  have harm := armedKind_correctedError_prog s e
  rw [openCycle_issuing hissue]
  exact fetchWord_unarmed (f := .corrected) (harm.trans_ne h4) (harm.trans_ne h5)

theorem openCycle_injected (hissue : canIssue s e = true) (h4 : armedKind s e = 4) :
    openCycle s e .clean = correctedError (disarm s e) e false := by
  rw [openCycle_issuing hissue, fetchWord_injected h4]

end

/-! ### Slots that cannot issue -/

section
variable {s : State} {e : EngNo} {i : Instr} {slots : List Slot}

/-- The slots of an uncorrectable word issue nothing (R68). -/
theorem slotFree_dead (h : (s.engine e).dead = true) : slotFree s e i slots = false := by
  simp [slotFree, spells, h]

/-- An engine that issues no word, a word that spells another command and a slot that has issued each close a slot. -/
theorem slotFree_closed
    (h : canIssue s e = false ∨ i.plain ∉ decodeWord e (s.engine e).word ∨ ∃ k ∈ slots, k ∈ (s.engine e).used) :
    slotFree s e i slots = false := by
  rcases h with h | h | ⟨k, hk, hused⟩
  · simp [slotFree, h]
  · simp [slotFree, spells, h]
  · have hall : slots.all (fun t => !(s.engine e).used.contains t) = false :=
      List.all_eq_false.mpr ⟨k, hk, by simp [hused]⟩
    rw [slotFree, hall, Bool.and_false]

/-- A slot operation that cannot issue does nothing. -/
theorem slotOp_closed (h : slotFree s e i slots = false) (f : Engine → Engine) : slotOp s e i slots f = s := if_neg (by simp [h])

theorem quadMac_closed (op : MacOp) {o : MOp} (h : slotFree s e i [.m] = false) : quadMac op e i o s = s := if_neg (by simp [h])

theorem execXr_closed {n : Fin 32} {ecc : Ecc} (h : slotFree s e (.xr e n ecc) [.x] = false) : execXr e n ecc s = .next s :=
  if_neg (by simp [h])

theorem execReqDelayTap_closed {n : Fin 32} {ecc : List Ecc} (h : slotFree s e (.reqDelayTap e n ecc) [.x] = false) :
    execReqDelayTap e n ecc s = .next s := if_neg (by simp [h])

theorem execReqGainCell_closed {n : Fin 32} (h : slotFree s e (.reqGainCell e n) [.x] = false) :
    execReqGainCell e n s = .next s := if_neg (by simp [h])

theorem execLd_closed {slot : LSlot} {mode : LdMode} {vt : VNo} {kp : Fin 4} {ecc : Ecc}
    (h : lFree s e (.ld e slot mode vt kp ecc) slot = false) : execLd e slot mode vt kp ecc s = .next s := if_neg (by simp [h])

theorem execSt_closed {slot : LSlot} {mode : StMode} {vt : VNo} {kp : Fin 4}
    (h : lFree s e (.st e slot mode vt kp) slot = false) : execSt e slot mode vt kp s = .next s := if_neg (by simp [h])

end

/-- Settles O12: a fetch is its finding beside the injections, and every row is a slot operation, shut where its slots are. -/
theorem fetchMarksIssuedSlotsAndClosedSlotsDoNothing : Obligations.FetchMarksIssuedSlotsAndClosedSlotsDoNothing := by
  unfold Obligations.FetchMarksIssuedSlotsAndClosedSlotsDoNothing
  constructor
  · intro e slots f i s ce counts
    refine ⟨fun hissue h4 h5 => ⟨openCycle_clean h4 h5, ?_⟩, fun hissue h4 => ?_, fun h => openCycle_idle h f, rfl,
      slotFree_dead⟩
    · rw [openCycle_corrected hissue h4 h5]; exact countsProgError_correctedError s e
    · rw [openCycle_injected hissue h4]; exact countsProgError_correctedError (disarm s e) e
  · intro e vd vs o k g sh rnd trk km part n6 mask val n imm i18 i14 lm sm m len cnt rc rot c cs s off long
    have op (i : Instr) (slots : List Slot) (t : State) (hi : exec i s = .next (if slotFree s e i slots then t else s)) :
      off slots i := fun h => hi.trans (next_congr (if_neg (by simp [h])))
    simp only [List.forall_mem_cons, List.not_mem_nil, false_imp_iff, implies_true, and_true]
    refine ⟨⟨fun h => next_congr (quadMac_closed .mpy h), fun h => next_congr (quadMac_closed .mac h),
        fun h => next_congr (quadMac_closed .msu h)⟩, ?_, ?_, fun hsh h => ?_, ⟨fun h => execLd_closed h, fun h => execSt_closed h⟩,
      ⟨fun h => execLd_closed h, fun h => execSt_closed h⟩,
      ⟨op _ _ _ rfl, op _ _ _ rfl, op _ _ _ rfl, op _ _ _ rfl, execXr_closed, op _ _ _ rfl, execReqDelayTap_closed,
        execReqGainCell_closed⟩, op _ _ _ rfl, fun he h => ?_, fun i slots => slotFree_closed⟩
    · and_intros <;> exact op _ _ _ rfl
    · and_intros <;> exact op _ _ _ rfl
    · exact (if_pos (decide_eq_true hsh)).trans (next_congr (slotOp_closed h _))
    · exact (if_pos (decide_eq_true he)).trans (next_congr (slotOp_closed h _))

end Sys2Proof.Machine
end

section
/-!
PROOFS. XNOP, ROT, PHASE, LOOP, REP and END (R49, R91, R94, R97, R100, R101).
-/
namespace Sys2Proof.Machine

/-- A slot operation that may issue marks its slots and changes the engine. -/
theorem slotOp_issues {s : State} {e : EngNo} {i : Instr} {slots : List Slot} (h : slotFree s e i slots = true)
    (f : Engine → Engine) :
    slotOp s e i slots f = (fetched s e slots).setEngine e (f ((fetched s e slots).engine e)) := if_pos h

/-- Settles O16: each operation is one slot operation, REP behind the check that its engine is a warden (R73). -/
theorem sequenceOperationsAskForTheirLoopPhaseOrEnd : Obligations.SequenceOperationsAskForTheirLoopPhaseOrEnd := by
  unfold Obligations.SequenceOperationsAskForTheirLoopPhaseOrEnd
  intro e rot len cnt rc s t u
  exact ⟨fun h => next_congr (slotOp_issues h _), fun h => next_congr (slotOp_issues h _),
    fun h => next_congr (slotOp_issues h _), fun h => next_congr (slotOp_issues h _), fun h => next_congr (slotOp_issues h _),
    fun h he => (if_pos (decide_eq_true he)).trans (next_congr (slotOp_issues h _)),
    fun he => if_neg (by simpa [Instr.wellFormed] using he)⟩

end Sys2Proof.Machine
end

section
/-!
PROOFS. Loads and stores (R66, R67, R87, R88): why O15 fails. ENG_SCRUB.wbq_drop has 8 bits and saturates at 0xFF (Table of ENG_SCRUB,
chapter 03), so the dropped write-back that `correctedAt` would have counted as the 256th is not counted.
-/
namespace Sys2Proof.Machine

theorem fld_fetched (s : State) (e : Nat) (slots : List Slot) (f : Fld) : (fetched s e slots).fld f = s.fld f :=
  fld_setEngine s e f _

/-- Engine 0 issues an L1 load, its write-back queue full and 255 addresses dropped before. -/
def fullDropCount : State :=
  ((State.reset.setEngState 0 engRun).setEngine 0 { win := true, prog := [(0, 0x8B00)], wbq := [0, 0, 0, 0] }).setFld
    (Reg.ENG_SCRUB_wbq_drop 0) 255

theorem lFree_fullDropCount : lFree fullDropCount 0 (.ld 0 .l1 .plain 5 2 .corrected) .l1 = true := by decide +kernel

theorem wbq_drop_fullDropCount : fullDropCount.fld (Reg.ENG_SCRUB_wbq_drop 0) = 255 := fld_setFld_of_lt (by decide) (by decide)

theorem wbq_fullDropCount : ((fetched fullDropCount 0 [.l1]).engine 0).wbq.length = 4 := by decide +kernel

/-- No state shows a corrected read counted as `correctedAt` says where the queue is full and the drop count at its largest value. -/
theorem not_correctedAt_of_full {e a : Nat} {s t : State} (hcount : s.fld (Reg.ENG_SCRUB_wbq_drop (e / 16)) = 255)
    (hfull : 4 ≤ (s.engine e).wbq.length) : ¬ correctedAt e a s t := by
  rintro ⟨-, -, hdrop, -⟩
  have hlt : t.fld (Reg.ENG_SCRUB_wbq_drop (e / 16)) < 2 ^ 8 := fld_lt t _
  have hroom : decide ((s.engine e).wbq.length < 4) = false := by simpa using hfull
  rw [hroom, hcount] at hdrop
  simp only [Bool.false_eq_true, if_false] at hdrop
  omega

/-- Refutes O15: a corrected L1 load with a full write-back queue and ENG_SCRUB.wbq_drop at 255 leaves the count at 255, and the
statement asks for 256, which the 8-bit field cannot hold. -/
theorem not_loadsAndStoresReachTheirWordAndMoveTheirPointer : ¬ Obligations.LoadsAndStoresReachTheirWordAndMoveTheirPointer := by
  unfold Obligations.LoadsAndStoresReachTheirWordAndMoveTheirPointer
  rintro ⟨hload, -⟩
  obtain ⟨hplain, -⟩ := hload 0 .l1 5 2 .corrected fullDropCount
  obtain ⟨u, v, -, ⟨-, -, hu⟩, hv⟩ := hplain lFree_fullDropCount
  have hu := hu (.inl rfl)
  refine not_correctedAt_of_full ?_ ?_ hv
  · rw [hu, fld_setEngine, fld_fetched]; exact wbq_drop_fullDropCount
  · rw [hu, engine_setEngine, if_pos rfl]
    split
    · exact wbq_fullDropCount.ge
    · exact wbq_fullDropCount.ge

end Sys2Proof.Machine
end

section
/-!
PROOFS. Exchange accesses and requests (R68, R91 to R93, R109 to R113, R119, R127, R178).
-/
namespace Sys2Proof.Machine

/-! ### XR and XW (R92) -/

/-- An address beyond the window sets addr at distance 3. -/
def xFar (k : Addr24) (y : Engine) : Engine := if k.toNat < 2 ^ 10 then y else y.launch 3 [.flgSet 32]

theorem xAddrFlag_pends (k : Addr24) (y : Engine) :
    (if xAddrFlag k = 0 then y else y.launch 3 [.flgSet (xAddrFlag k)]) = xFar k y := by
  unfold xAddrFlag xFar
  by_cases h : k.toNat < 2 ^ 10
  · rw [if_neg (show ¬ k.toNat ≥ 1024 by omega), if_pos rfl, if_pos h]
  · rw [if_pos (show k.toNat ≥ 1024 by omega), if_neg (by decide), if_neg h]; rfl

theorem cyc_xFar (k : Addr24) (y : Engine) : (xFar k y).cyc = y.cyc := by
  unfold xFar; split <;> rfl

theorem outFront_xFar (k : Addr24) (y : Engine) : (xFar k y).outFront = y.outFront := by
  unfold xFar; split <;> rfl

/-- The cluster cycle is that of the engine's state. -/
theorem clusterCycle_setEngine {s : State} {e : Nat} {y : Engine} (h : y.cyc = (s.engine e).cyc) :
    clusterCycle (s.setEngine e y) e = clusterCycle s e := by
  rw [clusterCycle, engine_setEngine, if_pos rfl, h, clusterCycle]

section
variable {s : State} {e : EngNo} {n : Fin 32}

/-- The engine after an XR: K14 moves on at distance 0 and the word comes at distance 3. -/
def xrEngine (t : State) (e n : Nat) : Engine :=
  let x := t.engine e
  xFar (x.kReg 14) ((x.launch 0 [.wrK false 14 (x.kReg 14 + 1)]).launch 3
    [.wrV .x (physReg x.rrb (32 + n)) (inWord t e ((x.kReg 14).toNat % 2 ^ 10))])

theorem execXr_issues {ecc : Ecc} (h : slotFree s e (.xr e n ecc) [.x] = true) :
    let t := fetched s e [.x]
    let r := t.setEngine e (xrEngine t e n)
    execXr e n ecc s = .next (if ecc = .uncorrectable then
      clusterFault r (e.val / 16) 5 (e.val % 16) (((t.engine e).kReg 14).toNat % 2 ^ 10) (clusterCycle r e) false else r) := by
  intro t r
  have hr : clusterCycle r e = clusterCycle t e := clusterCycle_setEngine (cyc_xFar _ _)
  have hpend : t.setEngine e (execXr.addrPend' (xAddrFlag ((t.engine e).kReg 14)) _) = r :=
    congrArg (t.setEngine e) (xAddrFlag_pends _ _)
  rw [hr, ← hpend]
  exact if_pos h

/-- The engine after an XW: K15 moves on at distance 0 and the out-window word is written at once. -/
def xwEngine (x : Engine) (n : Nat) : Engine :=
  let y := xFar (x.kReg 15) (x.launch 0 [.wrK false 15 (x.kReg 15 + 1)])
  { y with outFront := storeSet 0 y.outFront ((x.kReg 15).toNat % 2 ^ 10) (x.rd (32 + n)) }

theorem execXw_issues (h : slotFree s e (.xw e n) [.x] = true) :
    execXw e n s = .next ((fetched s e [.x]).setEngine e (xwEngine ((fetched s e [.x]).engine e) n)) := by
  refine next_congr ((slotOp_issues h _).trans (congrArg (State.setEngine _ _) ?_))
  dsimp only
  rw [xAddrFlag_pends]
  rfl

theorem outFront_xwEngine (x : Engine) (n w : Nat) :
    storeGet 0 (xwEngine x n).outFront w =
      if w = (x.kReg 15).toNat % 2 ^ 10 then x.rd (32 + n) else storeGet 0 x.outFront w := by
  have hout : (xFar (x.kReg 15) (x.launch 0 [.wrK false 15 (x.kReg 15 + 1)])).outFront = x.outFront := outFront_xFar _ _
  rw [← hout]
  exact storeGet_set _ _ _ _ _

end

/-! ### Delay taps (R109 to R113) -/

section
variable {s : State} {e n : Nat} {w : Word}

/-- A request that fails gives 0 at distance 2 and sets addr. -/
theorem reqLaunch_fail (x : Engine) (n : Nat) :
    reqLaunch x n reqFail = (x.launch 2 [.wrV .x (physReg x.rrb (32 + n)) 0]).launch 3 [.flgSet 32] := rfl

theorem cyc_reqLaunch (x : Engine) (n : Nat) (r : ReqResult) : (reqLaunch x n r).cyc = x.cyc := by
  unfold reqLaunch
  dsimp only
  split <;> rfl

/-- What a tap request asks for depends on the engine's cycle alone. -/
theorem tapAsked_setEngine {y : Engine} (h : y.cyc = (s.engine e).cyc) : tapAsked (s.setEngine e y) e w = tapAsked s e w := by
  unfold tapAsked
  rw [clusterCycle_setEngine h]
  rfl

theorem tapRequest_none (h : tapAsked s e w = none) : tapRequest s e w = reqFail := by
  unfold tapRequest; rw [h]

theorem tapChecks_none (h : tapAsked s e w = none) (ecc : List Ecc) : tapChecks s e w ecc = s := by
  unfold tapChecks; rw [h]

variable {r : LineRec} {tp d : Nat} {tap : TapRec} {clamped : Bool} (h : tapAsked s e w = some (r, tp, tap, d, clamped))
include h

/-- An admitted request gives the tap's value, clamped to 32 bits. -/
theorem reqLaunch_tap (x : Engine) {v : Word} :
    let ex := tapExact (d % 65536) ((tapPoints tap.mode d).map (tapPoint s e r tp))
    v.toInt = max (-2 ^ 31) (min (2 ^ 31 - 1) ex) →
    let y := x.launch (if r.tier = 1 then 6 else 0) (.wrV .x (physReg x.rrb (32 + n)) v ::
      if ex < -2 ^ 31 ∨ 2 ^ 31 - 1 < ex then [.flgSet 1] else [])
    reqLaunch x n (tapRequest s e w) = if clamped then y.launch 3 [.flgSet 32] else y := by
  intro ex hv y
  have hreq : tapRequest s e w = ⟨v, if r.tier = 1 then 6 else 0, clamped, outside32 ex⟩ := by
    unfold tapRequest
    rw [h]
    dsimp only
    rw [sat32_eq_of_clamped hv]
  rw [hreq, reqLaunch]
  simp only [outside32_iff]
  rfl

/-- The points of an admitted request are checked in order. -/
theorem tapChecks_tap (ecc : List Ecc) :
    let js := tapPoints tap.mode d
    tapChecks s e w ecc = if r.tier = 1 then (js.zip ecc).foldl (fun u x => pointCheck u e r x.1 x.2) s
      else (js.filter (fun j => decide (j ≤ s.lineAge r))).foldl (fun u j => burstCheck u e r tp j) s := by
  unfold tapChecks; rw [h]

end

section
variable (s : State) (e : Nat) (r : LineRec) (tp j : Nat)

/-- A corrected word of a tier-1 line is counted. -/
theorem pointCheck_corrected :
    (pointCheck s e r j .corrected).fld (Reg.MEM_DLY_ECC_ce r.cluster) = min 65535 (s.fld (Reg.MEM_DLY_ECC_ce r.cluster) + 1) ∧
      onlyFlds [Reg.MEM_DLY_ECC_ce r.cluster] s (pointCheck s e r j .corrected) :=
  ⟨fld_satInc_self s _ (by simp [Reg.MEM_DLY_ECC_ce]),
    onlyFlds_satInc (onlyFlds_refl _ s) (by simp) (by simp [Reg.MEM_DLY_ECC_ce])⟩

variable {s e r tp j}

theorem burstCheck_good (h : badBurst s e r tp (linePos s r j) = none) : burstCheck s e r tp j = s := by
  unfold burstCheck; dsimp only; rw [h]

theorem burstCheck_reported {b : BadBurst} (h : badBurst s e r tp (linePos s r j) = some b) (hb : b.reported = true) :
    burstCheck s e r tp j = s := by
  unfold burstCheck; dsimp only; rw [h]; exact if_pos hb

/-- The first point read from a marked burst raises a fault of kind 6 (R127). -/
theorem burstCheck_first {b : BadBurst} (h : badBurst s e r tp (linePos s r j) = some b) (hb : b.reported = false) :
    burstCheck s e r tp j =
      clusterFault { s with badBursts := s.badBursts.map (fun x => if x = b then { x with reported := true } else x) }
        r.cluster 6 0 (Config.stagingAddr e r.line tp (linePos s r j)).toNat (clusterCycle s e) false := by
  unfold burstCheck; dsimp only; rw [h]; exact if_neg (by simp [hb])

end

/-! ### Gain cells (R93, R178) -/

section
variable {s : State} {e : Nat} {w : Word}

theorem cellRequest_granted {c : CellRec} (hres : bitsOf w 12 19 = 0)
    (hcell : s.str.cells.find? (fun r => r.cell == bitsOf w 0 12) = some c) (hpart : s.engPart e = some c.partition) :
    cellRequest s e w = ⟨(storeGet {} s.cells (bitsOf w 0 12)).current, 2, false, false⟩ := by
  unfold cellRequest
  dsimp only
  rw [if_neg (by simp [hres]), hcell, hpart]
  exact if_pos rfl

theorem cellRequest_foreign {c : CellRec} (hcell : s.str.cells.find? (fun r => r.cell == bitsOf w 0 12) = some c)
    (hpart : s.engPart e ≠ some c.partition) : cellRequest s e w = reqFail := by
  unfold cellRequest
  dsimp only
  rw [hcell]
  split
  · rfl
  · cases hp : s.engPart e with
    | none => rfl
    | some p => exact if_neg (fun heq => hpart (by rw [hp, heq]))

theorem cellRequest_malformed
    (h : bitsOf w 12 19 ≠ 0 ∨ s.str.cells.find? (fun r => r.cell == bitsOf w 0 12) = none) : cellRequest s e w = reqFail := by
  unfold cellRequest
  dsimp only
  split
  · rfl
  · next hres => rw [h.resolve_left hres]

end

/-! ### The rows -/

theorem execReqDelayTap_issues {s : State} {e : EngNo} {n : Fin 32} {ecc : List Ecc} {q : Word}
    (h : slotFree s e (.reqDelayTap e n ecc) [.x] = true) (hq : (s.engine e).rd (32 + n.val) = q) (hbit : q.getLsbD 31 = false) :
    let t := fetched s e [.x]
    execReqDelayTap e n ecc s = .next (tapChecks (t.setEngine e (reqLaunch (t.engine e) n.val (tapRequest t e q))) e q ecc) := by
  subst hq
  exact if_pos ⟨h, hbit⟩

theorem execReqGainCell_issues {s : State} {e : EngNo} {n : Fin 32} {q : Word}
    (h : slotFree s e (.reqGainCell e n) [.x] = true) (hq : (s.engine e).rd (32 + n.val) = q) (hbit : q.getLsbD 31 = true) :
    let t := fetched s e [.x]
    execReqGainCell e n s = .next (t.setEngine e (reqLaunch (t.engine e) n.val (cellRequest t e q))) := by
  subst hq
  exact if_pos ⟨h, hbit⟩

/-- Settles O17: each access is an issue followed by its window's access or its request's result and checks. -/
theorem exchangePointersMoveAndRequestsReplaceTheirRegister : Obligations.ExchangePointersMoveAndRequestsReplaceTheirRegister := by
  unfold Obligations.ExchangePointersMoveAndRequestsReplaceTheirRegister
  constructor
  · intro e n ecc s t x far
    refine ⟨fun h => execXr_issues h, fun h => ⟨xwEngine x n, execXw_issues h, rfl, ?_, fun w hw => ?_⟩⟩
    · rw [outFront_xwEngine, if_pos rfl]
    · rw [outFront_xwEngine, if_neg hw]
  · intro e n ecc s t x q p fails
    have asked (r : ReqResult) : tapAsked (t.setEngine e (reqLaunch x n.val r)) e q = tapAsked t e q :=
      tapAsked_setEngine (cyc_reqLaunch x n.val r)
    refine ⟨fun h hbit => ⟨fun hnone => ?_, fun r tp tap d clamped w htap hw => ?_⟩, fun u r tp j => ?_, fun h hbit => ?_⟩
    · refine (execReqDelayTap_issues h rfl hbit).trans (next_congr ?_)
      rw [tapChecks_none ((asked _).trans hnone), tapRequest_none hnone, reqLaunch_fail]
    · refine (execReqDelayTap_issues h rfl hbit).trans (next_congr ?_)
      rw [tapChecks_tap ((asked _).trans htap), reqLaunch_tap htap x hw]
      rfl
    · exact ⟨rfl, fun _ => pointCheck_corrected u e r j, rfl, burstCheck_good, fun _ => burstCheck_reported,
        fun _ => burstCheck_first⟩
    · have issues {r : ReqResult} (hr : cellRequest t e q = r) :
          exec (.reqGainCell e n) s = .next (t.setEngine e (reqLaunch x n.val r)) := hr ▸ execReqGainCell_issues h rfl hbit
      exact ⟨fun c hres hcell hpart => issues (cellRequest_granted hres hcell hpart),
        fun c hcell hpart => issues (cellRequest_foreign hcell hpart), fun hbad => issues (cellRequest_malformed hbad)⟩

end Sys2Proof.Machine
end

section
/-!
PROOFS. Every well-formed command answers a next state (R97, R102): most rows are one by definition, the rest choose among several.
-/
namespace Sys2Proof.Machine

/-- An outcome is a next state. -/
def answersNext (o : Host.Outcome State Fault Refusal) : Prop := ∃ t, o = .next t

theorem answersNext_ite {c : Prop} [Decidable c] {a b : Host.Outcome State Fault Refusal} (ha : answersNext a) (hb : answersNext b) :
    answersNext (if c then a else b) := by
  split
  · exact ha
  · exact hb

/-! ### Rows that look at a value before anything else -/

section
variable (s : State)

theorem answersNext_netFallback (port : Fin 4) : answersNext (execNetFallback port s) := by
  unfold execNetFallback
  dsimp only
  split
  · exact ⟨_, rfl⟩
  · exact answersNext_ite (answersNext_ite ⟨_, rfl⟩ ⟨_, rfl⟩) ⟨_, rfl⟩

theorem answersNext_watchdogRestart : answersNext (execWatchdogRestart s) := by
  unfold execWatchdogRestart
  split
  · exact ⟨_, rfl⟩
  · exact ⟨_, rfl⟩

theorem answersNext_bulkLineCopy (c : ClNo) (line : Fin 1024) (words : List Word) :
    answersNext (execBulkLineCopy c line words s) := by
  unfold execBulkLineCopy
  split
  · exact ⟨_, rfl⟩
  · exact answersNext_ite ⟨_, rfl⟩ ⟨_, rfl⟩

theorem answersNext_saveComplete : answersNext (execSaveComplete s) := by
  unfold execSaveComplete
  split
  · exact ⟨_, rfl⟩
  · exact answersNext_ite ⟨_, rfl⟩ ⟨_, rfl⟩

theorem answersNext_faultHoldEnd : answersNext (execFaultHoldEnd s) := by
  unfold execFaultHoldEnd
  split
  · exact ⟨_, rfl⟩
  · exact ⟨_, rfl⟩

theorem answersNext_selfDetectedFault (src : FaultSrc) : answersNext (execSelfDetectedFault src s) := by
  cases src <;> exact ⟨_, rfl⟩

theorem answersNext_otpProgramDone : answersNext (execOtpProgramDone s) := by
  unfold execOtpProgramDone
  split
  · exact ⟨_, rfl⟩
  · exact ⟨_, rfl⟩

theorem answersNext_openRequestTimeout : answersNext (execOpenRequestTimeout s) := by
  unfold execOpenRequestTimeout
  split
  · exact ⟨_, rfl⟩
  · exact answersNext_ite ⟨_, rfl⟩ ⟨_, rfl⟩

theorem answersNext_sessionIdleTimeout (sess : Fin 4096) : answersNext (execSessionIdleTimeout sess s) := by
  unfold execSessionIdleTimeout
  split
  · exact ⟨_, rfl⟩
  · exact ⟨_, rfl⟩

theorem answersNext_keyWriteDone : answersNext (execKeyWriteDone s) := by
  unfold execKeyWriteDone
  split
  · exact ⟨_, rfl⟩
  · exact ⟨_, rfl⟩

theorem answersNext_joinTick (pins : TickPins) : answersNext (execJoinTick pins s) := by
  unfold execJoinTick
  split
  · exact ⟨_, rfl⟩
  · exact answersNext_ite ⟨_, rfl⟩ ⟨_, rfl⟩

end

/-! ### Every row -/

/-- A well-formed command answers a next state. -/
theorem answersNext_exec (c : Instr) (s : State) (h : c.wellFormed = true) : answersNext (exec c s) := by
  cases c
  case lda => exact ⟨_, if_pos h⟩
  case rep => exact ⟨_, if_pos h⟩
  case netFallback => exact answersNext_netFallback s _
  case watchdogRestart => exact answersNext_watchdogRestart s
  case bulkLineCopy => exact answersNext_bulkLineCopy s _ _ _
  case saveComplete => exact answersNext_saveComplete s
  case faultHoldEnd => exact answersNext_faultHoldEnd s
  case selfDetectedFault => exact answersNext_selfDetectedFault s _
  case otpProgramDone => exact answersNext_otpProgramDone s
  case openRequestTimeout => exact answersNext_openRequestTimeout s
  case sessionIdleTimeout => exact answersNext_sessionIdleTimeout s _
  case keyWriteDone => exact answersNext_keyWriteDone s
  case joinTick => exact answersNext_joinTick s _
  case streamPacketTx | dmaBeat | dmaReadData | verifyComplete | settingsApplied | domainEntryDone | openReq |
      audonFrameVerified =>
    refine answersNext_ite ⟨_, rfl⟩ ?_
    split
    · exact ⟨_, rfl⟩
    · exact ⟨_, rfl⟩
  case tickGeneratorStart =>
    refine answersNext_ite ?_ ⟨_, rfl⟩
    split
    · exact ⟨_, rfl⟩
    · exact ⟨_, rfl⟩
  case dramTrainingDone =>
    refine answersNext_ite ⟨_, rfl⟩ (answersNext_ite ⟨_, rfl⟩ ?_)
    split
    · exact ⟨_, rfl⟩
    · exact ⟨_, rfl⟩
  case firmwareEntry =>
    refine answersNext_ite ⟨_, rfl⟩ (answersNext_ite ?_ ⟨_, rfl⟩)
    split
    · exact ⟨_, rfl⟩
    · exact ⟨_, rfl⟩
  case ethFrameRx =>
    exact answersNext_ite ⟨_, rfl⟩ (answersNext_ite ⟨_, rfl⟩ (answersNext_ite ⟨_, rfl⟩ (answersNext_ite ⟨_, rfl⟩ ⟨_, rfl⟩)))
  case aesRxSubframe | aesCsBlock | qsLock | amonConversion =>
    exact answersNext_ite ⟨_, rfl⟩ (answersNext_ite ⟨_, rfl⟩ (answersNext_ite ⟨_, rfl⟩ ⟨_, rfl⟩))
  case netLinkChange | dmaRestart | qsOutputWord | amonComparator | domainPartReady | suppliesReady | aesTxFrame | svBcc =>
    exact answersNext_ite ⟨_, rfl⟩ (answersNext_ite ⟨_, rfl⟩ ⟨_, rfl⟩)
  case xr | reqDelayTap | reqGainCell | ld | st | bankClearDone | bankZeroFillDone | refLoss | sourceValidAgain | altFallback |
      refRevert | pllaLock | dmaBusError | tdmSlotInput | tdmLock | tdmUnlock | aesRxLock | asrcUnlock | asrcLock | qsInputWord |
      inputActivityWake | tempConversion | copySetTransfer | svWait | svBra | svCall | svJmpb | svCrc32 | svCrc32b | svMfs | svMts =>
    exact answersNext_ite ⟨_, rfl⟩ ⟨_, rfl⟩
  all_goals exact ⟨_, rfl⟩

/-- Only LDA with a shift above 48 and REP at an engine that is no warden are not well formed (R86, R97). -/
theorem not_wellFormed_cases {c : Instr} (h : c.wellFormed = false) :
    (∃ e k vs sh, c = .lda e k vs sh) ∨ ∃ e n, c = .rep e n := by
  unfold Instr.wellFormed at h
  split at h
  · exact .inl ⟨_, _, _, _, rfl⟩
  · exact .inr ⟨_, _, rfl⟩
  · exact absurd h (by decide)

/-- Settles O2: row by row; only LDA and REP look at whether they are well formed. -/
theorem wellFormedCommandsAnswerANextState : Obligations.WellFormedCommandsAnswerANextState := by
  unfold Obligations.WellFormedCommandsAnswerANextState
  intro c s
  refine ⟨answersNext_exec c s, fun h => ?_⟩
  have hnot : ¬ c.wellFormed = true := by simp [h]
  rcases not_wellFormed_cases h with ⟨e, k, vs, sh, rfl⟩ | ⟨e, n, rfl⟩
  · exact .inl (if_neg hnot)
  · exact .inr (if_neg hnot)

end Sys2Proof.Machine
end

section
/-!
PROOFS. Clears of counters and logs: a clear is a chain of field clears and register resets, and which bits it makes 0 is said once
for such a chain (`clears`).
-/
namespace Sys2Proof.Machine

/-! ### Bits of fields -/

/-- A field's number bit by bit. -/
theorem testBit_bitsOf (x : Word) (lo w i : Nat) : (bitsOf x lo w).testBit i = (decide (i < w) && x.getLsbD (lo + i)) := by
  rw [bitsOf, Nat.testBit_mod_two_pow, Nat.testBit_div_two_pow, BitVec.testBit_toNat, Nat.add_comm]

/-- One bit of a word is its field of width 1. -/
theorem getLsbD_eq_testBit_bitsOf (x : Word) (i : Nat) : x.getLsbD i = (bitsOf x i 1).testBit 0 := by
  rw [testBit_bitsOf, decide_eq_true Nat.zero_lt_one, Bool.true_and, Nat.add_zero]

/-- A field written with 0 takes its own bits alone. -/
theorem getLsbD_putBits_zero (x : Word) {lo w : Nat} (h : lo + w ≤ 32) (i : Nat) :
    (putBits x lo w 0).getLsbD i = true ↔ x.getLsbD i = true ∧ ¬ (lo ≤ i ∧ i < lo + w) := by
  by_cases hin : lo ≤ i ∧ i < lo + w
  · have hbit := testBit_bitsOf (putBits x lo w 0) lo w (i - lo)
    rw [bitsOf_putBits_self _ _ _ _ h, Nat.zero_mod, Nat.zero_testBit, decide_eq_true (by omega), Bool.true_and,
      Nat.add_sub_cancel' hin.1] at hbit
    simp [← hbit, hin]
  · rw [getLsbD_eq_testBit_bitsOf, bitsOf_putBits_other _ _ _ _ _ _ h (by omega), ← getLsbD_eq_testBit_bitsOf]
    simp [hin]

/-! ### Chains of clears -/

/-- Bit `i` of register `a` lies in a field of `fs`. -/
def inFlds (fs : List Fld) (a i : Nat) : Prop := ∃ f ∈ fs, f.addr = a ∧ f.lo ≤ i ∧ i < f.lo + f.w

/-- From `s` to `t` control registers alone change, and of them the bits in the fields of `fs` alone, which become 0. -/
def clears (fs : List Fld) (s t : State) : Prop :=
  t = { s with regs := t.regs } ∧ ∀ a i, (t.reg a).getLsbD i = true ↔ (s.reg a).getLsbD i = true ∧ ¬ inFlds fs a i

theorem inFlds_append {fs gs : List Fld} {a i : Nat} : inFlds (fs ++ gs) a i ↔ inFlds fs a i ∨ inFlds gs a i := by
  simp only [inFlds, List.mem_append, or_and_right, exists_or]

theorem inFlds_singleton {f : Fld} {a i : Nat} : inFlds [f] a i ↔ f.addr = a ∧ f.lo ≤ i ∧ i < f.lo + f.w := by
  simp [inFlds]

theorem clears_refl (s : State) : clears [] s s := ⟨rfl, fun a i => by simp [inFlds]⟩

theorem clears_trans {fs gs : List Fld} {s t u : State} (h : clears fs s t) (h' : clears gs t u) : clears (fs ++ gs) s u := by
  obtain ⟨hst, hbits⟩ := h
  obtain ⟨htu, hbits'⟩ := h'
  refine ⟨?_, fun a i => ?_⟩
  · rw [hst] at htu
    exact htu
  · rw [hbits', hbits, inFlds_append, not_or, and_assoc]

theorem clears_comm {fs gs : List Fld} {s t : State} (h : clears (fs ++ gs) s t) : clears (gs ++ fs) s t :=
  ⟨h.1, fun a i => by rw [h.2 a i, inFlds_append, inFlds_append, or_comm]⟩

theorem clears_setFld (s : State) {f : Fld} (h : Nat.ble (f.lo + f.w) 32 = true := by rfl) : clears [f] s (s.setFld f 0) := by
  refine ⟨rfl, fun a i => ?_⟩
  rw [reg_setFld, inFlds_singleton]
  split
  · next ha => subst ha; simp [getLsbD_putBits_zero _ (Nat.le_of_ble_eq_true h)]
  · next ha => simp [Ne.symm ha]

/-- A whole register as a field. -/
abbrev wholeReg (a : Nat) : Fld := ⟨a, 0, 32⟩

theorem clears_resetReg (s : State) {a : Nat} (h : regReset a = 0) : clears [wholeReg a] s (s.resetReg a) := by
  refine ⟨rfl, fun b i => ?_⟩
  rw [reg_resetReg, inFlds_singleton]
  split
  · next hb =>
    subst hb
    have hi := (s.reg b).lt_of_getLsbD (i := i)
    simp [h]; omega
  · next hb => simp [Ne.symm hb]

/-- A fold each of whose steps clears what `flds` names of its item. -/
theorem clears_foldl {α : Type} {step : State → α → State} {flds : α → List Fld} (l : List α)
    (h : ∀ a ∈ l, ∀ t, clears (flds a) t (step t a)) (s : State) : clears (l.flatMap flds) s (l.foldl step s) := by
  induction l generalizing s with
  | nil => exact clears_refl s
  | cons a l ih => exact clears_trans (h a List.mem_cons_self s) (ih (fun b hb => h b (List.mem_cons_of_mem _ hb)) _)

theorem clears_foldl_one {α : Type} {step : State → α → State} {f : α → Fld} (l : List α)
    (h : ∀ a ∈ l, ∀ t, clears [f a] t (step t a)) (s : State) : clears (l.map f) s (l.foldl step s) := by
  rw [List.map_eq_flatMap]
  exact clears_foldl l h s

theorem clears_foldl_two {α : Type} {p q : State → α → State} {f g : α → Fld} (l : List α)
    (hp : ∀ a ∈ l, ∀ t, clears [f a] t (p t a)) (hq : ∀ a ∈ l, ∀ t, clears [g a] t (q t a)) (s : State) :
    clears (l.map f ++ l.map g) s (l.foldl (fun t a => q (p t a) a) s) := by
  have hfold := clears_foldl l (fun a ha t => clears_trans (hp a ha t) (hq a ha _)) s
  refine ⟨hfold.1, fun a i => ?_⟩
  rw [hfold.2, inFlds_append]
  simp only [inFlds, List.mem_flatMap, List.mem_map, List.mem_append, List.mem_singleton]
  grind

theorem fld_of_clears {fs : List Fld} {s t : State} (h : clears fs s t) {f : Fld} (hf : f ∈ fs) : t.fld f = 0 := by
  refine Nat.eq_of_testBit_eq fun i => ?_
  rw [State.fld, testBit_bitsOf, Nat.zero_testBit, Bool.and_eq_false_imp, decide_eq_true_eq]
  intro hi
  rw [Bool.eq_false_iff, Ne, h.2, not_and_not_right]
  exact fun _ => ⟨f, hf, rfl, by omega, by omega⟩

theorem onlyFlds_of_clears {fs : List Fld} {s t : State} (h : clears fs s t) : onlyFlds fs s t := by
  refine ⟨h.1, fun f hf => Nat.eq_of_testBit_eq fun i => ?_⟩
  rw [State.fld, State.fld, testBit_bitsOf, testBit_bitsOf]
  by_cases hi : i < f.w
  · have hout : ¬ inFlds fs f.addr (f.lo + i) := by
      rintro ⟨g, hg, ha, hlo, hhi⟩
      rcases hf g hg with hne | hbelow | habove
      · exact hne ha.symm
      · omega
      · omega
    rw [Bool.eq_iff_iff.mpr ((h.2 f.addr (f.lo + i)).trans (and_iff_left hout))]
  · simp [hi]

/-- A clear behind the gate of its register, as each row of this family has it (R265). -/
theorem gated_of_clears {fs : List Fld} {s t : State} (a : Nat) (h : clears fs s t) :
    (reaches s a = true → ∃ u, (.next (gated s a t) : Host.Outcome State Fault Refusal) = .next u ∧ (∀ f ∈ fs, u.fld f = 0) ∧
      onlyFlds fs s u) ∧
    (reaches s a = false → (.next (gated s a t) : Host.Outcome State Fault Refusal) = .next s) :=
  ⟨fun hr => ⟨t, by rw [gated_reached hr], fun _ => fld_of_clears h, onlyFlds_of_clears h⟩, fun hr => by rw [gated_unreached hr]⟩

end Sys2Proof.Machine
end

section
/-!
PROOFS. The counter and log clears of the blocks (R117, R177, R228, R288, R290, R295, R299, R341, R354, R363, R380).
-/
namespace Sys2Proof.Machine

/-! ### Registers that read 0 after a cold start -/

theorem regReset_memConflict : ∀ c < 8, regReset (Reg.MEM_CONFLICT c) = 0 := by decide +kernel

theorem regReset_pwrResid : ∀ d < 17, ∀ k < 3, regReset (Reg.PWR_RESID d k) = 0 := by decide +kernel

theorem regReset_engFlags : ∀ c : ClNo, ∀ i < 16, regReset (Reg.ENG_FLAGS c i) = 0 := by decide +kernel

theorem regReset_engEccCnt : ∀ c : ClNo, regReset (Reg.ENG_ECC_CNT c) = 0 := by decide +kernel

theorem regReset_dramConflict : regReset Reg.MEM_DRAM_CONFLICT = 0 := by decide +kernel

theorem regReset_sesCnt : regReset Reg.SES_CNT0 = 0 ∧ regReset Reg.SES_CNT1 = 0 := by decide +kernel

theorem regReset_thnTripWp : regReset Reg.THN_TRIP_WP = 0 := by decide +kernel

/-! ### Blocks -/

section
variable (s : State)

theorem clears_memCounts : clears ([Reg.MEM_DRAM_STAT_link_ce, Reg.MEM_DRAM_STAT_retry, wholeReg Reg.MEM_DRAM_CONFLICT] ++
    (List.range 8).map (fun i => wholeReg (Reg.MEM_CONFLICT i)) ++ (List.range 8).map Reg.MEM_DLY_ECC_ce) s (clearMemCounts s) :=
  have hclusters := clears_foldl_two (List.range 8) (f := fun i => wholeReg (Reg.MEM_CONFLICT i)) (g := Reg.MEM_DLY_ECC_ce)
    (fun c hc t => clears_resetReg t (regReset_memConflict c (List.mem_range.mp hc))) (fun _ _ t => clears_setFld t) s
  have hdram (t : State) := clears_trans (clears_trans (clears_setFld t (f := Reg.MEM_DRAM_STAT_link_ce))
    (clears_setFld _ (f := Reg.MEM_DRAM_STAT_retry))) (clears_resetReg _ regReset_dramConflict)
  have hall := clears_comm (clears_trans hclusters (hdram _))
  hall

theorem clears_pwrCounts : clears (Reg.PWR_SIL_STAT_overlap ::
    (List.range 17).flatMap (fun d => (List.range 3).map (fun k => wholeReg (Reg.PWR_RESID d k)))) s (clearPwrCounts s) :=
  have hdomain (d : Nat) (hd : d ∈ List.range 17) (t : State) :=
    clears_foldl_one (List.range 3) (f := fun k => wholeReg (Reg.PWR_RESID d k)) (fun k hk u =>
      clears_resetReg u (regReset_pwrResid d (List.mem_range.mp hd) k (List.mem_range.mp hk))) t
  clears_comm (clears_trans (clears_foldl (List.range 17) hdomain s) (clears_setFld _))

theorem clears_engCounts (c : ClNo) : clears [wholeReg (Reg.ENG_ECC_CNT c), Reg.ENG_SCRUB_wbq_drop c] s
    ((s.resetReg (Reg.ENG_ECC_CNT c)).setFld (Reg.ENG_SCRUB_wbq_drop c) 0) :=
  clears_trans (clears_resetReg s (regReset_engEccCnt c)) (clears_setFld _)

theorem clears_flagLog (c : ClNo) {n : Nat} (h : n ≤ 16) :
    clears ((List.range n).map (fun i => wholeReg (Reg.ENG_FLAGS c i))) s (clearFlagLog s c n) := by
  induction n with
  | zero => exact clears_refl s
  | succ n ih =>
    rw [List.range_succ, List.map_append]
    exact clears_trans (ih (by omega)) (clears_resetReg _ (regReset_engFlags c n h))

theorem clears_tdmCounts : clears ((List.range 4).map Reg.TDM_GSTAT_fs_err) s (clearTdmCounts s) :=
  clears_foldl_one _ (fun _ _ t => clears_setFld t) s

theorem clears_aesCounts : clears ((List.range 8).map Reg.AES_RX_STAT_par_err ++ (List.range 8).map Reg.AES_RX_STAT_bp_err) s
    (clearAesCounts s) :=
  clears_foldl_two _ (fun _ _ t => clears_setFld t) (fun _ _ t => clears_setFld t) s

theorem clears_qsCounts : clears (Reg.QS_STAT_fs_err :: (List.range 16).map Reg.QS_LANE_STAT_frame_err ++
    (List.range 16).map Reg.QS_LANE_STAT_seq_err) s (clearQsCounts s) :=
  have hlanes (t : State) := clears_foldl_two (List.range 16) (f := Reg.QS_LANE_STAT_frame_err) (g := Reg.QS_LANE_STAT_seq_err)
    (fun _ _ u => clears_setFld u) (fun _ _ u => clears_setFld u) t
  have hall := clears_trans (clears_setFld s (f := Reg.QS_STAT_fs_err)) (hlanes _)
  hall

theorem clears_dmaCounts : clears (Reg.DMA_GSTAT_stops :: (List.range 32).map Reg.DMA_CH_STAT_req_over) s (clearDmaCounts s) :=
  clears_trans (clears_setFld s (f := Reg.DMA_GSTAT_stops))
    (clears_foldl_one _ (fun _ _ t => clears_setFld t) _)

theorem clears_sesCounts : clears [wholeReg Reg.SES_CNT0, wholeReg Reg.SES_CNT1] s (clearSesCounts s) :=
  clears_trans (clears_resetReg s regReset_sesCnt.1) (clears_resetReg _ regReset_sesCnt.2)

theorem clears_trips : clears (wholeReg Reg.THN_TRIP_WP :: (List.range 16).map Reg.THN_TRIP_LOG1_valid) s (clearTrips s) :=
  clears_comm (clears_trans (clears_foldl_one _ (fun _ _ t => clears_setFld t) s) (clears_resetReg _ regReset_thnTripWp))

/-- The ports' counts, beside the streams' (R299). -/
theorem clears_netCounts : clears ((List.range 4).map Reg.NET_PORT_STAT_rx_drop ++ (List.range 4).map Reg.NET_PORT_STAT_crc_err)
    { s with net := { s.net with counts := [] } } (clearNetCounts s) :=
  clears_foldl_two _ (fun _ _ t => clears_setFld t) (fun _ _ t => clears_setFld t) _

end

/-- The streams' counts go with the ports'. -/
theorem clearNetCounts_net (s : State) : (clearNetCounts s).net = { s.net with counts := [] } :=
  congrArg State.net (clears_netCounts s).1

/-- A port loses its two counts and keeps its mode. -/
theorem clearNetCounts_port (s : State) (p : Fin 4) :
    (clearNetCounts s).fld (Reg.NET_PORT_STAT_rx_drop p) = 0 ∧ (clearNetCounts s).fld (Reg.NET_PORT_STAT_crc_err p) = 0 ∧
      (clearNetCounts s).fld (Reg.NET_PORT_STAT_mode p) = s.fld (Reg.NET_PORT_STAT_mode p) := by
  have hclear := clears_netCounts s
  have hp : p.val ∈ List.range 4 := List.mem_range.mpr p.isLt
  refine ⟨fld_of_clears hclear (List.mem_append_left _ (List.mem_map_of_mem hp)),
    fld_of_clears hclear (List.mem_append_right _ (List.mem_map_of_mem hp)),
    (onlyFlds_of_clears hclear).2 _ fun g hg => .inr (.inl ?_)⟩
  simp only [List.mem_append, List.mem_map] at hg
  rcases hg with ⟨n, -, rfl⟩ | ⟨n, -, rfl⟩
  · exact (by decide : 0 + 2 ≤ 16)
  · exact (by decide : 0 + 2 ≤ 8)

/-- Settles O57: every clear is a chain of field clears and resets behind the gate of its register. -/
theorem counterClearsZeroTheirFieldsAlone : Obligations.CounterClearsZeroTheirFieldsAlone := by
  unfold Obligations.CounterClearsZeroTheirFieldsAlone
  intro c s whole
  refine ⟨?_, fun h => next_congr (gated_unreached h), fun h => next_congr (gated_unreached h), fun h => ?_, fun h => ?_⟩
  · refine List.forall_mem_cons.2 ⟨gated_of_clears _ (clears_memCounts s), ?_⟩
    refine List.forall_mem_cons.2 ⟨gated_of_clears _ (clears_setFld s (f := Reg.CMT_GC_STAT_timeouts)), ?_⟩
    refine List.forall_mem_cons.2 ⟨gated_of_clears _ (clears_pwrCounts s), ?_⟩
    refine List.forall_mem_cons.2 ⟨gated_of_clears _ (clears_engCounts s c), ?_⟩
    refine List.forall_mem_cons.2 ⟨gated_of_clears _ (clears_flagLog s c le_rfl), ?_⟩
    refine List.forall_mem_cons.2 ⟨gated_of_clears _ (clears_tdmCounts s), ?_⟩
    refine List.forall_mem_cons.2 ⟨gated_of_clears _ (clears_aesCounts s), ?_⟩
    refine List.forall_mem_cons.2 ⟨gated_of_clears _ (clears_qsCounts s), ?_⟩
    refine List.forall_mem_cons.2 ⟨gated_of_clears _ (clears_dmaCounts s), ?_⟩
    refine List.forall_mem_cons.2 ⟨gated_of_clears _ (clears_sesCounts s), ?_⟩
    exact List.forall_mem_singleton.2 (gated_of_clears _ (clears_trips s))
  · refine ⟨_, next_congr (gated_reached h), ?_, rfl, fun a ha => ?_⟩
    · exact (reg_resetReg s _ _).trans (if_pos rfl)
    · exact (reg_resetReg s _ _).trans (if_neg (by simpa using ha))
  · refine ⟨_, next_congr (gated_reached h), clearNetCounts_net s, clearNetCounts_port s, ?_⟩
    have hnet := (clears_netCounts s).1
    rw [hnet]

end Sys2Proof.Machine
end

section
/-!
PROOFS. Tier-1 banks (R128 to R130) and the retraining of the DRAM (R126).
-/
namespace Sys2Proof.Machine

/-! ### Fields at fixed bits -/

/-- A field keeps its value where the bits of the written one lie above or below its own. -/
theorem fld_setFld_apart (s : State) (f g : Fld) (v : Nat) (hw : Nat.ble (f.lo + f.w) 32 = true := by rfl)
    (hd : (Nat.ble (g.lo + g.w) f.lo || Nat.ble (f.lo + f.w) g.lo) = true := by rfl) : (s.setFld f v).fld g = s.fld g := by
  simp only [Bool.or_eq_true, Nat.ble_eq] at hw hd
  exact fld_setFld_other s f g v hw (.inr hd)

/-- A field reads back a number of its width. -/
theorem fld_setFld_fits (s : State) (f : Fld) {v : Nat} (hv : v < 2 ^ f.w) (hw : Nat.ble (f.lo + f.w) 32 = true := by rfl) :
    (s.setFld f v).fld f = v := fld_setFld_of_lt (Nat.le_of_ble_eq_true hw) hv

/-! ### Words of a bank -/

/-- A read of a store that has kept the keys that meet `p` alone. -/
theorem storeGet_filter_key {α : Type} (d : α) (m : Store α) (p : Nat → Bool) (k : Nat) :
    storeGet d (m.filter (fun e => p e.1)) k = if p k then storeGet d m k else d := by
  induction m with
  | nil => simp
  | cons e r ih =>
    rw [List.filter_cons]
    by_cases hk : k = e.1
    · subst hk
      cases hp : p e.1
      · simpa [hp] using ih
      · simp [storeGet]
    · cases hp : p e.1
      · simpa [storeGet, hk] using ih
      · simpa [storeGet, hk] using ih

/-- After the zeroing of bank `b` every word of it is 0, and every other word is as it was. -/
theorem delay_zeroBank (s : State) (b a : Nat) :
    storeGet 0 (zeroBank s b).delay a = if a / 65536 = b then 0 else storeGet 0 s.delay a := by
  rw [zeroBank, storeGet_filter_key 0 s.delay (fun k => k / 65536 != b)]
  by_cases h : a / 65536 = b
  · simp [h]
  · simp [h]

theorem delay_zeroBank_inside (s : State) (b : Nat) {w : Nat} (h : w < 65536) :
    storeGet 0 (zeroBank s b).delay (65536 * b + w) = 0 := by
  rw [delay_zeroBank, if_pos (by omega)]

theorem delay_zeroBank_outside (s : State) (b : Nat) {a : Nat} (h : a / 65536 ≠ b) :
    storeGet 0 (zeroBank s b).delay a = storeGet 0 s.delay a := by
  rw [delay_zeroBank, if_neg h]

/-! ### Handover (R128, R129) -/

/-- A write of the `refused` bit does not touch what R128 asks. -/
theorem handoverOk_setFld_refused (s : State) (b x p : Nat) :
    handoverOk (s.setFld (Reg.MEM_BANK_OWNER_refused b) x) b p = handoverOk s b p := by
  have hstate := fld_setFld_apart s (Reg.MEM_BANK_OWNER_refused b) (Reg.MEM_BANK_OWNER_state b) x
  have howner := fld_setFld_apart s (Reg.MEM_BANK_OWNER_refused b) (Reg.MEM_BANK_OWNER_owner b) x
  have hpower := fld_setFld_apart s (Reg.MEM_BANK_OWNER_refused b) (Reg.MEM_BANK_PWR_state b) x
  have hfrom : bankFrom (s.setFld (Reg.MEM_BANK_OWNER_refused b) x) b = bankFrom s b := by
    unfold bankFrom; rw [hstate, howner]
  simp only [handoverOk, bankHeldBy, hfrom, hstate, hpower, State.setFld_str]

/-- A request runs on the state with `refused` as the write leaves it; whether it is accepted the state before says. -/
theorem bankOwnerWrite_go (s : State) (b : Nat) {v : Word} (h : bitsOf v 24 1 = 1) :
    ∃ u, (u = s ∨ u = s.setFld (Reg.MEM_BANK_OWNER_refused b) 0) ∧ bankOwnerWrite s b v = if handoverOk s b (bitsOf v 16 8) then
        handBank (((u.setFld (Reg.MEM_BANK_OWNER_req b) (bitsOf v 16 8)).setFld (Reg.MEM_BANK_OWNER_state b) bankClearing).setFld
          (Reg.MEM_BANK_OWNER_owner b) (bitsOf v 16 8)) b 0x100
      else u.setFld (Reg.MEM_BANK_OWNER_refused b) 1 := by
  have hgo : ¬ bitsOf v 24 1 = 0 := by omega
  by_cases hclear : bitsOf v 31 1 = 1
  · exact ⟨_, .inr rfl, by rw [bankOwnerWrite, if_pos hclear, if_neg hgo, handoverOk_setFld_refused]⟩
  · exact ⟨_, .inl rfl, by rw [bankOwnerWrite, if_neg hclear, if_neg hgo]⟩

theorem reg_handBank (s : State) (b p a : Nat) : (handBank s b p).reg a = s.reg a := rfl

theorem fld_handBank (s : State) (b p : Nat) (f : Fld) : (handBank s b p).fld f = s.fld f := rfl

/-- An access that changes nothing where it is let through changes nothing. -/
theorem gatedBy_self (s : State) (path : Path) (a : Nat) : gatedBy s path a s = s := by
  simp only [gatedBy, gated, ite_self]

/-- An accepted request (R128): the bank clears for the partition named, and no register but its own changes. -/
theorem bankOwnerWrite_accepted {s : State} {b : Nat} {v : Word} (h : bitsOf v 24 1 = 1)
    (hok : handoverOk s b (bitsOf v 16 8) = true) :
    ∃ t, bankOwnerWrite s b v = t ∧ t.fld (Reg.MEM_BANK_OWNER_state b) = 1 ∧ t.fld (Reg.MEM_BANK_OWNER_owner b) = bitsOf v 16 8 ∧
      t.fld (Reg.MEM_BANK_OWNER_req b) = bitsOf v 16 8 ∧ t = { s with regs := t.regs, str := t.str } ∧
      t.str = { s.str with handed := t.str.handed } ∧ regsKept [Reg.MEM_BANK_OWNER b] s t := by
  obtain ⟨u, hu, hwrite⟩ := bankOwnerWrite_go s b h
  have hbase : onlyRegs [Reg.MEM_BANK_OWNER b] s u := by
    rcases hu with rfl | rfl
    · exact onlyRegs_refl _ _
    · exact onlyRegs_setFld (onlyRegs_refl _ s) (List.mem_singleton.mpr rfl) 0
  have hregs := onlyRegs_setFld (onlyRegs_setFld (onlyRegs_setFld hbase (f := Reg.MEM_BANK_OWNER_req b)
    (List.mem_singleton.mpr rfl) (bitsOf v 16 8)) (f := Reg.MEM_BANK_OWNER_state b) (List.mem_singleton.mpr rfl) bankClearing)
    (f := Reg.MEM_BANK_OWNER_owner b) (List.mem_singleton.mpr rfl) (bitsOf v 16 8)
  have hp : bitsOf v 16 8 < 2 ^ 8 := bitsOf_lt v 16 8
  have hstr := congrArg State.str hregs.1
  refine ⟨_, hwrite.trans (if_pos hok), ?_, ?_, ?_, ?_, ?_, fun a ha => (reg_handBank _ b _ a).trans (hregs.2 a ha)⟩
  · exact (fld_handBank ..).trans ((fld_setFld_apart ..).trans (fld_setFld_fits _ _ (by decide : 1 < 2 ^ 2)))
  · exact (fld_handBank ..).trans (fld_setFld_fits _ _ hp)
  · exact (fld_handBank ..).trans ((fld_setFld_apart ..).trans ((fld_setFld_apart ..).trans (fld_setFld_fits _ _ hp)))
  · rw [handBank, hregs.1]
  · rw [handBank, hstr]

/-- A refused request (R128) shows in `refused` and nowhere else. -/
theorem bankOwnerWrite_refused {s : State} {b : Nat} {v : Word} (h : bitsOf v 24 1 = 1)
    (hno : handoverOk s b (bitsOf v 16 8) = false) :
    ∃ t, bankOwnerWrite s b v = t ∧ t.fld (Reg.MEM_BANK_OWNER_refused b) = 1 ∧ onlyFlds [Reg.MEM_BANK_OWNER_refused b] s t := by
  obtain ⟨u, hu, hwrite⟩ := bankOwnerWrite_go s b h
  have hbase : onlyFlds [Reg.MEM_BANK_OWNER_refused b] s u := by
    rcases hu with rfl | rfl
    · exact onlyFlds_refl _ _
    · exact onlyFlds_setFld (onlyFlds_refl _ s) (List.mem_singleton_self _) (Nat.le_of_ble_eq_true rfl) 0
  exact ⟨_, hwrite.trans (if_neg (by simp [hno])), fld_setFld_fits _ _ (by decide : 1 < 2 ^ 1),
    onlyFlds_setFld hbase (List.mem_singleton_self _) (Nat.le_of_ble_eq_true rfl) 1⟩

/-- BANK_CLEAR_DONE of a bank that is being cleared (R129). -/
theorem execBankClearDone_clearing {s : State} {b : Fin 384} (hst : s.fld (Reg.MEM_BANK_OWNER_state b) = 1)
    (hnew : s.bankOwned.contains b.val = false) :
    execBankClearDone b s = .next { zeroBank s b with bankOwned := s.bankOwned ++ [b.val] } :=
  if_pos ⟨hst, by rw [hnew]; rfl⟩

/-! ### Power (R130) -/

theorem regsKept_refl (as : List Nat) (s : State) : regsKept as s s := fun _ _ => rfl

theorem regsKept_setFld {as : List Nat} {s t : State} (h : regsKept as s t) {f : Fld} (hf : f.addr ∈ as) (v : Nat) :
    regsKept as s (t.setFld f v) := fun a ha => by
  rw [reg_setFld, if_neg fun e : a = f.addr => ha (e ▸ hf), h a ha]

section
variable (s : State) (b : Nat)

/-- The state after request `r` of MEM_BANK_PWRb is entered, with bank `b` waiting neither for ON nor for its zero fill. -/
def powerAsked (r : Nat) : State :=
  { s.setFld (Reg.MEM_BANK_PWR_req b) r with
    bankOn := s.bankOn.filter (· != b), bankFill := s.bankFill.filter (· != b) }

variable {s b} {v : Word} (hkeep : bitsOf v 8 1 = 0)
include hkeep

theorem bankPwrWrite_refused (hused : (bankHasLine s b || bankHasWindow s b) = true) (hcode : bitsOf v 0 2 = 1 ∨ bitsOf v 0 2 = 2) :
    bankPwrWrite s b v = s.setFld (Reg.MEM_BANK_PWR_refused b) 1 := by
  rcases hcode with hcode | hcode
  · simp [bankPwrWrite, hkeep, hcode, Bool.or_eq_true_iff.mp hused]
  · simp [bankPwrWrite, hkeep, hcode, Bool.or_eq_true_iff.mp hused]

theorem bankPwrWrite_off (hfree : (bankHasLine s b || bankHasWindow s b) = false) (hcode : bitsOf v 0 2 = 2) :
    bankPwrWrite s b v = (zeroBank (powerAsked s b 2) b).setFld (Reg.MEM_BANK_PWR_state b) 2 := by
  simp [bankPwrWrite, hkeep, hcode, Bool.or_eq_false_iff.mp hfree, powerAsked]

theorem bankPwrWrite_retention (hfree : (bankHasLine s b || bankHasWindow s b) = false) (hcode : bitsOf v 0 2 = 1)
    (hst : s.fld (Reg.MEM_BANK_PWR_state b) = 0) :
    bankPwrWrite s b v = (powerAsked s b 1).setFld (Reg.MEM_BANK_PWR_state b) 1 := by
  simp [bankPwrWrite, hkeep, hcode, Bool.or_eq_false_iff.mp hfree, powerAsked, hst]

theorem bankPwrWrite_on_retained (hcode : bitsOf v 0 2 = 0) (hst : s.fld (Reg.MEM_BANK_PWR_state b) = 1)
    (hnew : s.bankOn.contains b = false) :
    bankPwrWrite s b v = { s.setFld (Reg.MEM_BANK_PWR_req b) 0 with bankOn := s.bankOn ++ [b] } := by
  have hnew : b ∉ s.bankOn := by simpa using hnew
  simp [bankPwrWrite, hkeep, hcode, hst, hnew]

theorem bankPwrWrite_on_off (hcode : bitsOf v 0 2 = 0) (hst : s.fld (Reg.MEM_BANK_PWR_state b) = 2)
    (hnew : s.bankFill.contains b = false) :
    bankPwrWrite s b v = { s.setFld (Reg.MEM_BANK_PWR_req b) 0 with bankFill := s.bankFill ++ [b] } := by
  have hnew : b ∉ s.bankFill := by simpa using hnew
  simp [bankPwrWrite, hkeep, hcode, hst, hnew]

end

/-- BANK_ZERO_FILL_DONE of a bank that is being filled. -/
theorem execBankZeroFillDone_filling {s : State} {b : Fin 384} (h : s.bankFill.contains b.val = true) :
    execBankZeroFillDone b s =
      .next { zeroBank s b with bankFill := s.bankFill.filter (· != b.val), bankOn := s.bankOn ++ [b.val] } := if_pos h

section
variable (s : State) (b : Nat)

/-- Power alone of a bank's registers is written by a request. -/
theorem regsKept_powerWrite {t : State} (h : regsKept [Reg.MEM_BANK_PWR b] s t) (x : Nat) :
    regsKept [Reg.MEM_BANK_PWR b] s (t.setFld (Reg.MEM_BANK_PWR_state b) x) :=
  regsKept_setFld h (f := Reg.MEM_BANK_PWR_state b) (List.mem_singleton.mpr rfl) x

theorem regsKept_powerAsked (r : Nat) : regsKept [Reg.MEM_BANK_PWR b] s (s.setFld (Reg.MEM_BANK_PWR_req b) r) :=
  regsKept_setFld (regsKept_refl _ s) (f := Reg.MEM_BANK_PWR_req b) (List.mem_singleton.mpr rfl) r

end

/-! ### Retraining (R126) -/

section
variable (s : State) (ch : Fin 16) (warn : Bool)

/-- What a retraining writes of a channel's margin. -/
def marginWrite : State :=
  let t := s.setFld ⟨Reg.DRAM_MARGIN_WARN, ch, 1⟩ warn.toNat
  if warn then t.setFld ⟨Reg.DRAM_MARGIN_WARN, 16 + ch, 1⟩ 1 else t

theorem onlyRegs_marginWrite {as : List Nat} {t : State} (h : onlyRegs as s t) (has : Reg.DRAM_MARGIN_WARN ∈ as) :
    onlyRegs as s (marginWrite t ch warn) := by
  have hwarn := onlyRegs_setFld h (f := ⟨Reg.DRAM_MARGIN_WARN, ch, 1⟩) has warn.toNat
  unfold marginWrite
  split
  · exact onlyRegs_setFld hwarn (f := ⟨Reg.DRAM_MARGIN_WARN, 16 + ch, 1⟩) has 1
  · exact hwarn

theorem fld_marginWrite_warn : (marginWrite s ch warn).fld ⟨Reg.DRAM_MARGIN_WARN, ch, 1⟩ = warn.toNat := by
  have hch := ch.isLt
  have hwarn : (s.setFld ⟨Reg.DRAM_MARGIN_WARN, ch, 1⟩ warn.toNat).fld ⟨Reg.DRAM_MARGIN_WARN, ch, 1⟩ = warn.toNat :=
    fld_setFld_of_lt (by simp only; omega) (Bool.toNat_lt warn)
  unfold marginWrite
  split
  · rw [fld_setFld_other _ _ _ _ (by simp only; omega) (.inr (.inl (by simp only; omega))), hwarn]
  · exact hwarn

theorem fld_marginWrite_seen (h : warn = true) : (marginWrite s ch warn).fld ⟨Reg.DRAM_MARGIN_WARN, 16 + ch, 1⟩ = 1 := by
  have hch := ch.isLt
  rw [marginWrite, if_pos h]
  exact fld_setFld_of_lt (by simp only; omega) (by decide : 1 < 2 ^ 1)

theorem fld_marginWrite_other {f : Fld} (h : f.addr ≠ Reg.DRAM_MARGIN_WARN) : (marginWrite s ch warn).fld f = s.fld f := by
  have hkept := (onlyRegs_marginWrite s ch warn (onlyRegs_refl [Reg.DRAM_MARGIN_WARN] s) List.mem_cons_self).2 f.addr
  rw [State.fld, hkept (by simpa using h), State.fld]

theorem retrain_eq : retrain s ch warn = { marginWrite (s.wrapInc Reg.MEM_DRAM_STAT_retrain) ch warn with
    retrainCh := (ch.val + 1) % 16, retrainDue := s.tick + retrainPeriod s } := rfl

/-- A retraining counts, shows the channel's margin and makes the next channel due a period later. -/
theorem retrain_shows : ∃ t, retrain s ch warn = t ∧
    t.fld Reg.MEM_DRAM_STAT_retrain = (s.fld Reg.MEM_DRAM_STAT_retrain + 1) % 2 ^ Reg.MEM_DRAM_STAT_retrain.w ∧
      t.fld ⟨Reg.DRAM_MARGIN_WARN, ch.val, 1⟩ = warn.toNat ∧
      (warn = true → t.fld ⟨Reg.DRAM_MARGIN_WARN, 16 + ch.val, 1⟩ = 1) ∧ t.retrainCh = (ch.val + 1) % 16 ∧
      t.retrainDue = s.tick + (if s.fld Reg.TICK_RATE_family = 0 then 96 else 88) * 2 ^ s.fld Reg.TICK_RATE_mult ∧
      t = { s with regs := t.regs, retrainCh := t.retrainCh, retrainDue := t.retrainDue } ∧
      regsKept [Reg.MEM_DRAM_STAT, Reg.DRAM_MARGIN_WARN] s t := by
  have hcount : onlyRegs [Reg.MEM_DRAM_STAT, Reg.DRAM_MARGIN_WARN] s (s.wrapInc Reg.MEM_DRAM_STAT_retrain) :=
    onlyRegs_setFld (onlyRegs_refl _ s) (f := Reg.MEM_DRAM_STAT_retrain) List.mem_cons_self _
  have hmargin := onlyRegs_marginWrite s ch warn hcount (List.mem_cons_of_mem _ List.mem_cons_self)
  have hfld : (s.wrapInc Reg.MEM_DRAM_STAT_retrain).fld Reg.MEM_DRAM_STAT_retrain = _ := fld_setFld_self _ _ _ (by decide)
  have hwarn := fld_marginWrite_warn (s.wrapInc Reg.MEM_DRAM_STAT_retrain) ch warn
  have hseen := fld_marginWrite_seen (s.wrapInc Reg.MEM_DRAM_STAT_retrain) ch warn
  rw [← fld_marginWrite_other _ ch warn (by decide)] at hfld
  refine ⟨_, retrain_eq s ch warn, ?_⟩
  generalize marginWrite _ ch warn = u at *
  obtain ⟨hst, hkept⟩ := hmargin
  refine ⟨hfld, hwarn, hseen, rfl, rfl, ?_, hkept⟩
  rw [hst]

end

/-- Settles O20: each request is a chain of field writes of its bank's register, beside the zeroing of the bank's words. -/
theorem banksChangeOwnerAndPowerByTheirTables : Obligations.BanksChangeOwnerAndPowerByTheirTables := by
  unfold Obligations.BanksChangeOwnerAndPowerByTheirTables
  refine ⟨fun b v s => ⟨?_, ?_, ?_, ?_⟩, ?_⟩
  · rintro path hpath hreach hgo
    have hexec : execBankHandoverRequest path b v s = .next (bankOwnerWrite s b v) := by
      rcases hpath with rfl | rfl
      · exact next_congr ((gatedBy_local (by decide)).trans (gated_reached hreach))
      · exact next_congr ((gatedBy_local (by decide)).trans (gated_reached hreach))
    refine ⟨_, hexec, fun hok => ?_, fun hno => ?_⟩
    · obtain ⟨t, rfl, h⟩ := bankOwnerWrite_accepted hgo hok
      exact h
    · obtain ⟨t, rfl, h⟩ := bankOwnerWrite_refused hgo hno
      exact h
  · exact next_congr (gatedBy_self ..)
  · exact next_congr (gatedBy_self ..)
  · exact fun hst hnew => ⟨_, execBankClearDone_clearing hst hnew, rfl, fun w => delay_zeroBank_inside s b,
      fun a => delay_zeroBank_outside s b⟩
  · intro b ch warn s free othersKept up
    have hfree (h : free) : (bankHasLine s b || bankHasWindow s b) = false := by rw [h.1, h.2]; rfl
    refine ⟨fun hup h => ?_, fun hup h hst => ?_, fun hup hst hnew => ?_, fun hup hst hnew => ?_, fun hup h r hr => ?_, fun h => ?_,
      fun hon htrain hch hdue => ?_, fun h => ?_, rfl⟩
    · refine ⟨_, next_congr ((gated_reached hup).trans (bankPwrWrite_off (by decide) (hfree h) (by decide))), ?_, ?_, ?_, ?_, ?_, rfl⟩
      · exact fld_setFld_fits _ _ (by decide : 2 < 2 ^ 2)
      · exact (fld_setFld_apart ..).trans ((fld_of_regs (s := s.setFld (Reg.MEM_BANK_PWR_req b) 2) rfl _).trans
          (fld_setFld_fits _ _ (by decide : 2 < 2 ^ 2)))
      · exact fun w => delay_zeroBank_inside (powerAsked s b 2) b
      · exact fun a => delay_zeroBank_outside (powerAsked s b 2) b
      · exact regsKept_powerWrite s b (regsKept_powerAsked s b 2) 2
    · exact ⟨_, next_congr ((gated_reached hup).trans (bankPwrWrite_retention (by decide) (hfree h) (by decide) hst)),
        fld_setFld_fits _ _ (by decide : 1 < 2 ^ 2), rfl, regsKept_powerWrite s b (regsKept_powerAsked s b 1) 1⟩
    · exact ⟨_, next_congr ((gated_reached hup).trans (bankPwrWrite_on_retained (by decide) (by decide) hst hnew)),
        rfl, rfl, (fld_of_regs (s := s.setFld (Reg.MEM_BANK_PWR_req b) 0) rfl _).trans ((fld_setFld_apart ..).trans hst),
        regsKept_powerAsked s b 0⟩
    · exact ⟨_, next_congr ((gated_reached hup).trans (bankPwrWrite_on_off (by decide) (by decide) hst hnew)),
        rfl, (fld_of_regs (s := s.setFld (Reg.MEM_BANK_PWR_req b) 0) rfl _).trans ((fld_setFld_apart ..).trans hst),
        regsKept_powerAsked s b 0⟩
    · have hused : (bankHasLine s b || bankHasWindow s b) = true := by
        by_contra hno
        exact h (Bool.or_eq_false_iff.mp (Bool.eq_false_iff.mpr hno))
      have hbits : bitsOf r 8 1 = 0 ∧ (bitsOf r 0 2 = 1 ∨ bitsOf r 0 2 = 2) := by rcases hr with rfl | rfl <;> decide
      exact ⟨_, next_congr ((gated_reached hup).trans (bankPwrWrite_refused hbits.1 hused hbits.2)),
        fld_setFld_fits _ _ (by decide : 1 < 2 ^ 1), fld_setFld_apart ..,
        onlyRegs_setFld (onlyRegs_refl _ s) (f := Reg.MEM_BANK_PWR_refused b) (List.mem_singleton.mpr rfl) 1⟩
    · exact ⟨_, execBankZeroFillDone_filling h, fun w => delay_zeroBank_inside s b, fun a => delay_zeroBank_outside s b, rfl,
        by simp, rfl⟩
    · obtain ⟨t, ht, hshows⟩ := retrain_shows s ch warn
      exact ⟨t, next_congr ((if_pos ⟨hon, htrain, hch, hdue⟩).trans ht), hshows⟩
    · exact next_congr (if_neg fun ⟨_, _, hch, hdue⟩ => h.elim (fun hne => hne hch) (fun hlt => by omega))

end Sys2Proof.Machine
end

section
/-!
PROOFS. Accesses on a path (R265, R369, R370): which reach their word, and what a write through the bit-set or bit-clear aliases, of a
part of a word and of a plain register does (R133, R158, R384).
-/
namespace Sys2Proof.Machine

/-! ### Reach -/

section
variable {s : State} {path : Path} {a : Nat}

theorem pcieOn_of_accessible (h : accessible s .pcie a) : pcieOn s = true := by
  obtain ⟨hreach, hon⟩ := h
  simp [pcieOn, c1Done_of_reaches hreach, State.domOn, State.domSt, hon rfl]

theorem accessible_pcie_iff : accessible s .pcie a ↔ pcieOn s = true ∧ reaches s a = true := by
  refine ⟨fun h => ⟨pcieOn_of_accessible h, h.1⟩, fun ⟨hon, hreach⟩ => ⟨hreach, fun _ => ?_⟩⟩
  simpa [pcieOn, c1Done_of_reaches hreach, State.domOn, State.domSt] using hon

theorem accessible_local_iff (hp : path ≠ .pcie) : accessible s path a ↔ reaches s a = true :=
  ⟨fun h => h.1, fun h => ⟨h, fun e => absurd e hp⟩⟩

/-- A path that does not reach a register does not pass its gate. -/
theorem gatedBy_not_accessible {t : State} (h : ¬ accessible s path a) : gatedBy s path a t = s := by
  by_cases hp : path = .pcie
  · subst hp
    by_cases hon : s.fld (Reg.PWR_DOM_CTL_state 12) = 0
    · have hreach : reaches s a = false := Bool.eq_false_iff.mpr fun hr => h ⟨hr, fun _ => hon⟩
      rw [gatedBy_pcie_on hon, gated_unreached hreach]
    · exact gatedBy_pcie_off hon
  · rw [accessible_local_iff hp, Bool.not_eq_true] at h
    rw [gatedBy_local hp, gated_unreached h]

end

/-! ### Writes of a path -/

/-- A write of a 32-bit word on any path: over PCIe it is one to BAR0, with its byte enables. -/
def pathWrite (s : State) (path : Path) (a : Nat) (v : Word) (be : BitVec 4) (ecc : Ecc) : State :=
  match path with
  | .pcie => bar0Write s a v be ecc
  | p => ctlWrite s p a v ecc

theorem exec_ctl (s : State) (path : Path) (a v : Word) (be : BitVec 4) (ecc : Ecc) :
    exec (.registerWrite (.ctl path a v be ecc)) s = .next (pathWrite s path a.toNat v be ecc) := by
  cases path <;> rfl

/-- A bit-set or bit-clear write (R133). -/
def aliasCmd (clear : Bool) (t : AliasTarget) : Instr := if clear then .bitClearWrite t else .bitSetWrite t

/-- The first byte of the bit-set or bit-clear window of the parameter store (Table 07.1). -/
def aliasBase (clear : Bool) : Nat := if clear then 0x2000000 else 0x1800000

theorem exec_aliasCmd (s : State) (clear : Bool) (t : AliasTarget) : exec (aliasCmd clear t) s = .next (aliasWrite s clear t) := by
  cases clear <;> rfl

theorem aliasWrite_params (s : State) (clear : Bool) (path : Path) (o : BitVec 23) (v : Word) (be : BitVec 4) (ecc : Ecc) :
    aliasWrite s clear (.params path o v be ecc) = pathWrite s path (aliasBase clear + o.toNat) v be ecc := by
  cases path <;> rfl

section
variable {s : State} {path : Path} {a : Nat} {v : Word} {be : BitVec 4} {ecc : Ecc}

theorem mbxWrite_full (s : State) (path : Path) (w : Nat) (v : Word) (ecc : Ecc) :
    mbxWrite s path w v 15 ecc = mbxWrite s path w v 15 := by
  simp [mbxWrite]

theorem ctlWrite_align (s : State) (path : Path) (a : Nat) (v : Word) (ecc : Ecc) :
    ctlWrite s path (a / 4 * 4) v ecc = ctlWrite s path a v ecc := by
  simp only [ctlWrite, Nat.mul_div_cancel _ (by decide : 0 < 4)]

/-- What BAR0 does where the endpoint runs and the word is reached. -/
theorem bar0Write_accessible (h : accessible s .pcie (a / 4 * 4)) (ha : a < 0x4000000) : bar0Write s a v be ecc =
    if inMailbox (a / 4 * 4) then mbxWrite s .pcie ((a / 4 * 4 - 0x140000) / 4) v be ecc
    else if be = 15 then ctlWrite s .pcie (a / 4 * 4) v ecc
    else if inParams (a / 4 * 4) || inAlias (a / 4 * 4) || (regRow (a / 4 * 4)).isSome then s.setFld Reg.MBX_STAT_width_err 1
    else s := by
  obtain ⟨hon, hreach⟩ := accessible_pcie_iff.mp h
  have hbar : ¬ (pcieOn s = false ∨ 0x4000000 ≤ a / 4 * 4 ∨ reaches s (a / 4 * 4) = false) := by
    rw [hon, hreach]
    simp only [Bool.true_eq_false, false_or, or_false]
    omega
  rw [bar0Write, if_neg hbar]

theorem ctlWrite_mailbox (h : reaches s (a / 4 * 4) = true) (hmbx : inMailbox (a / 4 * 4) = true) :
    ctlWrite s path a v ecc = mbxWrite s path ((a / 4 * 4 - 0x140000) / 4) v 15 := by
  simp only [ctlWrite, h, Bool.true_eq_false, if_false, hmbx, if_true]

/-- A write of every byte is the same on every path that reaches the word. -/
theorem pathWrite_full (h : accessible s path (a / 4 * 4)) (ha : a < 0x4000000) :
    pathWrite s path a v 15 ecc = ctlWrite s path a v ecc := by
  cases path with
  | pcie =>
    refine (bar0Write_accessible h ha).trans ?_
    rw [if_pos rfl, ctlWrite_align]
    split
    · next hmbx => rw [ctlWrite_mailbox h.1 hmbx, mbxWrite_full]
    · rfl
  | sv0 | sv1 | lb => rfl

/-- A path that does not reach the word leaves it. -/
theorem pathWrite_not_accessible (h : ¬ accessible s path (a / 4 * 4)) : pathWrite s path a v be ecc = s := by
  cases path with
  | pcie =>
    rw [accessible_pcie_iff, Classical.not_and_iff_not_or_not, Bool.not_eq_true, Bool.not_eq_true] at h
    exact if_pos (h.imp_right .inr)
  | sv0 | sv1 | lb =>
    exact if_pos (Bool.eq_false_iff.mpr fun hreach => h ⟨hreach, nofun⟩)

/-- A PCIe write of some bytes of a register or of the parameter store is flagged alone (R370). -/
theorem pathWrite_partial (h : accessible s .pcie (a / 4 * 4)) (ha : a < 0x4000000) (hmbx : inMailbox (a / 4 * 4) = false)
    (hocc : (inParams (a / 4 * 4) || inAlias (a / 4 * 4) || (regRow (a / 4 * 4)).isSome) = true) (hbe : be ≠ 15) :
    pathWrite s .pcie a v be ecc = s.setFld Reg.MBX_STAT_width_err 1 := by
  refine (bar0Write_accessible h ha).trans ?_
  rw [hmbx, if_neg Bool.false_ne_true, if_neg hbe, if_pos hocc]

/-- A write at an address that nothing occupies is ignored (R384). -/
theorem pathWrite_unoccupied (hrow : regRow (a / 4 * 4) = none) (hmbx : inMailbox (a / 4 * 4) = false)
    (hparams : inParams (a / 4 * 4) = false) (halias : inAlias (a / 4 * 4) = false) : pathWrite s path a v be ecc = s := by
  have hfull (p : Path) : ctlWrite s p a v ecc = s := by
    simp [ctlWrite, hmbx, hparams, halias, regWrite, hrow]
  cases path with
  | pcie => simp [pathWrite, bar0Write, hmbx, hparams, halias, hrow, ctlWrite_align, hfull]
  | sv0 | sv1 | lb => exact hfull _

end

/-! ### Aliases of the parameter store (R133, R158) -/

section
variable {s : State} {path : Path} (clear : Bool) {o : BitVec 23} {v : Word} {be : BitVec 4} {ecc : Ecc}

/-- Where an address of the bit-set or bit-clear window lies. -/
theorem alias_region (o : BitVec 23) : let a := (aliasBase clear + o.toNat) / 4 * 4
    a = aliasBase clear + o.toNat / 4 * 4 ∧ aliasBase clear + o.toNat < 0x4000000 ∧ inMailbox a = false ∧ inParams a = false ∧
      inAlias a = true ∧ a % 0x800000 = o.toNat / 4 * 4 ∧ decide (0x2000000 ≤ a) = clear := by
  have ho := o.isLt
  cases clear
  · simp only [aliasBase, inMailbox, inParams, inAlias, decide_eq_false_iff_not, decide_eq_true_eq, Bool.false_eq_true, if_false]
    omega
  · simp only [aliasBase, inMailbox, inParams, inAlias, decide_eq_false_iff_not, decide_eq_true_eq, if_true]
    omega

/-- A bit-set or bit-clear write of a whole word on a path that reaches it. -/
theorem pathWrite_alias (h : accessible s path (aliasBase clear + o.toNat / 4 * 4)) :
    pathWrite s path (aliasBase clear + o.toNat) v 15 ecc = aliasParam s (o.toNat / 4 * 4) (aliasWord clear v) ecc := by
  obtain ⟨haddr, hbar, hmbx, hparams, halias, hoff, hclear⟩ := alias_region clear o
  rw [← haddr] at h
  rw [pathWrite_full h hbar]
  simp only [ctlWrite, h.1, hmbx, hparams, halias, hoff, hclear, Bool.true_eq_false, Bool.false_eq_true, if_false, if_true]

theorem pathWrite_alias_not_accessible (h : ¬ accessible s path (aliasBase clear + o.toNat / 4 * 4)) :
    pathWrite s path (aliasBase clear + o.toNat) v be ecc = s :=
  pathWrite_not_accessible ((alias_region clear o).1 ▸ h)

theorem pathWrite_alias_partial (h : accessible s .pcie (aliasBase clear + o.toNat / 4 * 4)) (hbe : be ≠ 15) :
    pathWrite s .pcie (aliasBase clear + o.toNat) v be ecc = s.setFld Reg.MBX_STAT_width_err 1 := by
  obtain ⟨haddr, hbar, hmbx, hparams, halias, -, -⟩ := alias_region clear o
  rw [← haddr] at h
  exact pathWrite_partial h hbar hmbx (by rw [halias, Bool.or_true]; rfl) hbe

/-- Below the submission buffer no write is permitted (R158). -/
theorem aliasParam_denied {o : Nat} (h : o < 0x7F8000) (f : Word → Word) : aliasParam s o f ecc = s.setFld Reg.CMT_STAT_wr_denied 1 := by
  rw [aliasParam, if_neg fun hun => by omega, paramWrite, if_pos h]

/-- In the submission buffer the word named takes its bits, and the others stay. -/
theorem aliasParam_subm {o : Nat} (h : 0x7F8000 ≤ o) (hecc : ecc ≠ .uncorrectable) (f : Word → Word) :
    aliasParam s o f ecc =
      { s with subm := storeSet 0 s.subm ((o - 0x7F8000) / 4) (f (storeGet 0 s.subm ((o - 0x7F8000) / 4))) } := by
  rw [aliasParam, if_neg fun hun => hecc hun.2, paramWrite, if_neg (by omega)]

theorem aliasParam_uncorrectable {o : Nat} (h : 0x7F8000 ≤ o) (f : Word → Word) : aliasParam s o f .uncorrectable = s :=
  if_pos ⟨h, rfl⟩

end

/-! ### MBX_CFG (R371) -/

theorem regRow_MBX_CFG :
    regRow Reg.MBX_CFG = some ⟨Reg.MBX_CFG, 4, 1, 0, [⟨0, 6, .rw⟩, ⟨8, 1, .rw⟩, ⟨16, 6, .rw⟩, ⟨24, 1, .rw⟩]⟩ := by decide +kernel

/-- The fields of MBX_CFG. -/
abbrev mbxCfgFlds : List Fld := [Reg.MBX_CFG_boot_en, Reg.MBX_CFG_boot_vec, Reg.MBX_CFG_host_en, Reg.MBX_CFG_host_vec]

/-- What a write of `v` leaves in MBX_CFG. -/
def mbxCfgWord (x v : Word) : Word :=
  putBits (putBits (putBits (putBits x 0 6 (bitsOf v 0 6)) 8 1 (bitsOf v 8 1)) 16 6 (bitsOf v 16 6)) 24 1 (bitsOf v 24 1)

theorem regWrite_MBX_CFG (s : State) (path : Path) (v : Word) :
    regWrite s path Reg.MBX_CFG v = s.setReg Reg.MBX_CFG (mbxCfgWord (s.reg Reg.MBX_CFG) v) := by
  have hblock : regWrite s path Reg.MBX_CFG v = mbxBlockWrite s path Reg.MBX_CFG v :=
    if_neg (by rw [regRow_MBX_CFG]; exact Bool.false_ne_true)
  rw [hblock, mbxBlockWrite, if_neg (by decide), if_neg (by decide), if_neg (by decide), if_neg (by decide), if_neg (by decide),
    if_neg (by decide), if_neg (by decide), plainWrite, regRow_MBX_CFG]
  rfl

theorem ctlWrite_MBX_CFG {s : State} {path : Path} {v : Word} {ecc : Ecc} (h : reaches s Reg.MBX_CFG = true) :
    ctlWrite s path Reg.MBX_CFG v ecc = s.setReg Reg.MBX_CFG (mbxCfgWord (s.reg Reg.MBX_CFG) v) := by
  have haddr : Reg.MBX_CFG / 4 * 4 = Reg.MBX_CFG := by decide
  have hregion : inMailbox Reg.MBX_CFG = false ∧ inParams Reg.MBX_CFG = false ∧ inAlias Reg.MBX_CFG = false := by decide
  obtain ⟨hmbx, hparams, halias⟩ := hregion
  simp only [ctlWrite, haddr, h, hmbx, hparams, halias, Bool.true_eq_false, Bool.false_eq_true, if_false, regWrite_MBX_CFG]

/-- A field of MBX_CFG takes its bits of the value, and bits of none of its fields stay. -/
theorem bitsOf_mbxCfgWord (x v : Word) : (∀ f ∈ mbxCfgFlds, bitsOf (mbxCfgWord x v) f.lo f.w = bitsOf v f.lo f.w) ∧
    ∀ lo w, (∀ f ∈ mbxCfgFlds, lo + w ≤ f.lo ∨ f.lo + f.w ≤ lo) → bitsOf (mbxCfgWord x v) lo w = bitsOf x lo w := by
  refine ⟨?_, fun lo w h => ?_⟩
  · simp [mbxCfgWord, bitsOf_putBits_self, bitsOf_putBits_other, Reg.MBX_CFG_boot_en, Reg.MBX_CFG_boot_vec, Reg.MBX_CFG_host_en,
      Reg.MBX_CFG_host_vec]
    exact ⟨Nat.le_of_lt_succ (bitsOf_lt v 24 1), bitsOf_lt v 16 6, Nat.le_of_lt_succ (bitsOf_lt v 8 1), bitsOf_lt v 0 6⟩
  · simp only [List.forall_mem_cons, Reg.MBX_CFG_boot_en, Reg.MBX_CFG_boot_vec, Reg.MBX_CFG_host_en, Reg.MBX_CFG_host_vec] at h
    obtain ⟨hbootEn, hbootVec, hhostEn, hhostVec, -⟩ := h
    rw [mbxCfgWord, bitsOf_putBits_other _ _ _ _ _ _ (by decide) hbootEn, bitsOf_putBits_other _ _ _ _ _ _ (by decide) hbootVec,
      bitsOf_putBits_other _ _ _ _ _ _ (by decide) hhostEn, bitsOf_putBits_other _ _ _ _ _ _ (by decide) hhostVec]

theorem mbxCfgWrite_flds (s : State) (v : Word) : let t := s.setReg Reg.MBX_CFG (mbxCfgWord (s.reg Reg.MBX_CFG) v)
    (∀ f ∈ mbxCfgFlds, t.fld f = bitsOf v f.lo f.w) ∧ onlyFlds mbxCfgFlds s t := by
  have haddr : ∀ f ∈ mbxCfgFlds, f.addr = Reg.MBX_CFG := by decide
  obtain ⟨hown, hother⟩ := bitsOf_mbxCfgWord (s.reg Reg.MBX_CFG) v
  refine ⟨fun f hf => ?_, rfl, fun f hf => ?_⟩
  · rw [State.fld, haddr f hf, reg_setReg_self, hown f hf]
  · by_cases ha : f.addr = Reg.MBX_CFG
    · rw [State.fld, State.fld, ha, reg_setReg_self]
      exact hother _ _ fun g hg => (hf g hg).resolve_left fun hne => hne (ha.trans (haddr g hg).symm)
    · exact fld_setReg_other s f _ _ ha

end Sys2Proof.Machine
end

section
/-!
PROOFS. The mailbox RAM (R375): what a read of a word gives after a write of some of its bytes.
-/
namespace Sys2Proof.Machine

/-! ### Bytes of half-words and words -/

theorem getLsbD_halfMasks : ∀ i < 16, (0xFF : Half).getLsbD i = decide (i < 8) ∧ (0xFF00 : Half).getLsbD i = decide (8 ≤ i) := by
  decide

/-- A half-word takes the enabled bytes of `v`, and its others stay. -/
theorem getLsbD_mergeHalf (x v : Half) (be : BitVec 2) {i : Nat} (hi : i < 16) :
    (mergeHalf x v be).getLsbD i = if be.getLsbD (i / 8) then v.getLsbD i else x.getLsbD i := by
  obtain ⟨hlow, hhigh⟩ := getLsbD_halfMasks i hi
  rw [mergeHalf, ← apply_ite (· &&& 0xFF00), ← apply_ite (· &&& 0xFF), BitVec.getLsbD_or, BitVec.getLsbD_and, BitVec.getLsbD_and,
    hlow, hhigh]
  by_cases h8 : i < 8
  · have hbyte : i / 8 = 0 := by omega
    rw [hbyte, decide_eq_true h8, decide_eq_false (by omega), Bool.and_false, Bool.and_true, Bool.false_or,
      apply_ite (BitVec.getLsbD · i)]
  · have hbyte : i / 8 = 1 := by omega
    rw [hbyte, decide_eq_false h8, decide_eq_true (by omega), Bool.and_false, Bool.and_true, Bool.or_false,
      apply_ite (BitVec.getLsbD · i)]

/-- A word of the mailbox RAM, bit by bit of its two half-words. -/
theorem getLsbD_mbxRead (s : State) (w : Nat) {i : Nat} (hi : i < 32) :
    (mbxRead s w).getLsbD i = if i < 16 then (s.mbxAt (2 * w)).getLsbD i else (s.mbxAt (2 * w + 1)).getLsbD (i - 16) := by
  rw [mbxRead, BitVec.getLsbD_or, BitVec.getLsbD_shiftLeft, BitVec.getLsbD_setWidth, BitVec.getLsbD_setWidth]
  by_cases h : i < 16
  · simp [h, hi]
  · have hout : (s.mbxAt (2 * w)).getLsbD i = false := BitVec.getLsbD_of_ge _ _ (by omega)
    simp [h, hi, hout]
    omega

@[simp] theorem mbxAt_setMbx (s : State) (w k : Nat) (v : Half) : (s.setMbx w v).mbxAt k = if k = w then v else s.mbxAt k :=
  storeGet_set ..

theorem mbxAt_mbxPut_low (s : State) (w : Nat) (v : Word) (be : BitVec 4) :
    (mbxPut s w v be).mbxAt (2 * w) = mergeHalf (s.mbxAt (2 * w)) (v.setWidth 16) (be.setWidth 2) := by
  have hne : 2 * w ≠ 2 * w + 1 := by omega
  rw [mbxPut, mbxAt_setMbx, if_neg hne, mbxAt_setMbx, if_pos rfl]

theorem mbxAt_mbxPut_high (s : State) (w : Nat) (v : Word) (be : BitVec 4) : (mbxPut s w v be).mbxAt (2 * w + 1) =
    mergeHalf (s.mbxAt (2 * w + 1)) ((v >>> 16).setWidth 16) ((be >>> 2).setWidth 2) := by
  have hne : 2 * w + 1 ≠ 2 * w := by omega
  rw [mbxPut, mbxAt_setMbx, if_pos rfl, mbxAt_setMbx, if_neg hne]

/-- A word read after a write of the bytes `be` of word `w`. -/
theorem getLsbD_mbxRead_mbxPut (s : State) (w : Nat) (v : Word) (be : BitVec 4) {i : Nat} (hi : i < 32) :
    (mbxRead (mbxPut s w v be) w).getLsbD i = if be.getLsbD (i / 8) then v.getLsbD i else (mbxRead s w).getLsbD i := by
  rw [getLsbD_mbxRead _ _ hi, getLsbD_mbxRead _ _ hi, mbxAt_mbxPut_low, mbxAt_mbxPut_high]
  by_cases h : i < 16
  · rw [if_pos h, if_pos h, getLsbD_mergeHalf _ _ _ h, BitVec.getLsbD_setWidth, BitVec.getLsbD_setWidth, decide_eq_true h,
      decide_eq_true (by omega), Bool.true_and, Bool.true_and]
  · rw [if_neg h, if_neg h, getLsbD_mergeHalf _ _ _ (by omega), BitVec.getLsbD_setWidth, BitVec.getLsbD_setWidth,
      decide_eq_true (by omega), decide_eq_true (by omega), Bool.true_and, Bool.true_and, BitVec.getLsbD_ushiftRight,
      BitVec.getLsbD_ushiftRight, show 2 + (i - 16) / 8 = i / 8 by omega, show 16 + (i - 16) = i by omega]

theorem mbxRead_mbxPut_other (s : State) {w i : Nat} (v : Word) (be : BitVec 4) (h : i ≠ w) :
    mbxRead (mbxPut s w v be) i = mbxRead s i := by
  have hhalves : 2 * i ≠ 2 * w ∧ 2 * i ≠ 2 * w + 1 ∧ 2 * i + 1 ≠ 2 * w ∧ 2 * i + 1 ≠ 2 * w + 1 := by omega
  simp [mbxRead, mbxPut, hhalves]

/-- A write of every byte. -/
theorem mbxRead_mbxPut_full (s : State) (w i : Nat) (v : Word) : mbxRead (mbxPut s w v 15) i = if i = w then v else mbxRead s i := by
  split
  · next h =>
    subst h
    have hall : ∀ j < 4, (15 : BitVec 4).getLsbD j = true := by decide
    refine BitVec.eq_of_getLsbD_eq fun j hj => ?_
    rw [getLsbD_mbxRead_mbxPut _ _ _ _ hj, hall _ (by omega), if_pos rfl]
  · next h => exact mbxRead_mbxPut_other s v 15 h

/-- Byte `j` of a word written with byte enables. -/
theorem byte_mbxRead_mbxPut (s : State) (w : Nat) (v : Word) (be : BitVec 4) (j : Fin 4) :
    bitsOf (mbxRead (mbxPut s w v be) w) (8 * j) 8 =
      if be.getLsbD j then bitsOf v (8 * j) 8 else bitsOf (mbxRead s w) (8 * j) 8 := by
  have hj := j.isLt
  refine Nat.eq_of_testBit_eq fun i => ?_
  rw [apply_ite (Nat.testBit · i), testBit_bitsOf, testBit_bitsOf, testBit_bitsOf]
  by_cases hi : i < 8
  · rw [getLsbD_mbxRead_mbxPut _ _ _ _ (by omega), show (8 * j.val + i) / 8 = j by omega]
    split
    · rfl
    · rfl
  · simp [hi]

/-! ### Writes and reads of the mailbox RAM -/

/-- A word that takes writes from a path: outside the service area, or while no flash request is busy, or from the supervisor (R331). -/
def mbxOpen (s : State) (path : Path) (w : Nat) : Prop := w < 0xF800 ∨ serviceBusy s = false ∨ path = .sv0 ∨ path = .sv1

theorem mbxOpen_iff (s : State) (path : Path) (w : Nat) :
    mbxOpen s path w ↔ ¬ (0xF800 ≤ w ∧ serviceBusy s = true ∧ ownerPath path = true) := by
  have hpath : path = .sv0 ∨ path = .sv1 ↔ ownerPath path = false := by cases path <;> decide
  rw [mbxOpen, hpath, not_and_or, not_and_or, Nat.not_le, Bool.not_eq_true, Bool.not_eq_true]

section
variable {s : State} {path : Path} {w : Nat} {v : Word} {be : BitVec 4} {ecc : Ecc}

theorem mbxWrite_shut (h : ¬ mbxOpen s path w) : mbxWrite s path w v be ecc = s :=
  if_pos (by rwa [mbxOpen_iff, Classical.not_not] at h)

theorem mbxWrite_open (h : mbxOpen s path w) (hecc : ¬ (ecc = .uncorrectable ∧ be ≠ 15)) :
    mbxWrite s path w v be ecc = mbxPut s w v be := by
  rw [mbxWrite, if_neg ((mbxOpen_iff s path w).mp h), if_neg hecc]

theorem mbxWrite_lost (h : mbxOpen s path w) (hecc : ecc = .uncorrectable ∧ be ≠ 15) :
    mbxWrite s path w v be ecc = mbxPut (mbxPut (freshWord s).1 w (freshWord s).2 15) w v be := by
  rw [mbxWrite, if_neg ((mbxOpen_iff s path w).mp h), if_pos hecc]

/-- A write with byte enables: the enabled bytes are those of `v`; the others and the other words stay, but where the word that it
merges into cannot be corrected its other bytes are free (R375). -/
theorem mbxWrite_bytes (h : mbxOpen s path w) : ∃ t, mbxWrite s path w v be ecc = t ∧
    t = { s with mbx := t.mbx, freeCtr := t.freeCtr } ∧ (ecc ≠ .uncorrectable → t.freeCtr = s.freeCtr) ∧
    (∀ i, i ≠ w → mbxRead t i = mbxRead s i) ∧ ∀ j : Fin 4,
      (be.getLsbD j = true → bitsOf (mbxRead t w) (8 * j) 8 = bitsOf v (8 * j) 8) ∧
      (be.getLsbD j = false → ecc ≠ .uncorrectable → bitsOf (mbxRead t w) (8 * j) 8 = bitsOf (mbxRead s w) (8 * j) 8) := by
  by_cases hecc : ecc = .uncorrectable ∧ be ≠ 15
  · have hlost := hecc.1
    refine ⟨_, mbxWrite_lost h hecc, rfl, fun hno => absurd hlost hno, fun i hi => ?_,
      fun j => ⟨fun hj => ?_, fun _ hno => absurd hlost hno⟩⟩
    · exact (mbxRead_mbxPut_other _ _ _ hi).trans (mbxRead_mbxPut_other _ _ _ hi)
    · rw [byte_mbxRead_mbxPut, if_pos hj]
  · refine ⟨_, mbxWrite_open h hecc, rfl, fun _ => rfl, fun i hi => mbxRead_mbxPut_other _ _ _ hi,
      fun j => ⟨fun hj => ?_, fun hj _ => ?_⟩⟩
    · rw [byte_mbxRead_mbxPut, if_pos hj]
    · rw [byte_mbxRead_mbxPut, hj, if_neg Bool.false_ne_true]

/-- A write of the whole word. -/
theorem mbxWrite_word (h : mbxOpen s path w) : ∃ t, mbxWrite s path w v 15 = t ∧ t = { s with mbx := t.mbx } ∧
    ∀ i, mbxRead t i = if i = w then v else mbxRead s i :=
  ⟨_, mbxWrite_open h (fun hun => hun.2 rfl), rfl, fun i => mbxRead_mbxPut_full s w i v⟩

end

end Sys2Proof.Machine
end

section
/-!
PROOFS. Aliases of the supervisor's local memory (R133, R313, R323, R326).
-/
namespace Sys2Proof.Machine

/-- The bit-set or bit-clear address of word `w` of a core's local memory (Table 14.2). -/
def svAliasAddr (clear other : Bool) (w : BitVec 19) : Nat :=
  (if clear then 0x800000 else 0x400000) + (if other then 0x100000 else 0) + w.toNat

/-- The core whose local memory such an address of core `c` names. -/
def svHolder (c : Fin 2) (other : Bool) : Nat := if other then 1 - c.val else c.val

/-- The half-megaword block of that address. -/
def svAliasBlock (clear other : Bool) : Nat := if clear then (if other then 0x12 else 0x10) else if other then 0x0A else 0x08

theorem svAliasAddr_eq (clear other : Bool) (w : BitVec 19) :
    svAliasAddr clear other w = svAliasBlock clear other * 0x80000 + w.toNat := by
  cases clear <;> cases other <;> rfl

theorem svLocal_alias (c : Fin 2) (clear other : Bool) (w : BitVec 19) :
    svLocal c (svAliasAddr clear other w) = some (svHolder c other, w.toNat, if clear then 2 else 1) := by
  have hw := w.isLt
  have hmod : svAliasAddr clear other w % 0x80000 = w.toNat := by rw [svAliasAddr_eq]; omega
  have hdiv : svAliasAddr clear other w / 0x80000 = svAliasBlock clear other := by rw [svAliasAddr_eq]; omega
  rw [svLocal, hmod, hdiv]
  cases clear <;> cases other <;> rfl

theorem svAliasAddr_lt (clear other : Bool) (w : BitVec 19) : svAliasAddr clear other w < 0xC00000 := by
  have hw := w.isLt
  have hblock : svAliasBlock clear other ≤ 0x12 := by cases clear <;> cases other <;> decide
  rw [svAliasAddr_eq]
  omega

section
variable {s : State} (c : Fin 2) (clear other : Bool) (w : BitVec 19) (h : Half)

theorem aliasWrite_svMem_stopped {ecc : Ecc} (hrun : svRuns s c = false) : aliasWrite s clear (.svMem c other w h ecc) = s :=
  if_pos hrun

theorem aliasWrite_svMem {ecc : Ecc} (hrun : svRuns s c = true) :
    aliasWrite s clear (.svMem c other w h ecc) = svStore s c (svAliasAddr clear other w) h ecc :=
  if_neg (Bool.not_eq_false _ ▸ hrun)

/-- Core `x` after the write. -/
def svAliased (x : SvCore) : SvCore :=
  let old := storeGet 0 x.mem w.toNat
  { x with mem := storeSet 0 x.mem w.toNat (if clear then old &&& ~~~h else old ||| h) }

theorem svWrite_alias_protected (hprot : w.toNat < (s.core (svHolder c other)).protWords) :
    svWrite s c (svAliasAddr clear other w) h = s.setFld Reg.SV_STAT_wp 1 := by
  simp only [svWrite, svLocal_alias, svProtected, decide_eq_true hprot, if_true]

theorem svWrite_alias (hopen : ¬ w.toNat < (s.core (svHolder c other)).protWords) (ecc : Ecc) :
    svWrite s c (svAliasAddr clear other w) h ecc =
      s.setCore (svHolder c other) (svAliased clear w h (s.core (svHolder c other))) := by
  simp only [svWrite, svLocal_alias, svProtected, decide_eq_false hopen]
  cases clear <;> rfl

theorem svStore_alias_clean :
    svStore s c (svAliasAddr clear other w) h .clean = svWrite s c (svAliasAddr clear other w) h .clean := by
  rw [svStore, if_neg (by simp), if_pos (svAliasAddr_lt clear other w), svEcc]

theorem svStore_alias_corrected : svStore s c (svAliasAddr clear other w) h .corrected =
    svWrite (s.satInc Reg.SV_STAT_ce) c (svAliasAddr clear other w) h .corrected := by
  rw [svStore, if_neg (by simp), if_pos (svAliasAddr_lt clear other w), svEcc, svLocal_alias, Option.isSome_some, if_pos rfl]

theorem svStore_alias_uncorrectable : svStore s c (svAliasAddr clear other w) h .uncorrectable =
    coreStop s c 6 (decide (w.toNat < (s.core (svHolder c other)).protWords)) := by
  rw [svStore, if_pos ⟨rfl, svAliasAddr_lt clear other w⟩, svEcc, svLocal_alias]
  rfl

/-- The word that is named takes its bits, and every other word of the core stays. -/
theorem mem_svAliased (x : SvCore) (i : Nat) : storeGet 0 (svAliased clear w h x).mem i =
    if i = w.toNat then (if clear then storeGet 0 x.mem w.toNat &&& ~~~h else storeGet 0 x.mem w.toNat ||| h)
    else storeGet 0 x.mem i := storeGet_set ..

/-- A running core that stops for cause 6 keeps every local memory. -/
theorem coreStop_running (hrun : svRuns s c = true) (hstop : s.svStop = none) (prot : Bool) :
    coreStop s c 6 prot = { s.setCore c { s.core c with on := false } with svStop := some (c.val, 6, prot) } := by
  simp only [svRuns, Bool.and_eq_true, bne_iff_ne] at hrun
  obtain ⟨⟨⟨hon, -⟩, -⟩, hstate⟩ := hrun
  exact if_pos ⟨hstate, hon, by decide, by decide, hstop⟩

end

/-- A change of one core. -/
theorem onlyCore_setCore (s : State) (n : Nat) (x : SvCore) : onlyCore n s (s.setCore n x) :=
  ⟨rfl, fun d hd => by rw [core_setCore, if_neg hd]⟩

/-- A corrected error in local memory is counted, and no core changes. -/
theorem satInc_ce (s : State) : (s.satInc Reg.SV_STAT_ce).fld Reg.SV_STAT_ce = min (2 ^ Reg.SV_STAT_ce.w - 1) (s.fld Reg.SV_STAT_ce + 1) ∧
    onlyRegs [Reg.SV_STAT] s (s.satInc Reg.SV_STAT_ce) := by
  refine ⟨fld_satInc_self _ _ (by decide), ?_⟩
  unfold State.satInc
  split
  · exact onlyRegs_setFld (onlyRegs_refl _ s) (f := Reg.SV_STAT_ce) List.mem_cons_self _
  · exact onlyRegs_refl _ s

section
variable {s : State} (c : Fin 2) (clear other : Bool) (w : BitVec 19) (h : Half)

/-- Every word of a core's memory after the write. -/
theorem mem_setCore_svAliased (s : State) (n : Nat) (x : SvCore) (i : Nat) :
    storeGet 0 ((s.setCore n (svAliased clear w h x)).core n).mem i =
      if i = w.toNat then (if clear then storeGet 0 x.mem w.toNat &&& ~~~h else storeGet 0 x.mem w.toNat ||| h)
      else storeGet 0 x.mem i := by
  rw [core_setCore, if_pos rfl, mem_svAliased]

section
variable (hrun : svRuns s c = true)
include hrun

theorem exec_alias_running (ecc : Ecc) : exec (aliasCmd clear (.svMem c other w h ecc)) s =
    .next (svStore s c (svAliasAddr clear other w) h ecc) :=
  (exec_aliasCmd ..).trans (next_congr (aliasWrite_svMem c clear other w h hrun))

theorem exec_alias_clean (hopen : ¬ w.toNat < (s.core (svHolder c other)).protWords) :
    exec (aliasCmd clear (.svMem c other w h .clean)) s =
      .next (s.setCore (svHolder c other) (svAliased clear w h (s.core (svHolder c other)))) := by
  rw [exec_alias_running c clear other w h hrun, svStore_alias_clean, svWrite_alias c clear other w h hopen]

theorem exec_alias_corrected (hopen : ¬ w.toNat < (s.core (svHolder c other)).protWords) :
    exec (aliasCmd clear (.svMem c other w h .corrected)) s = .next ((s.satInc Reg.SV_STAT_ce).setCore (svHolder c other)
      (svAliased clear w h (s.core (svHolder c other)))) := by
  obtain ⟨-, hframe, -⟩ := satInc_ce s
  have hcore : (s.satInc Reg.SV_STAT_ce).core (svHolder c other) = s.core (svHolder c other) := by rw [hframe]; rfl
  rw [exec_alias_running c clear other w h hrun, svStore_alias_corrected, svWrite_alias c clear other w h (by rwa [hcore]), hcore]

theorem exec_alias_protected (hprot : w.toNat < (s.core (svHolder c other)).protWords) :
    exec (aliasCmd clear (.svMem c other w h .clean)) s = .next (s.setFld Reg.SV_STAT_wp 1) := by
  rw [exec_alias_running c clear other w h hrun, svStore_alias_clean, svWrite_alias_protected c clear other w h hprot]

theorem exec_alias_uncorrectable (hstop : s.svStop = none) :
    exec (aliasCmd clear (.svMem c other w h .uncorrectable)) s =
      .next { s.setCore c { s.core c with on := false } with
        svStop := some (c.val, 6, decide (w.toNat < (s.core (svHolder c other)).protWords)) } := by
  rw [exec_alias_running c clear other w h hrun, svStore_alias_uncorrectable, coreStop_running c hrun hstop]

end
end

/-- A core that stops keeps its local memory. -/
theorem mem_setCore_off (s : State) (c n : Nat) : ((s.setCore c { s.core c with on := false }).core n).mem = (s.core n).mem := by
  rw [core_setCore]
  split
  · next h => rw [h]
  · rfl

end Sys2Proof.Machine
end

section
/-!
PROOFS. Reads of a path (R40, R265, R375), and the MSI-X table (R371).
-/
namespace Sys2Proof.Machine

/-! ### Reads of a path -/

theorem storeGet_showRead (s : State) (p : Path) (x : Word) : storeGet 0 (showRead s p x).readData (pathNum p) = x :=
  (storeGet_set ..).trans (if_pos rfl)

section
variable {s : State} {path : Path} {a : Nat} {ecc : Ecc}

theorem pathRead_accessible (h : accessible s path (a / 4 * 4)) (ha : a < 0x4000000) :
    pathRead s path a ecc = showRead (ctlRead s path a ecc).1 path (ctlRead s path a ecc).2 := by
  refine if_neg ?_
  rintro ⟨rfl, hoff | hbar⟩
  · rw [pcieOn_of_accessible h] at hoff
    exact absurd hoff (by decide)
  · omega

theorem ctlRead_mailbox (hreach : reaches s (a / 4 * 4) = true) (hmbx : inMailbox (a / 4 * 4) = true) (hecc : ecc ≠ .uncorrectable) :
    ctlRead s path a ecc = (s, mbxRead s ((a / 4 * 4 - 0x140000) / 4)) := by
  simp only [ctlRead, hreach, Bool.true_eq_false, if_false, hmbx, if_true, eccRead, if_neg hecc]

theorem pathRead_unreached (hp : path ≠ .pcie) (hreach : reaches s (a / 4 * 4) = false) :
    pathRead s path a ecc = showRead s path 0 := by
  rw [pathRead, if_neg fun h => hp h.1]
  simp only [ctlRead, hreach, if_true]

theorem ctlRead_TICK_COUNT0 (hreach : reaches s Reg.TICK_COUNT0 = true) :
    ctlRead s path Reg.TICK_COUNT0 .clean = (latchTick s path, BitVec.ofNat 32 s.tick) := by
  have haddr : Reg.TICK_COUNT0 / 4 * 4 = Reg.TICK_COUNT0 := by decide
  have hregion : inMailbox Reg.TICK_COUNT0 = false ∧ inParams Reg.TICK_COUNT0 = false ∧ inAlias Reg.TICK_COUNT0 = false := by decide
  obtain ⟨hmbx, hparams, halias⟩ := hregion
  simp only [ctlRead, haddr, hreach, hmbx, hparams, halias, Bool.true_eq_false, Bool.false_eq_true, if_false, regRead, if_true]

/-- A read of TICK_COUNT shows its low word and latches the upper one (R40). -/
theorem pathRead_TICK_COUNT0 (h : accessible s path Reg.TICK_COUNT0) :
    pathRead s path Reg.TICK_COUNT0 .clean = showRead (latchTick s path) path (BitVec.ofNat 32 s.tick) := by
  have haddr : Reg.TICK_COUNT0 / 4 * 4 = Reg.TICK_COUNT0 := by decide
  rw [pathRead_accessible (by rwa [haddr]) (by decide), ctlRead_TICK_COUNT0 h.1]

end

/-! ### MSI-X (R371) -/

/-- A sum of different powers of two has the bits of its exponents. -/
theorem testBit_sum_two_pow (p : Nat → Bool) (n i : Nat) :
    (((List.range n).filter p).map (2 ^ ·)).sum.testBit i = (decide (i < n) && p i) := by
  have hsorted : ((List.range n).filter p).SortedLT := (List.pairwise_lt_range.filter p).sortedLT
  have hmem := Nat.mem_bitIndices (i := i) (n := (((List.range n).filter p).map (2 ^ ·)).sum)
  rw [Nat.bitIndices_sum_map_two_pow hsorted, List.mem_filter, List.mem_range] at hmem
  rw [Bool.eq_iff_iff, ← hmem, Bool.and_eq_true, decide_eq_true_iff]

section
variable {s : State} (hon : pcieOn s = true) (vec : Fin 64)
include hon

/-- The data word of a vector's table entry. -/
theorem bar4Read_data : bar4Read s vec 2 = showRead s .pcie (storeGet (0, 0) s.msix.ents vec).2 := overPcie_on hon

/-- The pending-bit array shows vector `vec` in its word (R371). -/
theorem pbaRead_bit : ∃ x, pbaRead s (decide (32 ≤ vec.val)) = showRead s .pcie x ∧
    x.getLsbD (vec.val % 32) = s.msix.pend.contains vec.val := by
  refine ⟨_, overPcie_on hon, ?_⟩
  have hbit := (testBit_sum_two_pow (fun i => s.msix.pend.contains (i + 32 * (decide (32 ≤ vec.val)).toNat)) 32 (vec.val % 32))
  have hlt : vec.val % 32 < 32 := Nat.mod_lt _ (by decide)
  have hvec : vec.val % 32 + 32 * (decide (32 ≤ vec.val)).toNat = vec.val := by
    by_cases h : 32 ≤ vec.val
    · rw [decide_eq_true h, Bool.toNat_true]
      omega
    · rw [decide_eq_false h, Bool.toNat_false]
      omega
  rw [BitVec.getLsbD_ofNat, hbit, decide_eq_true hlt, Bool.true_and, Bool.true_and, hvec]

theorem bar4Write_data (v : Word) : bar4Write s vec 2 v = { s with msix := { s.msix with
    ents := storeSet (0, 0) s.msix.ents vec ((storeGet (0, 0) s.msix.ents vec).1, v) } } :=
  if_neg (by rw [hon]; decide)

end

/-- An unmasked vector sends its pending message and is no longer pending. -/
theorem unmask_shows (s : State) (n : Nat) : ∃ t, unmask s n = t ∧ t = { s with msix := t.msix } ∧
    storeGet false t.msix.open' n = true ∧ t.msix.sent = (if n ∈ s.msix.pend then s.msix.sent ++ [n] else s.msix.sent) ∧ n ∉ t.msix.pend ∧
    ∀ x, x ≠ n → (x ∈ t.msix.pend ↔ x ∈ s.msix.pend) := by
  have hopen : storeGet false (storeSet false s.msix.open' n true) n = true := (storeGet_set ..).trans (if_pos rfl)
  by_cases h : n ∈ s.msix.pend
  · refine ⟨_, if_pos (List.contains_iff_mem.mpr h), rfl, hopen, (if_pos h).symm, by simp, fun x hx => by simp [hx]⟩
  · exact ⟨_, if_neg (fun hc => h (List.contains_iff_mem.mp hc)), rfl, hopen, (if_neg h).symm, h, fun _ _ => Iff.rfl⟩

/-! ### Messages to the host (R371) -/

section
variable {s : State} {v : Nat}

theorem fld_domain12 : s.domOn 12 = true ↔ s.fld (Reg.PWR_DOM_CTL_state 12) = 0 := by
  simp [State.domOn, State.domSt]

theorem sendMsix_asleep (h : s.domOn 12 = false) : sendMsix s v = s :=
  if_pos fun h0 => by rw [fld_domain12.mpr h0] at h; exact absurd h (by decide)

theorem sendMsix_open (h : s.domOn 12 = true) (hopen : storeGet false s.msix.open' v = true) :
    sendMsix s v = { s with msix := { s.msix with sent := s.msix.sent ++ [v] } } := by
  rw [sendMsix, if_neg (by rw [Classical.not_not]; exact fld_domain12.mp h), if_pos hopen]

/-- A masked vector keeps its message as a pending bit. -/
theorem sendMsix_masked (h : s.domOn 12 = true) (hmask : storeGet false s.msix.open' v = false) :
    ∃ t, sendMsix s v = t ∧ v ∈ t.msix.pend ∧ t = { s with msix := { s.msix with pend := t.msix.pend } } := by
  have hon : ¬ s.fld (Reg.PWR_DOM_CTL_state 12) ≠ 0 := by rw [Classical.not_not]; exact fld_domain12.mp h
  rw [sendMsix, if_neg hon, if_neg (by rw [hmask]; decide)]
  by_cases hpend : s.msix.pend.contains v
  · exact ⟨s, if_pos hpend, List.contains_iff_mem.mp hpend, rfl⟩
  · exact ⟨_, if_neg hpend, List.mem_append_right _ List.mem_cons_self, rfl⟩

end

/-! ### Events -/

theorem evt_raiseEvent (s : State) (n : Nat) (j : Fin 2) :
    ((raiseEvent s n).core j).evt = (s.core j).evt ||| BitVec.ofNat 16 (2 ^ n) := by
  have hcore (k : Nat) (hk : k = 0 ∨ k = 1) : (raiseEvent s n).core k = (s.core k).event n := by
    rcases hk with rfl | rfl
    · rw [raiseEvent, core_setCore, if_neg (by decide), core_setCore, if_pos rfl]
    · rw [raiseEvent, core_setCore, if_pos rfl]
  rw [hcore j (by omega)]
  rfl

end Sys2Proof.Machine
end

section
/-!
PROOFS. The local bus (R373 to R375) and PTP messages of the firmware (R309).
-/
namespace Sys2Proof.Machine

/-! ### The local bus -/

/-- The pointer after an access to data_hi. -/
def lbNextPtr (s : State) : Word := if s.lb.autoinc then s.lb.ptr + 4 else s.lb.ptr

theorem lbStep_eq (s : State) : lbStep s = { s with lb := { s.lb with ptr := lbNextPtr s } } := by
  unfold lbStep lbNextPtr
  split <;> rfl

theorem mbxPut_frame (s : State) (w : Nat) (v : Word) (be : BitVec 4) :
    mbxPut s w v be = { s with mbx := (mbxPut s w v be).mbx } := rfl

section
variable {s : State} (hmbx : inMailbox s.lb.ptr.toNat = true) (hreach : reaches s s.lb.ptr.toNat = true)
include hmbx hreach

/-- A read of data_lo within the mailbox RAM latches the upper half of its word and shows the lower one. -/
theorem lbLoRead_mailbox : lbLoRead s (.alone .clean) =
    showRead { lbFresh s with lb := { (lbFresh s).lb with hold := (mbxRead s ((s.lb.ptr.toNat - 0x140000) / 4) >>> 16).setWidth 16 } } .lb
      (mbxRead s ((s.lb.ptr.toNat - 0x140000) / 4) &&& 0xFFFF) := by
  simp only [lbLoRead, hmbx, hreach, Bool.and_self, if_true, lbMbxRead]
  rfl

/-- A write of data_hi there is one write of the word, from its value and the buffer. -/
theorem lbHiWrite_mailbox (v : Half) (hopen : mbxOpen s .lb ((s.lb.ptr.toNat - 0x140000) / 4)) :
    lbHiWrite s v (.alone .clean) = lbStep { mbxPut (lbFresh s) ((s.lb.ptr.toNat - 0x140000) / 4)
        ((v.setWidth 32 <<< 16) ||| s.lb.wbuf.setWidth 32) 15 with lb := { (lbFresh s).lb with wbuf := 0 } } := by
  have hwrite := mbxWrite_open (s := lbFresh s) (v := (v.setWidth 32 <<< 16) ||| s.lb.wbuf.setWidth 32) (be := 15) (ecc := .clean) hopen
    (fun h => h.2 rfl)
  have hreach' : reaches (lbFresh s) s.lb.ptr.toNat = true := hreach
  simp only [lbHiWrite, hmbx, hreach', Bool.and_self, if_true, lbMbxWrite, lbMeets, meetEcc, hwrite]
  rfl

/-- A read of data_lo, and of data_hi behind it. -/
theorem execLbDataLoRead_mailbox (hc1 : c1Done s = true) {w : Nat} (hw : w = (s.lb.ptr.toNat - 0x140000) / 4) :
    (∃ t, execLbDataLoRead false (.alone .clean) s = .next t ∧ t.lb.hold = (mbxRead s w >>> 16).setWidth 16 ∧
      storeGet 0 t.readData 3 = mbxRead s w &&& 0xFFFF ∧ t = { s with lb := t.lb, readData := t.readData }) ∧
    ∃ t, execLbDataLoRead true (.alone .clean) s = .next t ∧ storeGet 0 t.readData 3 = mbxRead s w >>> 16 ∧
      t.lb.ptr = lbNextPtr s := by
  have hon : ¬ c1Done s = false := by rw [hc1]; decide
  have hhalf (x : Word) : ((x >>> 16).setWidth 16).setWidth 32 = x >>> 16 := by
    refine BitVec.eq_of_getLsbD_eq fun i hi => ?_
    rw [BitVec.getLsbD_setWidth, BitVec.getLsbD_setWidth, BitVec.getLsbD_ushiftRight]
    by_cases h : i < 16
    · simp [h, hi]
    · simp [h, show 32 ≤ 16 + i by omega]
  subst hw
  refine ⟨⟨_, next_congr ((if_neg hon).trans ((if_neg Bool.false_ne_true).trans (lbLoRead_mailbox hmbx hreach))), rfl,
    storeGet_showRead _ .lb _, rfl⟩, ?_⟩
  refine ⟨_, next_congr ((if_neg hon).trans ((if_pos rfl).trans (congrArg lbHiRead (lbLoRead_mailbox hmbx hreach)))), ?_, ?_⟩
  · rw [lbHiRead, lbStep_eq]
    exact (storeGet_showRead _ .lb _).trans (hhalf _)
  · rw [lbHiRead, lbStep_eq]
    rfl

/-- A write of data_hi. -/
theorem execLbDataHiWrite_mailbox (hc1 : c1Done s = true) {w : Nat} (hw : w = (s.lb.ptr.toNat - 0x140000) / 4)
    (hopen : mbxOpen s .lb w) (v : Half) : ∃ t, execLbDataHiWrite v (.alone .clean) s = .next t ∧
      t = { s with lb := t.lb, mbx := t.mbx } ∧
      t.lb = { s.lb with wbuf := 0, busy := false, ptr := lbNextPtr s } ∧
      ∀ i, mbxRead t i = if i = w then (v.setWidth 32 <<< 16) ||| s.lb.wbuf.setWidth 32 else mbxRead s i := by
  have hon : ¬ c1Done s = false := by rw [hc1]; decide
  subst hw
  have hstep := lbHiWrite_mailbox hmbx hreach v hopen
  have hread (i : Nat) := mbxRead_mbxPut_full (lbFresh s) ((s.lb.ptr.toNat - 0x140000) / 4) i
    ((v.setWidth 32 <<< 16) ||| s.lb.wbuf.setWidth 32)
  have hframe := mbxPut_frame (lbFresh s) ((s.lb.ptr.toNat - 0x140000) / 4) ((v.setWidth 32 <<< 16) ||| s.lb.wbuf.setWidth 32) 15
  generalize mbxPut (lbFresh s) _ _ 15 = u at hstep hread hframe
  refine ⟨_, next_congr ((if_neg hon).trans (hstep.trans (lbStep_eq _))), ?_, rfl, hread⟩
  rw [hframe]
  rfl

end

theorem lbRead_id (s : State) (m : LbMeet) : lbRead s 0 m = showRead (lbFresh s) .lb 0x7720 := by
  rw [lbRead, if_neg (fun h => by omega), if_neg (by decide), if_neg (by decide), if_neg (by decide)]
  rfl

theorem lbRead_boot (s : State) (m : LbMeet) :
    lbRead s 1 m = showRead (lbFresh s) .lb (BitVec.ofNat 32 (s.boot % 8 + 8 * (lbInt s).toNat)) := by
  rw [lbRead, if_neg (fun h => by omega), if_neg (by decide), if_neg (by decide), if_neg (by decide)]
  rfl

/-- A write of the interrupt mask. -/
theorem lbWrite_mask {s : State} (hc1 : c1Done s = true) (v : Half) (m : LbMeet) :
    lbWrite s 8 v m = { s with lb := { s.lb with busy := false, mask := v.setWidth 4 } } := by
  rw [lbWrite, if_neg (by rw [hc1]; decide), if_neg (by decide), if_neg (by decide), if_neg (by decide)]
  rfl

theorem boot_of_lbRead (s : State) : bitsOf (BitVec.ofNat 32 (s.boot % 8 + 8 * (lbInt s).toNat)) 0 3 = s.boot % 8 := by
  have hint : (lbInt s).toNat < 2 := Bool.toNat_lt _
  simp only [bitsOf, BitVec.toNat_ofNat]
  omega

/-! ### PTP messages (R309) -/

/-- A port that sends the firmware's PTP messages: the supervisor runs, the network is on, the link is up, no fault holds messages
back and ptp_en is set. -/
def ptpSends (s : State) (m : PtpSend) : Prop :=
  s.fld Reg.SV_STAT_state ≠ 2 ∧ s.domOn 11 = true ∧ s.fld (Reg.NET_PORT_STAT_link m.port) ≠ 0 ∧
    sendsNothing s = false ∧ (s.portCfg 0 m.port).any (fun r => r.byte 2 / 4 % 2 == 1) = true

theorem ptpSends_iff (s : State) (m : PtpSend) : ptpSends s m ↔
    ¬ (s.fld Reg.SV_STAT_state = 2 ∨ s.domOn 11 = false ∨ s.fld (Reg.NET_PORT_STAT_link m.port) = 0 ∨ sendsNothing s = true ∨
      (s.portCfg 0 m.port).any (fun r => r.byte 2 / 4 % 2 == 1) = false) := by
  simp only [ptpSends, not_or, Bool.not_eq_true, Bool.not_eq_false, ne_eq]

/-- The frame that leaves the port. -/
def ptpFrame (s : State) (m : PtpSend) : PtpFrame :=
  let t := ptpStamp s m.port m.ns.toNat
  { port := m.port, src := ownIp s m.port, dst := m.dst, udp := if m.event then 319 else 320, dscp := portDscp s m.port true,
    vlan := portVlan s m.port, body := ptpBody m.body t m.step, noSum := m.step != .twoStep,
    stamp := if m.event then some t else none }

theorem ptpSend_silent {s : State} {m : PtpSend} (h : ¬ ptpSends s m) : ptpSend s m = s :=
  if_pos (by rwa [ptpSends_iff, Classical.not_not] at h)

theorem ptpSend_sends {s : State} {m : PtpSend} (h : ptpSends s m) :
    let q : State := { s with net := { s.net with ptpOut := s.net.ptpOut ++ [ptpFrame s m] } }
    ptpSend s m = if m.event then raiseEvent q 3 else q :=
  if_neg ((ptpSends_iff s m).mp h)

/-- A message that is sent: one frame more on its port, and for an event message event 3 of Table 14.8 in both cores. -/
theorem ptpSend_shows {s : State} {m : PtpSend} (h : ptpSends s m) : ∃ t, ptpSend s m = t ∧
    t = { s with net := { s.net with ptpOut := s.net.ptpOut ++ [ptpFrame s m] }, sv := t.sv } ∧
    (ptpFrame s m).port = m.port.val ∧ (ptpFrame s m).dst = m.dst ∧ (ptpFrame s m).udp = (if m.event then 319 else 320) ∧
    (ptpFrame s m).noSum = (m.step != .twoStep) ∧ (m.step = .twoStep → (ptpFrame s m).body = m.body) ∧
    (ptpFrame s m).stamp = (if m.event then some (ptpStamp s m.port m.ns.toNat) else none) ∧
    (m.event = true → ∀ j : Fin 2, (t.core j).evt = (s.core j).evt ||| 8) ∧ (m.event = false → t.sv = s.sv) := by
  have hbody (hstep : m.step = .twoStep) : (ptpFrame s m).body = m.body := by rw [ptpFrame, hstep]; rfl
  cases hev : m.event
  · exact ⟨_, (ptpSend_sends h).trans (if_neg (by simp [hev])), rfl, rfl, rfl, by rw [ptpFrame, hev], rfl, hbody, by rw [ptpFrame, hev],
      nofun, fun _ => rfl⟩
  · exact ⟨_, (ptpSend_sends h).trans (if_pos hev), rfl, rfl, rfl, by rw [ptpFrame, hev], rfl, hbody, by rw [ptpFrame, hev],
      fun _ j => evt_raiseEvent _ 3 j, nofun⟩

end Sys2Proof.Machine
end

section
/-!
PROOFS. Accesses that have no row of their own, the aliases, the doorbells and the local bus together (R132, R133, R370 to R375, R384).
-/
namespace Sys2Proof.Machine

/-! ### Writes -/

section
variable {s : State} {path : Path} {v : Word} {be : BitVec 4}

/-- MBX_CFG at its byte address. -/
theorem exec_ctl_MBX_CFG (h : accessible s path Reg.MBX_CFG) : exec (.registerWrite (.ctl path 0x100008 v 15)) s =
    .next (s.setReg Reg.MBX_CFG (mbxCfgWord (s.reg Reg.MBX_CFG) v)) := by
  have haddr : (0x100008 : Word).toNat = Reg.MBX_CFG := by decide
  rw [exec_ctl, haddr, pathWrite_full h (by decide), ctlWrite_MBX_CFG h.1]

theorem exec_ctl_MBX_CFG_partial (h : accessible s .pcie Reg.MBX_CFG) (hbe : be ≠ 15) :
    exec (.registerWrite (.ctl .pcie 0x100008 v be)) s = .next (s.setFld Reg.MBX_STAT_width_err 1) := by
  have haddr : (0x100008 : Word).toNat = Reg.MBX_CFG := by decide
  have hword : Reg.MBX_CFG / 4 * 4 = Reg.MBX_CFG := by decide
  have hocc : (regRow (Reg.MBX_CFG / 4 * 4)).isSome = true := by rw [hword, regRow_MBX_CFG]; rfl
  rw [exec_ctl, haddr, pathWrite_partial h (by decide) (by decide) (Bool.or_eq_true_iff.mpr (.inr hocc)) hbe]

theorem exec_alias_params (clear : Bool) (o : BitVec 23) (ecc : Ecc) : exec (aliasCmd clear (.params path o v be ecc)) s =
    .next (pathWrite s path (aliasBase clear + o.toNat) v be ecc) :=
  (exec_aliasCmd s clear _).trans (next_congr (aliasWrite_params ..))

/-- The submission buffer after a bit-set or bit-clear write of it. -/
theorem exec_alias_subm {clear : Bool} {o : BitVec 23} {ecc : Ecc} (h : accessible s path (aliasBase clear + o.toNat / 4 * 4))
    (ho : 0x7F8000 ≤ o.toNat) (hecc : ecc ≠ .uncorrectable) :
    ∃ t, exec (aliasCmd clear (.params path o v 15 ecc)) s = .next t ∧ t = { s with subm := t.subm } ∧
      ∀ i, storeGet 0 t.subm i = if i = (o.toNat - 0x7F8000) / 4 then aliasWord clear v (storeGet 0 s.subm ((o.toNat - 0x7F8000) / 4))
        else storeGet 0 s.subm i := by
  have hword : (o.toNat / 4 * 4 - 0x7F8000) / 4 = (o.toNat - 0x7F8000) / 4 := by omega
  refine ⟨_, (exec_alias_params ..).trans (next_congr ((pathWrite_alias clear h).trans (aliasParam_subm (by omega) hecc _))), rfl,
    fun i => ?_⟩
  rw [hword]
  exact storeGet_set ..

end

theorem lt_bar0_of_inMailbox {a : Nat} (h : inMailbox (a / 4 * 4) = true) : a < 0x4000000 := by
  simp only [inMailbox, decide_eq_true_eq] at h
  omega

section
variable {s : State} {path : Path} {a v : Word} {be : BitVec 4} {ecc : Ecc} (h : accessible s path (a.toNat / 4 * 4))
  (hmbx : inMailbox (a.toNat / 4 * 4) = true)
include h hmbx

theorem pathWrite_mailbox_full : pathWrite s path a.toNat v 15 ecc = mbxWrite s path ((a.toNat / 4 * 4 - 0x140000) / 4) v 15 :=
  (pathWrite_full h (lt_bar0_of_inMailbox hmbx)).trans (ctlWrite_mailbox h.1 hmbx)

theorem pathWrite_mailbox_shut (hshut : ¬ mbxOpen s path ((a.toNat / 4 * 4 - 0x140000) / 4)) : pathWrite s path a.toNat v be ecc = s := by
  cases path with
  | pcie => exact (bar0Write_accessible h (lt_bar0_of_inMailbox hmbx)).trans ((if_pos hmbx).trans (mbxWrite_shut hshut))
  | sv0 | sv1 | lb => exact (ctlWrite_mailbox h.1 hmbx).trans (mbxWrite_shut hshut)

end

theorem pathWrite_mailbox_pcie {s : State} {a v : Word} {be : BitVec 4} {ecc : Ecc} (h : accessible s .pcie (a.toNat / 4 * 4))
    (hmbx : inMailbox (a.toNat / 4 * 4) = true) :
    pathWrite s .pcie a.toNat v be ecc = mbxWrite s .pcie ((a.toNat / 4 * 4 - 0x140000) / 4) v be ecc :=
  (bar0Write_accessible h (lt_bar0_of_inMailbox hmbx)).trans (if_pos hmbx)

/-! ### Doorbells of the mailbox (R371, R375) -/

/-- A doorbell to the supervisor raises the event of its path in both cores. -/
theorem exec_mbxDbSv_host {s : State} {q : Path × Half} (hq : q ∈ [(Path.pcie, (2 : Half)), (.lb, 4)])
    (h : accessible s q.1 Reg.MBX_DB) : ∃ t, exec (.mbxDbSv q.1) s = .next t ∧ t = { s with sv := t.sv } ∧
      ∀ j : Fin 2, (t.core j).evt = (s.core j).evt ||| q.2 := by
  simp only [List.mem_cons, List.not_mem_nil, or_false] at hq
  rcases hq with rfl | rfl
  · exact ⟨_, next_congr (gatedBy_accessible h), rfl, evt_raiseEvent s 1⟩
  · exact ⟨_, next_congr (gatedBy_accessible h), rfl, evt_raiseEvent s 2⟩

theorem exec_mbxDbSv_supervisor {s : State} {p : Path} (hp : p ∈ [Path.sv0, .sv1]) : exec (.mbxDbSv p) s = .next s := by
  simp only [List.mem_cons, List.not_mem_nil, or_false] at hp
  rcases hp with rfl | rfl
  · exact next_congr (gatedBy_self ..)
  · exact next_congr (gatedBy_self ..)

theorem exec_mbxDbHost_quiet {s : State} (h : s.fld Reg.MBX_CFG_host_en = 0 ∨ s.domOn 12 = false ∨ reaches s Reg.MBX_DB = false) :
    exec .mbxDbHost s = .next s := by
  have hquiet (hoff : s.fld Reg.MBX_CFG_host_en = 0 ∨ s.domOn 12 = false) : dbHost s = s := by
    unfold dbHost
    split
    · next hen => exact sendMsix_asleep (hoff.resolve_left (by omega))
    · rfl
  by_cases hr : reaches s Reg.MBX_DB = true
  · exact next_congr ((gated_reached hr).trans (hquiet (h.imp_right fun h => h.resolve_right (by simp [hr]))))
  · exact next_congr (gated_unreached (Bool.eq_false_iff.mpr hr))

theorem exec_mbxDbHost_enabled {s : State} (hr : reaches s Reg.MBX_DB = true) (hen : s.fld Reg.MBX_CFG_host_en = 1) :
    exec .mbxDbHost s = .next (sendMsix s (s.fld Reg.MBX_CFG_host_vec)) :=
  next_congr ((gated_reached hr).trans (if_pos hen))

/-- Settles O56: each access is its path's reach followed by one write or read of the word, register or table entry named. -/
theorem aliasAndRegisterWritesReachExactlyTheirWord : Obligations.AliasAndRegisterWritesReachExactlyTheirWord := by
  unfold Obligations.AliasAndRegisterWritesReachExactlyTheirWord
  intro clear other hi c w o h v a be path vec ecc m s cmd holder old mem sv guarded base way at' sub k put mw ptr takes pm bus shows
    sends step
  have flagged (f : Fld) (hw : f.lo + f.w ≤ 32) (h1 : 1 < 2 ^ f.w) : (s.setFld f 1).fld f = 1 ∧ onlyFlds [f] s (s.setFld f 1) :=
    ⟨fld_setFld_of_lt hw h1, onlyFlds_setFld (onlyFlds_refl _ s) List.mem_cons_self hw 1⟩
  have hword (hal : ptr % 4 = 0) : pm = (ptr - 0x140000) / 4 := by
    have hptr : ptr / 4 * 4 = ptr := by omega
    exact congrArg (fun n => (n - 0x140000) / 4) hptr
  refine ⟨?_, ?_, ?_, ?_, ?_, ?_, ?_, ?_, ?_, ?_, ?_, ?_, ?_, ?_, ?_, ?_, ?_, ?_, ?_, ?_, ?_, ?_, ?_, ?_, ?_, ?_, ?_, ?_, ?_, ?_, ?_, ?_,
    ?_, ?_, ?_, ?_, ?_, ?_, ?_, ?_⟩
  -- Supervisor memory (R133, R326)
  · intro hrun hopen
    obtain ⟨hcount, hst, hkept⟩ := satInc_ce s
    refine ⟨⟨_, exec_alias_clean c clear other w h hrun hopen, mem_setCore_svAliased clear w h s _ _, onlyCore_setCore _ _ _⟩,
      _, exec_alias_corrected c clear other w h hrun hopen, mem_setCore_svAliased clear w h _ _ _, ?_, ?_, ?_⟩
    · rw [State.setCore, hst]
    · exact fun i hi => (reg_setCore ..).trans (hkept i hi)
    · exact (fld_setCore ..).trans hcount
  · exact fun hrun hprot => ⟨_, exec_alias_protected c clear other w h hrun hprot, flagged _ (by decide) (by decide)⟩
  · exact fun hrun hstop => ⟨_, exec_alias_uncorrectable c clear other w h hrun hstop, rfl, mem_setCore_off s c _, rfl⟩
  · exact fun hrun => (exec_aliasCmd ..).trans (next_congr (aliasWrite_svMem_stopped c clear other w h hrun))
  -- The parameter store (R133, R158)
  · exact fun hway ho hecc => exec_alias_subm hway ho hecc
  · exact fun hway ho =>
      (exec_alias_params ..).trans (next_congr ((pathWrite_alias clear hway).trans (aliasParam_uncorrectable (by omega) _)))
  · exact fun hway ho => ⟨_, (exec_alias_params ..).trans (next_congr ((pathWrite_alias clear hway).trans
      (aliasParam_denied (by omega) _))), flagged _ (by decide) (by decide)⟩
  · exact fun hway => (exec_alias_params ..).trans (next_congr (pathWrite_alias_not_accessible clear hway))
  -- Registers (R370, R371, R384)
  · exact fun hway => (exec_ctl ..).trans (next_congr (pathWrite_not_accessible hway))
  · rintro hway rfl hbe
    exact ⟨_, (exec_alias_params ..).trans (next_congr (pathWrite_alias_partial clear hway hbe)), flagged _ (by decide) (by decide)⟩
  · exact fun hway => ⟨_, exec_ctl_MBX_CFG hway, mbxCfgWrite_flds s v⟩
  · rintro hway rfl hbe
    exact ⟨_, exec_ctl_MBX_CFG_partial hway hbe, flagged _ (by decide) (by decide)⟩
  · exact fun hrow hmbx hparams halias => (exec_ctl ..).trans (next_congr (pathWrite_unoccupied hrow hmbx hparams halias))
  -- The mailbox RAM (R331, R375)
  · exact fun hway hmbx hshut => (exec_ctl ..).trans (next_congr (pathWrite_mailbox_shut hway hmbx hshut))
  · rintro hway hmbx hopen rfl
    obtain ⟨t, ht, hbytes⟩ := mbxWrite_bytes (v := v) (be := be) (ecc := ecc) hopen
    exact ⟨t, (exec_ctl ..).trans (next_congr ((pathWrite_mailbox_pcie hway hmbx).trans ht)), hbytes⟩
  -- Reads (R40, R265, R371, R375)
  · intro hway hmbx hecc
    refine ⟨_, next_congr ((pathRead_accessible hway (lt_bar0_of_inMailbox hmbx)).trans ?_), rfl, storeGet_showRead s path _⟩
    rw [ctlRead_mailbox hway.1 hmbx hecc]
  · exact fun hp hreach => ⟨_, next_congr (pathRead_unreached hp hreach), rfl, storeGet_showRead s path 0⟩
  · exact fun hway => ⟨_, next_congr (pathRead_TICK_COUNT0 hway), storeGet_showRead _ path _, (storeGet_set ..).trans (if_pos rfl)⟩
  · exact fun hon => ⟨_, next_congr (bar4Read_data hon vec), rfl, storeGet_showRead s .pcie _⟩
  · intro hon
    obtain ⟨x, hread, hbit⟩ := pbaRead_bit hon vec
    refine ⟨_, next_congr hread, rfl, ?_⟩
    rw [storeGet_showRead, hbit]
  · exact fun hoff => ⟨next_congr (overPcie_off hoff), next_congr (overPcie_off hoff), next_congr (overPcie_off hoff),
      next_congr (if_pos hoff), next_congr (overPcie_off hoff)⟩
  · exact ⟨_, next_congr (lbRead_id s _), storeGet_showRead _ .lb _⟩
  · refine ⟨_, next_congr (lbRead_boot s _), ?_⟩
    rw [storeGet_showRead, boot_of_lbRead]
  -- PTP messages (R309)
  · intro hs
    obtain ⟨t, ht, hshows⟩ := ptpSend_shows hs
    exact ⟨t, ptpFrame s m, next_congr ht, hshows⟩
  · exact fun hs => next_congr (ptpSend_silent hs)
  -- Whole words of the mailbox RAM, over any path and over the local bus (R373, R375)
  · intro hway hmbx hopen
    obtain ⟨t, ht, hwritten⟩ := mbxWrite_word (v := v) hopen
    exact ⟨t, (exec_ctl ..).trans (next_congr ((pathWrite_mailbox_full hway hmbx).trans ht)), hwritten⟩
  · rintro ⟨hc1, hmbx, hreach, hal, hopen⟩
    obtain ⟨hlow, hhigh⟩ := execLbDataLoRead_mailbox hmbx hreach hc1 (hword hal)
    exact ⟨hlow, hhigh, execLbDataHiWrite_mailbox hmbx hreach hc1 (hword hal) (hopen.imp_right .inl) h⟩
  · exact fun hc1 => next_congr (if_neg (by rw [hc1]; decide))
  · exact fun hc1 => ⟨next_congr (if_pos hc1), next_congr (if_pos hc1), next_congr (if_pos hc1)⟩
  -- Doorbells and the MSI-X table (R371, R374)
  · exact fun hway q hq hp => exec_mbxDbSv_host hq (hp ▸ hway)
  · exact fun hr hen h12 hopen => (exec_mbxDbHost_enabled hr hen).trans (next_congr (sendMsix_open h12 hopen))
  · exact exec_mbxDbHost_quiet
  · intro hr hen h12 hmask
    obtain ⟨t, ht, hpend⟩ := sendMsix_masked h12 hmask
    exact ⟨t, (exec_mbxDbHost_enabled hr hen).trans (next_congr ht), hpend⟩
  · exact fun p hp => exec_mbxDbSv_supervisor hp
  · exact fun hway => next_congr (gatedBy_not_accessible hway)
  · exact fun hc1 => next_congr (lbWrite_mask hc1 h _)
  · exact fun hon => next_congr (bar4Write_data hon vec v)
  · exact fun hr => next_congr (gated_reached hr)
  · exact fun hr => next_congr (gated_unreached hr)
  · intro hon
    obtain ⟨t, ht, hshows⟩ := unmask_shows s vec
    exact ⟨t, next_congr ((overPcie_on hon).trans ht), hshows⟩

end Sys2Proof.Machine
end

section
/-!
PROOFS. One field write made in two states that differ in some fields alone: they differ in the same fields afterwards.
-/
namespace Sys2Proof.Machine

theorem apart_comm {f g : Fld} (h : f.apart g) : g.apart f := by unfold Fld.apart at *; omega

/-- Two states agree on a field that they agree on bit by bit. -/
theorem fld_eq_of_bits {s t : State} {g : Fld}
    (h : ∀ i < g.w, (t.reg g.addr).getLsbD (g.lo + i) = (s.reg g.addr).getLsbD (g.lo + i)) : t.fld g = s.fld g := by
  refine Nat.eq_of_testBit_eq fun i => ?_
  rw [State.fld, State.fld, testBit_bitsOf, testBit_bitsOf]
  by_cases hi : i < g.w
  case pos => rw [h i hi]
  case neg => simp [hi]

theorem getLsbD_eq_of_fld {s t : State} {a i : Nat} (h : t.fld ⟨a, i, 1⟩ = s.fld ⟨a, i, 1⟩) :
    (t.reg a).getLsbD i = (s.reg a).getLsbD i := by
  rw [getLsbD_eq_testBit_bitsOf, getLsbD_eq_testBit_bitsOf]
  exact congrArg (·.testBit 0) h

/-- A bit of a field that was written is that of the number written. -/
theorem getLsbD_setFld (s : State) {f : Fld} (v : Nat) {i : Nat} (hw : f.lo + f.w ≤ 32) (hi : i < f.w) :
    ((s.setFld f v).reg f.addr).getLsbD (f.lo + i) = v.testBit i := by
  have hself := congrArg (·.testBit i) (fld_setFld_self s f v hw)
  simpa [State.fld, testBit_bitsOf, hi] using hself

theorem onlyFlds_setFld_both {fs : List Fld} {s t : State} (h : onlyFlds fs s t) {f : Fld} (hw : f.lo + f.w ≤ 32) (v : Nat) :
    onlyFlds fs (s.setFld f v) (t.setFld f v) := by
  obtain ⟨hst, hkept⟩ := h
  refine ⟨?_, fun g hg => fld_eq_of_bits fun i hi => ?_⟩
  · obtain ⟨r, rfl⟩ : ∃ r, t = { s with regs := r } := ⟨_, hst⟩
    rfl
  · by_cases hin : g.addr = f.addr ∧ f.lo ≤ g.lo + i ∧ g.lo + i < f.lo + f.w
    case pos =>
      obtain ⟨haddr, hlo, hhi⟩ := hin
      have hplace : g.lo + i = f.lo + (g.lo + i - f.lo) := by omega
      rw [haddr, hplace, getLsbD_setFld t v hw (by omega), getLsbD_setFld s v hw (by omega)]
    case neg =>
      have hout : g.addr ≠ f.addr ∨ g.lo + i + 1 ≤ f.lo ∨ f.lo + f.w ≤ g.lo + i := by omega
      refine getLsbD_eq_of_fld ?_
      rw [fld_setFld_other _ _ _ _ hw hout, fld_setFld_other _ _ _ _ hw hout]
      refine hkept _ fun q hq => ?_
      have := hg q hq
      simp only [Fld.apart] at this ⊢
      omega

/-- A counter outside the fields in which two states differ counts alike in both. -/
theorem onlyFlds_wrapInc_both {fs : List Fld} {s t : State} (h : onlyFlds fs s t) {f : Fld} (hw : f.lo + f.w ≤ 32)
    (hf : ∀ g ∈ fs, f.apart g) : onlyFlds fs (s.wrapInc f) (t.wrapInc f) := by
  rw [State.wrapInc, State.wrapInc, h.2 f hf]
  exact onlyFlds_setFld_both h hw _

end Sys2Proof.Machine
end

section
/-!
PROOFS. The tick guard in its three parts (R134, R143): what it does before the findings count (`guardOpen`), the findings, and
what it does behind them (`guardClose`).
-/
namespace Sys2Proof.Machine

/-! ### The sixteen engines of a cluster -/

/-- `f` of every engine of cluster `c`. -/
def mapEngines (f : Engine → Engine) (c : Nat) (s : State) : State :=
  (List.range 16).foldl (fun s i => s.setEngine (16 * c + i) (f (s.engine (16 * c + i)))) s

theorem engine_foldl_setEngine (f : Engine → Engine) (c n : Nat) (s : State) (e : Nat) :
    ((List.range n).foldl (fun s i => s.setEngine (16 * c + i) (f (s.engine (16 * c + i)))) s).engine e =
      if 16 * c ≤ e ∧ e < 16 * c + n then f (s.engine e) else s.engine e := by
  induction n generalizing e with
  | zero => rw [if_neg (by omega)]; rfl
  | succ n ih =>
    rw [List.range_succ, List.foldl_append, List.foldl_cons, List.foldl_nil, engine_setEngine, ih, ih]
    by_cases he : e = 16 * c + n
    · rw [if_pos he, if_neg (by omega), if_pos (by omega), he]
    · rw [if_neg he]
      exact if_congr (by omega) rfl rfl

theorem engine_mapEngines (f : Engine → Engine) (c : Nat) (s : State) (e : Nat) :
    (mapEngines f c s).engine e = if e / 16 = c then f (s.engine e) else s.engine e :=
  (engine_foldl_setEngine f c 16 s e).trans (if_congr (by omega) rfl rfl)

/-- Engines alone change. -/
theorem mapEngines_frame (f : Engine → Engine) (c : Nat) (s : State) : ∃ m, mapEngines f c s = { s with eng := m } := by
  unfold mapEngines
  induction List.range 16 generalizing s with
  | nil => exact ⟨s.eng, rfl⟩
  | cons i l ih => exact ih (s.setEngine _ _)

theorem onlyFlds_mapEngines_both {fs : List Fld} {s t : State} (h : onlyFlds fs s t) (f : Engine → Engine) (c : Nat) :
    onlyFlds fs (mapEngines f c s) (mapEngines f c t) := by
  unfold mapEngines
  induction List.range 16 generalizing s t with
  | nil => exact h
  | cons i l ih =>
    refine ih ?_
    obtain ⟨hst, hkept⟩ := h
    obtain ⟨r, rfl⟩ : ∃ r, t = { s with regs := r } := ⟨_, hst⟩
    exact ⟨rfl, hkept⟩

section
variable (f : Engine → Engine) (c : Nat) (s : State)

@[simp] theorem reg_mapEngines (a : Nat) : (mapEngines f c s).reg a = s.reg a := by
  obtain ⟨m, h⟩ := mapEngines_frame f c s
  rw [h]; rfl

@[simp] theorem fld_mapEngines (g : Fld) : (mapEngines f c s).fld g = s.fld g := by
  obtain ⟨m, h⟩ := mapEngines_frame f c s
  rw [h]; rfl

end

/-! ### Before the findings -/

/-- An engine with its program window over and what was in flight completed (R79, R101). -/
def Engine.closed (x : Engine) : Engine := { x.drain with win := false, used := [] }

/-- What the guard of cluster `c` does before its findings count: the windows end, FLG is logged and gain cells sample. -/
def guardOpen (c : Nat) (s : State) : State := watchCells (logFlags (mapEngines Engine.closed c s) c) c

/-- What is in flight completes in the datapath alone. -/
theorem datapathOnly_drain (x : Engine) : datapathOnly x x.drain := by
  have hdone {y : Engine} (h : datapathOnly x y) : datapathOnly x y.complete := datapathOnly_trans h (datapathOnly_complete y)
  exact hdone (hdone (hdone (hdone (hdone (hdone (hdone (hdone (datapathOnly_refl x))))))))

/-- A closed engine's scrubber stands where it stood, with the same addresses queued. -/
theorem scrubber_closed (x : Engine) : x.closed.wbq = x.wbq ∧ x.closed.scrubData = x.scrubData ∧ x.closed.scrubProg = x.scrubProg := by
  have h := datapathOnly_drain x
  unfold Engine.closed
  rw [h]
  exact ⟨rfl, rfl, rfl⟩

theorem watchCells_frame (s : State) (c : Nat) : ∃ m, watchCells s c = { s with cells := m } := by
  unfold watchCells
  induction s.str.cells.filter (fun r => r.watchEngine / 16 == c) generalizing s with
  | nil => exact ⟨s.cells, rfl⟩
  | cons r l ih => exact ih (s.setCell _ _)

/-- FLG of the first `n` engines of cluster `c` is ORed into their logs. -/
def logFlagsOf (n c : Nat) (s : State) : State :=
  (List.range n).foldl (fun s i =>
    s.setReg (Reg.ENG_FLAGS c i) (s.reg (Reg.ENG_FLAGS c i) ||| (s.engine (16 * c + i)).flg.setWidth 32)) s

theorem logFlagsOf_succ (n c : Nat) (s : State) : logFlagsOf (n + 1) c s =
    (logFlagsOf n c s).setReg (Reg.ENG_FLAGS c n) ((logFlagsOf n c s).reg (Reg.ENG_FLAGS c n) |||
      ((logFlagsOf n c s).engine (16 * c + n)).flg.setWidth 32) := by
  rw [logFlagsOf, List.range_succ, List.foldl_append]; rfl

theorem logFlagsOf_frame (n c : Nat) (s : State) : ∃ m, logFlagsOf n c s = { s with regs := m } := by
  induction n with
  | zero => exact ⟨s.regs, rfl⟩
  | succ n ih =>
    obtain ⟨m, hm⟩ := ih
    rw [logFlagsOf_succ, hm]
    exact ⟨_, rfl⟩

@[simp] theorem engine_logFlagsOf (n c : Nat) (s : State) (e : Nat) : (logFlagsOf n c s).engine e = s.engine e := by
  induction n with
  | zero => rfl
  | succ n ih => rw [logFlagsOf_succ, engine_setReg, ih]

theorem reg_logFlagsOf_other {n c a : Nat} (s : State) (h : ∀ i < n, a ≠ Reg.ENG_FLAGS c i) :
    (logFlagsOf n c s).reg a = s.reg a := by
  induction n with
  | zero => rfl
  | succ n ih => rw [logFlagsOf_succ, reg_setReg, if_neg (h n (by omega)), ih fun i hi => h i (by omega)]

theorem reg_logFlagsOf {n c i : Nat} (s : State) (hi : i < n) : (logFlagsOf n c s).reg (Reg.ENG_FLAGS c i) =
    s.reg (Reg.ENG_FLAGS c i) ||| (s.engine (16 * c + i)).flg.setWidth 32 := by
  induction n with
  | zero => exact absurd hi (Nat.not_lt_zero i)
  | succ n ih =>
    have hne (j : Nat) (h : j ≠ n) : Reg.ENG_FLAGS c j ≠ Reg.ENG_FLAGS c n := by simp only [Reg.ENG_FLAGS]; omega
    rw [logFlagsOf_succ, reg_setReg, engine_logFlagsOf]
    by_cases hin : i = n
    · rw [hin, if_pos rfl, reg_logFlagsOf_other s fun j hj => (hne j (by omega)).symm]
    · rw [if_neg (hne i hin), ih (by omega)]

/-! ### Reads of the parts of a state beside the one that was put -/

section
variable (s : State)

theorem reg_putCells (m : Store Cell) (a : Nat) : ({ s with cells := m } : State).reg a = s.reg a := Eq.trans rfl rfl
theorem engine_putCells (m : Store Cell) (e : Nat) : ({ s with cells := m } : State).engine e = s.engine e := Eq.trans rfl rfl

end

section
variable (c : Nat) (s : State)

theorem guardOpen_frame : ∃ m r g, guardOpen c s = { s with eng := m, regs := r, cells := g } := by
  have hlog : logFlags (mapEngines Engine.closed c s) c = logFlagsOf 16 c (mapEngines Engine.closed c s) := rfl
  obtain ⟨g, hg⟩ := watchCells_frame (logFlagsOf 16 c (mapEngines Engine.closed c s)) c
  obtain ⟨r, hr⟩ := logFlagsOf_frame 16 c (mapEngines Engine.closed c s)
  obtain ⟨m, hm⟩ := mapEngines_frame Engine.closed c s
  rw [guardOpen, hlog, hg, hr, hm]
  exact ⟨m, r, g, rfl⟩

theorem reg_guardOpen (a : Nat) : (guardOpen c s).reg a = (logFlagsOf 16 c (mapEngines Engine.closed c s)).reg a := by
  obtain ⟨g, hg⟩ := watchCells_frame (logFlags (mapEngines Engine.closed c s) c) c
  rw [guardOpen, hg, reg_putCells]; rfl

@[simp] theorem engine_guardOpen (e : Nat) :
    (guardOpen c s).engine e = if e / 16 = c then (s.engine e).closed else s.engine e := by
  obtain ⟨g, hg⟩ := watchCells_frame (logFlags (mapEngines Engine.closed c s) c) c
  rw [guardOpen, hg, engine_putCells, ← engine_mapEngines]
  exact engine_logFlagsOf 16 c _ e

/-- FLG is ORed into ENG_FLAGS (R71). -/
theorem flags_guardOpen {i : Nat} (hi : i < 16) : (guardOpen c s).reg (Reg.ENG_FLAGS c i) =
    s.reg (Reg.ENG_FLAGS c i) ||| (s.engine (16 * c + i)).drain.flg.setWidth 32 := by
  have hin : (16 * c + i) / 16 = c := by omega
  rw [reg_guardOpen, reg_logFlagsOf _ hi, reg_mapEngines, engine_mapEngines, if_pos hin, Engine.closed]

theorem reg_guardOpen_other {a : Nat} (h : ∀ i < 16, a ≠ Reg.ENG_FLAGS c i) : (guardOpen c s).reg a = s.reg a := by
  rw [reg_guardOpen, reg_logFlagsOf_other _ h, reg_mapEngines]

theorem fld_guardOpen_other {g : Fld} (h : ∀ i < 16, g.addr ≠ Reg.ENG_FLAGS c i) : (guardOpen c s).fld g = s.fld g := by
  rw [State.fld, reg_guardOpen_other c s h, State.fld]

end

/-! ### Behind the findings -/

/-- A pass over a memory has ended, where `p`, and its counter counts it. -/
def countPass (p : Prop) [Decidable p] (f : Fld) (s : State) : State := if p then s.wrapInc f else s

/-- The counters of the passes of cluster `c`'s scrubbers. -/
def passFlds (c : Nat) : List Fld := [Reg.ENG_SCRUB_data_pass c, Reg.ENG_SCRUB_prog_pass c, Reg.MEM_DLY_ECC_pass c]

/-- The passes of the engines' scrubbers that have ended, all of a cluster standing alike. -/
def enginePasses (c : Nat) (s : State) : State :=
  let x := s.engine (16 * c)
  countPass (x.scrubProg = 0) (Reg.ENG_SCRUB_prog_pass c) (countPass (x.scrubData = 0) (Reg.ENG_SCRUB_data_pass c) s)

/-- The row at which the scrubber of cluster `c`'s delay banks goes on. -/
def nextRow (s : State) (c : Nat) : Nat := (storeGet 0 s.scrubRow c + 64) % 16384

/-- The scrubber of the delay banks moves on to its next row. -/
def moveRow (c : Nat) (s : State) : State := { s with scrubRow := storeSet 0 s.scrubRow c (nextRow s c) }

/-- The scrubbers of cluster `c` move on and count their passes (R67, R119). -/
def moveScrubbers (c : Nat) (s : State) : State :=
  let t := enginePasses c (mapEngines Engine.scrub c s)
  countPass (nextRow t c = 0) (Reg.MEM_DLY_ECC_pass c) (moveRow c t)

/-- The swap of the windows of cluster `c` has happened in this tick (R134). -/
def markSwapped (c : Nat) (s : State) : State := { s with guarded := s.guarded ++ [c] }

/-- What the guard of cluster `c` does behind its findings: the scrubbers move on and the windows swap. -/
def guardClose (c : Nat) (s : State) : State := markSwapped c (mapEngines Engine.swap c (moveScrubbers c s))

/-- A guard is its opening, its findings in their order, and its close (R143). -/
theorem guardCluster_eq (c : Nat) (finds : List Finding) (s : State) :
    guardCluster s c finds = guardClose c (finds.foldl (fun t f => applyFinding t c f) (guardOpen c s)) := rfl

section
variable {c : Nat} {s : State}

theorem countPass_frame (p : Prop) [Decidable p] (f : Fld) (s : State) : ∃ r, countPass p f s = { s with regs := r } := by
  unfold countPass
  split
  · exact ⟨_, rfl⟩
  · exact ⟨s.regs, rfl⟩

@[simp] theorem engine_countPass (p : Prop) [Decidable p] (f : Fld) (s : State) (e : Nat) :
    (countPass p f s).engine e = s.engine e := by
  unfold countPass
  split
  · exact engine_setFld ..
  · rfl

theorem fld_countPass (p : Prop) [Decidable p] {f g : Fld} (s : State) (hw : f.lo + f.w ≤ 32) (h : g.apart f) :
    (countPass p f s).fld g = s.fld g := by
  unfold countPass
  split
  · refine fld_setFld_other _ _ _ _ hw ?_
    unfold Fld.apart at h
    omega
  · rfl

theorem onlyFlds_countPass_both {fs : List Fld} {s t : State} (h : onlyFlds fs s t) (p : Prop) [Decidable p] {f : Fld}
    (hw : f.lo + f.w ≤ 32) (hf : ∀ g ∈ fs, f.apart g) : onlyFlds fs (countPass p f s) (countPass p f t) := by
  unfold countPass
  split
  · exact onlyFlds_wrapInc_both h hw hf
  · exact h

theorem passFlds_le {f : Fld} (h : f ∈ passFlds c) : f.lo + f.w ≤ 32 := by
  simp only [passFlds, List.mem_cons, List.not_mem_nil, or_false] at h
  rcases h with rfl | rfl | rfl
  · simp [Reg.ENG_SCRUB_data_pass]
  · simp [Reg.ENG_SCRUB_prog_pass]
  · simp [Reg.MEM_DLY_ECC_pass]

@[simp] theorem engine_moveRow (e : Nat) : (moveRow c s).engine e = s.engine e := Eq.trans rfl rfl
@[simp] theorem fld_moveRow (g : Fld) : (moveRow c s).fld g = s.fld g := Eq.trans rfl rfl
@[simp] theorem engine_markSwapped (e : Nat) : (markSwapped c s).engine e = s.engine e := Eq.trans rfl rfl
@[simp] theorem fld_markSwapped (g : Fld) : (markSwapped c s).fld g = s.fld g := Eq.trans rfl rfl

/-- An engine of the cluster scrubs and swaps; the others stay. -/
theorem engine_guardClose (e : Nat) :
    (guardClose c s).engine e = if e / 16 = c then (s.engine e).scrub.swap else s.engine e := by
  rw [guardClose, engine_markSwapped, engine_mapEngines, moveScrubbers, engine_countPass, engine_moveRow, enginePasses,
    engine_countPass, engine_countPass, engine_mapEngines]
  split <;> rfl

theorem fld_guardClose {g : Fld} (h : ∀ f ∈ passFlds c, g.apart f) : (guardClose c s).fld g = s.fld g := by
  have hin {f : Fld} (hf : f ∈ passFlds c) (p : Prop) [Decidable p] (t : State) : (countPass p f t).fld g = t.fld g :=
    fld_countPass p t (passFlds_le hf) (h f hf)
  rw [guardClose, fld_markSwapped, fld_mapEngines, moveScrubbers, hin (by simp [passFlds]), fld_moveRow, enginePasses,
    hin (by simp [passFlds]), hin (by simp [passFlds]), fld_mapEngines]

/-- A register outside the counters of passes is read as its field of full width. -/
theorem reg_guardClose {a : Nat} (h : ∀ f ∈ passFlds c, f.addr ≠ a) : (guardClose c s).reg a = s.reg a := by
  refine BitVec.eq_of_getLsbD_eq fun i _ => getLsbD_eq_of_fld (fld_guardClose fun f hf => .inl (h f hf).symm)

theorem swapped_guardClose : swapped (guardClose c s) c = true := by
  simp [swapped, guardClose, markSwapped]

theorem guardClose_frame : ∃ m r q g, guardClose c s = { s with eng := m, regs := r, scrubRow := q, guarded := g } := by
  have hpasses (t : State) : ∃ r, enginePasses c t = { t with regs := r } := by
    obtain ⟨r, hr⟩ := countPass_frame ((t.engine (16 * c)).scrubData = 0) (Reg.ENG_SCRUB_data_pass c) t
    obtain ⟨r', hr'⟩ := countPass_frame ((t.engine (16 * c)).scrubProg = 0) (Reg.ENG_SCRUB_prog_pass c) { t with regs := r }
    exact ⟨r', by rw [enginePasses, hr, hr']⟩
  obtain ⟨m, hm⟩ := mapEngines_frame Engine.scrub c s
  obtain ⟨r, hr⟩ := hpasses { s with eng := m }
  obtain ⟨q, hq⟩ : ∃ q, moveRow c { s with eng := m, regs := r } = { s with eng := m, regs := r, scrubRow := q } := ⟨_, rfl⟩
  obtain ⟨r', hr'⟩ := countPass_frame (nextRow { s with eng := m, regs := r } c = 0) (Reg.MEM_DLY_ECC_pass c)
    { s with eng := m, regs := r, scrubRow := q }
  obtain ⟨m', hm'⟩ := mapEngines_frame Engine.swap c { s with eng := m, regs := r', scrubRow := q }
  refine ⟨m', r', q, s.guarded ++ [c], ?_⟩
  rw [guardClose, moveScrubbers, hm, hr, hq, hr', hm']
  rfl

/-- Two states that differ in some fields alone differ in them alone when the guard has closed. -/
theorem onlyFlds_guardClose_both {fs : List Fld} {s t : State} (h : onlyFlds fs s t)
    (hf : ∀ f ∈ passFlds c, ∀ g ∈ fs, f.apart g) : onlyFlds fs (guardClose c s) (guardClose c t) := by
  have hcount {u v : State} (huv : onlyFlds fs u v) (p : Prop) [Decidable p] {f : Fld} (hp : f ∈ passFlds c) :
      onlyFlds fs (countPass p f u) (countPass p f v) := onlyFlds_countPass_both huv p (passFlds_le hp) (hf f hp)
  have hput {u v : State} (huv : onlyFlds fs u v) : onlyFlds fs (moveRow c u) (moveRow c v) ∧
      onlyFlds fs (markSwapped c u) (markSwapped c v) ∧ nextRow v c = nextRow u c := by
    obtain ⟨hst, hkept⟩ := huv
    obtain ⟨r, rfl⟩ : ∃ r, v = { u with regs := r } := ⟨_, hst⟩
    exact ⟨⟨rfl, hkept⟩, ⟨rfl, hkept⟩, rfl⟩
  have hpasses {u v : State} (huv : onlyFlds fs u v) : onlyFlds fs (enginePasses c u) (enginePasses c v) := by
    rw [enginePasses, enginePasses, engine_of_onlyFlds huv]
    exact hcount (hcount huv _ (by simp [passFlds])) _ (by simp [passFlds])
  have hmoved := hpasses (onlyFlds_mapEngines_both h Engine.scrub c)
  obtain ⟨hrow, -, hnext⟩ := hput hmoved
  refine (hput (onlyFlds_mapEngines_both (?_ : onlyFlds fs (moveScrubbers c s) (moveScrubbers c t)) Engine.swap c)).2.1
  rw [moveScrubbers, moveScrubbers, hnext]
  exact hcount hrow _ (by simp [passFlds])

end

end Sys2Proof.Machine
end

section
/-!
PROOFS. A fault of cause 8 (Table 11.6) takes PL_ALIVE and leaves the cluster blocks alone: what its entry does beside (R243, R268 to
R271) lies outside them.
-/
namespace Sys2Proof.Machine

/-- TWN_STAT.alive, and the registers of the cluster blocks (from 0x200000 on). -/
def State.marks (s : State) : Nat × (Nat → Word) := (s.fld Reg.TWN_STAT_alive, fun a => if 0x200000 ≤ a then s.reg a else 0)

/-- A field outside the cluster blocks and TWN_STAT.alive. -/
abbrev Fld.aside (f : Fld) : Prop := f.lo + f.w ≤ 32 ∧ f.addr < 0x200000 ∧
  (Reg.TWN_STAT_alive.addr ≠ f.addr ∨ Reg.TWN_STAT_alive.lo + Reg.TWN_STAT_alive.w ≤ f.lo ∨ f.lo + f.w ≤ Reg.TWN_STAT_alive.lo)

theorem marks_eq_iff {s t : State} : t.marks = s.marks ↔
    t.fld Reg.TWN_STAT_alive = s.fld Reg.TWN_STAT_alive ∧ ∀ a, 0x200000 ≤ a → t.reg a = s.reg a := by
  simp only [State.marks, Prod.mk.injEq, funext_iff]
  refine and_congr_right fun _ => forall_congr' fun a => ?_
  by_cases ha : 0x200000 ≤ a <;> simp [ha]

theorem marks_of_regs {s t : State} (h : t.regs = s.regs) : t.marks = s.marks :=
  marks_eq_iff.2 ⟨fld_of_regs h _, fun a _ => by rw [State.reg, h, State.reg]⟩

theorem marks_setReg {s : State} {a : Nat} (h : a < 0x200000 ∧ Reg.TWN_STAT ≠ a) (v : Word) : (s.setReg a v).marks = s.marks := by
  obtain ⟨hlt, hne⟩ := h
  refine marks_eq_iff.2 ⟨fld_setReg_other _ _ _ _ hne, fun b hb => ?_⟩
  rw [reg_setReg, if_neg (by omega)]

theorem marks_setFld {s : State} {f : Fld} (h : f.aside) (v : Nat) : (s.setFld f v).marks = s.marks := by
  obtain ⟨hw, hlt, hout⟩ := h
  refine marks_eq_iff.2 ⟨fld_setFld_other _ _ _ _ hw hout, fun b hb => ?_⟩
  rw [reg_setFld, if_neg (by omega)]

theorem marks_resetReg {s : State} {a : Nat} (h : a < 0x200000 ∧ Reg.TWN_STAT ≠ a) : (s.resetReg a).marks = s.marks := by
  obtain ⟨hlt, hne⟩ := h
  have hreg {b : Nat} (hb : b ≠ a) : (s.resetReg a).reg b = s.reg b := by rw [reg_resetReg, if_neg hb]
  exact marks_eq_iff.2 ⟨congrArg (bitsOf · _ _) (hreg hne), fun b hb => hreg (by omega)⟩

theorem marks_ite {s a b : State} (c : Prop) [Decidable c] (ha : a.marks = s.marks) (hb : b.marks = s.marks) :
    (if c then a else b).marks = s.marks := by split <;> assumption

theorem marks_foldl {α : Type} (f : State → α → State) (l : List α) (s : State) (h : ∀ a ∈ l, ∀ s, (f s a).marks = s.marks) :
    (l.foldl f s).marks = s.marks := by
  induction l generalizing s with
  | nil => rfl
  | cons a l ih =>
    rw [List.foldl_cons, ih _ fun b hb => h b (List.mem_cons_of_mem a hb), h a List.mem_cons_self]

/-! ### The record of a cause (R270, R283) -/

section
variable (s : State)

@[simp] theorem marks_setNv (n : BootNv) : (s.setNv n).marks = s.marks := marks_of_regs (Eq.trans rfl rfl)
@[simp] theorem marks_raiseEvent (n : Nat) : (raiseEvent s n).marks = s.marks := marks_of_regs (Eq.trans rfl rfl)
@[simp] theorem marks_setDom (d : Nat) (x : Dom) : (s.setDom d x).marks = s.marks := marks_of_regs (Eq.trans rfl rfl)
@[simp] theorem marks_floatOutputs : (floatOutputs s).marks = s.marks := marks_of_regs (Eq.trans rfl rfl)
@[simp] theorem marks_sessionsStop : (sessionsStop s).marks = s.marks := marks_of_regs (Eq.trans rfl rfl)

@[simp] theorem marks_setBoot (b : Nat) : (s.setBoot b).marks = s.marks :=
  (marks_of_regs (regs_setBoot s b)).trans (marks_setFld (by decide) b)

@[simp] theorem marks_pushEntry (e : BootEntry) : (pushEntry s e).marks = s.marks := marks_setNv s _

@[simp] theorem marks_showCause (e : BootEntry) : (showCause s e).marks = s.marks := by
  rw [showCause, marks_setFld (by decide), marks_setFld (by decide), marks_setFld (by decide), marks_setFld (by decide)]

@[simp] theorem marks_showRecs (i : Nat) (l : List BootEntry) : (showRecs s i l).marks = s.marks := by
  induction l generalizing s i with
  | nil => rfl
  | cons e l ih =>
    unfold showRecs
    split
    · next hi =>
      rw [ih, marks_setReg (by simp only [Reg.BOOT_REC1, Reg.TWN_STAT]; omega),
        marks_setReg (by simp only [Reg.BOOT_REC0, Reg.TWN_STAT]; omega)]
    · rfl

@[simp] theorem marks_recordCause (cause : Nat) (counted : Bool) (detail : Nat) :
    (recordCause s cause counted detail).marks = s.marks := by
  unfold recordCause
  split
  · rfl
  · rw [marks_showRecs, marks_showCause, marks_setNv, marks_pushEntry]

@[simp] theorem marks_countFailure (cause detail : Nat) : (countFailure s cause detail).marks = s.marks := by
  rw [countFailure, marks_setFld (by decide), marks_setNv, marks_recordCause, marks_floatOutputs]

end

/-! ### Domains going off (R270, R279, R354) -/

/-- Every domain's target is a state of Table 16.1. -/
def State.aimed (s : State) : Prop := ∀ d, (s.dom d).target < 8

theorem aimed_of_doms {s t : State} (h : t.doms = s.doms) (hs : s.aimed) : t.aimed := by
  intro d
  rw [State.dom, h]
  exact hs d

section
variable {s : State} {d : Nat}

theorem marks_passDom (hd : d < 17) (h : s.aimed) : (passDom s d).marks = s.marks := by
  have hr := residState_lt (h d)
  have hput (t : State) (n : Nat) : (t.putClk t.clk n).marks = t.marks := marks_of_regs rfl
  rw [passDom_eq]
  refine marks_ite _ rfl ?_
  rw [hput, countedDom, State.satAdd]
  exact marks_setFld (by simp only [Fld.aside, Reg.PWR_RESID_ms, Reg.PWR_RESID, Reg.TWN_STAT_alive, Reg.TWN_STAT]; omega) _

theorem marks_setDomSt (hd : d < 17) (h : s.aimed) (v : Nat) : (s.setDomSt d v).marks = s.marks := by
  unfold State.setDomSt
  refine marks_ite _ rfl ?_
  rw [marks_raiseEvent, marks_setFld, marks_passDom hd h]
  simp only [Fld.aside, Reg.PWR_DOM_CTL_state, Reg.PWR_DOM_CTL, Reg.TWN_STAT_alive, Reg.TWN_STAT]; omega

theorem doms_setDomSt (v : Nat) : (s.setDomSt d v).doms = s.doms := by
  have hevent (t : State) (n : Nat) : (raiseEvent t n).doms = t.doms := rfl
  unfold State.setDomSt
  split
  · rfl
  · rw [hevent, State.setFld_doms, doms_passDom]

theorem aimed_setDom (h : s.aimed) (d : Nat) : (s.setDom d {}).aimed := by
  intro e
  simp only [State.dom, State.setDom, storeGet_set]
  split
  · decide
  · exact h e

theorem marks_domsOff (h : s.aimed) (keep : List Nat) : (domsOff s keep).marks = s.marks ∧ (domsOff s keep).aimed := by
  suffices hall : ∀ (l : List Nat) (t : State), (∀ d ∈ l, d < 17) → t.aimed →
      let u := l.foldl (fun s d => if keep.contains d then s else (s.setDomSt d domStOff).setDom d {}) t
      u.marks = t.marks ∧ u.aimed from hall _ s (fun d hd => List.mem_range.1 hd) h
  intro l
  induction l with
  | nil => exact fun t _ ht => ⟨rfl, ht⟩
  | cons d l ih =>
    intro t hl ht
    have hd := hl d List.mem_cons_self
    obtain ⟨hmarks, haimed⟩ : (if keep.contains d then t else (t.setDomSt d domStOff).setDom d {}).marks = t.marks ∧
        (if keep.contains d then t else (t.setDomSt d domStOff).setDom d {}).aimed := by
      split
      · exact ⟨rfl, ht⟩
      · exact ⟨(marks_setDom ..).trans (marks_setDomSt hd ht _), aimed_setDom (aimed_of_doms (doms_setDomSt _) ht) d⟩
    obtain ⟨hrest, haim⟩ := ih _ (fun e he => hl e (List.mem_cons_of_mem d he)) haimed
    exact ⟨hrest.trans hmarks, haim⟩

end

/-! ### Where a fault leads (R243, R270, R271, R279) -/

section
variable {s : State}

/-- PL_ALIVE that is down stays down. -/
theorem marks_alive_down (h : s.fld Reg.TWN_STAT_alive = 0) : (s.setFld Reg.TWN_STAT_alive 0).marks = s.marks := by
  refine marks_eq_iff.2 ⟨(fld_setFld_self _ _ _ (by decide)).trans h.symm, fun a ha => ?_⟩
  rw [reg_setFld, if_neg (by simp only [Reg.TWN_STAT_alive, Reg.TWN_STAT]; omega)]

theorem marks_showNoSessions (s : State) : (showNoSessions s).marks = s.marks := by
  unfold showNoSessions
  rw [marks_foldl _ _ _ fun p hp t => marks_setFld ?_ 0, marks_setReg (by decide)]
  have hlt := List.mem_range.1 hp
  simp only [Fld.aside, Reg.PART_STAT_sessions, Reg.PART_STAT, Reg.TWN_STAT_alive, Reg.TWN_STAT]
  omega

theorem doms_showNoSessions (s : State) : (showNoSessions s).doms = s.doms := by
  unfold showNoSessions
  suffices h : ∀ (l : List Nat) (t : State),
      (l.foldl (fun s p => s.setFld (Reg.PART_STAT_sessions p) 0) t).doms = t.doms from h _ _
  intro l
  induction l with
  | nil => exact fun _ => rfl
  | cons p l ih => exact fun t => (ih _).trans (State.setFld_doms ..)

/-- A device with its sessions, its save and all domains but `keep` stopped, and the PCIE domain on. -/
def stopDoms (keep : List Nat) (s : State) : State :=
  pcieKeptOn (domsOff ((showNoSessions s).setFld Reg.SV_STAT_state 0 |>.setFld Reg.BOOT_CTL_save_busy 0) keep)

theorem marks_stopDoms (h : s.aimed) (keep : List Nat) : (stopDoms keep s).marks = s.marks ∧ (stopDoms keep s).aimed := by
  have haimed : ((showNoSessions s).setFld Reg.SV_STAT_state 0 |>.setFld Reg.BOOT_CTL_save_busy 0).aimed :=
    aimed_of_doms (by rw [State.setFld_doms, State.setFld_doms, doms_showNoSessions]) h
  obtain ⟨hmarks, hoff⟩ := marks_domsOff haimed keep
  refine ⟨?_, aimed_of_doms (doms_setDomSt _) hoff⟩
  rw [stopDoms, pcieKeptOn, marks_setDomSt (by decide) hoff, hmarks, marks_setFld (by decide), marks_setFld (by decide),
    marks_showNoSessions]

/-- What stays of a device that leaves its start (R270, R279): its survivors and its registers. -/
def leaveStart (s : State) : State :=
  ({ s.survivors with regs := s.regs, msix := s.msix, lb := s.lb, hostWins := s.hostWins } : State).setNv { s.nv with begun := false }

/-- A device that has stopped is not alive, owns nothing and is not ripe. -/
def stopTwin (s : State) : State := ((s.setFld Reg.TWN_STAT_alive 0).setFld Reg.TWN_STAT_owner 0).setFld Reg.TWN_STAT_ripe_state 0

theorem marks_leaveStart (s : State) : (leaveStart s).marks = s.marks := marks_of_regs (Eq.trans rfl rfl)

theorem aimed_leaveStart (s : State) : (leaveStart s).aimed := fun _ => (by decide : (0 : Nat) < 8)

theorem marks_stopTwin (h : s.fld Reg.TWN_STAT_alive = 0) : (stopTwin s).marks = s.marks := by
  rw [stopTwin, marks_setFld (by decide), marks_setFld (by decide), marks_alive_down h]

theorem doms_stopTwin (s : State) : (stopTwin s).doms = s.doms := by
  rw [stopTwin, State.setFld_doms, State.setFld_doms, State.setFld_doms]

theorem alive_of_marks {t : State} (h : t.marks = s.marks) (hs : s.fld Reg.TWN_STAT_alive = 0) : t.fld Reg.TWN_STAT_alive = 0 :=
  (marks_eq_iff.1 h).1.trans hs

/-- The wait for a host begins with the time of HOST_WAIT (R271). -/
def waitForHost (s : State) : State :=
  ((s.setFld Reg.BOOT_STATE_wait_left (s.fld Reg.HOST_WAIT_wait)).setFld Reg.ESP_STAT_state 0).setBoot bootWaitHost

theorem enterWaitHost_eq (s : State) : enterWaitHost s = waitForHost (stopDoms [0, 1, 12] (stopTwin (leaveStart s))) := Eq.trans rfl rfl

theorem marks_enterWaitHost (h : s.fld Reg.TWN_STAT_alive = 0) : (enterWaitHost s).marks = s.marks := by
  obtain ⟨hmarks, -⟩ := marks_stopDoms (aimed_of_doms (doms_stopTwin _) (aimed_leaveStart s)) [0, 1, 12]
  rw [enterWaitHost_eq, waitForHost, marks_setBoot, marks_setFld (by decide), marks_setFld (by decide), hmarks,
    marks_stopTwin (alive_of_marks (marks_leaveStart s) h), marks_leaveStart]

/-- The clock of the stub route at its start values (R280). -/
def stubClock (cfg : Nat) (s : State) : State :=
  [Reg.CLK_REFSEL, Reg.CLK_STAT, Reg.CLK_PLLA_CTL, Reg.CLK_PLLA_DCO].foldl State.resetReg
    { s with str := stubStructure s.otp cfg, tick := 0, tickOn := false }

/-- The rates of the stub route and its Quickset domain (R280). -/
def stubRates (cfg : Nat) (s : State) : State :=
  let s := ((s.setFld Reg.TICK_RATE_family (cfg / 4 % 2)).setFld Reg.TICK_RATE_mult 0).setFld Reg.TICK_RATE_prog_window 24192
  let s := (s.setReg Reg.CLK_PLLB_FRAC (BitVec.ofNat 32 (nominalFrac (cfg / 4 % 2) (cfg / 2 % 2)))).setReg Reg.QS_CFG
    (BitVec.ofNat 32 (cfg % 2))
  s.setFld Reg.CLK_STAT_pllb_lock 0

theorem startStub_eq (s : State) : startStub s =
    (stubCfgOn s.otp).elim s (fun cfg => (stubRates cfg (stubClock cfg s)).setDomSt 15 domStOn) := by
  unfold startStub
  split <;> (next h => rw [h]; rfl)

theorem marks_stubClock (cfg : Nat) (s : State) : (stubClock cfg s).marks = s.marks := by
  refine (marks_foldl _ _ _ fun a ha t => marks_resetReg ?_).trans (marks_of_regs rfl)
  revert a
  decide

theorem doms_stubClock (cfg : Nat) (s : State) : (stubClock cfg s).doms = s.doms := Eq.trans rfl rfl

theorem marks_stubRates (cfg : Nat) (s : State) : (stubRates cfg s).marks = s.marks := by
  rw [stubRates, marks_setFld (by decide), marks_setReg (by decide), marks_setReg (by decide), marks_setFld (by decide),
    marks_setFld (by decide), marks_setFld (by decide)]

theorem doms_stubRates (cfg : Nat) (s : State) : (stubRates cfg s).doms = s.doms := by
  simp [stubRates]

theorem marks_startStub (h : s.aimed) : (startStub s).marks = s.marks := by
  rw [startStub_eq]
  cases stubCfgOn s.otp with
  | none => rfl
  | some cfg =>
    have haimed : (stubRates cfg (stubClock cfg s)).aimed := aimed_of_doms ((doms_stubRates ..).trans (doms_stubClock ..)) h
    exact (marks_setDomSt (by decide) haimed _).trans ((marks_stubRates ..).trans (marks_stubClock ..))

/-- What COPPICE_CAUSE shows (R279). -/
def showReason (r cause detail : Nat) (s : State) : State :=
  ((s.setFld Reg.COPPICE_CAUSE_reason r).setFld Reg.COPPICE_CAUSE_last_cause cause).setFld Reg.COPPICE_CAUSE_detail detail

/-- Coppice mode, before its stub route starts (R279). -/
def beginCoppice (s : State) : State := ((s.setFld Reg.ESP_STAT_state 0).setFld Reg.BOOT_STATE_wait_left 0).setBoot bootCoppice

theorem enterCoppice_eq (s : State) (reason : Nat) : enterCoppice s reason =
    startStub (beginCoppice (stopDoms [0, 1, 12, 15] (stopTwin (showReason (if s.otp.keyProg = [] then 3 else reason)
      (s.fld Reg.BOOT_CAUSE_cause) (s.fld Reg.BOOT_CAUSE_detail) (leaveStart s))))) := Eq.trans rfl rfl

theorem marks_showReason (r cause detail : Nat) (s : State) : (showReason r cause detail s).marks = s.marks := by
  rw [showReason, marks_setFld (by decide), marks_setFld (by decide), marks_setFld (by decide)]

theorem doms_showReason (r cause detail : Nat) (s : State) : (showReason r cause detail s).doms = s.doms := by
  rw [showReason, State.setFld_doms, State.setFld_doms, State.setFld_doms]

theorem marks_beginCoppice (s : State) : (beginCoppice s).marks = s.marks := by
  rw [beginCoppice, marks_setBoot, marks_setFld (by decide), marks_setFld (by decide)]

theorem doms_beginCoppice (s : State) : (beginCoppice s).doms = s.doms := by
  obtain ⟨l, m, n, r, c, h⟩ := setBoot_frame ((s.setFld Reg.ESP_STAT_state 0).setFld Reg.BOOT_STATE_wait_left 0) bootCoppice
  rw [beginCoppice, h, State.setFld_doms, State.setFld_doms, State.setFld_doms]

theorem marks_enterCoppice (h : s.fld Reg.TWN_STAT_alive = 0) (reason : Nat) : (enterCoppice s reason).marks = s.marks := by
  have hshown (r cause detail : Nat) : (showReason r cause detail (leaveStart s)).marks = s.marks :=
    (marks_showReason ..).trans (marks_leaveStart s)
  have haimed (r cause detail : Nat) : (stopTwin (showReason r cause detail (leaveStart s))).aimed :=
    aimed_of_doms ((doms_stopTwin _).trans (doms_showReason ..)) (aimed_leaveStart s)
  obtain ⟨hmarks, hstopped⟩ := marks_stopDoms (haimed (if s.otp.keyProg = [] then 3 else reason) (s.fld Reg.BOOT_CAUSE_cause)
    (s.fld Reg.BOOT_CAUSE_detail)) [0, 1, 12, 15]
  rw [enterCoppice_eq, marks_startStub (aimed_of_doms (doms_beginCoppice _) hstopped), marks_beginCoppice, hmarks,
    marks_stopTwin (alive_of_marks (hshown ..) h), hshown]

theorem marks_countedFailure (h : s.fld Reg.TWN_STAT_alive = 0) (cause detail : Nat) :
    (countedFailure s cause detail).marks = s.marks := by
  have hcount := marks_countFailure s cause detail
  have hdown := alive_of_marks hcount h
  unfold countedFailure
  refine marks_ite _ rfl ?_
  dsimp only
  split
  · rw [marks_enterCoppice hdown, hcount]
  · rw [marks_enterWaitHost hdown, hcount]

/-- A fault of cause 8 outside the proving time holds the device (R270). -/
def heldFault (detail : Nat) (s : State) : State :=
  let t : State := { recordCause s 8 false detail with hold := some 8 }
  if t.twinMode then sessionsStop t else t

theorem holdFault_eq (s : State) (detail : Nat) : holdFault s 8 detail =
    if 8 = 8 ∧ (heldFault detail s).twinMode = false then heldFault detail s else floatOutputs (heldFault detail s) := Eq.trans rfl rfl

theorem marks_holdFault (s : State) (detail : Nat) : (holdFault s 8 detail).marks = s.marks := by
  have hrec : ({ recordCause s 8 false detail with hold := some 8 } : State).marks = s.marks :=
    (marks_of_regs rfl).trans (marks_recordCause s 8 false detail)
  have hheld : (heldFault detail s).marks = s.marks := marks_ite _ ((marks_sessionsStop _).trans hrec) hrec
  rw [holdFault_eq]
  exact marks_ite _ hheld ((marks_floatOutputs _).trans hheld)

theorem marks_faultActs (h : s.fld Reg.TWN_STAT_alive = 0) (detail : Nat) : (faultActs s 8 detail).marks = s.marks := by
  have hcount := marks_countFailure s 8 detail
  unfold faultActs
  refine marks_ite _ (marks_ite _ (marks_countedFailure h 8 detail) (marks_holdFault s detail))
    (marks_ite _ ?_ (marks_floatOutputs s))
  refine marks_ite _ ?_ hcount
  rw [marks_enterCoppice (alive_of_marks hcount h), hcount]

/-- The first fault of a start takes PL_ALIVE; the cluster blocks show nothing of it (R243). -/
theorem raiseFault_marks (s : State) (detail : Nat) :
    (raiseFault s 8 detail).fld Reg.TWN_STAT_alive = (if s.faultStart then s.fld Reg.TWN_STAT_alive else 0) ∧
      ∀ a, 0x200000 ≤ a → (raiseFault s 8 detail).reg a = s.reg a := by
  unfold raiseFault
  split
  · exact ⟨rfl, fun _ _ => rfl⟩
  · have hdown : (markFault s).fld Reg.TWN_STAT_alive = 0 := by
      exact (fld_setFld_other _ _ _ _ (by decide) (by decide)).trans (fld_setFld_self _ _ _ (by decide))
    obtain ⟨halive, hregs⟩ := marks_eq_iff.1 (marks_faultActs hdown detail)
    refine ⟨halive.trans hdown, fun a ha => (hregs a ha).trans ?_⟩
    rw [markFault, reg_setFld, if_neg (by simp only [Reg.THN_STAT_faulted, Reg.THN_STAT]; omega), reg_setFld,
      if_neg (by simp only [Reg.TWN_STAT_alive, Reg.TWN_STAT]; omega)]
    rfl

end

end Sys2Proof.Machine
end

section
/-!
PROOFS. The findings of a tick guard (R66 to R69, R119, R140): a corrected one counts, an uncorrectable one is the cluster's fault.
-/
namespace Sys2Proof.Machine

/-! ### Where the guard looks (R67, R119) -/

/-- Where a guard looks depends on the scrubbers of the cluster and the states of its banks alone. -/
theorem findingSeen_congr {s t : State} {c : Nat} (heng : ∀ e, (t.engine e).wbq = (s.engine e).wbq ∧
      (t.engine e).scrubData = (s.engine e).scrubData ∧ (t.engine e).scrubProg = (s.engine e).scrubProg)
    (hrow : t.scrubRow = s.scrubRow)
    (hbank : ∀ b < 48, t.fld (Reg.MEM_BANK_PWR_state (48 * c + b)) = s.fld (Reg.MEM_BANK_PWR_state (48 * c + b)) ∧
      t.fld (Reg.MEM_BANK_OWNER_state (48 * c + b)) = s.fld (Reg.MEM_BANK_OWNER_state (48 * c + b))) (f : Finding) :
    findingSeen t c f = findingSeen s c f := by
  unfold findingSeen
  cases f.place with
  | data e a =>
    obtain ⟨hwbq, hdata, -⟩ := heng (16 * c + e)
    simp only [hwbq, hdata]
  | prog e a u =>
    obtain ⟨-, -, hprog⟩ := heng (16 * c + e)
    simp only [hprog]
  | delay b a =>
    obtain ⟨hpwr, howner⟩ := hbank b b.isLt
    simp only [bankScrubbed, hpwr, howner, hrow]
  | window e a => rfl

theorem findingSeen_guardOpen (c : Nat) (s : State) (f : Finding) : findingSeen (guardOpen c s) c f = findingSeen s c f := by
  refine findingSeen_congr (fun e => ?_) ?_
    (fun b hb => ⟨fld_guardOpen_other c s fun i _ => ?_, fld_guardOpen_other c s fun i _ => ?_⟩) f
  · rw [engine_guardOpen]
    split
    · exact scrubber_closed (s.engine e)
    · exact ⟨rfl, rfl, rfl⟩
  · obtain ⟨m, r, g, h⟩ := guardOpen_frame c s
    rw [h]
  · simp only [Reg.MEM_BANK_PWR_state, Reg.MEM_BANK_PWR, Reg.ENG_FLAGS]; omega
  · simp only [Reg.MEM_BANK_OWNER_state, Reg.MEM_BANK_OWNER, Reg.ENG_FLAGS]; omega

/-! ### What a finding does -/

section
variable {s : State} {c : Nat} {f : Finding}

theorem applyFinding_unseen (h : findingSeen s c f = false) : applyFinding s c f = s := by
  rw [applyFinding, if_neg (by simp [h])]

/-- What a corrected finding at a place does (R66, R119). -/
def countFinding (c : Nat) (p : Place) (s : State) : State :=
  match p with
  | .data e _ => correctedError s (16 * c + e.val) true
  | .prog e _ _ => correctedError s (16 * c + e.val) false
  | .delay _ _ => s.satInc (Reg.MEM_DLY_ECC_ce c)
  | .window _ _ => s

theorem applyFinding_corrected (h : findingSeen s c f = true) (hc : f.corrected = true) :
    applyFinding s c f = countFinding c f.place s := by
  rw [applyFinding, if_pos h, hc]
  cases f.place <;> rfl

/-- Kind, unit and address of a fault at a place (Table 03.5). -/
def faultAt : Place → Nat × Nat × Nat
  | .data e a => (2, e.val, a.toNat)
  | .prog e a u => (3, e.val, 2 * a.val + u.toNat)
  | .delay b a => (4, b.val, a.toNat)
  | .window e a => (5, e.val, a.val)

theorem applyFinding_uncorrectable (h : findingSeen s c f = true) (hc : f.corrected = false) : applyFinding s c f =
    clusterFault s c (faultAt f.place).1 (faultAt f.place).2.1 (faultAt f.place).2.2 f.cycle.toNat false := by
  rw [applyFinding, if_pos h, hc]
  cases f.place <;> rfl

end

/-! ### Corrected findings -/

/-- The counter of a corrected error of engine `e`'s data or program memory (R66). -/
def errorCount (e : Nat) (data : Bool) : Fld := if data then Reg.ENG_ECC_CNT_ce_data (e / 16) else Reg.ENG_ECC_CNT_ce_prog (e / 16)

section
variable (s : State) (e : Nat) (data : Bool)

theorem errorCount_le : (errorCount e data).lo + (errorCount e data).w ≤ 32 := by
  cases data <;> simp [errorCount, Reg.ENG_ECC_CNT_ce_data, Reg.ENG_ECC_CNT_ce_prog]

theorem addr_errorCount : (errorCount e data).addr = Reg.ENG_ECC_CNT (e / 16) := by cases data <;> rfl

theorem correctedError_eq :
    correctedError s e data = (s.satInc (errorCount e data)).setFld (Reg.ENG_FLAGS_ce (e / 16) (e % 16)) 1 := rfl

theorem onlyFlds_correctedError :
    onlyFlds [errorCount e data, Reg.ENG_FLAGS_ce (e / 16) (e % 16)] s (correctedError s e data) := by
  rw [correctedError_eq]
  exact onlyFlds_setFld (onlyFlds_satInc (onlyFlds_refl _ s) (by simp) (errorCount_le e data)) (by simp) (by simp [Reg.ENG_FLAGS_ce]) _

theorem count_correctedError :
    (correctedError s e data).fld (errorCount e data) = min (2 ^ (errorCount e data).w - 1) (s.fld (errorCount e data) + 1) := by
  rw [correctedError_eq, fld_setFld_other _ _ _ _ (by simp [Reg.ENG_FLAGS_ce]) (.inl ?_), fld_satInc_self _ _ (errorCount_le e data)]
  rw [addr_errorCount]
  simp only [Reg.ENG_ECC_CNT, Reg.ENG_FLAGS_ce, Reg.ENG_FLAGS]
  omega

end

/-- The counters and flags of corrected errors in cluster `c`. -/
def countFlds (c : Nat) : List Fld :=
  [Reg.ENG_ECC_CNT_ce_data c, Reg.ENG_ECC_CNT_ce_prog c, Reg.MEM_DLY_ECC_ce c] ++ (List.range 16).map (Reg.ENG_FLAGS_ce c)

/-- Those that a corrected finding at a place changes. -/
def placeFlds (c : Nat) : Place → List Fld
  | .data e _ => [Reg.ENG_ECC_CNT_ce_data c, Reg.ENG_FLAGS_ce c e.val]
  | .prog e _ _ => [Reg.ENG_ECC_CNT_ce_prog c, Reg.ENG_FLAGS_ce c e.val]
  | .delay _ _ => [Reg.MEM_DLY_ECC_ce c]
  | .window _ _ => []

theorem placeFlds_subset (c : Nat) (p : Place) : placeFlds c p ⊆ countFlds c := by
  have hflag (e : Fin 16) : Reg.ENG_FLAGS_ce c e.val ∈ (List.range 16).map (Reg.ENG_FLAGS_ce c) :=
    List.mem_map_of_mem (List.mem_range.2 e.isLt)
  cases p <;> simp [placeFlds, countFlds, hflag]

theorem mem_countFlds {c : Nat} {g : Fld} (h : g ∈ countFlds c) :
    g.addr = Reg.ENG_ECC_CNT c ∨ g = Reg.MEM_DLY_ECC_ce c ∨ ∃ i < 16, g.addr = Reg.ENG_FLAGS c i := by
  simp only [countFlds, List.cons_append, List.nil_append, List.mem_cons, List.mem_map, List.mem_range] at h
  rcases h with rfl | rfl | rfl | ⟨i, hi, rfl⟩
  · exact .inl rfl
  · exact .inl rfl
  · exact .inr (.inl rfl)
  · exact .inr (.inr ⟨i, hi, rfl⟩)

/-- The counters of passes count beside them. -/
theorem passFlds_apart_countFlds {c : Nat} {p g : Fld} (hp : p ∈ passFlds c) (hg : g ∈ countFlds c) : p.apart g := by
  simp only [passFlds, List.mem_cons, List.not_mem_nil, or_false] at hp
  have hscrub {p : Fld} (h : p.addr = Reg.ENG_SCRUB c) : p.apart g := by
    refine .inl ?_
    rcases mem_countFlds hg with ha | rfl | ⟨i, hi, ha⟩
    · rw [h, ha]; simp only [Reg.ENG_SCRUB, Reg.ENG_ECC_CNT]; omega
    · rw [h]; simp only [Reg.ENG_SCRUB, Reg.MEM_DLY_ECC_ce, Reg.MEM_DLY_ECC]; omega
    · rw [h, ha]; simp only [Reg.ENG_SCRUB, Reg.ENG_FLAGS]; omega
  rcases hp with rfl | rfl | rfl
  · exact hscrub rfl
  · exact hscrub rfl
  · rcases mem_countFlds hg with ha | rfl | ⟨i, hi, ha⟩
    · refine .inl ?_
      rw [ha]; simp only [Reg.MEM_DLY_ECC_pass, Reg.MEM_DLY_ECC, Reg.ENG_ECC_CNT]; omega
    · exact .inr (.inr (by simp [Reg.MEM_DLY_ECC_pass, Reg.MEM_DLY_ECC_ce]))
    · refine .inl ?_
      rw [ha]; simp only [Reg.MEM_DLY_ECC_pass, Reg.MEM_DLY_ECC, Reg.ENG_FLAGS]; omega

theorem onlyFlds_mono {fs gs : List Fld} {s t : State} (h : onlyFlds fs s t) (hsub : fs ⊆ gs) : onlyFlds gs s t :=
  ⟨h.1, fun g hg => h.2 g fun q hq => hg q (hsub hq)⟩

theorem onlyFlds_trans {fs : List Fld} {s t u : State} (h : onlyFlds fs s t) (h' : onlyFlds fs t u) : onlyFlds fs s u := by
  obtain ⟨hst, hkept⟩ := h
  obtain ⟨htu, hkept'⟩ := h'
  obtain ⟨r, rfl⟩ : ∃ r, t = { s with regs := r } := ⟨_, hst⟩
  exact ⟨htu, fun g hg => (hkept' g hg).trans (hkept g hg)⟩

/-- Engine `e` of cluster `c` by its number in the device. -/
theorem engine_place (c : Nat) (e : Fin 16) : (16 * c + e.val) / 16 = c ∧ (16 * c + e.val) % 16 = e.val := by omega

theorem onlyFlds_countFinding (c : Nat) (p : Place) (s : State) : onlyFlds (placeFlds c p) s (countFinding c p s) := by
  cases p with
  | data e a =>
    have h := onlyFlds_correctedError s (16 * c + e.val) true
    rwa [(engine_place c e).2, errorCount, if_pos rfl, (engine_place c e).1] at h
  | prog e a u =>
    have h := onlyFlds_correctedError s (16 * c + e.val) false
    rwa [(engine_place c e).2, errorCount, if_neg (by decide), (engine_place c e).1] at h
  | delay b a => exact onlyFlds_satInc (onlyFlds_refl _ s) List.mem_cons_self (by simp [Reg.MEM_DLY_ECC_ce])
  | window e a => exact onlyFlds_refl _ s

section
variable {s : State} {c : Nat} {f : Finding}

theorem onlyFlds_applyFinding (hc : findingSeen s c f = true → f.corrected = true) : onlyFlds (countFlds c) s (applyFinding s c f) := by
  cases h : findingSeen s c f with
  | false => rw [applyFinding_unseen h]; exact onlyFlds_refl _ s
  | true =>
    rw [applyFinding_corrected h (hc h)]
    exact onlyFlds_mono (onlyFlds_countFinding c f.place s) (placeFlds_subset c f.place)

/-- Counting moves no scrubber and no bank. -/
theorem findingSeen_of_counts {t : State} (hclu : c < 8) (h : onlyFlds (countFlds c) s t) (f : Finding) :
    findingSeen t c f = findingSeen s c f := by
  have hout {g : Fld} (ha : g.addr < 0x200000) (hne : g.addr ≠ Reg.MEM_DLY_ECC c) : t.fld g = s.fld g := by
    refine h.2 g fun q hq => .inl ?_
    rcases mem_countFlds hq with hq | rfl | ⟨i, hi, hq⟩
    · rw [hq]; simp only [Reg.ENG_ECC_CNT]; omega
    · exact hne
    · rw [hq]; simp only [Reg.ENG_FLAGS]; omega
  refine findingSeen_congr (fun e => ?_) (by rw [h.1]) (fun b hb => ?_) f
  · rw [engine_of_onlyFlds h]; exact ⟨rfl, rfl, rfl⟩
  · refine ⟨hout ?_ ?_, hout ?_ ?_⟩ <;>
      simp only [Reg.MEM_BANK_PWR_state, Reg.MEM_BANK_PWR, Reg.MEM_BANK_OWNER_state, Reg.MEM_BANK_OWNER, Reg.MEM_DLY_ECC] <;> omega

theorem onlyFlds_foldl_applyFinding {l : List Finding} (hclu : c < 8)
    (hl : ∀ g ∈ l, findingSeen s c g = true → g.corrected = true) :
    onlyFlds (countFlds c) s (l.foldl (fun t f => applyFinding t c f) s) := by
  suffices h : ∀ t, onlyFlds (countFlds c) s t → onlyFlds (countFlds c) s (l.foldl (fun t f => applyFinding t c f) t) from
    h s (onlyFlds_refl _ s)
  induction l with
  | nil => exact fun t ht => ht
  | cons g l ih =>
    refine fun t ht => ih (fun q hq => hl q (List.mem_cons_of_mem g hq)) _
      (onlyFlds_trans ht (onlyFlds_applyFinding fun hseen => ?_))
    exact hl g List.mem_cons_self (by rwa [findingSeen_of_counts hclu ht] at hseen)

end

/-! ### The cluster's fault (R69, R243) -/

section
variable {s : State} {c : Nat}

/-- The record of a cluster's first fault, behind its valid bit. -/
def faultWord (kind unit cycle : Nat) : Nat := 2 ^ 31 + 0 + kind % 8 * 2 ^ 24 + unit % 64 * 2 ^ 16 + cycle % 2 ^ 15

theorem recordEngFault_more (h : s.fld (Reg.ENG_FAULT_valid c) = 1) (kind unit addr cycle : Nat) :
    recordEngFault s c kind unit addr cycle false = s.setFld (Reg.ENG_FAULT_more c) 1 := if_pos h

theorem recordEngFault_first (h : s.fld (Reg.ENG_FAULT_valid c) ≠ 1) (kind unit addr cycle : Nat) :
    recordEngFault s c kind unit addr cycle false =
      ((s.setReg (Reg.ENG_FAULT c) (BitVec.ofNat 32 (faultWord kind unit cycle))).setReg (Reg.ENG_FAULT_TICK c)
        (BitVec.ofNat 32 s.tick)).setReg (Reg.ENG_FAULT_ADDR c) (BitVec.ofNat 32 (addr % 2 ^ 24)) := if_neg h

theorem reg_clusterFault {a : Nat} (ha : 0x200000 ≤ a) (kind unit addr cycle : Nat) :
    (clusterFault s c kind unit addr cycle false).reg a = (recordEngFault s c kind unit addr cycle false).reg a :=
  (raiseFault_marks _ _).2 a ha

theorem fld_clusterFault {g : Fld} (hg : g.addr = Reg.ENG_FAULT c) (kind unit addr cycle : Nat) :
    (clusterFault s c kind unit addr cycle false).fld g = (recordEngFault s c kind unit addr cycle false).fld g := by
  rw [State.fld, reg_clusterFault (by rw [hg]; simp only [Reg.ENG_FAULT]; omega), State.fld]

theorem faultStart_recordEngFault (kind unit addr cycle : Nat) :
    (recordEngFault s c kind unit addr cycle false).faultStart = s.faultStart := by
  unfold recordEngFault
  split
  · rw [State.setFld_faultStart]
  · rw [State.setReg_faultStart, State.setReg_faultStart, State.setReg_faultStart]

theorem alive_recordEngFault (kind unit addr cycle : Nat) :
    (recordEngFault s c kind unit addr cycle false).fld Reg.TWN_STAT_alive = s.fld Reg.TWN_STAT_alive := by
  have hlow : Reg.TWN_STAT_alive.addr < 0x200000 := by decide
  by_cases h : s.fld (Reg.ENG_FAULT_valid c) = 1
  · rw [recordEngFault_more h, fld_setFld_other _ _ _ _ (by simp [Reg.ENG_FAULT_more]) (.inl ?_)]
    simp only [Reg.ENG_FAULT_more, Reg.ENG_FAULT]; omega
  · rw [recordEngFault_first h, fld_setReg_other _ _ _ _ (by simp only [Reg.ENG_FAULT_ADDR]; omega),
      fld_setReg_other _ _ _ _ (by simp only [Reg.ENG_FAULT_TICK]; omega),
      fld_setReg_other _ _ _ _ (by simp only [Reg.ENG_FAULT]; omega)]

/-- A fault takes PL_ALIVE, unless one has before it in this start. -/
theorem alive_clusterFault (kind unit addr cycle : Nat) : (clusterFault s c kind unit addr cycle false).fld Reg.TWN_STAT_alive =
    if s.faultStart then s.fld Reg.TWN_STAT_alive else 0 := by
  rw [clusterFault, (raiseFault_marks _ _).1, faultStart_recordEngFault, alive_recordEngFault]

/-- A fault that follows one of its start is absorbed. -/
theorem faultStart_clusterFault (h : s.faultStart = true) (kind unit addr cycle : Nat) :
    (clusterFault s c kind unit addr cycle false).faultStart = true := by
  rw [clusterFault, raiseFault, if_pos (by rw [faultStart_recordEngFault, h]), faultStart_recordEngFault, h]

/-- The block of cluster `c` shows a fault `w` (its kind, unit and address) of a cycle and a tick (R69). -/
def recordsFault (c : Nat) (w : Nat × Nat × Nat) (cycle tick : Nat) (t : State) : Prop :=
  t.fld (Reg.ENG_FAULT_kind c) = w.1 ∧ t.fld (Reg.ENG_FAULT_unit c) = w.2.1 ∧ t.fld (Reg.ENG_FAULT_cycle c) = cycle ∧
    (t.reg (Reg.ENG_FAULT_ADDR c)).toNat = w.2.2 ∧ t.reg (Reg.ENG_FAULT_TICK c) = BitVec.ofNat 32 tick

/-- A cluster's first fault is recorded (R69). -/
theorem clusterFault_first (h : s.fld (Reg.ENG_FAULT_valid c) ≠ 1) {kind unit addr cycle : Nat} (hk : kind < 8) (hu : unit < 64)
    (ha : addr < 2 ^ 24) (hcy : cycle < 2 ^ 15) : (clusterFault s c kind unit addr cycle false).fld (Reg.ENG_FAULT_valid c) = 1 ∧
      recordsFault c (kind, unit, addr) cycle s.tick (clusterFault s c kind unit addr cycle false) := by
  have hregs : Reg.ENG_FAULT c ≠ Reg.ENG_FAULT_ADDR c ∧ Reg.ENG_FAULT c ≠ Reg.ENG_FAULT_TICK c ∧
      Reg.ENG_FAULT_TICK c ≠ Reg.ENG_FAULT_ADDR c := by
    simp only [Reg.ENG_FAULT, Reg.ENG_FAULT_ADDR, Reg.ENG_FAULT_TICK]; omega
  obtain ⟨haddr, htick, hta⟩ := hregs
  have hword {g : Fld} (hg : g.addr = Reg.ENG_FAULT c) : (clusterFault s c kind unit addr cycle false).fld g =
      faultWord kind unit cycle / 2 ^ g.lo % 2 ^ g.w := by
    have hlt : faultWord kind unit cycle < 2 ^ 32 := by unfold faultWord; omega
    rw [fld_clusterFault hg, recordEngFault_first h, State.fld, hg, reg_setReg, if_neg haddr, reg_setReg, if_neg htick,
      reg_setReg_self, bitsOf, BitVec.toNat_ofNat, Nat.mod_eq_of_lt hlt]
  have hreg {a : Nat} (hin : 0x200000 ≤ a) := reg_clusterFault (s := s) (c := c) hin kind unit addr cycle
  refine ⟨(hword rfl).trans ?_, (hword rfl).trans ?_, (hword rfl).trans ?_, (hword rfl).trans ?_, ?_, ?_⟩
  · simp only [Reg.ENG_FAULT_valid, faultWord]; omega
  · simp only [Reg.ENG_FAULT_kind, faultWord]; omega
  · simp only [Reg.ENG_FAULT_unit, faultWord]; omega
  · simp only [Reg.ENG_FAULT_cycle, faultWord]; omega
  · rw [hreg (by simp only [Reg.ENG_FAULT_ADDR]; omega), recordEngFault_first h, reg_setReg_self, BitVec.toNat_ofNat]
    dsimp only; omega
  · rw [hreg (by simp only [Reg.ENG_FAULT_TICK]; omega), recordEngFault_first h, reg_setReg, if_neg hta, reg_setReg_self]

/-- From `s` to `t` a recorded fault of cluster `c` stays, showing more at most. -/
def faultStays (c : Nat) (s t : State) : Prop :=
  (∀ g : Fld, g.addr = Reg.ENG_FAULT c → g.apart (Reg.ENG_FAULT_more c) → t.fld g = s.fld g) ∧
    (s.fld (Reg.ENG_FAULT_more c) = 1 → t.fld (Reg.ENG_FAULT_more c) = 1) ∧
    t.reg (Reg.ENG_FAULT_ADDR c) = s.reg (Reg.ENG_FAULT_ADDR c) ∧ t.reg (Reg.ENG_FAULT_TICK c) = s.reg (Reg.ENG_FAULT_TICK c)

theorem faultStays_refl (c : Nat) (s : State) : faultStays c s s := ⟨fun _ _ _ => rfl, id, rfl, rfl⟩

theorem faultStays_trans {t u : State} (h : faultStays c s t) (h' : faultStays c t u) : faultStays c s u := by
  obtain ⟨hfld, hmore, haddr, htick⟩ := h
  obtain ⟨hfld', hmore', haddr', htick'⟩ := h'
  exact ⟨fun g hg hout => (hfld' g hg hout).trans (hfld g hg hout), hmore' ∘ hmore, haddr'.trans haddr, htick'.trans htick⟩

theorem faultStays_of_regs {t : State} (h : ∀ a ∈ [Reg.ENG_FAULT c, Reg.ENG_FAULT_ADDR c, Reg.ENG_FAULT_TICK c], t.reg a = s.reg a) :
    faultStays c s t := by
  have hfld {g : Fld} (hg : g.addr = Reg.ENG_FAULT c) : t.fld g = s.fld g := by
    rw [State.fld, hg, h _ (by simp), State.fld, hg]
  exact ⟨fun g hg _ => hfld hg, fun hmore => (hfld rfl).trans hmore, h _ (by simp), h _ (by simp)⟩

theorem valid_of_faultStays {t : State} (h : faultStays c s t) : t.fld (Reg.ENG_FAULT_valid c) = s.fld (Reg.ENG_FAULT_valid c) :=
  h.1 _ rfl (.inr (.inr (by simp [Reg.ENG_FAULT_valid, Reg.ENG_FAULT_more])))

theorem recordsFault_of_stays {t : State} (h : faultStays c s t) {w : Nat × Nat × Nat} {cycle tick : Nat}
    (hs : recordsFault c w cycle tick s) : recordsFault c w cycle tick t := by
  obtain ⟨hfld, -, haddr, htick⟩ := h
  obtain ⟨hkind, hunit, hcycle, ha, ht⟩ := hs
  have hlow {g : Fld} (hg : g.addr = Reg.ENG_FAULT c) (hlo : g.lo + g.w ≤ 30) : t.fld g = s.fld g := hfld g hg (.inr (.inl hlo))
  exact ⟨(hlow rfl (by simp [Reg.ENG_FAULT_kind])).trans hkind, (hlow rfl (by simp [Reg.ENG_FAULT_unit])).trans hunit,
    (hlow rfl (by simp [Reg.ENG_FAULT_cycle])).trans hcycle, (congrArg _ haddr).trans ha, htick.trans ht⟩

/-- A further fault of a cluster sets more (R69). -/
theorem clusterFault_again (h : s.fld (Reg.ENG_FAULT_valid c) = 1) (kind unit addr cycle : Nat) :
    faultStays c s (clusterFault s c kind unit addr cycle false) ∧
      (clusterFault s c kind unit addr cycle false).fld (Reg.ENG_FAULT_more c) = 1 := by
  have hw : (Reg.ENG_FAULT_more c).lo + (Reg.ENG_FAULT_more c).w ≤ 32 := by simp [Reg.ENG_FAULT_more]
  have hmore : (clusterFault s c kind unit addr cycle false).fld (Reg.ENG_FAULT_more c) = 1 := by
    rw [fld_clusterFault rfl, recordEngFault_more h, fld_setFld_self _ _ _ hw]; rfl
  have hreg {a : Nat} (ha : 0x200000 ≤ a) (hne : a ≠ Reg.ENG_FAULT c) :
      (clusterFault s c kind unit addr cycle false).reg a = s.reg a := by
    rw [reg_clusterFault ha, recordEngFault_more h, reg_setFld]
    exact if_neg hne
  refine ⟨⟨fun g hg hout => ?_, fun _ => hmore, hreg ?_ ?_, hreg ?_ ?_⟩, hmore⟩
  · rw [fld_clusterFault hg, recordEngFault_more h, fld_setFld_other _ _ _ _ hw]
    unfold Fld.apart at hout; omega
  all_goals simp only [Reg.ENG_FAULT_ADDR, Reg.ENG_FAULT_TICK, Reg.ENG_FAULT]; omega

/-! ### Findings behind the first uncorrectable one -/

/-- A cluster's fault is recorded, and PL_ALIVE shows `x` for the rest of the start. -/
def faulted (c x : Nat) (s : State) : Prop :=
  s.fld (Reg.ENG_FAULT_valid c) = 1 ∧ s.fld Reg.TWN_STAT_alive = x ∧ (s.faultStart = true ∨ x = 0)

theorem faulted_clusterFault {kind unit addr cycle : Nat} (hk : kind < 8) (hu : unit < 64) (ha : addr < 2 ^ 24)
    (hcy : cycle < 2 ^ 15) :
    faulted c (if s.faultStart then s.fld Reg.TWN_STAT_alive else 0) (clusterFault s c kind unit addr cycle false) := by
  refine ⟨?_, alive_clusterFault .., ?_⟩
  · by_cases h : s.fld (Reg.ENG_FAULT_valid c) = 1
    · exact (valid_of_faultStays (clusterFault_again h kind unit addr cycle).1).trans h
    · exact (clusterFault_first h hk hu ha hcy).1
  · cases hs : s.faultStart
    case true => exact .inl (faultStart_clusterFault hs ..)
    case false => exact .inr rfl

theorem reg_countFlds {t : State} (h : onlyFlds (countFlds c) s t) {a : Nat} (hlo : Reg.ENG_FAULT c ≤ a)
    (hhi : a ≤ Reg.ENG_FAULT_ADDR c) : t.reg a = s.reg a := by
  refine BitVec.eq_of_getLsbD_eq fun i _ => getLsbD_eq_of_fld (h.2 _ fun q hq => .inl ?_)
  simp only [Reg.ENG_FAULT, Reg.ENG_FAULT_ADDR] at hlo hhi
  rcases mem_countFlds hq with ha | rfl | ⟨j, hj, ha⟩
  · rw [ha]; simp only [Reg.ENG_ECC_CNT]; omega
  · simp only [Reg.MEM_DLY_ECC_ce, Reg.MEM_DLY_ECC]; omega
  · rw [ha]; simp only [Reg.ENG_FLAGS]; omega

theorem faultStays_of_counts {t : State} (h : onlyFlds (countFlds c) s t) : faultStays c s t := by
  refine faultStays_of_regs fun a ha => ?_
  simp only [List.mem_cons, List.not_mem_nil, or_false] at ha
  rcases ha with rfl | rfl | rfl <;>
    exact reg_countFlds h (by simp only [Reg.ENG_FAULT, Reg.ENG_FAULT_ADDR, Reg.ENG_FAULT_TICK]; omega)
      (by simp only [Reg.ENG_FAULT, Reg.ENG_FAULT_ADDR, Reg.ENG_FAULT_TICK]; omega)

theorem alive_of_counts {t : State} (h : onlyFlds (countFlds c) s t) (hclu : c < 8) :
    t.fld Reg.TWN_STAT_alive = s.fld Reg.TWN_STAT_alive := by
  refine h.2 _ fun q hq => .inl ?_
  rcases mem_countFlds hq with ha | rfl | ⟨j, hj, ha⟩
  · rw [ha]; simp only [Reg.TWN_STAT_alive, Reg.TWN_STAT, Reg.ENG_ECC_CNT]; omega
  · simp only [Reg.TWN_STAT_alive, Reg.TWN_STAT, Reg.MEM_DLY_ECC_ce, Reg.MEM_DLY_ECC]; omega
  · rw [ha]; simp only [Reg.TWN_STAT_alive, Reg.TWN_STAT, Reg.ENG_FLAGS]; omega

theorem applyFinding_faulted {x : Nat} (hclu : c < 8) (h : faulted c x s) (f : Finding) :
    faulted c x (applyFinding s c f) ∧ faultStays c s (applyFinding s c f) := by
  obtain ⟨hvalid, halive, hstart⟩ := h
  by_cases hbad : findingSeen s c f = true ∧ f.corrected = false
  case pos =>
    obtain ⟨hseen, hunc⟩ := hbad
    rw [applyFinding_uncorrectable hseen hunc]
    obtain ⟨hstays, -⟩ := clusterFault_again hvalid (faultAt f.place).1 (faultAt f.place).2.1 (faultAt f.place).2.2 f.cycle.toNat
    refine ⟨⟨(valid_of_faultStays hstays).trans hvalid, ?_, hstart.imp_left (faultStart_clusterFault · ..)⟩, hstays⟩
    rw [alive_clusterFault]
    split
    · exact halive
    · next hoff => exact (hstart.resolve_left hoff).symm
  case neg =>
    have hcounts : onlyFlds (countFlds c) s (applyFinding s c f) :=
      onlyFlds_applyFinding fun hseen => by simpa [hseen] using hbad
    have hstays := faultStays_of_counts hcounts
    refine ⟨⟨(valid_of_faultStays hstays).trans hvalid, (alive_of_counts hcounts hclu).trans halive, ?_⟩, hstays⟩
    rw [hcounts.1]
    exact hstart

theorem foldl_applyFinding_faulted {x : Nat} (hclu : c < 8) (h : faulted c x s) (l : List Finding) :
    faulted c x (l.foldl (fun t f => applyFinding t c f) s) ∧ faultStays c s (l.foldl (fun t f => applyFinding t c f) s) := by
  induction l generalizing s with
  | nil => exact ⟨h, faultStays_refl c s⟩
  | cons f l ih =>
    obtain ⟨hfaulted, hstays⟩ := applyFinding_faulted hclu h f
    obtain ⟨hrest, hstays'⟩ := ih hfaulted
    exact ⟨hrest, faultStays_trans hstays hstays'⟩

end

end Sys2Proof.Machine
end

section
/-!
PROOFS. The capture instant (R142, R237): which words are captured, and where they go.
-/
namespace Sys2Proof.Machine

/-! ### Parts of a store -/

section
variable {α : Type} {d : α} {m n : Store α} {k : Nat}

theorem storeGet_append_left (h : ∀ e ∈ n, e.1 ≠ k) : storeGet d (m ++ n) k = storeGet d m k := by
  induction m with
  | nil =>
    induction n with
    | nil => rfl
    | cons e n ih =>
      have hne : ¬ k = e.1 := (h e List.mem_cons_self).symm
      have hrest : storeGet d n k = d := ih fun x hx => h x (List.mem_cons_of_mem e hx)
      simpa [storeGet, hne] using hrest
  | cons e m ih => rw [List.cons_append, storeGet, storeGet, ih]

theorem storeGet_append_right (h : ∀ e ∈ m, e.1 ≠ k) : storeGet d (m ++ n) k = storeGet d n k := by
  induction m with
  | nil => rfl
  | cons e m ih =>
    have hne : ¬ k = e.1 := (h e List.mem_cons_self).symm
    rw [List.cons_append, storeGet, if_neg hne]
    exact ih fun x hx => h x (List.mem_cons_of_mem e hx)

theorem storeGet_filter {p : Nat × α → Bool} (h : ∀ v, p (k, v) = true) : storeGet d (m.filter p) k = storeGet d m k := by
  induction m with
  | nil => rfl
  | cons e m ih =>
    rw [List.filter_cons, storeGet]
    by_cases hk : k = e.1
    · rw [if_pos hk, if_pos (by rw [← h e.2, hk]), storeGet, if_pos hk]
    · rw [if_neg hk]
      split
      · rw [storeGet, if_neg hk, ih]
      · exact ih

end

/-! ### The words that are captured -/

/-- From `s` to `t` captured words and the network side alone change, and of the words none whose number meets `p`. -/
def capturesOnly (p : Nat → Prop) (s t : State) : Prop :=
  t = { s with io := { s.io with inNow := t.io.inNow }, net := t.net } ∧
    ∀ k, p k → storeGet 0 t.io.inNow k = storeGet 0 s.io.inNow k

section
variable {p : Nat → Prop} {s t u : State}

theorem capturesOnly_refl (p : Nat → Prop) (s : State) : capturesOnly p s s := ⟨rfl, fun _ _ => rfl⟩

theorem capturesOnly_trans (h : capturesOnly p s t) (h' : capturesOnly p t u) : capturesOnly p s u := by
  obtain ⟨hst, hkept⟩ := h
  obtain ⟨htu, hkept'⟩ := h'
  obtain ⟨m, n, rfl⟩ : ∃ m n, t = { s with io := { s.io with inNow := m }, net := n } := ⟨_, _, hst⟩
  exact ⟨htu, fun k hk => (hkept' k hk).trans (hkept k hk)⟩

theorem capturesOnly_mono {q : Nat → Prop} (h : capturesOnly p s t) (hq : ∀ k, q k → p k) : capturesOnly q s t :=
  ⟨h.1, fun k hk => h.2 k (hq k hk)⟩

theorem capturesOnly_foldl {α : Type} {f : State → α → State} {l : List α} (h : ∀ a ∈ l, ∀ s, capturesOnly p s (f s a))
    (s : State) : capturesOnly p s (l.foldl f s) := by
  induction l generalizing s with
  | nil => exact capturesOnly_refl p s
  | cons a l ih =>
    exact capturesOnly_trans (h a List.mem_cons_self s) (ih (fun b hb => h b (List.mem_cons_of_mem a hb)) _)

/-- A word is captured under a number that does not meet `p`. -/
theorem capturesOnly_put {key : Nat} (hkey : ¬ p key) (v : Word) (s : State) :
    capturesOnly p s { s with io := { s.io with inNow := storeSet 0 s.io.inNow key v } } := by
  refine ⟨rfl, fun k hk => ?_⟩
  have hne : k ≠ key := fun e => hkey (e ▸ hk)
  rw [storeGet_set, if_neg hne]

end

theorem strK_le (s : State) (e : List Word) : strK s e ≤ 2 := by
  unfold strK
  dsimp only
  (repeat' split) <;> omega

/-- Network samples are captured below the numbers of the other ports: an entry has at most 64 channels from one of the first 2,048
on, with two samples each at most (R305, Table 13.7). -/
theorem capturesOnly_captureEntry (s : State) (tick key : Nat) :
    capturesOnly (chanKey 1 0 0 0 ≤ ·) s (captureEntry s tick key) := by
  unfold captureEntry
  extract_lets e k
  have hk : k ≤ 2 := strK_le s e
  have hfirst : strFirst e < 2 ^ 11 := bitsOf_lt ..
  have hchans : strChans e ≤ 2 ^ 6 := bitsOf_lt ..
  refine capturesOnly_foldl (fun j hj t => ?_) s
  extract_lets i here u
  have hu : capturesOnly (chanKey 1 0 0 0 ≤ ·) t u := by
    refine capturesOnly_foldl (fun c hc v => ?_) t
    have hj := List.mem_range.1 hj
    have hc := List.mem_range.1 hc
    split
    · refine capturesOnly_put ?_ _ v
      simp only [chanKey]; omega
    · exact capturesOnly_refl _ v
  split
  · exact hu
  · exact capturesOnly_trans hu ⟨rfl, fun _ _ => rfl⟩

theorem capturesOnly_captureNet (s : State) : capturesOnly (chanKey 1 0 0 0 ≤ ·) s (captureNet s) := by
  unfold captureNet
  extract_lets keys t
  exact capturesOnly_trans (capturesOnly_foldl (fun key _ u => capturesOnly_captureEntry u u.tick key) s) ⟨rfl, fun _ _ => rfl⟩

/-- A number of another port than an AES3 receiver's. -/
def notAsrc (k : Nat) : Prop := k < chanKey 2 0 0 0 ∨ chanKey 3 0 0 0 ≤ k

theorem capturesOnly_captureAsrc {n : Nat} (hn : n < 8) (s : State) : capturesOnly notAsrc s (captureAsrc s n) := by
  unfold captureAsrc
  split
  · refine capturesOnly_trans (capturesOnly_put (key := chanKey 2 n 0 0) ?_ _ s) (capturesOnly_put (key := chanKey 2 n 1 0) ?_ _ _) <;>
      simp only [notAsrc, chanKey] <;> omega
  · exact capturesOnly_refl _ s

/-- The samples of every AES3 receiver (R148, R149). -/
def captureAsrcs (s : State) : State := (List.range 8).foldl captureAsrc s

/-- The words captured at an instant, before the tick's input words are closed (R142). -/
def captured (s : State) : State := captureAsrcs (captureNet s)

theorem captureInputs_eq (s : State) : captureInputs s = closeInputs (captured s) := by rw [captureInputs, captured, captureAsrcs]

theorem capturesOnly_captureAsrcs (s : State) : capturesOnly notAsrc s (captureAsrcs s) :=
  capturesOnly_foldl (fun _ hn t => capturesOnly_captureAsrc (List.mem_range.1 hn) t) s

/-- A number of a TDM or Quickset channel. -/
def isSerial (k : Nat) : Prop := chanKey 1 0 0 0 ≤ k ∧ notAsrc k

theorem capturesOnly_captured (s : State) : capturesOnly isSerial s (captured s) :=
  capturesOnly_trans (capturesOnly_mono (capturesOnly_captureNet s) fun _ h => h.1)
    (capturesOnly_mono (capturesOnly_captureAsrcs _) fun _ h => h.2)

/-- The network words captured are those of the streams. -/
theorem network_captured (s : State) {k : Nat} (h : k < chanKey 1 0 0 0) :
    storeGet 0 (captured s).io.inNow k = storeGet 0 (captureNet s).io.inNow k := by
  obtain ⟨-, hkept⟩ := capturesOnly_captureAsrcs (captureNet s)
  rw [captured, hkept k (.inl (by simp only [chanKey] at h ⊢; omega))]

theorem isSerial_tdm {port slot j : Nat} (hp : port < 32) (hs : slot < 16) (hj : j < 4) : isSerial (chanKey 1 port slot j) := by
  simp only [isSerial, notAsrc, chanKey]; omega

theorem isSerial_qs {lane j : Nat} : isSerial (chanKey 3 0 lane j) := by
  simp only [isSerial, notAsrc, chanKey]; omega

/-! ### Where they go -/

/-- The input words of a single device are those captured (R142). -/
theorem closeInputs_single {s : State} (h : s.twinMode = false) :
    closeInputs s = { s with io := { s.io with inTick := s.io.inNow, inNow := [] } } := by
  unfold closeInputs
  exact if_neg (by simp [h])

/-- The network words that a twin delivers (R237). -/
def ownerWords (s : State) : Store Word := if usesOwner s then s.twin.ownerNet.getD s.io.netHeld else s.io.netHeld

/-- A follower without its owner's words delivers its own (R237). -/
abbrev ownInputs (s : State) : Prop := usesOwner s = true ∧ s.twin.ownerNet = none

/-- A twin with its input words closed, `words` those of the network. -/
def closedTwin (words : Store Word) (s : State) : State :=
  { s with twin := { s.twin with ownerNet := none }, io := { s.io with
    inTick := words ++ serialWords s.io.inNow, netHeld := networkWords s.io.inNow, inNow := [] } }

theorem closeInputs_twin {s : State} (h : s.twinMode = true) : closeInputs s =
    if ownInputs s then (closedTwin (ownerWords s) s).setFld Reg.TWN_STAT_input_own 1 else closedTwin (ownerWords s) s := by
  unfold closeInputs ownerWords ownInputs
  simp only [h, if_true]
  cases usesOwner s
  case false => rfl
  case true => cases s.twin.ownerNet <;> rfl

theorem shareNet_eq (s : State) (words : Store Word) : shareNet s words = { s with twin := { s.twin with
    sent := s.twin.sent.map (fun x => if s.owns = true ∧ 48 + 4 * words.length ≤ frameRoom s - copyBytes x.copy then
      { x with frame := { x.frame with net := words } } else x) } } := by
  have hsame {o : Option LinkSent} (h : s.twin.sent = o) : s = { s with twin := { s.twin with sent := o } } := by subst h; rfl
  unfold shareNet
  cases hsent : s.twin.sent with
  | none => exact hsame hsent
  | some x =>
    dsimp only [Option.map_some]
    split
    · rfl
    · exact hsame hsent

theorem execCaptureInstant_on {s : State} (h : s.tickOn = true) : execCaptureInstant s =
    .next (shareNet (closeInputs (captured s)) (closeInputs (captured s)).io.netHeld) := by
  rw [execCaptureInstant, if_pos h, captureInputs_eq]

/-- `s` with the words `m` captured and the network side `n`. -/
def State.putCaptured (s : State) (m : Store Word) (n : Net) : State := { s with io := { s.io with inNow := m }, net := n }

/-- Capturing leaves TDM and Quickset words as they were latched. -/
theorem captured_eq (s : State) : ∃ m n, captured s = s.putCaptured m n ∧
    (∀ k, isSerial k → storeGet 0 m k = storeGet 0 s.io.inNow k) ∧
      ∀ k, k < chanKey 1 0 0 0 → storeGet 0 m k = storeGet 0 (captureNet s).io.inNow k := by
  obtain ⟨hcap, hserial⟩ := capturesOnly_captured s
  exact ⟨_, _, hcap, hserial, fun k hk => network_captured s hk⟩

/-- CAPTURE_INSTANT of a single device. -/
theorem captureInstant_single {s : State} (hon : s.tickOn = true) (hsingle : s.twinMode = false) : ∃ t,
    execCaptureInstant s = .next t ∧ t.io.inNow = [] ∧ t.regs = s.regs ∧ t.eng = s.eng ∧
      ∀ k, isSerial k → storeGet 0 t.io.inTick k = storeGet 0 s.io.inNow k := by
  obtain ⟨m, n, hcap, hserial, -⟩ := captured_eq s
  have hclosed := closeInputs_single (s := s.putCaptured m n) hsingle
  refine ⟨_, execCaptureInstant_on hon, ?_⟩
  rw [shareNet_eq, hcap, hclosed]
  exact ⟨rfl, rfl, rfl, hserial⟩

/-! ### A twin's words -/

section
variable (words m : Store Word)

theorem network_of_closed {k : Nat} (hk : k < chanKey 1 0 0 0) : storeGet 0 (words ++ serialWords m) k = storeGet 0 words k := by
  refine storeGet_append_left fun e he => ?_
  have hin := of_decide_eq_true (List.mem_filter.1 he).2
  omega

theorem held_of_captured {k : Nat} (hk : k < chanKey 1 0 0 0) : storeGet 0 (networkWords m) k = storeGet 0 m k :=
  storeGet_filter fun _ => decide_eq_true hk

theorem serial_of_closed (hnet : ∀ e ∈ words, e.1 < chanKey 1 0 0 0) {k : Nat} (hk : chanKey 1 0 0 0 ≤ k) :
    storeGet 0 (words ++ serialWords m) k = storeGet 0 m k := by
  rw [storeGet_append_right fun e he => by have := hnet e he; omega]
  exact storeGet_filter fun _ => decide_eq_true hk

end

/-- What a follower shows that delivers its own network words (R237). -/
def shownInputs (s : State) : State := if ownInputs s then s.setFld Reg.TWN_STAT_input_own 1 else s

theorem closeInputs_putCaptured {s : State} (h : s.twinMode = true) (m : Store Word) (n : Net) : closeInputs (s.putCaptured m n) =
    { closedTwin (ownerWords s) (s.putCaptured m n) with regs := (shownInputs s).regs } := by
  have hclosed := closeInputs_twin (s := s.putCaptured m n) h
  rw [hclosed, shownInputs]
  by_cases hown : ownInputs s
  · rw [if_pos hown]
    exact if_pos hown
  · rw [if_neg hown]
    exact if_neg hown

/-- CAPTURE_INSTANT of a twin (R237). -/
theorem captureInstant_twin {s : State} (hon : s.tickOn = true) (htwin : s.twinMode = true) : ∃ t,
    execCaptureInstant s = .next t ∧ t.io.inNow = [] ∧ t.eng = s.eng ∧ t.twin.ownerNet = none ∧ t.regs = (shownInputs s).regs ∧
      (∀ k, k < chanKey 1 0 0 0 → storeGet 0 t.io.inTick k = storeGet 0 (ownerWords s) k ∧
        storeGet 0 t.io.netHeld k = storeGet 0 (captureNet s).io.inNow k) ∧
      (∀ k, isSerial k → (∀ e ∈ ownerWords s, e.1 < chanKey 1 0 0 0) →
        storeGet 0 t.io.inTick k = storeGet 0 s.io.inNow k) ∧
      t.twin.sent = s.twin.sent.map (fun x =>
        if s.owns = true ∧ 48 + 4 * t.io.netHeld.length ≤ frameRoom s - copyBytes x.copy then
          { x with frame := { x.frame with net := t.io.netHeld } } else x) := by
  obtain ⟨m, n, hcap, hserial, hnet⟩ := captured_eq s
  have hkept {f : Fld} (hf : f.apart Reg.TWN_STAT_input_own) : (shownInputs s).fld f = s.fld f := by
    unfold shownInputs
    split
    · refine fld_setFld_other _ _ _ _ (by decide) ?_
      unfold Fld.apart at hf; omega
    · rfl
  have howner : (shownInputs s).fld Reg.TWN_STAT_owner = s.fld Reg.TWN_STAT_owner := hkept (.inr (.inl (by decide)))
  have hmult : (shownInputs s).fld Reg.TICK_RATE_mult = s.fld Reg.TICK_RATE_mult := hkept (.inl (by decide))
  have howns : (closeInputs (captured s)).owns = s.owns := by
    rw [hcap, closeInputs_putCaptured htwin, State.owns, State.owns, ← howner]; rfl
  have hroom : frameRoom (closeInputs (captured s)) = frameRoom s := by
    rw [hcap, closeInputs_putCaptured htwin, frameRoom, frameRoom, ← hmult]; rfl
  refine ⟨_, execCaptureInstant_on hon, ?_⟩
  rw [shareNet_eq, howns, hroom, hcap, closeInputs_putCaptured htwin]
  refine ⟨rfl, rfl, rfl, rfl, fun k hk => ⟨network_of_closed _ _ hk, (held_of_captured _ hk).trans (hnet k hk)⟩,
    fun k hk hwords => (serial_of_closed _ _ hwords hk.1).trans (hserial k hk), rfl⟩

theorem shownInputs_own {s : State} (h : ownInputs s) : (shownInputs s).fld Reg.TWN_STAT_input_own = 1 ∧
    onlyFlds [Reg.TWN_STAT_input_own] s (shownInputs s) := by
  rw [shownInputs, if_pos h]
  exact ⟨fld_setFld_self s _ _ (by decide), onlyFlds_setFld (onlyFlds_refl _ s) List.mem_cons_self (by decide) 1⟩

theorem shownInputs_not_own {s : State} (h : ¬ ownInputs s) : shownInputs s = s := if_neg h

end Sys2Proof.Machine
end

section
/-!
PROOFS. The launch instant (R141, R224): the words that the guards formed leave.
-/
namespace Sys2Proof.Machine

/-- From `s` to `t` the network side alone changes, and under a fault mute the registers and guards of its trips. -/
def launchesOnly (s t : State) : Prop :=
  t = { s with net := t.net, guards := t.guards, regs := t.regs } ∧ (s.faultLoad = false → t.regs = s.regs)

theorem launchesOnly_refl (s : State) : launchesOnly s s := ⟨rfl, fun _ => rfl⟩

theorem launchesOnly_trans {s t u : State} (h : launchesOnly s t) (h' : launchesOnly t u) : launchesOnly s u := by
  obtain ⟨hst, hregs⟩ := h
  obtain ⟨htu, hregs'⟩ := h'
  obtain ⟨n, g, r, rfl⟩ : ∃ n g r, t = { s with net := n, guards := g, regs := r } := ⟨_, _, _, hst⟩
  exact ⟨htu, fun hoff => (hregs' hoff).trans (hregs hoff)⟩

theorem launchesOnly_foldl {α : Type} {f : State → α → State} (h : ∀ s a, launchesOnly s (f s a)) (l : List α) (s : State) :
    launchesOnly s (l.foldl f s) := by
  induction l generalizing s with
  | nil => exact launchesOnly_refl s
  | cons a l ih => exact launchesOnly_trans (h s a) (ih _)

theorem launchesOnly_putNet (s : State) (n : Net) : launchesOnly s { s with net := n } := ⟨rfl, fun _ => rfl⟩

/-! ### The fault mute (R224, R228) -/

/-- From `s` to `t` control registers alone change. -/
def regsOnly (s t : State) : Prop := ∃ r, t = { s with regs := r }

theorem regsOnly_refl (s : State) : regsOnly s s := ⟨s.regs, rfl⟩

section
variable {s t u : State}

theorem regsOnly_trans (h : regsOnly s t) (h' : regsOnly t u) : regsOnly s u := by
  obtain ⟨r, rfl⟩ := h
  obtain ⟨r', rfl⟩ := h'
  exact ⟨r', rfl⟩

theorem regsOnly_setReg (h : regsOnly s t) (a : Nat) (v : Word) : regsOnly s (t.setReg a v) := regsOnly_trans h ⟨_, rfl⟩

theorem regsOnly_setFld (h : regsOnly s t) (f : Fld) (v : Nat) : regsOnly s (t.setFld f v) := regsOnly_setReg h _ _

theorem regsOnly_ite (p : Prop) [Decidable p] (h : regsOnly s t) (h' : regsOnly s u) : regsOnly s (if p then t else u) := by
  split <;> assumption

end

theorem regsOnly_logTrip (s : State) (gi cause t : Nat) : regsOnly s (logTrip s gi cause t) := by
  have hover := regsOnly_ite (s.fld (Reg.THN_TRIP_LOG1_valid (s.fld Reg.THN_TRIP_WP_next)) = 1)
    (regsOnly_setFld (regsOnly_refl s) Reg.THN_STAT_log_over 1) (regsOnly_refl s)
  exact regsOnly_setFld (regsOnly_setFld (regsOnly_setFld (regsOnly_setReg (regsOnly_setReg hover _ _) _ _) _ _) _ _) _ _

theorem regsOnly_noteCauses (s : State) (gi : Nat) (g : Guard) (t : Nat) (cs may : List Nat) :
    regsOnly s (noteCauses s gi g t cs may).1 := by
  unfold noteCauses
  extract_lets g' trips
  dsimp only
  induction trips generalizing s with
  | nil => exact regsOnly_refl s
  | cons c l ih => exact regsOnly_trans (regsOnly_logTrip s gi c t) (ih _)

theorem noteFault_frame (s : State) (gi t : Nat) : ∃ g r, noteFault s gi t = { s with guards := g, regs := r } := by
  have hput {u : State} (h : regsOnly s u) (gs : Store Guard) :
      ∃ g r, ({ u with guards := gs } : State) = { s with guards := g, regs := r } := by
    obtain ⟨r, rfl⟩ := h
    exact ⟨gs, r, rfl⟩
  unfold noteFault
  extract_lets g n u
  split
  · exact hput (regsOnly_noteCauses s gi g t _ _) _
  · split
    · exact hput (regsOnly_logTrip s gi 4 t) _
    · exact ⟨s.guards, s.regs, rfl⟩

theorem launchesOnly_launchWord (s : State) (kind port ch j : Nat) : launchesOnly s (launchWord s kind port ch j).1 := by
  unfold launchWord
  split
  · exact launchesOnly_refl s
  · split
    · next hmuted =>
      have hload : s.faultLoad = true := by
        unfold faultMuted at hmuted
        exact (Bool.and_eq_true _ _ ▸ hmuted).1
      suffices h : ∀ (l : List (Nat × ThornRec)) (u : State), ∃ g r,
          l.foldl (fun s g => noteFault s g.1 s.launchTick) u = { u with guards := g, regs := r } by
        obtain ⟨g, r, hr⟩ := h (guardOf s kind port ch).toList s
        dsimp only
        rw [hr]
        exact ⟨rfl, fun hoff => absurd hload (by simp [hoff])⟩
      intro l
      induction l with
      | nil => exact fun u => ⟨u.guards, u.regs, rfl⟩
      | cons g l ih =>
        intro u
        obtain ⟨g', r, hr⟩ := noteFault_frame u g.1 u.launchTick
        rw [List.foldl_cons, hr]
        exact ih _
    · exact launchesOnly_refl s

/-! ### Transmit streams (R302, R306) -/

theorem launchesOnly_launchSample (s : State) (e : List Word) (j : Nat) : launchesOnly s (launchSample s e j).1 := by
  unfold launchSample
  suffices h : ∀ (l : List Nat) (x : State × List Word), launchesOnly x.1 (l.foldl (fun (x : State × List Word) c =>
      let v := launchWord x.1 0 0 (strFirst e + c) j
      (v.1, x.2 ++ [v.2])) x).1 from h _ _
  intro l
  induction l with
  | nil => exact fun x => launchesOnly_refl x.1
  | cons c l ih => exact fun x => launchesOnly_trans (launchesOnly_launchWord x.1 ..) (ih _)

theorem launchesOnly_feedSample (s : State) (key i j : Nat) (e : List Word) : launchesOnly s (feedSample s key i j e) :=
  launchesOnly_trans (launchesOnly_launchSample s e j) (launchesOnly_putNet _ _)

/-- A stream is turned on or off at a packet boundary, and a sample fed while it is on. -/
theorem launchesOnly_feed {s t : State} (h : launchesOnly s t) (key i j : Nat) (e : List Word) :
    launchesOnly s (if storeGet false t.net.txOn key then feedSample t key i j e else t) := by
  split
  · exact launchesOnly_trans h (launchesOnly_feedSample t key i j e)
  · exact h

theorem launchesOnly_boundary (s : State) (p : Prop) [Decidable p] (key : Nat) (on : Bool) : launchesOnly s
    (if p then { s with net := { s.net with txOn := storeSet false s.net.txOn key on } } else s) := by
  split
  · exact launchesOnly_putNet s _
  · exact launchesOnly_refl s

theorem launchesOnly_feedTx (s : State) (m key : Nat) (e : List Word) : launchesOnly s (feedTx s m key e) :=
  launchesOnly_foldl (fun t _ => launchesOnly_feed (launchesOnly_boundary t _ key true) ..) _ s

theorem launchesOnly_feedEnding (s : State) (m key : Nat) (e : List Word) : launchesOnly s (feedEnding s m key e) :=
  launchesOnly_foldl (fun t _ => launchesOnly_feed (launchesOnly_boundary t _ key false) ..) _ s

theorem launchesOnly_dropEnded (s : State) : launchesOnly s (dropEnded s) := launchesOnly_putNet s _

theorem launchesOnly_feedEndings (l : Store (List Word)) (s : State) :
    launchesOnly s (l.foldl (fun s e => feedEnding s s.tick e.1 e.2) s) := by
  refine launchesOnly_foldl ?_ l s
  exact fun t e => launchesOnly_feedEnding t t.tick e.1 e.2

theorem launchesOnly_feedTxs (l : Store (List Word)) (s : State) :
    launchesOnly s (l.foldl (fun s e => feedTx s s.tick e.1 e.2) s) := by
  refine launchesOnly_foldl ?_ l s
  exact fun t e => launchesOnly_feedTx t t.tick e.1 e.2

theorem launchesOnly_launchNet (s : State) : launchesOnly s (launchNet s) := by
  rw [launchNet]
  exact launchesOnly_trans (launchesOnly_trans (launchesOnly_feedEndings ..) (launchesOnly_dropEnded _)) (launchesOnly_feedTxs ..)

/-- The words that the guards formed leave in the launch tick that begins. -/
theorem execLaunchInstant_on {s : State} (h : s.tickOn = true) : ∃ t, execLaunchInstant s = .next t ∧ t.io.outNow = s.io.outNext ∧
    t.io.muteNow = s.io.muteNext ∧ t.io.outNext = [] ∧ t.io.muteNext = [] ∧ t.io.launched = s.tick + 1 ∧ t.eng = s.eng ∧
      (s.faultLoad = false → t.regs = s.regs) := by
  obtain ⟨hframe, hregs⟩ := launchesOnly_launchNet { s with io := { s.io with
    outNow := s.io.outNext, muteNow := s.io.muteNext, outNext := [], muteNext := [], launched := s.tick + 1 } }
  refine ⟨_, by rw [execLaunchInstant, if_pos h], ?_, ?_, ?_, ?_, ?_, ?_, hregs⟩ <;> rw [hframe]

end Sys2Proof.Machine
end

section
/-!
PROOFS. TICK_GUARD (R134, R143): the guard without findings, with a corrected one, and with an uncorrectable one.
-/
namespace Sys2Proof.Machine

section
variable {s : State} {c : Nat}

theorem passFlds_addr {f : Fld} (h : f ∈ passFlds c) : f.addr = Reg.ENG_SCRUB c ∨ f.addr = Reg.MEM_DLY_ECC c := by
  simp only [passFlds, List.mem_cons, List.not_mem_nil, or_false] at h
  rcases h with rfl | rfl | rfl
  · exact .inl rfl
  · exact .inl rfl
  · exact .inr rfl

/-- A guard's close leaves every register that counts no pass. -/
theorem reg_guardClose_other {a : Nat} (h : a ≠ Reg.ENG_SCRUB c ∧ a ≠ Reg.MEM_DLY_ECC c) : (guardClose c s).reg a = s.reg a := by
  refine reg_guardClose fun f hf => ?_
  rcases passFlds_addr hf with hf | hf <;> rw [hf]
  · exact h.1.symm
  · exact h.2.symm

theorem fld_guardClose_other {g : Fld} (h : g.addr ≠ Reg.ENG_SCRUB c ∧ g.addr ≠ Reg.MEM_DLY_ECC c) :
    (guardClose c s).fld g = s.fld g := by
  rw [State.fld, reg_guardClose_other h, State.fld]

/-- An engine whose guard has run without findings (R67, R71, R101, R134). -/
theorem engine_guarded {e : Nat} (he : e / 16 = c) : let t := guardClose c (guardOpen c s)
    (t.engine e).win = false ∧ (t.engine e).used = [] ∧ (t.engine e).wbq = [] ∧
      (t.engine e).outFront = (s.engine e).drain.outBack ∧ (t.engine e).outBack = (s.engine e).drain.outFront ∧
      (t.engine e).inBack = (s.engine e).drain.inFront ∧ (t.engine e).inFront = (s.engine e).drain.inBack ∧
      (t.engine e).scrubData = ((s.engine e).drain.scrubData + 64) % 65536 ∧
      (t.engine e).scrubProg = ((s.engine e).drain.scrubProg + 64) % 24576 := by
  have heng : (guardClose c (guardOpen c s)).engine e = (s.engine e).closed.scrub.swap := by
    rw [engine_guardClose, if_pos he, engine_guardOpen, if_pos he]
  dsimp only
  rw [heng, Engine.closed]
  generalize (s.engine e).drain = x
  exact ⟨rfl, rfl, rfl, rfl, rfl, rfl, rfl, rfl, rfl⟩

theorem engine_guarded_other {e : Nat} (he : e / 16 ≠ c) : (guardClose c (guardOpen c s)).engine e = s.engine e := by
  rw [engine_guardClose, if_neg he, engine_guardOpen, if_neg he]

theorem flags_guarded {i : Nat} (hi : i < 16) : (guardClose c (guardOpen c s)).reg (Reg.ENG_FLAGS c i) =
    s.reg (Reg.ENG_FLAGS c i) ||| (s.engine (16 * c + i)).drain.flg.setWidth 32 := by
  rw [reg_guardClose_other (by simp only [Reg.ENG_FLAGS, Reg.ENG_SCRUB, Reg.MEM_DLY_ECC]; omega), flags_guardOpen c s hi]

theorem tick_guarded : (guardClose c (guardOpen c s)).tick = s.tick := by
  obtain ⟨m, r, q, g, hclose⟩ := guardClose_frame (c := c) (s := guardOpen c s)
  obtain ⟨m', r', g', hopen⟩ := guardOpen_frame c s
  rw [hclose, hopen]

/-! ### A corrected finding -/

/-- A field of a corrected finding is what the finding made it when the guard has closed. -/
theorem fld_guardClose_countFlds {t : State} {g : Fld} (hg : g ∈ countFlds c) : (guardClose c t).fld g = t.fld g :=
  fld_guardClose fun _ hf => apart_comm (passFlds_apart_countFlds hf hg)

/-- A corrected finding of a guard differs from none in its counter and its engine's flag. -/
theorem onlyFlds_corrected (p : Place) (t : State) :
    onlyFlds (placeFlds c p) (guardClose c t) (guardClose c (countFinding c p t)) :=
  onlyFlds_guardClose_both (onlyFlds_countFinding c p t) fun _ hf _ hg =>
    passFlds_apart_countFlds hf (placeFlds_subset c p hg)

theorem corrected_engine (e : Fin 16) (data : Bool) (t : State) :
    let g := if data then Reg.ENG_ECC_CNT_ce_data c else Reg.ENG_ECC_CNT_ce_prog c
    (guardClose c (correctedError t (16 * c + e.val) data)).fld g = min (2 ^ g.w - 1) ((guardClose c t).fld g + 1) ∧
      (guardClose c (correctedError t (16 * c + e.val) data)).fld (Reg.ENG_FLAGS_ce c e.val) = 1 := by
  obtain ⟨hclu, hnum⟩ := engine_place c e
  have hcount := count_correctedError t (16 * c + e.val) data
  have hflag := flag_correctedError t (16 * c + e.val) data
  rw [errorCount, hclu] at hcount
  rw [hclu, hnum] at hflag
  have hin : (if data then Reg.ENG_ECC_CNT_ce_data c else Reg.ENG_ECC_CNT_ce_prog c) ∈ countFlds c := by
    cases data <;> simp [countFlds]
  have hflagin : Reg.ENG_FLAGS_ce c e.val ∈ countFlds c := placeFlds_subset c (.data e 0) (by simp [placeFlds])
  dsimp only
  rw [fld_guardClose_countFlds hin, fld_guardClose_countFlds hin, fld_guardClose_countFlds hflagin]
  exact ⟨hcount, hflag⟩

theorem corrected_delay (t : State) : let g := Reg.MEM_DLY_ECC_ce c
    (guardClose c (t.satInc g)).fld g = min (2 ^ g.w - 1) ((guardClose c t).fld g + 1) := by
  have hin : Reg.MEM_DLY_ECC_ce c ∈ countFlds c := by simp [countFlds]
  dsimp only
  rw [fld_guardClose_countFlds hin, fld_guardClose_countFlds hin, fld_satInc_self _ _ (by simp [Reg.MEM_DLY_ECC_ce])]

/-! ### An uncorrectable finding -/

/-- What a guard shows of a fault of its cluster is what its findings left. -/
theorem faultStays_guardClose (t : State) : faultStays c t (guardClose c t) := by
  refine faultStays_of_regs fun a ha => reg_guardClose_other ?_
  simp only [List.mem_cons, List.not_mem_nil, or_false] at ha
  rcases ha with rfl | rfl | rfl <;>
    simp only [Reg.ENG_FAULT, Reg.ENG_FAULT_ADDR, Reg.ENG_FAULT_TICK, Reg.ENG_SCRUB, Reg.MEM_DLY_ECC] <;> omega

theorem faultStays_guardOpen (s : State) : faultStays c s (guardOpen c s) := by
  refine faultStays_of_regs fun a ha => reg_guardOpen_other c s fun i _ => ?_
  simp only [List.mem_cons, List.not_mem_nil, or_false] at ha
  rcases ha with rfl | rfl | rfl <;>
    simp only [Reg.ENG_FAULT, Reg.ENG_FAULT_ADDR, Reg.ENG_FAULT_TICK, Reg.ENG_FLAGS] <;> omega

/-- The record of a fault at a place fits its fields (Table 03.5). -/
theorem faultAt_lt (p : Place) : (faultAt p).1 < 8 ∧ (faultAt p).2.1 < 64 ∧ (faultAt p).2.2 < 2 ^ 24 := by
  cases p with
  | data e a => simp only [faultAt]; omega
  | prog e a u => have := Bool.toNat_le u; simp only [faultAt]; omega
  | delay b a => simp only [faultAt]; omega
  | window e a => simp only [faultAt]; omega

/-- The state in which a guard's first uncorrectable finding counts. -/
def beforeFault (c : Nat) (before : List Finding) (s : State) : State := before.foldl (fun t f => applyFinding t c f) (guardOpen c s)

section
variable {before : List Finding} (hclu : c < 8) (hbefore : ∀ g ∈ before, findingSeen s c g = true → g.corrected = true)
include hclu hbefore

theorem counts_beforeFault : onlyFlds (countFlds c) (guardOpen c s) (beforeFault c before s) :=
  onlyFlds_foldl_applyFinding hclu fun g hg hseen => hbefore g hg (by rwa [findingSeen_guardOpen] at hseen)

theorem findingSeen_beforeFault (f : Finding) : findingSeen (beforeFault c before s) c f = findingSeen s c f := by
  rw [findingSeen_of_counts hclu (counts_beforeFault hclu hbefore), findingSeen_guardOpen]

theorem faultStays_beforeFault : faultStays c s (beforeFault c before s) :=
  faultStays_trans (faultStays_guardOpen s) (faultStays_of_counts (counts_beforeFault hclu hbefore))

theorem beforeFault_kept : (beforeFault c before s).tick = s.tick ∧ (beforeFault c before s).faultStart = s.faultStart ∧
    (beforeFault c before s).fld Reg.TWN_STAT_alive = s.fld Reg.TWN_STAT_alive := by
  have hcounts := counts_beforeFault hclu hbefore
  obtain ⟨m, r, g, hopen⟩ := guardOpen_frame c s
  have halive : (guardOpen c s).fld Reg.TWN_STAT_alive = s.fld Reg.TWN_STAT_alive :=
    fld_guardOpen_other c s fun i _ => by simp only [Reg.TWN_STAT_alive, Reg.TWN_STAT, Reg.ENG_FLAGS]; omega
  refine ⟨?_, ?_, (alive_of_counts hcounts hclu).trans halive⟩ <;> rw [hcounts.1, hopen]

end

/-- The first uncorrectable finding that a guard sees is its cluster's fault (R68, R69, R243). -/
theorem guardCluster_fault {f : Finding} {before : List Finding} (after : List Finding) (hclu : c < 8)
    (hseen : findingSeen s c f = true) (hunc : f.corrected = false)
    (hbefore : ∀ g ∈ before, findingSeen s c g = true → g.corrected = true) : let t := guardCluster s c (before ++ f :: after)
    swapped t c = true ∧ t.fld Reg.TWN_STAT_alive = (if s.faultStart then s.fld Reg.TWN_STAT_alive else 0) ∧
      t.fld (Reg.ENG_FAULT_valid c) = 1 ∧
      (s.fld (Reg.ENG_FAULT_valid c) = 1 → t.fld (Reg.ENG_FAULT_more c) = 1 ∧
        t.reg (Reg.ENG_FAULT_ADDR c) = s.reg (Reg.ENG_FAULT_ADDR c) ∧ t.reg (Reg.ENG_FAULT_TICK c) = s.reg (Reg.ENG_FAULT_TICK c)) ∧
      (s.fld (Reg.ENG_FAULT_valid c) = 0 → recordsFault c (faultAt f.place) f.cycle.toNat s.tick t) := by
  have hsplit : guardCluster s c (before ++ f :: after) =
      guardClose c (after.foldl (fun t f => applyFinding t c f) (applyFinding (beforeFault c before s) c f)) := by
    rw [guardCluster_eq, List.foldl_append, List.foldl_cons, beforeFault]
  obtain ⟨htick, hstart, halive⟩ := beforeFault_kept hclu hbefore
  have hpre := faultStays_beforeFault hclu hbefore
  have hvalid := valid_of_faultStays hpre
  obtain ⟨hk, hu, ha⟩ := faultAt_lt f.place
  rw [hsplit, applyFinding_uncorrectable (by rwa [findingSeen_beforeFault hclu hbefore]) hunc]
  obtain ⟨⟨hv, hdown, -⟩, hafter⟩ := foldl_applyFinding_faulted hclu
    (faulted_clusterFault (s := beforeFault c before s) (c := c) hk hu ha f.cycle.isLt) after
  have hpost := faultStays_trans hafter (faultStays_guardClose _)
  refine ⟨swapped_guardClose, ?_, (valid_of_faultStays (faultStays_guardClose _)).trans hv, fun h => ?_, fun h => ?_⟩
  · rw [fld_guardClose_other (by simp only [Reg.TWN_STAT_alive, Reg.TWN_STAT, Reg.ENG_SCRUB, Reg.MEM_DLY_ECC]; omega), hdown,
      hstart, halive]
  · obtain ⟨hstays, hone⟩ := clusterFault_again (hvalid.trans h) (faultAt f.place).1 (faultAt f.place).2.1 (faultAt f.place).2.2
      f.cycle.toNat
    obtain ⟨-, -, haddr, htk⟩ := faultStays_trans (faultStays_trans hpre hstays) hpost
    exact ⟨hpost.2.1 hone, haddr, htk⟩
  · obtain ⟨-, hrecord⟩ := clusterFault_first (by rw [hvalid, h]; decide) hk hu ha f.cycle.isLt
    rw [htick] at hrecord
    exact recordsFault_of_stays hpost hrecord

end

/-! ### The command -/

theorem exec_tickGuard {s : State} {c : ClNo} (hon : s.tickOn = true) (hnot : swapped s c = false) (finds : List Finding) :
    exec (.tickGuard c finds) s = .next (guardCluster s c finds) :=
  congrArg Host.Outcome.next (if_neg (by simp [hon, hnot]))

theorem exec_tickGuard_quiet {s : State} {c : ClNo} (h : s.tickOn = false ∨ swapped s c = true) (finds : List Finding) :
    exec (.tickGuard c finds) s = .next s := congrArg Host.Outcome.next (if_pos h)

theorem guardCluster_nil (s : State) (c : Nat) : guardCluster s c [] = guardClose c (guardOpen c s) := by
  rw [guardCluster_eq, List.foldl_nil]

theorem guardCluster_one (s : State) (c : Nat) (f : Finding) :
    guardCluster s c [f] = guardClose c (applyFinding (guardOpen c s) c f) := by
  rw [guardCluster_eq, List.foldl_cons, List.foldl_nil]

/-- A guard with a corrected finding, against the guard without findings (R66, R67, R119). -/
theorem guardCluster_corrected {s : State} {c : Nat} {f : Finding} (hseen : findingSeen s c f = true) (hc : f.corrected = true) :
    guardCluster s c [f] = guardClose c (countFinding c f.place (guardOpen c s)) := by
  rw [guardCluster_one, applyFinding_corrected (by rwa [findingSeen_guardOpen]) hc]

theorem guardCluster_unseen {s : State} {c : Nat} {f : Finding} (h : findingSeen s c f = false) :
    guardCluster s c [f] = guardClose c (guardOpen c s) := by
  rw [guardCluster_one, applyFinding_unseen (by rwa [findingSeen_guardOpen])]

/-- Settles O35: a guard is its opening, its findings and its close, and each instant moves words between the parts of the I/O side. -/
theorem guardsSwapWindowsAndInstantsMoveWords : Obligations.GuardsSwapWindowsAndInstantsMoveWords := by
  unfold Obligations.GuardsSwapWindowsAndInstantsMoveWords
  intro c finds test s
  refine ⟨fun hon hnot => ?_, fun hquiet => ?_, fun f hon hnot => ?_, fun f before after hon hnot hseen hunc hbefore => ?_,
    fun hon hsingle => ?_, fun hon htwin => ?_, fun hon => execLaunchInstant_on hon, fun hoff => ?_, rfl⟩
  -- The guard without findings (R71, R134)
  · refine ⟨_, exec_tickGuard hon hnot [], ?_⟩
    rw [guardCluster_nil]
    refine ⟨swapped_guardClose, tick_guarded, fun i => ?_, fun e he => engine_guarded_other he⟩
    obtain ⟨hwin, hused, hwbq, houtF, houtB, hinB, hinF, hdata, hprog⟩ := engine_guarded (s := s) (engine_place c i).1
    exact ⟨hwin, hused, hwbq, houtF, houtB, hinB, hinF, hdata, hprog, flags_guarded i.isLt⟩
  · exact exec_tickGuard_quiet hquiet finds
  -- One finding (R66, R67, R119)
  · refine ⟨_, exec_tickGuard hon hnot [], _, exec_tickGuard hon hnot [f], ?_⟩
    rw [guardCluster_nil]
    refine ⟨fun hunseen => guardCluster_unseen hunseen, fun hseen hc => ?_⟩
    have honly := onlyFlds_corrected (c := c) f.place (guardOpen c s)
    rw [guardCluster_corrected hseen hc]
    generalize guardOpen c s = u at *
    cases hp : f.place with
    | data e a =>
      rw [hp] at honly
      obtain ⟨hcount, hflag⟩ := corrected_engine (c := c) e true u
      exact ⟨⟨hcount, honly⟩, hflag⟩
    | prog e a _ =>
      rw [hp] at honly
      obtain ⟨hcount, hflag⟩ := corrected_engine (c := c) e false u
      exact ⟨⟨hcount, honly⟩, hflag⟩
    | delay b a =>
      rw [hp] at honly
      exact ⟨corrected_delay u, honly⟩
    | window e a => rfl
  -- An uncorrectable finding (R68, R69)
  · obtain ⟨hswapped, halive, hvalid, hagain, hfirst⟩ := guardCluster_fault after c.isLt hseen hunc hbefore
    refine ⟨_, exec_tickGuard hon hnot _, hswapped, halive, hvalid, hagain, ?_⟩
    cases hp : f.place <;> (rw [hp] at hfirst; exact hfirst)
  -- The capture instant (R142, R237)
  · obtain ⟨t, hexec, hnow, hregs, heng, hwords⟩ := captureInstant_single hon hsingle
    exact ⟨t, hexec, hnow, hregs, heng, fun port slot j hp hs hj => hwords _ (isSerial_tdm hp hs hj),
      fun lane j _ _ => hwords _ isSerial_qs⟩
  · obtain ⟨t, hexec, hnow, heng, howner, hregs, hnet, hserial, hsent⟩ := captureInstant_twin hon htwin
    refine ⟨t, hexec, hnow, heng, howner, hnet, fun port slot j hp hs hj hwords => hserial _ (isSerial_tdm hp hs hj) hwords,
      fun hown => ?_, fun hnot => ?_, hsent⟩
    · obtain ⟨hset, honly⟩ := shownInputs_own hown
      have hshown : ({ s with regs := t.regs } : State) = shownInputs s := by rw [hregs]; exact honly.1.symm
      exact ⟨(fld_of_regs hregs _).trans hset, by rw [hshown]; exact honly⟩
    · rw [hregs, shownInputs_not_own hnot]
  · exact ⟨congrArg Host.Outcome.next (if_neg (by simp [hoff])), congrArg Host.Outcome.next (if_neg (by simp [hoff]))⟩

end Sys2Proof.Machine
end

section
/-!
PROOFS. Answers (R162, R185, R381): what sending one leaves alone, what goes out, and what becomes of a decision.
-/
namespace Sys2Proof.Machine

/-! ### The control stream -/

theorem sendsItems_sendCtl (s : State) (i : CtlItem) : sendsItems [i] s (sendCtl s i) := by
  unfold sendCtl joinFrame
  split
  · rfl
  · split <;> rfl

/-- The notice to the partner goes out last (R248). -/
theorem ctlOut_sendCtl_detach (s : State) : (sendCtl s .detach).ctlOut = s.ctlOut ++ [.detach] :=
  congrArg State.ctlOut (sendsItems_sendCtl s .detach)

theorem regs_of_sendsItems {l : List CtlItem} {u t : State} (h : sendsItems l u t) : t.regs = u.regs := by rw [h]

/-- A leader's item goes out under the next number (R185). -/
theorem forward_leads {s : State} (h : s.leads = true) (f : Nat → CtlItem) :
    sendsItems [f (s.twin.ctlSeq + 1)] { s with twin := { s.twin with ctlSeq := s.twin.ctlSeq + 1 } } (forward s f) := by
  have hsend := sendsItems_sendCtl s (f (s.twin.ctlSeq + 1))
  simp only [forward, if_pos h]
  generalize sendCtl s (f (s.twin.ctlSeq + 1)) = t at hsend ⊢
  unfold sendsItems at hsend ⊢
  rw [hsend]

/-! ### What answers leave alone -/

/-- The registers that answers show in. -/
def replyRegs : List Nat := [Reg.CMT_STAT, Reg.CMT_SUBMIT, Reg.CMT_SUBMIT_RES, Reg.CMT_SUBMIT_TICK]

/-- The state without what answers go through: registers, sessions, the two outputs, the remembered answers, and the control stream
with the link frame of the tick. -/
def State.unanswered (s : State) : State :=
  { s with regs := [], sessions := [], bellOut := [], udpOut := [], remembered := [], ctlOut := [],
           twin := { s.twin with sent := none, sentTo := 0 } }

/-- From `s` to `t` only what answers go through differs. -/
def onlyReplies (s t : State) : Prop := t.unanswered = s.unanswered ∧ regsKept replyRegs s t

section
variable {s t u : State}

theorem onlyReplies_refl (s : State) : onlyReplies s s := ⟨rfl, fun _ _ => rfl⟩

theorem onlyReplies_trans (h : onlyReplies s t) (h' : onlyReplies t u) : onlyReplies s u :=
  ⟨h'.1.trans h.1, fun a ha => (h'.2 a ha).trans (h.2 a ha)⟩

theorem onlyReplies_foldl {α : Type} {f : State → α → State} (hf : ∀ t a, onlyReplies t (f t a)) (l : List α) (s : State) :
    onlyReplies s (l.foldl f s) := by
  induction l generalizing s with
  | nil => exact onlyReplies_refl s
  | cons a l ih => exact onlyReplies_trans (hf s a) (ih _)

theorem onlyReplies_of_regs (hsame : t.unanswered = s.unanswered) (hregs : t.regs = s.regs) : onlyReplies s t :=
  ⟨hsame, fun a _ => by rw [State.reg, hregs, State.reg]⟩

theorem onlyReplies_setReg {a : Nat} (ha : a ∈ replyRegs) (v : Word) : onlyReplies s (s.setReg a v) :=
  ⟨Eq.trans rfl rfl, fun b hb => by rw [reg_setReg, if_neg (ne_of_mem_of_not_mem ha hb).symm]⟩

theorem onlyReplies_setFld {f : Fld} (hf : f.addr ∈ replyRegs) (v : Nat) : onlyReplies s (s.setFld f v) := onlyReplies_setReg hf _

theorem onlyReplies_sendCtl (s : State) (i : CtlItem) : onlyReplies s (sendCtl s i) := by
  have h := sendsItems_sendCtl s i
  refine onlyReplies_of_regs ?_ (regs_of_sendsItems h)
  rw [h]
  rfl

theorem onlyReplies_noteStatus (s : State) (n : Nat) : onlyReplies s (noteStatus s n) := by
  unfold noteStatus
  split
  · exact onlyReplies_refl s
  · exact onlyReplies_setFld (by simp [replyRegs]) 1

theorem onlyReplies_remember (s : State) (r : Remembered) : onlyReplies s (remember s r) := by
  unfold remember
  split
  · exact onlyReplies_refl s
  · exact onlyReplies_of_regs rfl rfl

/-- The end of a session changes sessions and the control stream alone. -/
theorem endSoon_frame (s : State) (n : Nat) : ∃ ss co sn st,
    endSoon s n = { s with sessions := ss, ctlOut := co, twin := { s.twin with sent := sn, sentTo := st } } := by
  unfold endSoon
  split
  · exact ⟨_, _, _, _, rfl⟩
  · dsimp only
    split
    · exact ⟨_, _, _, _, rfl⟩
    · split
      · exact ⟨_, _, _, _, sendsItems_sendCtl _ _⟩
      · exact ⟨_, _, _, _, rfl⟩

/-- Session `n` with the number of the answer's frame used. -/
def frameUsed (s : State) (n : Nat) (e : Session) : State :=
  let u : State := { s with sessions := storeIns n { e with txSeq := e.txSeq + 1 } s.sessions }
  if 2 ^ 64 ≤ e.txSeq + 2 then endSoon u n else u

theorem frameUsed_frame (s : State) (n : Nat) (e : Session) : ∃ ss co sn st,
    frameUsed s n e = { s with sessions := ss, ctlOut := co, twin := { s.twin with sent := sn, sentTo := st } } := by
  unfold frameUsed
  dsimp only
  split
  · obtain ⟨ss, co, sn, st, h⟩ := endSoon_frame { s with sessions := storeIns n { e with txSeq := e.txSeq + 1 } s.sessions } n
    exact ⟨ss, co, sn, st, h⟩
  · exact ⟨_, _, _, _, rfl⟩

/-- The answer frame (R379) that an open session is sent. -/
def sessionFrame (n : Nat) (e : Session) (op id : Nat) (r : Reply) : Answer :=
  { bell := e.bell, part := e.part, session := n, frame := e.txSeq + 1, op := op, reqId := id, reply := r, key := e.kOut, addr := e.addr }

theorem answerSession_open {n : Nat} {e : Session} (h : storeFind s.sessions n = some e) (op id : Nat) (r : Reply) :
    answerSession s n op id r =
      if e.bell then { frameUsed s n e with bellOut := (frameUsed s n e).bellOut ++ [sessionFrame n e op id r] }
      else { frameUsed s n e with udpOut := (frameUsed s n e).udpOut ++ [sessionFrame n e op id r] } := by
  rw [answerSession, h]
  rfl

theorem onlyReplies_answerSession (s : State) (n op id : Nat) (r : Reply) : onlyReplies s (answerSession s n op id r) := by
  cases h : storeFind s.sessions n with
  | none => rw [answerSession, h]; exact onlyReplies_refl s
  | some e =>
    rw [answerSession_open h]
    obtain ⟨ss, co, sn, st, hused⟩ := frameUsed_frame s n e
    rw [hused]
    split <;> exact onlyReplies_of_regs rfl rfl

theorem onlyReplies_answerSubmit (s : State) (r : Reply) : onlyReplies s (answerSubmit s r) :=
  onlyReplies_trans (onlyReplies_setFld (by decide) _) <| onlyReplies_trans (onlyReplies_setFld (by decide) _) <|
    onlyReplies_trans (onlyReplies_setFld (by decide) _) (onlyReplies_setReg (by decide) _)

theorem onlyReplies_deliver (s : State) (a : Asker) (r : Reply) : onlyReplies s (deliver s a r) := by
  refine onlyReplies_trans (onlyReplies_noteStatus s r.status) ?_
  cases a with
  | session n op id => exact onlyReplies_answerSession _ n op id r
  | submit => exact onlyReplies_answerSubmit _ r
  | peer n op id => exact onlyReplies_sendCtl _ _
  | peerSubmit => exact onlyReplies_sendCtl _ _

/-- The state that knows what is remembered from an answer on (R162). -/
theorem onlyReplies_elim_remember (s : State) (rem : Option Remembered) : onlyReplies s (rem.elim s (remember s)) := by
  cases rem with
  | none => exact onlyReplies_refl s
  | some q => exact onlyReplies_remember s q

theorem onlyReplies_answer (s : State) (a : Asker) (r : Reply) (rem : Option Remembered) : onlyReplies s (answer s a r rem) :=
  onlyReplies_trans (onlyReplies_elim_remember s rem) (onlyReplies_deliver _ a r)

/-- Every flip bit of the device lies outside the registers of answers. -/
theorem flip_of_onlyReplies (h : onlyReplies s t) (b : Nat) : t.flip b = s.flip b := by
  have hout : Reg.CMT_FLIP (b / 32) ∉ replyRegs := by
    simp only [replyRegs, Reg.CMT_FLIP, Reg.CMT_STAT, Reg.CMT_SUBMIT, Reg.CMT_SUBMIT_RES, Reg.CMT_SUBMIT_TICK, List.mem_cons,
      List.not_mem_nil, or_false, not_or]
    omega
  rw [State.flip, State.fld, h.2 _ hout, State.flip, State.fld]

theorem dataKept_of_onlyReplies (h : onlyReplies s t) : dataKept s t :=
  ⟨(congrArg State.pstA h.1 :), (congrArg State.pstB h.1 :), (congrArg State.delay h.1 :), (congrArg State.dram h.1 :),
    (congrArg State.eng h.1 :), fun b _ => flip_of_onlyReplies h b⟩

theorem groups_of_onlyReplies (h : onlyReplies s t) : t.groups = s.groups := (congrArg State.groups h.1 :)
theorem leases_of_onlyReplies (h : onlyReplies s t) : t.leases = s.leases := (congrArg State.leases h.1 :)
theorem held_of_onlyReplies (h : onlyReplies s t) : t.held = s.held := (congrArg State.held h.1 :)
theorem ctlConfirmed_of_onlyReplies (h : onlyReplies s t) : t.twin.ctlConfirmed = s.twin.ctlConfirmed :=
  (congrArg (fun u => u.twin.ctlConfirmed) h.1 :)

theorem dataKept_trans (h : dataKept s t) (h' : dataKept t u) : dataKept s u := by
  obtain ⟨hA, hB, hdelay, hdram, heng, hflip⟩ := h
  obtain ⟨hA', hB', hdelay', hdram', heng', hflip'⟩ := h'
  exact ⟨hA'.trans hA, hB'.trans hB, hdelay'.trans hdelay, hdram'.trans hdram, heng'.trans heng,
    fun b hb => (hflip' b hb).trans (hflip b hb)⟩

end

/-! ### What goes out (R379, R381) -/

section
variable {s : State} {n : Nat} {e : Session}

/-- An answer frame leaves registers and the remembered answers as they are. -/
theorem answerSession_kept (h : storeFind s.sessions n = some e) (op id : Nat) (r : Reply) :
    (answerSession s n op id r).regs = s.regs ∧ (answerSession s n op id r).remembered = s.remembered := by
  obtain ⟨ss, co, sn, st, hused⟩ := frameUsed_frame s n e
  rw [answerSession_open h, hused]
  split <;> exact ⟨rfl, rfl⟩

theorem outs_answerSession (h : storeFind s.sessions n = some e) (op id : Nat) (r : Reply) :
    (answerSession s n op id r).bellOut = (if e.bell then s.bellOut ++ [sessionFrame n e op id r] else s.bellOut) ∧
    (answerSession s n op id r).udpOut = (if e.bell then s.udpOut else s.udpOut ++ [sessionFrame n e op id r]) := by
  obtain ⟨ss, co, sn, st, hused⟩ := frameUsed_frame s n e
  rw [answerSession_open h, hused]
  split <;> exact ⟨rfl, rfl⟩

theorem noteStatus_kept (s : State) (k : Nat) : (noteStatus s k).sessions = s.sessions ∧ (noteStatus s k).bellOut = s.bellOut ∧
    (noteStatus s k).udpOut = s.udpOut ∧ (noteStatus s k).remembered = s.remembered := by
  unfold noteStatus
  split <;> simp

theorem elim_remember_kept (s : State) (rem : Option Remembered) : (rem.elim s (remember s)).sessions = s.sessions ∧
    (rem.elim s (remember s)).bellOut = s.bellOut ∧ (rem.elim s (remember s)).udpOut = s.udpOut := by
  cases rem with
  | none => exact ⟨rfl, rfl, rfl⟩
  | some q =>
    simp only [Option.elim_some, remember]
    split <;> exact ⟨rfl, rfl, rfl⟩

/-- What an answer to a session is, before its frame: what is remembered, and the status in CMT_STAT. -/
def answerNoted (s : State) (r : Reply) (rem : Option Remembered) : State := noteStatus (rem.elim s (remember s)) r.status

theorem answer_session (s : State) (n op id : Nat) (r : Reply) (rem : Option Remembered) :
    answer s (.session n op id) r rem = answerSession (answerNoted s r rem) n op id r := rfl

theorem answerNoted_kept (s : State) (r : Reply) (rem : Option Remembered) :
    (answerNoted s r rem).sessions = s.sessions ∧ (answerNoted s r rem).bellOut = s.bellOut ∧
      (answerNoted s r rem).udpOut = s.udpOut ∧ (answerNoted s r rem).remembered = (rem.elim s (remember s)).remembered := by
  obtain ⟨hses, hbell, hudp⟩ := elim_remember_kept s rem
  obtain ⟨hses', hbell', hudp', hrem'⟩ := noteStatus_kept (rem.elim s (remember s)) r.status
  exact ⟨hses'.trans hses, hbell'.trans hbell, hudp'.trans hudp, hrem'⟩

/-- An open session is sent one frame with the answer; its status shows in CMT_STAT. -/
theorem answered_answer (h : storeFind s.sessions n = some e) (op id : Nat) {r : Reply} (hr : r.status < 32) (rem : Option Remembered) :
    answered s (answer s (.session n op id) r rem) n e op id r := by
  obtain ⟨hses, hbell, hudp, _⟩ := answerNoted_kept s r rem
  have hopen : storeFind (answerNoted s r rem).sessions n = some e := by rw [hses, h]
  obtain ⟨hbell', hudp'⟩ := outs_answerSession hopen op id r
  rw [hbell] at hbell'
  rw [hudp] at hudp'
  rw [answer_session]
  refine ⟨fun hb => ?_, fun hb => ?_, fun hs => ?_⟩
  · rw [hbell', hudp', if_pos hb, if_pos hb]
    exact ⟨rfl, rfl⟩
  · rw [hbell', hudp', if_neg (by simp [hb]), if_neg (by simp [hb])]
    exact ⟨rfl, rfl⟩
  · rw [fld_of_regs (answerSession_kept hopen op id r).1, answerNoted, noteStatus, if_neg hs]
    exact fld_setFld_of_lt (f := ⟨Reg.CMT_STAT, r.status, 1⟩) hr Nat.one_lt_two

theorem remembered_answer (h : storeFind s.sessions n = some e) (op id : Nat) (r : Reply) (rem : Option Remembered) :
    (answer s (.session n op id) r rem).remembered = (rem.elim s (remember s)).remembered := by
  obtain ⟨hses, _, _, hrem⟩ := answerNoted_kept s r rem
  have hopen : storeFind (answerNoted s r rem).sessions n = some e := by rw [hses, h]
  exact (answerSession_kept hopen op id r).2.trans hrem

end

/-! ### Remembered answers (R162) -/

theorem rememberedFor_congr {s t : State} (h : t.remembered = s.remembered) (who : SessId) (seq : Nat) :
    rememberedFor t who seq = rememberedFor s who seq := by rw [rememberedFor, h, rememberedFor]

/-- A session's newest answer is among the 64 that it keeps. -/
theorem rememberedFor_remember {s : State} {r : Remembered} (h : rememberedFor s r.who r.seq = none) :
    rememberedFor (remember s r) r.who r.seq = some r := by
  have hold : ∀ q ∈ s.remembered, ¬ (q.who == r.who && q.seq == r.seq) = true := List.find?_eq_none.1 h
  have hothers : (s.remembered.filter (fun q => q.who != r.who)).find? (fun q => q.who == r.who && q.seq == r.seq) = none :=
    List.find?_eq_none.2 fun q hq => hold q (List.mem_of_mem_filter hq)
  have hmine (k : Nat) :
      ((s.remembered.filter (fun q => q.who == r.who)).drop k).find? (fun q => q.who == r.who && q.seq == r.seq) = none :=
    List.find?_eq_none.2 fun q hq => hold q (List.mem_of_mem_filter (List.mem_of_mem_drop hq))
  have hsome : ¬ (rememberedFor s r.who r.seq).isSome = true := by simp [h]
  rw [remember, if_neg hsome]
  simp only [rememberedFor]
  rw [List.drop_append_of_le_length (Nat.sub_le _ _), List.find?_append, List.find?_append, hothers, hmine]
  simp

/-! ### Decisions (R185) -/

/-- A decision that nothing is forwarded of, or that no follower waits for, is answered. -/
theorem conclude_answers {v : Served} (h : v.fwd = none ∨ v.st.leads = false) (a : Asker) :
    conclude v a = answer v.st a v.reply v.rem := by
  unfold conclude
  rcases h with h | h
  · rw [h]
  · cases v.fwd <;> simp [h]

/-- What a leader forwards it withholds the answer to. -/
theorem conclude_withholds {v : Served} {i : CtlItem} (hf : v.fwd = some i) (hl : v.st.leads = true) (a : Asker) :
    sendsItems [i] { v.st with twin := { v.st.twin with ctlSeq := v.st.twin.ctlSeq + 1 },
                               held := v.st.held ++ [⟨v.st.twin.ctlSeq + 1, v.st.tick, a, v.reply, v.rem⟩] } (conclude v a) := by
  have hsend := forward_leads hl (fun _ => i)
  unfold conclude
  rw [hf]
  simp only [if_pos hl]
  generalize forward v.st (fun _ => i) = t at hsend ⊢
  unfold sendsItems at hsend ⊢
  rw [hsend]

/-! ### Requests (R381) -/

theorem exec_audonCommand (n : Fin 4096) (id : Word) (fl : Byte) (q : AudonReq) (s : State) :
    exec (audonCommand n id fl q) s = .next (request n id fl q s) := by
  cases q <;> rfl

theorem relays_of_not_follows {s : State} (h : s.follows = false) (q : AudonReq) : relays s q = false := by
  cases q with
  | read b f r c => exact Bool.and_eq_false_imp.2 fun hf => absurd (hf.symm.trans h) (by decide)
  | close => rfl
  | ping => rfl
  | _ => exact h

section
variable {n : Fin 4096} {id : Word} {e : Session} {s : State} {q : AudonReq} {v : Served}

/-- An open session's request on a device that does not follow is decided here. -/
theorem exec_audonCommand_served (he : storeFind s.sessions n = some e) (hf : s.follows = false)
    (hv : serve s e.part ⟨n, e.epoch, false⟩ q = v) :
    exec (audonCommand n id 0 q) s = .next (conclude v (.session n (reqOp q) id.toNat)) := by
  rw [exec_audonCommand, request, he]
  simp only [ne_eq, not_true_eq_false, if_false, relays_of_not_follows hf, Bool.false_eq_true, hv]

/-- What the decision answers goes to the session. -/
theorem request_answered (he : storeFind s.sessions n = some e) (hf : s.follows = false)
    (hv : serve s e.part ⟨n, e.epoch, false⟩ q = v) (hfwd : v.fwd = none ∨ v.st.leads = false) (hr : v.reply.status < 32)
    (hses : v.st.sessions = s.sessions) (hbell : v.st.bellOut = s.bellOut) (hudp : v.st.udpOut = s.udpOut) :
    ∃ t, exec (audonCommand n id 0 q) s = .next t ∧ answered s t n e (reqOp q) id.toNat v.reply ∧ onlyReplies v.st t ∧
      t.remembered = (v.rem.elim v.st (remember v.st)).remembered := by
  have he' : storeFind v.st.sessions n = some e := by rw [hses, he]
  refine ⟨_, exec_audonCommand_served he hf hv, ?_⟩
  rw [conclude_answers hfwd]
  obtain ⟨hb, hu, hs⟩ := answered_answer he' (reqOp q) id.toNat hr v.rem
  rw [hbell, hudp] at hb hu
  exact ⟨⟨hb, hu, hs⟩, onlyReplies_answer _ _ _ _, remembered_answer he' _ _ _ _⟩

end

end Sys2Proof.Machine
end

section
/-!
PROOFS. COMMIT (R160 to R169): the steps of Table 07.3 one by one, and what the session is answered.
-/
namespace Sys2Proof.Machine

/-! ### Table 07.3 -/

section
variable {s : State} {p : Nat} {who : SessId} {seq : Nat} {h : Word} {os : List Offer}

theorem checkState_start (hb : s.boot ≠ bootRun) : checkState s p = some (refuseState s p 0 0) := if_pos hb

theorem checkState_busy (hb : s.boot = bootRun) (hop : s.partOp p ≠ none) : checkState s p = some (refuseState s p 1 0) := by
  rw [checkState, if_neg (not_not.2 hb), if_pos (Option.isSome_iff_ne_none.2 hop)]

/-- A partition that may be served runs, and no reset or graft of it is pending. -/
theorem checkState_none_iff : checkState s p = none ↔ s.boot = bootRun ∧ s.partOp p = none := by
  unfold checkState
  by_cases hb : s.boot = bootRun <;> cases hop : s.partOp p <;> simp [hb]

theorem decideGroup_state {r : Reply} (hs : checkState s p = some r) : decideGroup s p who seq h os = ⟨s, r, none, none⟩ := by
  rw [decideGroup, hs]

theorem decideGroup_windows {r : Reply} (hs : checkState s p = none) (hw : checkWindows os = some r) :
    decideGroup s p who seq h os = ⟨s, r, none, none⟩ := by rw [decideGroup, hs, hw]

theorem decideGroup_form {r : Reply} (hs : checkState s p = none) (hw : checkWindows os = none) (hform : checkForm s p os = some r) :
    decideGroup s p who seq h os = ⟨s, r, none, none⟩ := by rw [decideGroup, hs, hw]; simp only [hform]

theorem decideGroup_admits (hs : checkState s p = none) (hw : checkWindows os = none) (hform : checkForm s p os = none) :
    decideGroup s p who seq h os = admitGroup s p who seq h os := by rw [decideGroup, hs, hw]; simp only [hform]

/-- A form refusal is status 2. -/
theorem status_of_checkForm {r : Reply} (hform : checkForm s p os = some r) : r.status = 2 := by
  unfold checkForm at hform
  split at hform
  · cases hform; rfl
  · split at hform
    · cases hform
    · cases hform; rfl

/-- A refusal for another lease is status 4. -/
theorem status_of_checkLeases {own : Option Nat} {r : Reply} (hl : checkLeases s own os = some r) : r.status = 4 := by
  obtain ⟨o, _, rfl⟩ := Option.map_eq_some_iff.1 hl
  rfl

/-- What names a held lease has its present bit set. -/
theorem present_of_heldLease {i : Nat} {l : Lease} (hl : heldLease s who h = some (i, l)) : bitsOf h 15 1 = 1 := by
  unfold heldLease at hl
  split at hl
  · cases hl
  · split at hl
    · next hc => exact hc.1
    · cases hl

theorem heldLease_absent (h0 : bitsOf h 15 1 = 0) : heldLease s who h = none := by
  cases hl : heldLease s who h with
  | none => rfl
  | some x => exact absurd (h0.symm.trans (present_of_heldLease (i := x.1) (l := x.2) hl)) (by decide)

theorem admitGroup_lost (hn : bitsOf h 15 1 = 1) (hl : heldLease s who h = none) :
    admitGroup s p who seq h os = ⟨s, { status := 5 }, none, none⟩ := by
  simp only [admitGroup, hl, hn, beq_self_eq_true, Option.isNone_none, Bool.and_self, if_true]

theorem admitGroup_unnamed_leased (hn : bitsOf h 15 1 = 0) {r : Reply} (hc : checkLeases s none os = some r) :
    admitGroup s p who seq h os = ⟨s, r, none, none⟩ := by
  simp [admitGroup, heldLease_absent hn, hn, hc]

theorem admitGroup_unnamed (hn : bitsOf h 15 1 = 0) (hc : checkLeases s none os = none) :
    admitGroup s p who seq h os = admitGroup.admitLast s p who seq none (os.map Offer.entry) := by
  simp [admitGroup, heldLease_absent hn, hn, hc]

theorem admitGroup_named_late {i : Nat} {l : Lease} (hl : heldLease s who h = some (i, l)) (hc : checkLeases s (some i) os = none)
    (hend : l.endTick ≤ promised s p os.length) :
    admitGroup s p who seq h os = ⟨s, refuseState s p 2 l.endTick, none, none⟩ := by
  simp [admitGroup, hl, present_of_heldLease hl, hc, hend]

theorem admitGroup_named {i : Nat} {l : Lease} (hl : heldLease s who h = some (i, l)) (hc : checkLeases s (some i) os = none)
    (hend : promised s p os.length < l.endTick) :
    admitGroup s p who seq h os = admitGroup.admitLast s p who seq (some (i, l.serial)) (os.map Offer.entry) := by
  simp [admitGroup, hl, present_of_heldLease hl, hc, Nat.not_le.2 hend]

/-- The state with a group appended to those in flight (R164). -/
def State.putGroup (s : State) (g : Group) : State := { s with groups := s.groups ++ [g] }

theorem dataKept_putGroup (s : State) (g : Group) : dataKept s (s.putGroup g) := ⟨rfl, rfl, rfl, rfl, rfl, fun _ _ => rfl⟩

theorem admitLast_room {own : Option (Nat × Nat)} {ents : List Entry} (h8 : step8 s p ents s.tick = true) :
    admitGroup.admitLast s p who seq own ents =
      ⟨s.putGroup (newGroup s p who seq own ents), { status := 0, tickB := promised s p ents.length },
        some (.group (s.twin.ctlSeq + 1) p who s.tick (promised s p ents.length) own ents), none⟩ := if_pos h8

theorem admitLast_full {own : Option (Nat × Nat)} {ents : List Entry} (h8 : step8 s p ents s.tick = false) :
    admitGroup.admitLast s p who seq own ents = ⟨s, { status := 1, tickB := s.retry (step8 s p ents) }, none, none⟩ :=
  if_neg (by simp [h8])

end

/-! ### The session's answer -/

section
variable {n : Fin 4096} {id seq h : Word} {es : List RawEntry} {e : Session} {s : State}
  (he : storeFind s.sessions n = some e) (hf : s.follows = false)

/-- COMMIT answers `r` and leaves the groups `gs`; an ACCEPTED answer is remembered (R162). -/
def commitAnswers (n : Fin 4096) (id seq h : Word) (es : List RawEntry) (e : Session) (s : State) (r : Reply) (gs : List Group) : Prop :=
  ∃ t, exec (.commit n id 0 seq h es) s = .next t ∧ answered s t n e 1 id.toNat r ∧ t.groups = gs ∧ t.leases = s.leases ∧
    dataKept s t ∧
    (r.status = 0 → rememberedFor t ⟨n, e.epoch, false⟩ seq.toNat = some ⟨⟨n, e.epoch, false⟩, seq.toNat, r.tickA, r.tickB⟩)

theorem serveCommit_new (hnew : rememberedFor s ⟨n, e.epoch, false⟩ seq.toNat = none) {v : Served}
    (hd : decideGroup s e.part ⟨n, e.epoch, false⟩ seq.toNat h (rawOffers s e.part es) = v) :
    serve s e.part ⟨n, e.epoch, false⟩ (.commit seq h es) = ⟨v.st, { v.reply with tickA := s.tick }, v.fwd,
      if v.reply.status = 0 then some ⟨⟨n, e.epoch, false⟩, seq.toNat, s.tick, v.reply.tickB⟩ else none⟩ := by
  rw [serve, serveCommit, hnew, hd]

include he hf

/-- A number that is remembered is answered as before (R162). -/
theorem commit_again {r : Remembered} (hr : rememberedFor s ⟨n, e.epoch, false⟩ seq.toNat = some r) :
    ∃ t, exec (.commit n id 0 seq h es) s = .next t ∧ answered s t n e 1 id.toNat { status := 0, tickA := r.ta, tickB := r.tick } ∧
      t.groups = s.groups ∧ dataKept s t := by
  have hv : serve s e.part ⟨n, e.epoch, false⟩ (.commit seq h es) = ⟨s, { status := 0, tickA := r.ta, tickB := r.tick }, none, none⟩ := by
    rw [serve, serveCommit, hr]
  obtain ⟨t, hexec, hans, hrest, _⟩ := request_answered (id := id) he hf hv (.inl rfl) Nat.ofNat_pos rfl rfl rfl
  exact ⟨t, hexec, hans, groups_of_onlyReplies hrest, dataKept_of_onlyReplies hrest⟩

variable (hnew : rememberedFor s ⟨n, e.epoch, false⟩ seq.toNat = none)
include hnew

/-- A group that a check refuses books nothing. -/
theorem commit_refused {r : Reply} (hr : r.status ≠ 0) (hlt : r.status < 32)
    (hd : decideGroup s e.part ⟨n, e.epoch, false⟩ seq.toNat h (rawOffers s e.part es) = ⟨s, r, none, none⟩) :
    commitAnswers n id seq h es e s { r with tickA := s.tick } s.groups := by
  obtain ⟨t, hexec, hans, hrest, _⟩ :=
    request_answered (id := id) he hf (serveCommit_new hnew hd) (.inl rfl) hlt rfl rfl rfl
  exact ⟨t, hexec, hans, groups_of_onlyReplies hrest, leases_of_onlyReplies hrest, dataKept_of_onlyReplies hrest,
    fun h0 => absurd h0 hr⟩

variable {own : Option (Nat × Nat)}
  (hd : decideGroup s e.part ⟨n, e.epoch, false⟩ seq.toNat h (rawOffers s e.part es) =
    admitGroup.admitLast s e.part ⟨n, e.epoch, false⟩ seq.toNat own ((rawOffers s e.part es).map Offer.entry))
include hd

/-- A group with room is appended and answered with its promise (R163), without a follower at once. -/
theorem commit_booked (h8 : step8 s e.part ((rawOffers s e.part es).map Offer.entry) s.tick = true) (hl : s.leads = false) :
    commitAnswers n id seq h es e s
      { status := 0, tickA := s.tick, tickB := promised s e.part ((rawOffers s e.part es).map Offer.entry).length }
      (s.groups ++ [newGroup s e.part ⟨n, e.epoch, false⟩ seq.toNat own ((rawOffers s e.part es).map Offer.entry)]) := by
  rw [admitLast_room h8] at hd
  obtain ⟨t, hexec, hans, hrest, hrem⟩ :=
    request_answered (id := id) he hf (serveCommit_new hnew hd) (.inr hl) Nat.ofNat_pos rfl rfl rfl
  refine ⟨t, hexec, hans, groups_of_onlyReplies hrest, (leases_of_onlyReplies hrest :), ?_, fun _ => ?_⟩
  · exact dataKept_trans (dataKept_putGroup s _) (dataKept_of_onlyReplies hrest)
  · rw [rememberedFor_congr hrem]
    exact rememberedFor_remember hnew

/-- With a follower it is forwarded, and the answer waits (R185). -/
theorem commit_forwarded (h8 : step8 s e.part ((rawOffers s e.part es).map Offer.entry) s.tick = true) (hl : s.leads = true) :
    let who : SessId := ⟨n, e.epoch, false⟩
    let ents := (rawOffers s e.part es).map Offer.entry
    let item := s.twin.ctlSeq + 1
    let promise := promised s e.part ents.length
    ∃ t, exec (.commit n id 0 seq h es) s = .next t ∧
      sendsItems [.group item e.part who s.tick promise own ents]
        { s with groups := s.groups ++ [newGroup s e.part who seq.toNat own ents], twin := { s.twin with ctlSeq := item },
                 held := s.held ++ [⟨item, s.tick, .session n 1 id.toNat, { status := 0, tickA := s.tick, tickB := promise },
                   some ⟨who, seq.toNat, s.tick, promise⟩⟩] } t := by
  rw [admitLast_room h8] at hd
  exact ⟨_, exec_audonCommand_served he hf (serveCommit_new hnew hd), conclude_withholds rfl hl _⟩

theorem commit_full (h8 : step8 s e.part ((rawOffers s e.part es).map Offer.entry) s.tick = false) :
    commitAnswers n id seq h es e s
      { status := 1, tickA := s.tick, tickB := s.retry (step8 s e.part ((rawOffers s e.part es).map Offer.entry)) } s.groups :=
  commit_refused he hf hnew (r := { status := 1, tickB := _ }) Nat.one_ne_zero (by decide : 1 < 32) (hd.trans (admitLast_full h8))

end

/-- Settles O42: the checks of Table 07.3 in their order; what passes them all is booked. -/
theorem commitsBookTheirFlipOrChangeNothing : Obligations.CommitsBookTheirFlipOrChangeNothing := by
  unfold Obligations.CommitsBookTheirFlipOrChangeNothing
  intro n id seq h es e s he hf p who os ents promise answer books
  have hpromise : promised s p ents.length = promise := by rw [promised, List.length_map]
  refine ⟨fun r hr => commit_again he hf hr, fun hnew => ?_⟩
  have hrefused {r : Reply} (hr : r.status ≠ 0) (hlt : r.status < 32) (hd : decideGroup s p who seq.toNat h os = ⟨s, r, none, none⟩) :
      answer { r with tickA := s.tick } s.groups := commit_refused he hf hnew hr hlt hd
  have hbooks {own : Option (Nat × Nat)}
      (hd : decideGroup s p who seq.toNat h os = admitGroup.admitLast s p who seq.toNat own ents) : books own := by
    refine ⟨fun h8 hl => ?_, fun h8 hl => ?_, fun h8 => commit_full he hf hnew hd h8⟩
    · exact hpromise ▸ commit_booked he hf hnew hd h8 hl
    · exact hpromise ▸ commit_forwarded he hf hnew hd h8 hl
  refine ⟨fun hb => ?_, fun hb hop => ?_, fun hs => ⟨fun i hi => ?_, fun hw => ⟨fun r hr => ?_, fun hform => ?_⟩⟩⟩
  · exact hrefused (by decide : 7 ≠ 0) (by decide : 7 < 32) (decideGroup_state (checkState_start hb))
  · exact hrefused (by decide : 7 ≠ 0) (by decide : 7 < 32) (decideGroup_state (checkState_busy hb hop))
  · exact hrefused (by decide : 3 ≠ 0) (by decide : 3 < 32) (decideGroup_windows hs (by rw [checkWindows, hi]; rfl))
  · have h2 := status_of_checkForm hr
    exact hrefused (by omega) (by omega) (decideGroup_form hs hw hr)
  · have hadmit := decideGroup_admits (who := who) (seq := seq.toNat) (h := h) hs hw hform
    refine ⟨fun hn hl => ?_, fun hn => ⟨fun r hr => ?_, fun hc => ?_⟩, fun i l hl hc => ⟨fun hend => ?_, fun hend => ?_⟩⟩
    · exact hrefused (by decide : 5 ≠ 0) (by decide : 5 < 32) (hadmit.trans (admitGroup_lost hn hl))
    · have h4 := status_of_checkLeases hr
      exact hrefused (by omega) (by omega) (hadmit.trans (admitGroup_unnamed_leased hn hr))
    · exact hbooks (hadmit.trans (admitGroup_unnamed hn hc))
    · exact hrefused (by decide : 7 ≠ 0) (by decide : 7 < 32) (hadmit.trans (admitGroup_named_late hl hc hend))
    · exact hbooks (hadmit.trans (admitGroup_named hl hc hend))

end Sys2Proof.Machine
end

section
/-!
PROOFS. READ, leases and RESET of a session (R175, R179, R180, R216): what each decision is, and what becomes of it with and without a
follower (R185).
-/
namespace Sys2Proof.Machine

/-! ### Stores -/

/-- A read of a store after the keys of `ks` were written with one value. -/
theorem storeGet_foldl_set {α : Type} [DecidableEq α] (d v : α) (ks : List Nat) (m : Store α) (k : Nat) :
    storeGet d (ks.foldl (fun m k => storeSet d m k v) m) k = if k ∈ ks then v else storeGet d m k := by
  induction ks generalizing m with
  | nil => simp
  | cons k' ks ih =>
    rw [List.foldl_cons, ih, storeGet_set]
    by_cases hk : k ∈ ks
    · simp [hk]
    · simp [hk]

theorem mem_keys_of_storeFind {α : Type} {m : Store α} {k : Nat} (h : (storeFind m k).isSome = true) : k ∈ m.map Prod.fst := by
  induction m with
  | nil => cases h
  | cons x m ih =>
    by_cases hk : k = x.1
    · exact List.mem_map.2 ⟨x, List.mem_cons_self, hk.symm⟩
    · rw [storeFind, if_neg hk] at h
      exact List.mem_cons_of_mem _ (ih h)

/-! ### The free entry of a grant (R179) -/

/-- The search ends at a free entry, or it has met taken ones alone. -/
theorem freeEntry_free_or_taken (s : State) (n : Nat) {i : Nat} (hi : i < 16384) :
    storeFind s.leases (freeEntry s n i) = none ∨ ∀ k ≤ n, (storeFind s.leases ((i + k) % 16384)).isSome = true := by
  induction n generalizing i with
  | zero =>
    cases h : storeFind s.leases i with
    | none => exact .inl h
    | some l =>
      refine .inr fun k hk => ?_
      rw [Nat.le_zero.1 hk, Nat.add_zero, Nat.mod_eq_of_lt hi, h]
      rfl
  | succ n ih =>
    cases h : storeFind s.leases i with
    | none => exact .inl (by rw [freeEntry, h]; exact h)
    | some l =>
      rw [freeEntry, h]
      refine (ih (Nat.mod_lt (i + 1) (by decide))).imp id fun htaken k hk => ?_
      cases k with
      | zero =>
        rw [Nat.add_zero, Nat.mod_eq_of_lt hi, h]
        rfl
      | succ k =>
        have hplace : (i + (k + 1)) % 16384 = ((i + 1) % 16384 + k) % 16384 := by omega
        rw [hplace]
        exact htaken k (by omega)

/-- With a free entry in the table, the search finds one. -/
theorem freeEntry_free {s : State} (hroom : s.leases.length < 16384) {i : Nat} (hi : i < 16384) :
    storeFind s.leases (freeEntry s s.leases.length i) = none := by
  refine (freeEntry_free_or_taken s s.leases.length hi).resolve_right fun htaken => ?_
  have hnodup : ((List.range (s.leases.length + 1)).map (fun k => (i + k) % 16384)).Nodup := by
    refine List.Nodup.map_on (fun a ha b hb hab => ?_) List.nodup_range
    have ha' := List.mem_range.1 ha
    have hb' := List.mem_range.1 hb
    omega
  have hsub : (List.range (s.leases.length + 1)).map (fun k => (i + k) % 16384) ⊆ s.leases.map Prod.fst := by
    intro x hx
    obtain ⟨k, hk, rfl⟩ := List.mem_map.1 hx
    exact mem_keys_of_storeFind (htaken k (Nat.lt_succ_iff.1 (List.mem_range.1 hk)))
  have hle := (hnodup.subperm hsub).length_le
  simp only [List.length_map, List.length_range] at hle
  omega

theorem length_of_leaseRoom {s : State} {p : Nat} {who : SessId} {quota : Nat} {bs : List Nat}
    (h : leaseRoom s p who quota bs s.tick = true) : s.leases.length < 16384 := by
  simp only [leaseRoom, true_or, decide_true, List.filter_true, Bool.and_eq_true, decide_eq_true_eq] at h
  exact h.2

/-- The state without what an accepted lease or reset changes. -/
def State.unledgered (s : State) : State :=
  { s with freeCtr := 0, leaseSerial := [], leases := [], broken := [], partOps := [], eng := [] }

/-! ### The decisions -/

section
variable {s : State} {p : Nat} {who : SessId} (hs : checkState s p = none)
include hs

theorem serveRead_outside {b f r c : Nat} (hb : windowBlock s p b = none) :
    serveRead s p b f r c = ⟨s, { status := 3 }, none, none⟩ := by rw [serveRead, hs, hb]

theorem serveRead_words {b f r c blk : Nat} (hb : windowBlock s p b = some blk) (hc : 1 ≤ c ∧ c ≤ 64 ∧ f + c ≤ 64 ∧ r = 0) :
    serveRead s p b f r c =
      ⟨s, { status := 0, data := (List.range c).map (fun i => s.current blk (f + i)) }, none, none⟩ := by
  rw [serveRead, hs, hb]
  exact if_neg (by omega)

theorem serveRead_malformed {b f r c blk : Nat} (hb : windowBlock s p b = some blk)
    (hc : ¬ (1 ≤ c ∧ c ≤ 64 ∧ f + c ≤ 64 ∧ r = 0)) : serveRead s p b f r c = ⟨s, { status := 2 }, none, none⟩ := by
  rw [serveRead, hs, hb]
  exact if_pos (by omega)

/-- The blocks of a lease request, as the session names them. -/
def leaseOffers (s : State) (p : Nat) (bs : List Half) : List Offer := bs.map (fun x => ⟨x.toNat, windowBlock s p x.toNat, true, 0, 0⟩)

/-- The device blocks of a lease request. -/
def leaseBlocks (s : State) (p : Nat) (bs : List Half) : List Nat := (leaseOffers s p bs).map (fun o => o.block.getD 0)

/-- The lease quota of a partition. -/
def State.leaseQuota (s : State) (p : Nat) : Nat := ((s.part p).map (·.leaseQuota)).getD 0

theorem serveAcquire_checked {bs : List Half} {d : Nat} (hw : checkWindows (leaseOffers s p bs) = none) (h1 : 1 ≤ bs.length)
    (h64 : bs.length ≤ 64) (hd : 1 ≤ d) (hd' : d ≤ 1048575) (hq : s.leaseQuota p ≠ 0)
    (hc : checkLeases s none (leaseOffers s p bs) = none) :
    serveAcquire s p who d bs =
      if leaseRoom s p who (s.leaseQuota p) (leaseBlocks s p bs) s.tick then grantLease s p who d (leaseBlocks s p bs)
      else ⟨s, { status := 1, tickB := s.retry (leaseRoom s p who (s.leaseQuota p) (leaseBlocks s p bs)) }, none, none⟩ := by
  have hfit : ¬ ((leaseBlocks s p bs).length < 1 ∨ 64 < (leaseBlocks s p bs).length ∨ d < 1 ∨ 1048575 < d ∨ s.leaseQuota p = 0) := by
    rw [leaseBlocks, leaseOffers, List.length_map, List.length_map]
    omega
  unfold leaseOffers at hw hc
  rw [serveAcquire, hs]
  simp only [hw, hc]
  exact if_neg hfit

/-- The entry that a grant takes. -/
def grantEntry (s : State) : Nat := freeEntry s s.leases.length ((Config.freeValue s.freeCtr).toNat % 16384)

/-- The lease that a grant enters. -/
def grantedLease (s : State) (p : Nat) (who : SessId) (d : Nat) (bs : List Nat) : Lease :=
  { part := p, who := who, serial := ((Config.leaseSerial0 (grantEntry s)).toNat + storeGet 0 s.leaseSerial (grantEntry s)) % 65536,
    blocks := bs, endTick := s.tick + d, relAt := none }

omit hs in
theorem storeFind_grantEntry (hroom : s.leases.length < 16384) : storeFind s.leases (grantEntry s) = none :=
  freeEntry_free hroom (Nat.mod_lt _ (by decide))

omit hs in
/-- A grant takes a free entry for a lease of exactly the blocks asked for, and clears their broken flags. -/
theorem grantLease_grants (d : Nat) (bs : List Nat) : ∃ t,
    grantLease s p who d bs = ⟨t, ⟨0, grantEntry s + 32768 + (grantedLease s p who d bs).serial * 65536, 0, s.tick + d,
        [BitVec.ofNat 32 (brokenMask s bs), BitVec.ofNat 32 (brokenMask s bs / 2 ^ 32)]⟩,
        some (.lease (s.twin.ctlSeq + 1) (grantEntry s) (grantedLease s p who d bs)), none⟩ ∧
      t.unledgered = s.unledgered ∧ t.leases = storeIns (grantEntry s) (grantedLease s p who d bs) s.leases ∧
      t.broken = bs.foldl (fun m b => storeSet false m b false) s.broken :=
  ⟨_, rfl, rfl, rfl, rfl⟩

theorem serveRenew_held {h : Word} {d i : Nat} {l : Lease} (hl : heldLease s who h = some (i, l)) (hd : 1 ≤ d) (hd' : d ≤ 1048575)
    (hg : ∀ g ∈ s.groups, g.lease = some (i, l.serial) → g.tick < s.tick + d) :
    serveRenew s p who h d = ⟨{ s with leases := storeIns i { l with endTick := s.tick + d } s.leases },
      { status := 0, tickB := s.tick + d }, some (.lease (s.twin.ctlSeq + 1) i { l with endTick := s.tick + d }), none⟩ := by
  have hlate : s.groups.any (fun g => g.lease == some (i, l.serial) && g.who == who && groupUnflipped g s.tick &&
      decide (s.tick + d ≤ g.tick)) = false := by
    refine List.any_eq_false.2 fun g hmem hall => ?_
    simp only [Bool.and_eq_true, beq_iff_eq, decide_eq_true_eq] at hall
    obtain ⟨⟨⟨hlease, _⟩, _⟩, htick⟩ := hall
    exact absurd (hg g hmem hlease) (Nat.not_lt.2 htick)
  have hfit : ¬ (d < 1 ∨ 1048575 < d) := by omega
  rw [serveRenew, hs]
  simp only [if_neg hfit, hl, hlate, Bool.false_eq_true, if_false]

theorem serveRelease_held {h : Word} {i : Nat} {l : Lease} (hl : heldLease s who h = some (i, l)) :
    serveRelease s p who h = ⟨{ s with leases := storeIns i { l with relAt := some (s.tick + 1) } s.leases },
      { status := 0, tickB := s.tick + 1 }, some (.lease (s.twin.ctlSeq + 1) i { l with relAt := some (s.tick + 1) }), none⟩ := by
  rw [serveRelease, hs, hl]

theorem serveRelease_lost {h : Word} (hl : heldLease s who h = none) :
    serveRelease s p who h = ⟨s, { status := 5 }, none, none⟩ := by rw [serveRelease, hs, hl]

theorem serveReset_accepted (hp : p ≠ 0) (hpart : (s.part p).isSome = true) :
    serveReset s p = ⟨addReset s p, { status := 0, tickA := s.tick + 1 + s.pl, tickB := resetDone s p (s.tick + 1 + s.pl) },
      some (.partReset (s.twin.ctlSeq + 1) p (s.tick + 1 + s.pl)), none⟩ := by
  obtain ⟨hb, hop⟩ := checkState_none_iff.1 hs
  have hverdict : resetVerdict s p = .accepted := by
    have hnone : (s.part p).isNone = false := by rw [← Option.not_isSome, hpart]; rfl
    simp [resetVerdict, hp, hnone, hb, hop]
  rw [serveReset, hverdict]

end

/-! ### What they change -/

/-- What an accepted lease or reset changes, as far as sessions see it. -/
def State.ledger (s : State) : Store Lease × Store Bool × List PartOp × Store Engine := (s.leases, s.broken, s.partOps, s.eng)

theorem ledger_eq_iff {s t : State} :
    t.ledger = s.ledger ↔ t.leases = s.leases ∧ t.broken = s.broken ∧ t.partOps = s.partOps ∧ t.eng = s.eng := by
  simp only [State.ledger, Prod.mk.injEq]

theorem abortNow_frame (s : State) (p : Nat) : ∃ x, abortNow s p = { s with eng := x } := by
  unfold abortNow
  generalize s.partEngines p = es
  induction es generalizing s with
  | nil => exact ⟨s.eng, rfl⟩
  | cons e es ih =>
    rw [List.foldl_cons]
    obtain ⟨x, hx⟩ := ih (s.setEngine e { s.engine e with aborted := true, cut := true })
    exact ⟨x, hx⟩

/-- An accepted reset enters its operation and touches engines at most (R98, R216). -/
theorem addReset_frame (s : State) (p : Nat) :
    ∃ x, addReset s p = { s with partOps := s.partOps ++ [⟨p, false, s.tick + 1 + s.pl, none, 0⟩], eng := x } := by
  unfold addReset scheduleAbort
  dsimp only
  split
  · exact abortNow_frame _ p
  · exact ⟨s.eng, rfl⟩

/-! ### What becomes of them -/

section
variable {n : Fin 4096} {id : Word} {e : Session} {s : State} {q : AudonReq} {u : State} {r : Reply}

/-- Command `c` of operation `op` is answered `r`; groups, parameters and delay words stand, and `kept` holds. -/
def requestAnswers (n : Fin 4096) (id : Word) (e : Session) (s : State) (c : Instr) (op : Nat) (r : Reply)
    (kept : State → Prop) : Prop :=
  ∃ t, exec c s = .next t ∧ answered s t n e op id.toNat r ∧ t.groups = s.groups ∧ kept t ∧ t.pstA = s.pstA ∧ t.pstB = s.pstB ∧
    t.delay = s.delay

/-- Command `c` is answered `r`; with a follower it forwards `item` instead and withholds that answer (R185). -/
def requestAccepts (n : Fin 4096) (id : Word) (e : Session) (s : State) (c : Instr) (op : Nat) (r : Reply) (item : Nat → CtlItem)
    (kept : State → Prop) : Prop :=
  (s.leads = false → requestAnswers n id e s c op r kept) ∧
  (s.leads = true → let k := s.twin.ctlSeq + 1
    ∃ t, exec c s = .next t ∧ kept t ∧ t.groups = s.groups ∧ t.pstA = s.pstA ∧ t.pstB = s.pstB ∧ t.delay = s.delay ∧
      t.held = s.held ++ [⟨k, s.tick, .session n op id.toNat, r, none⟩] ∧ t.twin.ctlSeq = k ∧ t.ctlOut = s.ctlOut ++ [item k] ∧
      t.sessions = s.sessions ∧ t.bellOut = s.bellOut ∧ t.udpOut = s.udpOut)

variable (he : storeFind s.sessions n = some e) (hf : s.follows = false)
include he hf

/-- A request that is answered without an item. -/
theorem request_plain (hv : serve s e.part ⟨n, e.epoch, false⟩ q = ⟨s, r, none, none⟩) (hr : r.status < 32) :
    requestAnswers n id e s (audonCommand n id 0 q) (reqOp q) r
      (fun t => t.leases = s.leases ∧ t.partOps = s.partOps ∧ t.eng = s.eng) := by
  obtain ⟨t, hexec, hans, hrest, _⟩ := request_answered (id := id) he hf hv (.inl rfl) hr rfl rfl rfl
  obtain ⟨hA, hB, hdelay, _, heng, _⟩ := dataKept_of_onlyReplies hrest
  exact ⟨t, hexec, hans, groups_of_onlyReplies hrest, ⟨leases_of_onlyReplies hrest, (congrArg State.partOps hrest.1 :), heng⟩,
    hA, hB, hdelay⟩

/-- A request that is accepted with an item for the follower. -/
theorem request_accepted {item : Nat → CtlItem} {kept : State → Prop}
    (hv : serve s e.part ⟨n, e.epoch, false⟩ q = ⟨u, r, some (item (s.twin.ctlSeq + 1)), none⟩) (hr : r.status < 32)
    (hu : u.unledgered = s.unledgered) (hkept : ∀ t, t.ledger = u.ledger → kept t) :
    requestAccepts n id e s (audonCommand n id 0 q) (reqOp q) r item kept := by
  have hleads : u.leads = s.leads := (congrArg State.leads hu :)
  have hA : u.pstA = s.pstA := (congrArg State.pstA hu :)
  have hB : u.pstB = s.pstB := (congrArg State.pstB hu :)
  have hdelay : u.delay = s.delay := (congrArg State.delay hu :)
  have hgroups : u.groups = s.groups := (congrArg State.groups hu :)
  have hses : u.sessions = s.sessions := (congrArg State.sessions hu :)
  have hbell : u.bellOut = s.bellOut := (congrArg State.bellOut hu :)
  have hudp : u.udpOut = s.udpOut := (congrArg State.udpOut hu :)
  refine ⟨fun hl => ?_, fun hl => ?_⟩
  · obtain ⟨t, hexec, hans, hrest, _⟩ := request_answered (id := id) he hf hv (.inr (hleads.trans hl)) hr hses hbell hudp
    obtain ⟨hA', hB', hdelay', _, _, _⟩ := dataKept_of_onlyReplies hrest
    exact ⟨t, hexec, hans, (groups_of_onlyReplies hrest).trans hgroups, hkept t (congrArg State.ledger hrest.1 :), hA'.trans hA,
      hB'.trans hB, hdelay'.trans hdelay⟩
  · have hseq : u.twin = s.twin := (congrArg State.twin hu :)
    have htick : u.tick = s.tick := (congrArg State.tick hu :)
    have hheld : u.held = s.held := (congrArg State.held hu :)
    have hout : u.ctlOut = s.ctlOut := (congrArg State.ctlOut hu :)
    refine ⟨_, exec_audonCommand_served he hf hv, ?_⟩
    have hsend := conclude_withholds (v := ⟨u, r, some (item (s.twin.ctlSeq + 1)), none⟩) rfl (hleads.trans hl)
      (.session n (reqOp q) id.toNat)
    generalize conclude _ _ = t at hsend
    unfold sendsItems at hsend
    rw [hsend]
    refine ⟨hkept _ rfl, hgroups, hA, hB, hdelay, ?_, congrArg (fun w => w.ctlSeq + 1) hseq, ?_, hses, hbell, hudp⟩
    · simp only [hheld, hseq, htick]
    · simp only [hout]

end

/-- Settles O43: each decision on a session's READ, lease request or RESET, and its answer with and without a follower. -/
theorem readsLeasesAndResetsAnswerAsTheirRulesSay : Obligations.ReadsLeasesAndResetsAnswerAsTheirRulesSay := by
  unfold Obligations.ReadsLeasesAndResetsAnswerAsTheirRulesSay
  intro n id h d b first rsv count bs e s he hf hs p who os blocks quota answer accepts same
  refine ⟨fun blk hb => ?_, fun hb => ?_, fun hw h1 h64 hd hd' hq hc => ⟨fun hroom => ?_, fun hroom => ?_⟩,
    fun i l hl => ⟨fun hd hd' hg => ?_, ?_⟩, fun hl => ?_, fun hp hpart => ?_⟩
  -- READ (R175)
  · have hrsv : rsv.toNat = 0 ↔ rsv = 0 := by rw [← BitVec.toNat_inj]; rfl
    refine ⟨fun hgood => ?_, fun hbad => ?_⟩
    · obtain ⟨hlo, hhi, hend, hzero⟩ := hgood
      exact request_plain (q := .read b first rsv count) he hf (serveRead_words hs hb ⟨hlo, hhi, hend, hrsv.2 hzero⟩) Nat.ofNat_pos
    · refine request_plain (q := .read b first rsv count) he hf (serveRead_malformed hs hb fun hgood => ?_) (by decide : 2 < 32)
      obtain ⟨hlo, hhi, hend, hzero⟩ := hgood
      exact hbad ⟨hlo, hhi, hend, hrsv.1 hzero⟩
  · exact request_plain (q := .read b first rsv count) he hf (serveRead_outside hs hb) (by decide : 3 < 32)
  -- LEASE_ACQUIRE (R179)
  · obtain ⟨u, hgrant, hu, hleases, hbroken⟩ := grantLease_grants (s := s) (p := p) (who := who) d.toNat blocks
    have hserve := (serveAcquire_checked (who := who) hs hw h1 h64 hd hd' hq hc).trans ((if_pos hroom).trans hgrant)
    refine ⟨grantEntry s, grantedLease s p who d.toNat blocks, storeFind_grantEntry (length_of_leaseRoom hroom), rfl, rfl, rfl, rfl,
      rfl, request_accepted (q := .acquire d bs) (item := fun k => .lease k (grantEntry s) (grantedLease s p who d.toNat blocks))
        he hf hserve Nat.ofNat_pos hu fun t ht => ?_⟩
    obtain ⟨hleases', hbroken', _, _⟩ := ledger_eq_iff.1 ht
    have hflag (x : Nat) : storeGet false t.broken x = if x ∈ blocks then false else storeGet false s.broken x := by
      rw [hbroken', hbroken, storeGet_foldl_set]
    exact ⟨hleases'.trans hleases, fun x hx => (hflag x).trans (if_pos hx),
      fun x hx => (hflag x).trans (if_neg hx)⟩
  · exact request_plain (q := .acquire d bs) he hf
      ((serveAcquire_checked (who := who) hs hw h1 h64 hd hd' hq hc).trans (if_neg (ne_true_of_eq_false hroom))) (by decide : 1 < 32)
  -- LEASE_RENEW and LEASE_RELEASE (R180)
  · exact request_accepted (q := .renew h d) (item := fun k => .lease k i { l with endTick := s.tick + d.toNat }) he hf
      (serveRenew_held hs hl hd hd' hg) Nat.ofNat_pos rfl
      fun t ht => (ledger_eq_iff.1 ht).1
  · exact request_accepted (q := .release h) (item := fun k => .lease k i { l with relAt := some (s.tick + 1) }) he hf
      (serveRelease_held hs hl) Nat.ofNat_pos rfl fun t ht => (ledger_eq_iff.1 ht).1
  · exact request_plain (q := .release h) he hf (serveRelease_lost hs hl) (by decide : 5 < 32)
  -- RESET (R216)
  · obtain ⟨x, hx⟩ := addReset_frame s p
    have hserve := serveReset_accepted hs hp hpart
    rw [hx] at hserve
    exact request_accepted (q := .reset) (item := fun k => .partReset k p (s.tick + 1 + s.pl)) he hf hserve Nat.ofNat_pos rfl
      fun t ht => by
        obtain ⟨hleases, _, hops, _⟩ := ledger_eq_iff.1 ht
        exact ⟨hleases, hops⟩

end Sys2Proof.Machine
end

section
/-!
PROOFS. GROUP_FLIP, LEASE_EXPIRY, GAIN_CELL_TIMEOUT and LEASE_SEL_WRITE (R155, R172, R177, R179 to R183).
-/
namespace Sys2Proof.Machine

/-! ### Flips (R155, R172) -/

theorem nodup_eraseDups (l : List Nat) : l.eraseDups.Nodup := by
  match l with
  | [] => exact List.nodup_nil
  | a :: l =>
    rw [List.eraseDups_cons, List.nodup_cons, List.mem_eraseDups]
    exact ⟨fun h => by simpa using (List.mem_filter.1 h).2, nodup_eraseDups _⟩
termination_by l.length
decreasing_by exact Nat.lt_succ_of_le (List.length_filter_le _ _)

theorem mem_groupBlocks_iff (g : Group) (b : Nat) : b ∈ groupBlocks g ↔ groupNames g b = true := by
  simp only [groupBlocks, groupNames, List.mem_eraseDups, List.mem_map, List.any_eq_true, beq_iff_eq]

/-- Each group that names a block lists it once. -/
theorem count_flatMap_groupBlocks (gs : List Group) (b : Nat) :
    (gs.flatMap groupBlocks).count b = (gs.filter (fun g => groupNames g b)).length := by
  induction gs with
  | nil => rfl
  | cons g gs ih =>
    rw [List.flatMap_cons, List.count_append, ih, List.filter_cons]
    by_cases h : groupNames g b = true
    · rw [if_pos h, List.count_eq_one_of_mem (l := groupBlocks g) (nodup_eraseDups _) ((mem_groupBlocks_iff g b).2 h),
        List.length_cons, Nat.add_comm]
    · rw [if_neg h, List.count_eq_zero_of_not_mem (mt (mem_groupBlocks_iff g b).1 h), Nat.zero_add]

theorem flip_lt (s : State) (b : Nat) : s.flip b < 2 := fld_lt s _

theorem flip_setFlip (s : State) (a b v : Nat) : (s.setFlip a v).flip b = if b = a then v % 2 else s.flip b := by
  have hfits : a % 32 + 1 ≤ 32 := Nat.mod_lt a (by decide)
  by_cases hb : b = a
  · subst hb
    rw [if_pos rfl]
    exact fld_setFld_self s ⟨Reg.CMT_FLIP (b / 32), b % 32, 1⟩ v hfits
  · rw [if_neg hb]
    refine fld_setFld_other s ⟨Reg.CMT_FLIP (a / 32), a % 32, 1⟩ ⟨Reg.CMT_FLIP (b / 32), b % 32, 1⟩ v hfits ?_
    simp only [Reg.CMT_FLIP]
    omega

/-- A flip of a block writes its bit; the Quickset mixer's view of it lies in the I/O state (R151). -/
theorem flipBlock_frame (s : State) (b : Nat) : ∃ io, flipBlock s b = ({ s with io := io } : State).setFlip b (1 - s.flip b) := by
  unfold flipBlock
  dsimp only
  split
  · exact ⟨_, rfl⟩
  · exact ⟨s.io, rfl⟩

theorem flip_flipBlock (s : State) (a b : Nat) : (flipBlock s a).flip b = if b = a then 1 - s.flip a else s.flip b := by
  obtain ⟨io, h⟩ := flipBlock_frame s a
  have hlt : 1 - s.flip a < 2 := by omega
  rw [h, flip_setFlip, Nat.mod_eq_of_lt hlt]
  rfl

theorem foldl_flipBlock_frame (bs : List Nat) (s : State) : ∃ r io, bs.foldl flipBlock s = { s with regs := r, io := io } := by
  induction bs generalizing s with
  | nil => exact ⟨s.regs, s.io, rfl⟩
  | cons b bs ih =>
    obtain ⟨io, h⟩ := flipBlock_frame s b
    obtain ⟨r, io', h'⟩ := ih (flipBlock s b)
    exact ⟨r, io', by rw [List.foldl_cons, h', h]; rfl⟩

/-- A block shows its other copy after an odd number of flips. -/
theorem flip_foldl_flipBlock (bs : List Nat) (s : State) (b : Nat) : (bs.foldl flipBlock s).flip b = (s.flip b + bs.count b) % 2 := by
  induction bs generalizing s with
  | nil => exact (Nat.mod_eq_of_lt (flip_lt s b)).symm
  | cons a bs ih =>
    have hlt := flip_lt s b
    rw [List.foldl_cons, ih, flip_flipBlock, List.count_cons]
    by_cases hb : b = a
    · subst hb
      rw [if_pos rfl, if_pos (beq_self_eq_true b)]
      omega
    · rw [if_neg hb, if_neg (by simpa using Ne.symm hb), Nat.add_zero]

/-- The group's tick has come, and it has neither flipped nor been discarded. -/
def groupDue (s : State) (g : Group) : Bool := g.phase == GroupPhase.staged && decide (g.tick ≤ s.tick)

theorem doFlips_eq (s : State) : doFlips s = { ((s.groups.filter (groupDue s)).flatMap groupBlocks).foldl flipBlock s with
    groups := s.groups.map (fun g => if groupDue s g then { g with phase := .echo } else g) } := by
  rw [List.foldl_flatMap]
  rfl

theorem flip_doFlips (s : State) (b : Nat) :
    (doFlips s).flip b = (s.flip b + ((s.groups.filter (groupDue s)).filter (fun g => groupNames g b)).length) % 2 := by
  rw [doFlips_eq, ← count_flatMap_groupBlocks, ← flip_foldl_flipBlock]
  rfl

theorem doFlips_frame (s : State) :
    doFlips s = { s with regs := (doFlips s).regs, io := (doFlips s).io, groups := (doFlips s).groups } := by
  obtain ⟨r, io, h⟩ := foldl_flipBlock_frame ((s.groups.filter (groupDue s)).flatMap groupBlocks) s
  rw [doFlips_eq, h]

/-- GROUP_FLIP writes no copy: what a block shows follows its flip bit alone. -/
theorem current_doFlips (s : State) (b w : Nat) : (doFlips s).current b w = s.pstAt ((doFlips s).flip b) b w := by
  rw [State.current, State.pstAt, State.pstAt, doFlips_frame s]

/-! ### Discards and the ends of leases (R180, R181, R183) -/

/-- A discard leaves no picked group staged and every other group as it was. -/
theorem groups_discardGroups (s : State) (p : Group → Bool) : (discardGroups s p).groups =
    s.groups.map (fun g => if g.phase = GroupPhase.staged ∧ p g = true then groupDiscard s.tick g else g) := by
  unfold discardGroups
  split
  · rfl
  · next hnone =>
    have hkeep : ∀ g ∈ s.groups, (if g.phase = GroupPhase.staged ∧ p g = true then groupDiscard s.tick g else g) = id g :=
      fun g hg => if_neg fun ⟨hphase, hp⟩ => hnone (List.any_eq_true.2 ⟨g, hg, by rw [hphase, hp]; rfl⟩)
    rw [List.map_congr_left hkeep, List.map_id]

theorem discardGroups_frame (s : State) (p : Group → Bool) :
    ∃ r g, discardGroups s p = { s with regs := r, groups := g } := by
  unfold discardGroups
  split
  · exact ⟨_, _, rfl⟩
  · exact ⟨s.regs, s.groups, rfl⟩

theorem discard_discardGroups {s : State} {p : Group → Bool} (h : ∃ g ∈ s.groups, g.phase = .staged ∧ p g = true) :
    (discardGroups s p).fld Reg.CMT_STAT_discard = 1 := by
  have hany : s.groups.any (fun g => g.phase == GroupPhase.staged && p g) = true := by
    obtain ⟨g, hg, hphase, hp⟩ := h
    exact List.any_eq_true.2 ⟨g, hg, by rw [hphase, hp]; rfl⟩
  rw [discardGroups, if_pos hany]
  exact fld_setFld_of_lt (by decide) (by decide)

/-- The groups that a lease's end discards. -/
def underLease (i : Nat) (l : Lease) (g : Group) : Bool := g.lease == some (i, l.serial) && g.who == l.who

theorem underLease_iff (i : Nat) (l : Lease) (g : Group) : underLease i l g = true ↔ g.lease = some (i, l.serial) ∧ g.who = l.who := by
  simp only [underLease, Bool.and_eq_true, beq_iff_eq]

/-- The state in which lease `l` of entry `i` has left the table, its blocks flagged. -/
def leaseGone (s : State) (i : Nat) (l : Lease) : State :=
  { s with leases := storeDel s.leases i, broken := l.blocks.foldl (fun m b => storeSet false m b true) s.broken }

section
variable {s : State} {i : Nat} {l : Lease} (hl : storeFind s.leases i = some l)
include hl

theorem leaseDue_breaks (hrel : l.relAt = none) (hend : l.endTick ≤ s.tick) :
    leaseDue s i = discardGroups (leaseGone s i l) (underLease i l) := by
  rw [leaseDue, hl]
  simp only [hrel, if_pos hend, breakLease, hl]
  rfl

theorem leaseDue_released {r : Nat} (hrel : l.relAt = some r) (hr : r ≤ s.tick) :
    leaseDue s i = { s with leases := storeDel s.leases i } := by
  rw [leaseDue, hl]
  simp only [hrel, if_pos hr]
  rfl

theorem leaseDue_early (h : s.tick < leaseEnds l) : leaseDue s i = s := by
  cases hrel : l.relAt with
  | none =>
    simp only [leaseEnds, hrel] at h
    simp only [leaseDue, hl, hrel]
    exact if_neg (Nat.not_le.2 h)
  | some r =>
    simp only [leaseEnds, hrel] at h
    simp only [leaseDue, hl, hrel]
    exact if_neg (Nat.not_le.2 (lt_of_lt_of_le h (Nat.min_le_left _ _)))

end

theorem leaseDue_free {s : State} {i : Nat} (hl : storeFind s.leases i = none) : leaseDue s i = s := by rw [leaseDue, hl]

/-! ### Gain cells (R177) -/

theorem cell_setCell (s : State) (n x : Nat) (c : Cell) : (s.setCell n c).cell x = if x = n then c else s.cell x := by
  simp only [State.cell, State.setCell, storeGet_set]

theorem satInc_frame (s : State) (f : Fld) : s.satInc f = { s with regs := (s.satInc f).regs } := by
  unfold State.satInc
  split <;> rfl

theorem cellStep4_timeout {s : State} {n : Nat} (hp : (s.cell n).pending = true) (hc : (s.cell n).crossed = false)
    (hd : (s.cell n).deadline ≤ s.tick) : cellStep4 s n =
      (s.satInc Reg.CMT_GC_STAT_timeouts).setCell n { s.cell n with current := (s.cell n).target, pending := false } := by
  simp only [cellStep4, hp, hc, hd, Bool.false_eq_true, or_true, and_self, if_true, if_false]

/-! ### LEASE_SEL (R179) -/

theorem onlyRegs_setReg {as : List Nat} {s t : State} (h : onlyRegs as s t) {a : Nat} (ha : a ∈ as) (v : Word) :
    onlyRegs as s (t.setReg a v) := by
  obtain ⟨hst, hkept⟩ := h
  refine ⟨?_, fun b hb => ?_⟩
  · obtain ⟨r, rfl⟩ : ∃ r, t = { s with regs := r } := ⟨_, hst⟩
    rfl
  · rw [reg_setReg, if_neg (ne_of_mem_of_not_mem ha hb).symm, hkept b hb]

/-- LEASE_SEL with the index that was written, and what LEASE_TBL latches. -/
def leaseTable (s : State) (v x0 x1 x2 : Word) : State :=
  (((s.setFld Reg.LEASE_SEL_index (bitsOf v 0 14)).setReg Reg.LEASE_TBL0 x0).setReg Reg.LEASE_TBL1 x1).setReg Reg.LEASE_TBL2 x2

theorem leaseSel_held {s : State} {v : Word} {l : Lease} (h : storeFind s.leases (bitsOf v 0 14) = some l) : leaseSel s v =
    leaseTable s v (BitVec.ofNat 32 l.endTick) (BitVec.ofNat 32 (l.who.epoch * 65536 + l.serial))
      (BitVec.ofNat 32 (2 ^ 31 + l.blocks.length * 2 ^ 20 + l.who.num % 4096 * 256 + l.part)) := by
  rw [leaseSel, State.setFld_leases, h]
  rfl

theorem leaseSel_free {s : State} {v : Word} (h : storeFind s.leases (bitsOf v 0 14) = none) : leaseSel s v = leaseTable s v 0 0 0 := by
  rw [leaseSel, State.setFld_leases, h]
  rfl

section
variable (s : State) (v x0 x1 x2 : Word)

theorem reg_leaseTable : (leaseTable s v x0 x1 x2).reg Reg.LEASE_TBL0 = x0 ∧ (leaseTable s v x0 x1 x2).reg Reg.LEASE_TBL1 = x1 ∧
    (leaseTable s v x0 x1 x2).reg Reg.LEASE_TBL2 = x2 := by
  simp [leaseTable, Reg.LEASE_TBL0, Reg.LEASE_TBL1, Reg.LEASE_TBL2]

theorem index_leaseTable : (leaseTable s v x0 x1 x2).fld Reg.LEASE_SEL_index = bitsOf v 0 14 := by
  rw [leaseTable, fld_setReg_other _ _ _ _ (by decide), fld_setReg_other _ _ _ _ (by decide), fld_setReg_other _ _ _ _ (by decide)]
  exact fld_setFld_bits s _ v 0 14 (by decide) rfl

theorem onlyRegs_leaseTable :
    onlyRegs [Reg.LEASE_SEL, Reg.LEASE_TBL0, Reg.LEASE_TBL1, Reg.LEASE_TBL2] s (leaseTable s v x0 x1 x2) :=
  onlyRegs_setReg (onlyRegs_setReg (onlyRegs_setReg (onlyRegs_setFld (onlyRegs_refl _ s) (by decide) _) (by decide) _) (by decide) _)
    (by decide) _

end

/-- The fields of LEASE_TBL2 for a lease that the table can show. -/
theorem bits_leaseTbl2 {k m p : Nat} (hk : k ≤ 64) (hm : m < 4096) (hp : p < 256) :
    let x := BitVec.ofNat 32 (2 ^ 31 + k * 2 ^ 20 + m * 256 + p)
    bitsOf x 31 1 = 1 ∧ bitsOf x 20 7 = k ∧ bitsOf x 8 12 = m ∧ bitsOf x 0 8 = p := by
  simp only [bitsOf, BitVec.toNat_ofNat]
  omega

/-- Settles O44: flips by the number of due groups that name a block, the end of a lease by its dates, a cell's timeout, and LEASE_TBL. -/
theorem flipsLeasesAndCellsActAtTheirBoundary : Obligations.FlipsLeasesAndCellsActAtTheirBoundary := by
  unfold Obligations.FlipsLeasesAndCellsActAtTheirBoundary
  intro i cell v s
  refine ⟨?_, fun l hl hrel hend => ?_, fun l r hl hrel hr => congrArg Host.Outcome.next (leaseDue_released hl hrel hr),
    fun l hl h => congrArg Host.Outcome.next (leaseDue_early hl h), fun hl => congrArg Host.Outcome.next (leaseDue_free hl), ⟨?_, ?_⟩,
    fun hr => congrArg Host.Outcome.next (gated_unreached hr), fun l hr hl => ?_, fun hr hl => ?_⟩
  -- GROUP_FLIP (R172)
  · refine ⟨doFlips s, rfl, doFlips_frame s, by rw [doFlips_eq]; rfl, fun b hone => ?_, fun b hnone => ?_⟩
    · have hflip : (doFlips s).flip b = 1 - s.flip b := by
        have hlt := flip_lt s b
        have hcount : ((s.groups.filter (groupDue s)).filter (fun g => groupNames g b)).length = 1 := hone
        rw [flip_doFlips, hcount]
        omega
      exact ⟨hflip, fun w => by rw [current_doFlips, hflip]⟩
    · have hflip : (doFlips s).flip b = s.flip b := by
        have hcount : (s.groups.filter (groupDue s)).filter (fun g => groupNames g b) = [] :=
          List.filter_eq_nil_iff.2 fun g hg => by
            obtain ⟨hmem, hdue⟩ := List.mem_filter.1 hg
            simp [hnone g hmem hdue]
        rw [flip_doFlips, hcount, List.length_nil, Nat.add_zero, Nat.mod_eq_of_lt (flip_lt s b)]
      exact ⟨hflip, fun w => by rw [current_doFlips, hflip]; rfl⟩
  -- LEASE_EXPIRY (R181)
  · have hgroups := groups_discardGroups (leaseGone s i l) (underLease i l)
    have hdiscard := discard_discardGroups (s := leaseGone s i l) (p := underLease i l)
    obtain ⟨r, gs, hframe⟩ := discardGroups_frame (leaseGone s i l) (underLease i l)
    have hbroken (b : Nat) : storeGet false (leaseGone s i l).broken b = if b ∈ l.blocks then true else storeGet false s.broken b :=
      storeGet_foldl_set false true l.blocks s.broken b
    refine ⟨_, congrArg Host.Outcome.next (leaseDue_breaks hl hrel hend), by rw [hframe]; rfl, fun b hb => ?_, fun b hb => ?_,
      fun g hg hlease hwho hphase => ?_, by rw [hgroups, List.length_map]; rfl, fun ⟨g, hg, hphase, hlease, hwho⟩ => ?_,
      by rw [hframe]; rfl⟩
    · rw [hframe]
      exact (hbroken b).trans (if_pos hb)
    · rw [hframe]
      exact (hbroken b).trans (if_neg hb)
    · rw [hgroups] at hg
      obtain ⟨g', _, rfl⟩ := List.mem_map.1 hg
      split at hphase
      · cases hphase
      · next hnot =>
        rw [if_neg hnot] at hlease hwho
        exact hnot ⟨hphase, (underLease_iff i l g').2 ⟨hlease, hwho⟩⟩
    · exact hdiscard ⟨g, hg, hphase, (underLease_iff i l g).2 ⟨hlease, hwho⟩⟩
  -- GAIN_CELL_TIMEOUT (R177)
  · intro hp hc hd
    have hstep : exec (.gainCellTimeout cell) s = .next (cellStep4 s cell) := congrArg Host.Outcome.next (if_pos ⟨hp, hc, hd⟩)
    refine ⟨_, hstep.trans (congrArg Host.Outcome.next (cellStep4_timeout hp hc hd)), ?_, fun x hx => ?_,
      fld_satInc_self s Reg.CMT_GC_STAT_timeouts (by decide), ?_⟩
    · rw [cell_setCell, if_pos rfl]
    · rw [cell_setCell, if_neg hx, satInc_frame]
      rfl
    · rw [satInc_frame]
      rfl
  · intro hquiet
    refine congrArg Host.Outcome.next (if_neg fun ⟨hp, hc, hd⟩ => ?_)
    rcases hquiet with h | h | h
    · exact absurd (h.symm.trans hp) (by decide)
    · exact absurd (h.symm.trans hc) (by decide)
    · exact absurd hd (Nat.not_le.2 h)
  -- LEASE_SEL_WRITE (R179)
  · have hexec : exec (.leaseSelWrite v) s = .next _ := congrArg Host.Outcome.next ((gated_reached hr).trans (leaseSel_held hl))
    refine ⟨_, hexec, ?_⟩
    obtain ⟨h0, h1, h2⟩ := reg_leaseTable s v (BitVec.ofNat 32 l.endTick) (BitVec.ofNat 32 (l.who.epoch * 65536 + l.serial))
      (BitVec.ofNat 32 (2 ^ 31 + l.blocks.length * 2 ^ 20 + l.who.num % 4096 * 256 + l.part))
    refine ⟨h0, ?_, fun hblocks hpart => ?_, index_leaseTable .., onlyRegs_leaseTable ..⟩
    · rw [h1, bitsOf, BitVec.toNat_ofNat]
      omega
    · obtain ⟨hvalid, hcount, hses, hpart'⟩ := bits_leaseTbl2 hblocks (Nat.mod_lt l.who.num (by decide : 0 < 4096)) hpart
      simp only [State.fld]
      exact ⟨(congrArg (bitsOf · 31 1) h2).trans hvalid, (congrArg (bitsOf · 20 7) h2).trans hcount,
        (congrArg (bitsOf · 8 12) h2).trans hses, (congrArg (bitsOf · 0 8) h2).trans hpart'⟩
  · have hexec : exec (.leaseSelWrite v) s = .next _ := congrArg Host.Outcome.next ((gated_reached hr).trans (leaseSel_free hl))
    obtain ⟨h0, h1, h2⟩ := reg_leaseTable s v 0 0 0
    exact ⟨_, hexec, h0, h1, h2, index_leaseTable .., onlyRegs_leaseTable ..⟩

end Sys2Proof.Machine
end

section
/-!
PROOFS. CMT_SUBMIT (R159), and the answers that wait for the follower (R185, R186).
-/
namespace Sys2Proof.Machine

/-! ### What answers leave of the checks of a group -/

section
variable {s t : State}

theorem fld_of_onlyReplies (h : onlyReplies s t) {f : Fld} (hf : f.addr ∉ replyRegs) : t.fld f = s.fld f := by
  rw [State.fld, h.2 _ hf, State.fld]

theorem leads_of_onlyReplies (h : onlyReplies s t) : t.leads = s.leads :=
  congrArg₂ (· && ·)
    (congrArg (fun w => w.twinMode && (w.twin.paired || w.twin.joinTick == some (w.tick + 1))) h.1 :)
    (congrArg (· == 1) (fld_of_onlyReplies h (f := Reg.TWN_STAT_owner) (by decide)))

theorem follows_of_onlyReplies (h : onlyReplies s t) : t.follows = s.follows :=
  congrArg₂ (· && ·) (congrArg (fun w => w.twinMode && w.twin.paired) h.1 :)
    (congrArg (· == 0) (fld_of_onlyReplies h (f := Reg.TWN_STAT_owner) (by decide)))

theorem tick_of_onlyReplies (h : onlyReplies s t) : t.tick = s.tick := (congrArg State.tick h.1 :)

theorem ctlSeq_of_onlyReplies (h : onlyReplies s t) : t.twin.ctlSeq = s.twin.ctlSeq := (congrArg (fun w => w.twin.ctlSeq) h.1 :)

theorem submitOffers_of_onlyReplies (h : onlyReplies s t) (es : List (Word × Word)) : submitOffers t es = submitOffers s es :=
  (congrArg (fun w => submitOffers w es) h.1 :)

theorem step8_of_onlyReplies (h : onlyReplies s t) (p : Nat) (ents : List Entry) : step8 t p ents = step8 s p ents :=
  (congrArg (fun w => step8 w p ents) h.1 :)

theorem retry_of_onlyReplies (h : onlyReplies s t) (ok : Nat → Bool) : t.retry ok = s.retry ok := (congrArg (fun w => w.retry ok) h.1 :)

theorem promised_of_onlyReplies (h : onlyReplies s t) (p w : Nat) : promised t p w = promised s p w :=
  (congrArg (fun u => promised u p w) h.1 :)

theorem checkState_of_onlyReplies (h : onlyReplies s t) {p : Nat} (hs : checkState s p = none) : checkState t p = none := by
  obtain ⟨hb, hop⟩ := checkState_none_iff.1 hs
  exact checkState_none_iff.2 ⟨(fld_of_onlyReplies h (f := Reg.BOOT_STATE_state) (by decide)).trans hb,
    (congrArg (fun w => w.partOp p) h.1 : t.partOp p = s.partOp p).trans hop⟩

end

/-! ### A group that passes every check -/

/-- The internal session of CMT_SUBMIT (log entry 77). -/
abbrev submitter : SessId := ⟨4096, 0, false⟩

/-- What is submitted passes every check of Table 07.3 but the last. -/
def submitPasses (s : State) (os : List Offer) : Prop :=
  checkState s 0 = none ∧ checkWindows os = none ∧ checkForm s 0 os = none ∧ checkLeases s none os = none

theorem submitPasses_of_onlyReplies {s t : State} (h : onlyReplies s t) {os : List Offer} (hp : submitPasses s os) :
    submitPasses t os := by
  obtain ⟨hs, hw, hform, hc⟩ := hp
  have hform' : checkForm t 0 os = checkForm s 0 os := (congrArg (fun w => checkForm w 0 os) h.1 :)
  have hc' : checkLeases t none os = checkLeases s none os := (congrArg (fun w => checkLeases w none os) h.1 :)
  exact ⟨checkState_of_onlyReplies h hs, hw, hform'.trans hform, hc'.trans hc⟩

theorem serveSubmit_passes {s : State} {es : List (Word × Word)} {count : Nat} (hp : submitPasses s (submitOffers s es))
    (hlen : es.length = count) :
    serveSubmit s submitter es count = admitGroup.admitLast s 0 submitter 0 none ((submitOffers s es).map Offer.entry) := by
  obtain ⟨hs, hw, hform, hc⟩ := hp
  have hall : ¬ es.length < count := by omega
  rw [serveSubmit, hs]
  simp only [if_neg hall]
  rw [decideGroup_admits hs hw hform, admitGroup_unnamed (by decide) hc]

/-! ### The write of CMT_SUBMIT -/

section
variable {s : State} {v : Word}

/-- The state in which a write has set offset and count. -/
def submitFlds (s : State) (v : Word) : State :=
  (s.setFld Reg.CMT_SUBMIT_offset (bitsOf v 16 12)).setFld Reg.CMT_SUBMIT_count_m1 (bitsOf v 0 12)

/-- The state in which a submission is in progress. -/
def submitBegun (s : State) (v : Word) : State :=
  ((submitFlds s v).setFld Reg.CMT_SUBMIT_RES_valid 0).setFld Reg.CMT_SUBMIT_busy 1

/-- The entries that a go names. -/
def submission (s : State) (v : Word) : List (Word × Word) :=
  if bitsOf v 16 12 + (bitsOf v 0 12 + 1) ≤ 4096 then submitEntries s (bitsOf v 16 12) (bitsOf v 0 12 + 1 - 1) else []

theorem length_submission (h : bitsOf v 16 12 + (bitsOf v 0 12 + 1) ≤ 4096) : (submission s v).length = bitsOf v 0 12 + 1 := by
  rw [submission, if_pos h, submitEntries, List.length_map, List.length_range, Nat.add_sub_cancel]

theorem onlyReplies_submitBegun (s : State) (v : Word) : onlyReplies s (submitBegun s v) :=
  onlyReplies_trans (onlyReplies_setFld (by decide) _) <| onlyReplies_trans (onlyReplies_setFld (by decide) _) <|
    onlyReplies_trans (onlyReplies_setFld (by decide) _) (onlyReplies_setFld (by decide) _)

theorem submitBegun_frame (s : State) (v : Word) : submitBegun s v = { s with regs := (submitBegun s v).regs } :=
  (onlyFlds_setFld (fs := [Reg.CMT_SUBMIT_offset, Reg.CMT_SUBMIT_count_m1, Reg.CMT_SUBMIT_RES_valid, Reg.CMT_SUBMIT_busy])
    (onlyFlds_setFld (onlyFlds_setFld (onlyFlds_setFld (onlyFlds_refl _ s) (by decide) (by decide) _) (by decide) (by decide) _)
      (by decide) (by decide) _) (by decide) (by decide) _).1

theorem ctlOut_submitBegun (s : State) (v : Word) : (submitBegun s v).ctlOut = s.ctlOut := by rw [submitBegun_frame]

theorem shows_submitBegun (s : State) (v : Word) :
    (submitBegun s v).fld Reg.CMT_SUBMIT_busy = 1 ∧ (submitBegun s v).fld Reg.CMT_SUBMIT_RES_valid = 0 := by
  refine ⟨fld_setFld_of_lt (by decide) (by decide), ?_⟩
  rw [submitBegun, fld_setFld_other _ _ _ _ (by decide) (by decide)]
  exact fld_setFld_of_lt (by decide) (by decide)

theorem submitWrite_busy (hgo : bitsOf v 31 1 = 1) (hb : s.fld Reg.CMT_SUBMIT_busy = 1) : submitWrite s v = s := if_pos ⟨hgo, hb⟩

theorem submitWrite_no_go (hgo : bitsOf v 31 1 = 0) : submitWrite s v = submitFlds s v := by
  rw [submitWrite, if_neg (by omega)]
  exact if_pos hgo

theorem submitWrite_go (hgo : bitsOf v 31 1 = 1) (hb : s.fld Reg.CMT_SUBMIT_busy = 0) : submitWrite s v =
    if (submitBegun s v).follows then sendCtl (submitBegun s v) (.submit (submission s v) (bitsOf v 0 12 + 1))
    else conclude (serveSubmit (submitBegun s v) submitter (submission s v) (bitsOf v 0 12 + 1)) .submit := by
  have hidle : ¬ (bitsOf v 31 1 = 1 ∧ s.fld Reg.CMT_SUBMIT_busy = 1) := by omega
  have hset : ¬ bitsOf v 31 1 = 0 := by omega
  simp only [submitWrite, if_neg hidle, if_neg hset, submitBegun, submitFlds, submission, submitEntries, State.setFld_subm]
  rfl

end

/-! ### The answer in CMT_SUBMIT_RES -/

/-- CMT_SUBMIT shows an answer. -/
theorem shows_answer_submit (s : State) {r : Reply} (hr : r.status ≤ 1) : let t := answer s .submit r none
    t.fld Reg.CMT_SUBMIT_busy = 0 ∧ t.fld Reg.CMT_SUBMIT_RES_valid = 1 ∧ t.fld Reg.CMT_SUBMIT_RES_status = r.status ∧
      t.reg Reg.CMT_SUBMIT_TICK = BitVec.ofNat 32 r.tickB := by
  have hanswer : answer s .submit r none = answerSubmit (noteStatus s r.status) r := rfl
  rw [hanswer]
  generalize noteStatus s r.status = u
  unfold answerSubmit
  dsimp only
  rw [if_pos hr]
  refine ⟨?_, ?_, ?_, reg_setReg_self _ _ _⟩
  · rw [fld_setReg_other _ _ _ _ (by decide), fld_setFld_other _ _ _ _ (by decide) (by decide),
      fld_setFld_other _ _ _ _ (by decide) (by decide)]
    exact fld_setFld_of_lt (by decide) (by decide)
  · rw [fld_setReg_other _ _ _ _ (by decide)]
    exact fld_setFld_of_lt (by decide) (by decide)
  · rw [fld_setReg_other _ _ _ _ (by decide), fld_setFld_other _ _ _ _ (by decide) (by decide)]
    exact fld_setFld_of_lt (by decide) (show r.status < 2 ^ 3 by omega)

/-! ### Withheld answers (R185, R186) -/

/-- The answers to send, in their order. -/
def sendHeld (s : State) (l : List Held) : State := l.foldl (fun s h => answer s h.asker h.reply h.rem) s

theorem onlyReplies_sendHeld (s : State) (l : List Held) : onlyReplies s (sendHeld s l) :=
  onlyReplies_foldl (fun t (h : Held) => onlyReplies_answer t h.asker h.reply h.rem) l s

/-- The state in which the follower's confirmation up to item `n` has come. -/
def confirmed (s : State) (n : Nat) : State :=
  { s with
    held := s.held.filter (fun h => decide (n < h.ctl)),
    groups := s.groups.map (fun g => if (s.held.filter (fun h => decide (h.ctl ≤ n))).any (fun h =>
      h.reply.status == 0 && h.reply.tickB == g.tick && h.ta == g.ta) then { g with waiting := false } else g),
    twin := { s.twin with ctlConfirmed := max s.twin.ctlConfirmed n } }

theorem confirmUpTo_eq (s : State) (n : Nat) :
    confirmUpTo s n = sendHeld (confirmed s n) (s.held.filter (fun h => decide (h.ctl ≤ n))) := rfl

/-- The state at the late tick with the due answers sent (R186). -/
def lateSent (s : State) : State :=
  sendHeld { s with held := s.held.filter (fun h => decide (s.tick < h.ta + 1)) } (s.held.filter (fun h => decide (h.ta + 1 ≤ s.tick)))

/-- With an answer due, the detach notice follows the answers. -/
theorem replicaLate_due {s : State} (h : ∃ h ∈ s.held, h.ta + 1 ≤ s.tick) :
    replicaLate s = let u := sendCtl ((lateSent s).setFld Reg.CMT_STAT_replica_late 1) .detach
      { u with twin := { u.twin with splitAt := some (s.tick + 1) } } := by
  obtain ⟨x, hx, hdue⟩ := h
  have hmem : x ∈ s.held.filter (fun h => decide (h.ta + 1 ≤ s.tick)) := List.mem_filter.2 ⟨hx, decide_eq_true hdue⟩
  have hsome : ¬ (s.held.filter (fun h => decide (h.ta + 1 ≤ s.tick))).isEmpty = true := by
    rw [List.isEmpty_iff]
    exact List.ne_nil_of_mem hmem
  have htick : (sendCtl ((lateSent s).setFld Reg.CMT_STAT_replica_late 1) .detach).tick = s.tick := by
    rw [sendsItems_sendCtl]
    exact (congrArg State.tick (onlyReplies_sendHeld _ _).1 :)
  simp only [← htick]
  exact if_neg hsome

theorem replicaLate_quiet {s : State} (h : ∀ h ∈ s.held, s.tick < h.ta + 1) : replicaLate s = s := by
  have hnone : s.held.filter (fun h => decide (h.ta + 1 ≤ s.tick)) = [] :=
    List.filter_eq_nil_iff.2 fun x hx => by simpa using h x hx
  exact if_pos (List.isEmpty_iff.2 hnone)

/-! ### The cases of CMT_SUBMIT -/

/-- Items on the control stream leave the rest of the device as it is. -/
theorem kept_of_sendsItems {l : List CtlItem} {u t : State} (h : sendsItems l u t) :
    t.groups = u.groups ∧ t.leases = u.leases ∧ t.held = u.held ∧ t.ctlOut = u.ctlOut ++ l ∧ t.twin.ctlSeq = u.twin.ctlSeq ∧
      dataKept u t := by
  rw [h]
  exact ⟨rfl, rfl, rfl, rfl, rfl, rfl, rfl, rfl, rfl, rfl, fun _ _ => rfl⟩

section
variable {v : Word} {s : State}

theorem exec_cmtSubmit (h : reaches s Reg.CMT_SUBMIT = true) : exec (.cmtSubmit v) s = .next (submitWrite s v) :=
  congrArg Host.Outcome.next (gated_reached h)

theorem onlyFlds_submitFlds : onlyFlds [Reg.CMT_SUBMIT_offset, Reg.CMT_SUBMIT_count_m1] s (submitFlds s v) :=
  onlyFlds_setFld (onlyFlds_setFld (onlyFlds_refl _ s) (by decide) (by decide) _) (by decide) (by decide) _

theorem offset_submitFlds : (submitFlds s v).fld Reg.CMT_SUBMIT_offset = bitsOf v 16 12 := by
  rw [submitFlds, fld_setFld_other _ _ _ _ (by decide) (by decide)]
  exact fld_setFld_bits s _ v 16 12 (by decide) rfl

/-- An item that goes out behind writes of registers alone. -/
theorem sendsItems_of_regs {u : State} (hu : u = { s with regs := u.regs }) (i : CtlItem) :
    sendsItems [i] { s with regs := (sendCtl u i).regs } (sendCtl u i) := by
  have hsend := sendsItems_sendCtl u i
  rw [regs_of_sendsItems hsend, ← hu]
  exact hsend

/-- A follower relays what is submitted (R159). -/
theorem submit_relayed (hreach : reaches s Reg.CMT_SUBMIT = true) (hgo : bitsOf v 31 1 = 1) (hb : s.fld Reg.CMT_SUBMIT_busy = 0)
    (hf : s.follows = true) : ∃ t, exec (.cmtSubmit v) s = .next t ∧ t.fld Reg.CMT_SUBMIT_busy = 1 ∧
      t.fld Reg.CMT_SUBMIT_RES_valid = 0 ∧
      sendsItems [.submit (submission s v) (bitsOf v 0 12 + 1)] { s with regs := t.regs } t := by
  have hf' : (submitBegun s v).follows = true := (follows_of_onlyReplies (onlyReplies_submitBegun s v)).trans hf
  have hexec : exec (.cmtSubmit v) s = .next (sendCtl (submitBegun s v) (.submit (submission s v) (bitsOf v 0 12 + 1))) := by
    rw [exec_cmtSubmit hreach, submitWrite_go hgo hb, if_pos hf']
  obtain ⟨hbusy, hvalid⟩ := shows_submitBegun s v
  have hregs := regs_of_sendsItems (sendsItems_sendCtl (submitBegun s v) (.submit (submission s v) (bitsOf v 0 12 + 1)))
  exact ⟨_, hexec, (fld_of_regs hregs _).trans hbusy, (fld_of_regs hregs _).trans hvalid,
    sendsItems_of_regs (submitBegun_frame s v) _⟩

/-- What is submitted on a device that does not follow is decided here. -/
theorem submit_decided (hreach : reaches s Reg.CMT_SUBMIT = true) (hgo : bitsOf v 31 1 = 1) (hb : s.fld Reg.CMT_SUBMIT_busy = 0)
    (hf : s.follows = false) (hfit : bitsOf v 16 12 + (bitsOf v 0 12 + 1) ≤ 4096)
    (hp : submitPasses s (submitOffers s (submission s v))) : exec (.cmtSubmit v) s =
      .next (conclude (admitGroup.admitLast (submitBegun s v) 0 submitter 0 none
        ((submitOffers s (submission s v)).map Offer.entry)) .submit) := by
  have hbegun := onlyReplies_submitBegun s v
  have hf' : ¬ (submitBegun s v).follows = true := by rw [follows_of_onlyReplies hbegun, hf]; exact Bool.false_ne_true
  have hoffers : submitOffers (submitBegun s v) (submission s v) = submitOffers s (submission s v) :=
    submitOffers_of_onlyReplies hbegun _
  have hp' := submitPasses_of_onlyReplies hbegun hp
  rw [← hoffers] at hp'
  rw [exec_cmtSubmit hreach, submitWrite_go hgo hb, if_neg hf', serveSubmit_passes hp' (length_submission hfit), hoffers]

end

section
variable {s u : State} {ents : List Entry}

/-- CMT_SUBMIT_RES shows an answer, and no lease or parameter changes. -/
def submitShown (s t : State) (status tick : Nat) : Prop :=
  t.fld Reg.CMT_SUBMIT_busy = 0 ∧ t.fld Reg.CMT_SUBMIT_RES_valid = 1 ∧ t.fld Reg.CMT_SUBMIT_RES_status = status ∧
    t.reg Reg.CMT_SUBMIT_TICK = BitVec.ofNat 32 tick ∧ t.leases = s.leases ∧ dataKept s t

theorem submitShown_answer (hleases : u.leases = s.leases) (hdata : dataKept s u) {r : Reply} (hr : r.status ≤ 1) :
    submitShown s (answer u .submit r none) r.status r.tickB := by
  have hrest := onlyReplies_answer u .submit r none
  obtain ⟨hbusy, hvalid, hstatus, htick⟩ := shows_answer_submit u hr
  exact ⟨hbusy, hvalid, hstatus, htick, (leases_of_onlyReplies hrest).trans hleases,
    dataKept_trans hdata (dataKept_of_onlyReplies hrest)⟩

/-- A submitted group with room, on a device without a follower. -/
theorem submit_booked (h8 : step8 u 0 ents u.tick = true) (hl : u.leads = false) :
    conclude (admitGroup.admitLast u 0 submitter 0 none ents) .submit =
      answer (u.putGroup (newGroup u 0 submitter 0 none ents)) .submit { status := 0, tickB := promised u 0 ents.length } none := by
  rw [admitLast_room h8]
  exact conclude_answers (.inr hl) .submit

theorem submit_full (h8 : step8 u 0 ents u.tick = false) :
    conclude (admitGroup.admitLast u 0 submitter 0 none ents) .submit =
      answer u .submit { status := 1, tickB := u.retry (step8 u 0 ents) } none := by
  rw [admitLast_full h8]
  exact conclude_answers (.inl rfl) .submit

/-- With a follower it is forwarded, and its answer waits. -/
theorem submit_forwarded (h8 : step8 u 0 ents u.tick = true) (hl : u.leads = true) :
    sendsItems [.group (u.twin.ctlSeq + 1) 0 submitter u.tick (promised u 0 ents.length) none ents]
      { u.putGroup (newGroup u 0 submitter 0 none ents) with
          twin := { u.twin with ctlSeq := u.twin.ctlSeq + 1 },
          held := u.held ++ [⟨u.twin.ctlSeq + 1, u.tick, .submit, { status := 0, tickB := promised u 0 ents.length }, none⟩] }
      (conclude (admitGroup.admitLast u 0 submitter 0 none ents) .submit) := by
  rw [admitLast_room h8]
  exact conclude_withholds rfl hl .submit

/-- What becomes of a submitted group with room: it is appended, and its answer is shown, or forwarded and withheld. -/
theorem submitted_room (h : onlyReplies s u) (hco : u.ctlOut = s.ctlOut) (h8 : step8 s 0 ents s.tick = true) :
    let t := conclude (admitGroup.admitLast u 0 submitter 0 none ents) .submit
    let g := newGroup u 0 submitter 0 none ents
    let k := s.twin.ctlSeq + 1
    (s.leads = false → submitShown s t 0 (promised s 0 ents.length)) ∧
    (s.leads = true → t.regs = u.regs ∧ t.leases = s.leases ∧ dataKept s t ∧ t.twin.ctlSeq = k ∧
      t.ctlOut = s.ctlOut ++ [.group k 0 submitter s.tick (promised s 0 ents.length) none ents] ∧
      t.held = s.held ++ [⟨k, s.tick, .submit, { status := 0, tickB := promised s 0 ents.length }, none⟩]) ∧
    t.groups = s.groups ++ [g] ∧ g.part = 0 ∧ g.ents = ents ∧ g.tick = promised s 0 ents.length ∧ g.phase = .staged ∧ g.nStaged = 0 ∧
    g.waiting = s.leads := by
  intro t g k
  have hleads := leads_of_onlyReplies h
  have hpromised := promised_of_onlyReplies h 0 ents.length
  have hgroups : (u.putGroup g).groups = s.groups ++ [g] := congrArg (· ++ [g]) (groups_of_onlyReplies h)
  have hdata := dataKept_trans (dataKept_of_onlyReplies h) (dataKept_putGroup u g)
  have h8' : step8 u 0 ents u.tick = true := by rw [step8_of_onlyReplies h, tick_of_onlyReplies h, h8]
  simp only [t]
  cases hl : s.leads with
  | false =>
    rw [submit_booked h8' (hleads.trans hl), hpromised]
    have hleases : (u.putGroup g).leases = s.leases := leases_of_onlyReplies (t := u) h
    have hshown := submitShown_answer hleases hdata (r := { status := 0, tickB := promised s 0 ents.length }) (Nat.zero_le 1)
    exact ⟨fun _ => hshown, fun h => absurd h Bool.false_ne_true,
      (groups_of_onlyReplies (onlyReplies_answer _ _ _ _)).trans hgroups, rfl, rfl, hpromised, rfl, rfl, hleads.trans hl⟩
  | true =>
    have hsend := submit_forwarded h8' (hleads.trans hl)
    obtain ⟨hgroups', hleases, hheld, hout, hseq, hkept⟩ := kept_of_sendsItems hsend
    rw [ctlSeq_of_onlyReplies h, tick_of_onlyReplies h, hpromised] at hheld hout
    refine ⟨fun h => absurd h.symm Bool.false_ne_true, fun _ => ⟨(regs_of_sendsItems hsend :), hleases.trans (leases_of_onlyReplies h :),
      dataKept_trans hdata hkept, hseq.trans (congrArg (· + 1) (ctlSeq_of_onlyReplies h)), hout.trans (congrArg (· ++ _) hco),
      hheld.trans (congrArg (· ++ _) (held_of_onlyReplies h))⟩, hgroups'.trans hgroups, rfl, rfl, hpromised, rfl, rfl, hleads.trans hl⟩

theorem submitted_full (h : onlyReplies s u) (h8 : step8 s 0 ents s.tick = false) :
    let t := conclude (admitGroup.admitLast u 0 submitter 0 none ents) .submit
    submitShown s t 1 (s.retry (step8 s 0 ents)) ∧ t.groups = s.groups := by
  have h8' : step8 u 0 ents u.tick = false := by rw [step8_of_onlyReplies h, tick_of_onlyReplies h, h8]
  have hstep := step8_of_onlyReplies h 0 ents
  dsimp only
  rw [submit_full h8', hstep, retry_of_onlyReplies h]
  exact ⟨submitShown_answer (leases_of_onlyReplies h) (dataKept_of_onlyReplies h) le_rfl,
    (groups_of_onlyReplies (onlyReplies_answer _ _ _ _)).trans (groups_of_onlyReplies h)⟩

end

/-- The confirmation sends the answers up to its number (R185). -/
theorem followerConfirm_sends (seq : Word) (s : State) : ∃ t, exec (.followerConfirm seq) s = .next t ∧
    t.held = s.held.filter (fun h => decide (seq.toNat < h.ctl)) ∧
    t.twin.ctlConfirmed = max s.twin.ctlConfirmed seq.toNat ∧ t.groups.length = s.groups.length ∧ t.leases = s.leases ∧ dataKept s t ∧
    ∀ h k op id e, s.held.filter (fun x => decide (x.ctl ≤ seq.toNat)) = [h] → h.asker = .session k op id →
      storeFind s.sessions k = some e → h.reply.status < 16 → answered s t k e op id h.reply := by
  have hrest := onlyReplies_sendHeld (confirmed s seq.toNat) (s.held.filter (fun h => decide (h.ctl ≤ seq.toNat)))
  have hconf : dataKept s (confirmed s seq.toNat) := ⟨rfl, rfl, rfl, rfl, rfl, fun _ _ => rfl⟩
  refine ⟨_, congrArg Host.Outcome.next (confirmUpTo_eq s seq.toNat), held_of_onlyReplies hrest, ctlConfirmed_of_onlyReplies hrest,
    ?_, (leases_of_onlyReplies hrest :), dataKept_trans hconf (dataKept_of_onlyReplies hrest), fun h k op id e hone hask he hs => ?_⟩
  · rw [groups_of_onlyReplies hrest]
    exact List.length_map _
  · have hsend : sendHeld (confirmed s seq.toNat) [h] = answer (confirmed s seq.toNat) (.session k op id) h.reply h.rem :=
      congrArg (fun a => answer (confirmed s seq.toNat) a h.reply h.rem) hask
    rw [hone, hsend]
    exact answered_answer (s := confirmed s seq.toNat) he op id (by omega) h.rem

/-- The late tick sends what is due, tells the partner, and has the pair split at the next boundary (R186, R248). -/
theorem replicaLate_sends {s : State} (hdue : ∃ h ∈ s.held, h.ta + 1 ≤ s.tick) : ∃ t, exec .replicaLate s = .next t ∧
    t.held = s.held.filter (fun h => decide (s.tick < h.ta + 1)) ∧ t.fld Reg.CMT_STAT_replica_late = 1 ∧
    t.ctlOut.getLast? = some .detach ∧ t.twin.splitAt = some (s.tick + 1) ∧ t.groups = s.groups ∧ t.leases = s.leases := by
  have hrest : onlyReplies { s with held := s.held.filter (fun h => decide (s.tick < h.ta + 1)) } (lateSent s) :=
    onlyReplies_sendHeld _ _
  refine ⟨_, congrArg Host.Outcome.next (replicaLate_due hdue), ?_⟩
  have hsend := sendsItems_sendCtl ((lateSent s).setFld Reg.CMT_STAT_replica_late 1) .detach
  obtain ⟨hgroups, hleases, hheld, _⟩ := kept_of_sendsItems hsend
  refine ⟨hheld.trans (held_of_onlyReplies hrest), (fld_of_regs (regs_of_sendsItems hsend) _).trans
    (fld_setFld_of_lt (by decide) (by decide)), ?_, rfl, hgroups.trans (groups_of_onlyReplies hrest :),
    hleases.trans (leases_of_onlyReplies hrest :)⟩
  simp only [ctlOut_sendCtl_detach, List.getLast?_concat]

/-- Settles O45: CMT_SUBMIT by its cases, the confirmation, and the late tick. -/
theorem submissionsAndRepliesWaitForTheFollower : Obligations.SubmissionsAndRepliesWaitForTheFollower := by
  unfold Obligations.SubmissionsAndRepliesWaitForTheFollower
  intro v seq s off n es os ents promise go shown asks
  refine ⟨fun ⟨hreach, hgo⟩ hb => ?_, fun hr => congrArg Host.Outcome.next (gated_unreached hr), fun hr hgo => ?_,
    fun ⟨hreach, hgo⟩ hb hf => submit_relayed hreach hgo hb hf, fun ha h8 => ?_, fun ha h8 => ?_, followerConfirm_sends seq s,
    replicaLate_sends, fun hnone => congrArg Host.Outcome.next (replicaLate_quiet hnone)⟩
  · rw [exec_cmtSubmit hreach, submitWrite_busy hgo hb]
  · exact ⟨_, (exec_cmtSubmit hr).trans (congrArg Host.Outcome.next (submitWrite_no_go hgo)), offset_submitFlds, onlyFlds_submitFlds⟩
  -- A group with room
  · obtain ⟨⟨hreach, hgo⟩, hb, hf, hs, hfit, hw, hform, hc⟩ := ha
    have hlen : ents.length = n := (List.length_map _).trans ((List.length_map _).trans (length_submission hfit))
    have hpromise : promised s 0 ents.length = promise := by rw [promised, hlen]
    have hbooked := submitted_room (onlyReplies_submitBegun s v) (ctlOut_submitBegun s v) h8
    rw [hpromise] at hbooked
    obtain ⟨halone, hpaired, hgroups, hpart, hents, htick, hphase, hstaged, hwaiting⟩ := hbooked
    refine ⟨_, _, submit_decided hreach hgo hb hf hfit ⟨hs, hw, hform, hc⟩, halone, fun hl => ?_, hgroups, hpart, hents, htick,
      hphase, hstaged, hwaiting⟩
    obtain ⟨hregs, hleases, hdata, hseq, hout, hheld⟩ := hpaired hl
    obtain ⟨hbusy, hvalid⟩ := shows_submitBegun s v
    exact ⟨(fld_of_regs hregs _).trans hbusy, (fld_of_regs hregs _).trans hvalid, hleases, hdata, hseq, hout, hheld⟩
  -- A group without room
  · obtain ⟨⟨hreach, hgo⟩, hb, hf, hs, hfit, hw, hform, hc⟩ := ha
    exact ⟨_, submit_decided hreach hgo hb hf hfit ⟨hs, hw, hform, hc⟩, submitted_full (onlyReplies_submitBegun s v) h8⟩

end Sys2Proof.Machine
end

section
/-!
PROOFS. Requests in ESP_LOAD_CTL (R209, R210, R219): what a go starts, and which ones it refuses.
-/
namespace Sys2Proof.Machine

/-- From `s` to `t` control registers and the verification in progress alone change. -/
def onlyEsp (s t : State) : Prop := t = { s with regs := t.regs, espOp := t.espOp }

/-- What a write of ESP_LOAD_CTL leaves in the register before its go is looked at. -/
def espAsked (s : State) (op slot part : Nat) : State :=
  ((s.setFld Reg.ESP_LOAD_CTL_op op).setFld Reg.ESP_LOAD_CTL_slot slot).setFld Reg.ESP_LOAD_CTL_partition part

/-- A go with an assigned op is a request. -/
theorem espCtlWrite_go (s : State) {op slot part : Nat} (hop : op < 3) (hslot : slot < 2) (hpart : part < 256) :
    espCtlWrite s (BitVec.ofNat 32 (2 ^ 31 + op * 2 ^ 16 + slot * 256 + part)) = espGo (espAsked s op slot part) op slot part := by
  have hword : (BitVec.ofNat 32 (2 ^ 31 + op * 2 ^ 16 + slot * 256 + part)).toNat = 2 ^ 31 + op * 2 ^ 16 + slot * 256 + part := by
    rw [BitVec.toNat_ofNat]; omega
  generalize BitVec.ofNat 32 (2 ^ 31 + op * 2 ^ 16 + slot * 256 + part) = v at hword
  have hgo : bitsOf v 31 1 = 1 := by rw [bitsOf, hword]; omega
  have ho : bitsOf v 16 2 = op := by rw [bitsOf, hword]; omega
  have hs : bitsOf v 8 1 = slot := by rw [bitsOf, hword]; omega
  have hp : bitsOf v 0 8 = part := by rw [bitsOf, hword]; omega
  have hread : (espAsked s op slot part).fld Reg.ESP_LOAD_CTL_op = op := by
    rw [espAsked, fld_setFld_other _ _ _ _ (by decide) (by decide), fld_setFld_other _ _ _ _ (by decide) (by decide),
      fld_setFld_of_lt (by decide) (Nat.lt_succ_of_lt hop)]
  rw [espCtlWrite, if_pos hgo, ho, hs, hp, codeOr, if_pos hop]
  exact congrArg (fun k => espGo (espAsked s op slot part) k slot part) hread

section
variable {s : State}

/-- A command whose word is a go with an assigned op makes that request. -/
theorem gated_request (h : reaches s Reg.ESP_LOAD_CTL = true) {op slot part n : Nat} (hop : op < 3) (hslot : slot < 2)
    (hpart : part < 256) (hn : n = 2 ^ 31 + op * 2 ^ 16 + slot * 256 + part) :
    gated s Reg.ESP_LOAD_CTL (espCtlWrite s (BitVec.ofNat 32 n)) = espGo (espAsked s op slot part) op slot part := by
  rw [gated_reached h, hn, espCtlWrite_go s hop hslot hpart]

theorem exec_verifySlot (h : reaches s Reg.ESP_LOAD_CTL = true) (slot : Fin 2) :
    exec (.verifySlot slot) s = .next (espGo (espAsked s 0 slot 0) 0 slot 0) :=
  congrArg Host.Outcome.next (gated_request h (by omega) slot.isLt (by omega) (by omega))

theorem exec_verifyGraft (h : reaches s Reg.ESP_LOAD_CTL = true) (part : Fin 256) :
    exec (.verifyGraft part) s = .next (espGo (espAsked s 1 0 part) 1 0 part) :=
  congrArg Host.Outcome.next (gated_request h (by omega) (by omega) part.isLt (by omega))

theorem exec_graft (h : reaches s Reg.ESP_LOAD_CTL = true) (part : Fin 256) :
    exec (.graft part) s = .next (espGo (espAsked s 2 0 part) 2 0 part) :=
  congrArg Host.Outcome.next (gated_request h (by omega) (by omega) part.isLt (by omega))

/-! ### What the request leaves of the state that decides about it -/

theorem onlyEsp_setFld {t : State} (h : onlyEsp s t) (f : Fld) (v : Nat) : onlyEsp s (t.setFld f v) := by
  obtain ⟨r, o, rfl⟩ : ∃ r o, t = { s with regs := r, espOp := o } := ⟨_, _, h⟩
  rfl

theorem onlyEsp_espAsked (op slot part : Nat) : onlyEsp s (espAsked s op slot part) :=
  onlyEsp_setFld (onlyEsp_setFld (onlyEsp_setFld (t := s) rfl _ _) _ _) _ _

theorem espOp_espAsked (op slot part : Nat) : (espAsked s op slot part).espOp = s.espOp := by simp [espAsked]

theorem fld_espAsked {f : Fld} (hf : f.addr ≠ Reg.ESP_LOAD_CTL) (op slot part : Nat) :
    (espAsked s op slot part).fld f = s.fld f := by
  rw [espAsked, fld_setFld_other _ _ _ _ (by decide) (.inl hf), fld_setFld_other _ _ _ _ (by decide) (.inl hf),
    fld_setFld_other _ _ _ _ (by decide) (.inl hf)]

theorem graftSrc_espAsked (op slot part : Nat) : (espAsked s op slot part).reg Reg.ESP_GRAFT_SRC = s.reg Reg.ESP_GRAFT_SRC := by
  rw [espAsked, reg_setFld, if_neg (by decide), reg_setFld, if_neg (by decide), reg_setFld, if_neg (by decide)]

theorem espState_espAsked (op slot part : Nat) :
    (espAsked s op slot part).fld Reg.ESP_STAT_state = s.fld Reg.ESP_STAT_state := fld_espAsked (by decide) op slot part

theorem boot_espAsked (op slot part : Nat) : (espAsked s op slot part).boot = s.boot := fld_espAsked (by decide) op slot part

theorem partOp_espAsked (op slot part p : Nat) : (espAsked s op slot part).partOp p = s.partOp p := by
  simp [State.partOp, espAsked]

theorem follows_espAsked (op slot part : Nat) : (espAsked s op slot part).follows = s.follows := by
  have howner : (espAsked s op slot part).fld Reg.TWN_STAT_owner = s.fld Reg.TWN_STAT_owner := fld_espAsked (by decide) op slot part
  rw [State.follows, howner]
  simp [State.follows, State.twinMode, espAsked]

/-! ### The three answers -/

/-- What R209, R210 and R219 refuse in IDLE: a request about a graft outside RUN, and a GRAFT of a partition with a reset or graft of
its own or at a follower. -/
def espRefuses (s : State) (op part : Nat) : Prop :=
  op ≠ 0 ∧ s.boot ≠ bootRun ∨ op = 2 ∧ ((s.partOp part).isSome = true ∨ s.follows = true)

theorem espRefuses_espAsked (op slot part : Nat) : espRefuses (espAsked s op slot part) op part ↔ espRefuses s op part := by
  rw [espRefuses, espRefuses, boot_espAsked, partOp_espAsked, follows_espAsked]

theorem espGo_busy (h : s.fld Reg.ESP_STAT_state ≠ 0) (op slot part : Nat) :
    espGo s op slot part = s.setFld Reg.ESP_STAT_busy_ign 1 := if_pos h

theorem espGo_refused {op part : Nat} (hidle : s.fld Reg.ESP_STAT_state = 0) (h : espRefuses s op part) (slot : Nat) :
    espGo s op slot part = s.setFld Reg.ESP_STAT_refused_state 1 := by
  rw [espGo, if_neg (not_not.2 hidle)]
  split
  · rfl
  · next hrun => rw [if_pos (h.resolve_left hrun)]

/-- The state in which a verification begins. -/
def espStarted (s : State) (op slot part : Nat) : State :=
  ({ s with espOp := some ⟨op, slot, part, (s.reg Reg.ESP_GRAFT_SRC).toNat⟩ } : State).setFld Reg.ESP_STAT_state 1

theorem espOp_espStarted (op slot part : Nat) :
    (espStarted s op slot part).espOp = some ⟨op, slot, part, (s.reg Reg.ESP_GRAFT_SRC).toNat⟩ := State.setFld_espOp _ _ _

theorem onlyEsp_putEsp {t : State} (h : onlyEsp s t) (o : Option EspOp) : onlyEsp s { t with espOp := o } := by
  obtain ⟨r, p, rfl⟩ : ∃ r p, t = { s with regs := r, espOp := p } := ⟨_, _, h⟩
  rfl

theorem onlyEsp_espStarted {t : State} (h : onlyEsp s t) (op slot part : Nat) : onlyEsp s (espStarted t op slot part) :=
  onlyEsp_setFld (onlyEsp_putEsp h _) _ _

theorem espGo_starts {op part : Nat} (hidle : s.fld Reg.ESP_STAT_state = 0) (h : ¬ espRefuses s op part) (slot : Nat) :
    espGo s op slot part =
      if op = 2 then (espStarted s op slot part).setFld Reg.ESP_STAT_graft_part part else espStarted s op slot part := by
  obtain ⟨hrun, hfree⟩ := not_or.1 h
  rw [espGo, if_neg (not_not.2 hidle), if_neg hrun, if_neg hfree]
  rfl

/-- Outside IDLE a request is ignored. -/
theorem request_busy (h : s.fld Reg.ESP_STAT_state ≠ 0) (op slot part : Nat) :
    let t := espGo (espAsked s op slot part) op slot part
    t.fld Reg.ESP_STAT_busy_ign = 1 ∧ t.espOp = s.espOp ∧ onlyEsp s t := by
  dsimp only
  rw [espGo_busy (by rwa [espState_espAsked])]
  exact ⟨fld_setFld_of_lt (by decide) (by decide), (State.setFld_espOp _ _ _).trans (espOp_espAsked op slot part),
    onlyEsp_setFld (onlyEsp_espAsked op slot part) _ _⟩

theorem request_refused {op part : Nat} (hidle : s.fld Reg.ESP_STAT_state = 0) (h : espRefuses s op part) (slot : Nat) :
    let t := espGo (espAsked s op slot part) op slot part
    t.fld Reg.ESP_STAT_refused_state = 1 ∧ t.espOp = s.espOp ∧ onlyEsp s t := by
  dsimp only
  rw [espGo_refused (by rwa [espState_espAsked]) ((espRefuses_espAsked op slot part).2 h)]
  exact ⟨fld_setFld_of_lt (by decide) (by decide), (State.setFld_espOp _ _ _).trans (espOp_espAsked op slot part),
    onlyEsp_setFld (onlyEsp_espAsked op slot part) _ _⟩

/-- A verification that begins shows VERIFYING, holds the request with the graft source as it stands, and a GRAFT shows its
partition. -/
theorem request_starts {op part : Nat} (hidle : s.fld Reg.ESP_STAT_state = 0) (h : ¬ espRefuses s op part) (slot : Nat) :
    let t := espGo (espAsked s op slot part) op slot part
    t.fld Reg.ESP_STAT_state = 1 ∧ (op = 2 → part < 256 → t.fld Reg.ESP_STAT_graft_part = part) ∧
      t.espOp = some ⟨op, slot, part, (s.reg Reg.ESP_GRAFT_SRC).toNat⟩ ∧ onlyEsp s t := by
  dsimp only
  rw [espGo_starts (by rwa [espState_espAsked]) (mt (espRefuses_espAsked op slot part).1 h), ← graftSrc_espAsked op slot part]
  have hstate : (espStarted (espAsked s op slot part) op slot part).fld Reg.ESP_STAT_state = 1 :=
    fld_setFld_of_lt (by decide) (by decide)
  have hframe := onlyEsp_espStarted (onlyEsp_espAsked (s := s) op slot part) op slot part
  split
  · exact ⟨(fld_setFld_other _ _ _ _ (by decide) (by decide)).trans hstate, fun _ hp => fld_setFld_of_lt (by decide) hp,
      (State.setFld_espOp _ _ _).trans (espOp_espStarted op slot part), onlyEsp_setFld hframe _ _⟩
  · next hop => exact ⟨hstate, fun h2 => absurd h2 hop, espOp_espStarted op slot part, hframe⟩

/-! ### Which requests are refused -/

theorem not_espRefuses_slot (part : Nat) : ¬ espRefuses s 0 part := by simp [espRefuses]

theorem espRefuses_verifyGraft_iff (part : Nat) : espRefuses s 1 part ↔ s.boot ≠ bootRun := by simp [espRefuses]

theorem espRefuses_graft_iff (part : Nat) :
    espRefuses s 2 part ↔ s.boot ≠ bootRun ∨ s.partOp part ≠ none ∨ s.follows = true := by
  simp [espRefuses, Option.isSome_iff_ne_none]

end

end Sys2Proof.Machine
end

section
/-!
PROOFS. The end of a verification (R204, R205, R208, R210): its verdict, the graft that becomes pending, and the image that a start
takes.
-/
namespace Sys2Proof.Machine

/-! ### The end of a verification beside audio -/

theorem onlyShown_setReg {s t : State} (h : onlyShown s t) (a : Nat) (v : Word) : onlyShown s (t.setReg a v) := by
  obtain ⟨r, c, n, rfl⟩ := h
  exact ⟨_, _, _, rfl⟩

theorem onlyShown_showVerdict (s : State) (v : VErr) : onlyShown s (showVerdict s v) :=
  onlyShown_setReg (onlyShown_setFld (onlyShown_setFld (onlyShown_setFld (onlyShown_setFld (onlyShown_refl s) _ _) _ _) _ _) _ _) _ _

/-- An end shows its verdict, and nothing is in progress after it. -/
theorem onlyShown_espEnd (s : State) (v : VErr) (passed : Bool) : onlyShown { s with espOp := none } (espEnd s v passed) := by
  have hverdict : onlyShown { s with espOp := none } { showVerdict s v with espOp := none } := by
    obtain ⟨r, c, n, h⟩ := onlyShown_showVerdict s v
    exact ⟨r, c, n, by rw [h]⟩
  exact onlyShown_raiseEvent (onlyShown_setFld (onlyShown_setFld hverdict _ _) _ _) _

theorem espOp_espEnd (s : State) (v : VErr) (passed : Bool) : (espEnd s v passed).espOp = none := by
  rw [onlyShown_frame (onlyShown_espEnd s v passed)]

theorem str_espEnd (s : State) (v : VErr) (passed : Bool) : (espEnd s v passed).str = s.str := by
  rw [onlyShown_frame (onlyShown_espEnd s v passed)]

theorem partOps_espEnd (s : State) (v : VErr) (passed : Bool) : (espEnd s v passed).partOps = s.partOps := by
  rw [onlyShown_frame (onlyShown_espEnd s v passed)]

theorem partOp_espEnd (s : State) (v : VErr) (passed : Bool) (p : Nat) : (espEnd s v passed).partOp p = s.partOp p := by
  rw [State.partOp, partOps_espEnd, State.partOp]

theorem tick_espEnd (s : State) (v : VErr) (passed : Bool) : (espEnd s v passed).tick = s.tick := by
  rw [onlyShown_frame (onlyShown_espEnd s v passed)]

theorem pl_espEnd (s : State) (v : VErr) (passed : Bool) : (espEnd s v passed).pl = s.pl := by
  rw [State.pl, State.twinMode, str_espEnd, State.pl, State.twinMode]

theorem fld_raiseEvent (s : State) (n : Nat) (f : Fld) : (raiseEvent s n).fld f = s.fld f := by
  rw [raiseEvent, fld_setCore, fld_setCore]

theorem espState_espEnd (s : State) (v : VErr) (passed : Bool) : (espEnd s v passed).fld Reg.ESP_STAT_state = 0 := by
  rw [espEnd, fld_raiseEvent, fld_setFld_of_lt (by decide) (by decide)]

theorem result_espEnd (s : State) (v : VErr) (passed : Bool) :
    (espEnd s v passed).fld Reg.ESP_STAT_result = if passed then 1 else 2 := by
  rw [espEnd, fld_raiseEvent, fld_setFld_other _ _ _ _ (by decide) (by decide),
    fld_setFld_of_lt (by decide) (by cases passed <;> decide)]

/-- The end with the verdict of the verifier on part `part` of Table 08.15. -/
def endWith {α : Type} (s : State) (part : Nat) : Vfy α → State
  | .ok _ => espEnd s (passVerdict part) true
  | .error e => espEnd s e false

/-- ESP_STAT.result for a verdict: passed or refused (R205). -/
def resultCode {α : Type} : Vfy α → Nat
  | .ok _ => 1
  | .error _ => 2

theorem endWith_ends {α : Type} (s : State) (part : Nat) (v : Vfy α) :
    (endWith s part v).espOp = none ∧ (endWith s part v).fld Reg.ESP_STAT_state = 0 ∧ (endWith s part v).str = s.str ∧
      (endWith s part v).fld Reg.ESP_STAT_result = resultCode v := by
  cases v with
  | ok _ => exact ⟨espOp_espEnd _ _ _, espState_espEnd _ _ _, str_espEnd _ _ _, result_espEnd _ _ true⟩
  | error e => exact ⟨espOp_espEnd _ _ _, espState_espEnd _ _ _, str_espEnd _ _ _, result_espEnd _ _ false⟩

section
variable {s : State} {o : EspOp}

theorem exec_verifyComplete_beside (hb : s.boot ≠ bootVerify) (ho : s.espOp = some o) :
    exec (.verifyComplete none) s = .next (besideVerified s o none) := by
  refine (if_neg hb).trans ?_
  rw [ho]
  rfl

theorem besideVerified_slot (h : o.op = 0) :
    besideVerified s o none = endWith s 2 (verifyBundle s (slotImg s.bootFlash o.slot)) := by
  rw [besideVerified, if_pos h]
  cases verifyBundle s (slotImg s.bootFlash o.slot) <;> rfl

theorem besideVerified_graftCheck (h : o.op = 1) : besideVerified s o none = endWith s 3 (verifyGraftImg s o.part o.src) := by
  rw [besideVerified, if_neg (by omega)]
  cases verifyGraftImg s o.part o.src with
  | ok g => exact if_neg (by omega)
  | error e => rfl

theorem besideVerified_graft_ok {g : GraftPassed} (h : o.op = 2) (hg : verifyGraftImg s o.part o.src = .ok g) :
    besideVerified s o none = graftPending s o.part g := by
  rw [besideVerified, if_neg (by omega), hg]
  exact if_pos h

theorem besideVerified_graft_error {e : VErr} (h : o.op = 2) (he : verifyGraftImg s o.part o.src = .error e) :
    besideVerified s o none = espEnd s e false := by
  rw [besideVerified, if_neg (by omega), he]

end

/-! ### A graft becomes pending (R210) -/

/-- A leader's item goes through the control stream and the twin alone (R185). -/
theorem forward_frame (s : State) (f : Nat → CtlItem) : ∃ c w, forward s f = { s with ctlOut := c, twin := w } := by
  by_cases h : s.leads = true
  case pos => exact ⟨_, _, forward_leads h f⟩
  case neg => exact ⟨s.ctlOut, s.twin, if_neg h⟩

/-- The state with the graft held for boundary `st` beside the structure that runs. -/
def graftHeld (s : State) (part st : Nat) (g : GraftPassed) : State :=
  ({ s with partOps := s.partOps ++ [(⟨part, true, st, none, g.bytes⟩ : PartOp)],
            graftNew := some (g.str, g.blocks) } : State).setFld Reg.ESP_STAT_state 2

theorem graftHeld_shows (s : State) (part st : Nat) (g : GraftPassed) :
    (graftHeld s part st g).espOp = s.espOp ∧ (graftHeld s part st g).str = s.str ∧
      (graftHeld s part st g).fld Reg.ESP_STAT_state = 2 ∧
      (graftHeld s part st g).partOps = s.partOps ++ [(⟨part, true, st, none, g.bytes⟩ : PartOp)] ∧
      (graftHeld s part st g).graftNew = some (g.str, g.blocks) :=
  ⟨State.setFld_espOp _ _ _, State.setFld_str _ _ _, fld_setFld_of_lt (by decide) (by decide), State.setFld_partOps _ _ _,
    State.setFld_graftNew _ _ _⟩

theorem forward_graftHeld_shows (s : State) (part st : Nat) (g : GraftPassed) (f : Nat → CtlItem) :
    let t := forward (graftHeld s part st g) f
    t.espOp = s.espOp ∧ t.str = s.str ∧ t.fld Reg.ESP_STAT_state = 2 ∧
      t.partOps = s.partOps ++ [(⟨part, true, st, none, g.bytes⟩ : PartOp)] ∧ t.graftNew = some (g.str, g.blocks) := by
  obtain ⟨hop, hstr, hstate, hops, hnew⟩ := graftHeld_shows s part st g
  obtain ⟨c, w, hsent⟩ := forward_frame (graftHeld s part st g) f
  dsimp only
  rw [hsent]
  exact ⟨hop, hstr, (fld_of_regs rfl _).trans hstate, hops, hnew⟩

/-- A graft that passes with no reset of its partition pending is held for boundary a + 2 + pl (R210). -/
theorem graftPending_free {s : State} {part : Nat} (h : s.partOp part = none) (g : GraftPassed) :
    graftPending s part g =
      forward (graftHeld (espEnd s (passVerdict 3) true) part (s.tick + 2 + s.pl) g)
        (fun n => .graft n part (s.tick + 2 + s.pl)) := by
  unfold graftPending
  rw [← tick_espEnd s (passVerdict 3) true, ← pl_espEnd s (passVerdict 3) true]
  have hfree := (partOp_espEnd s (passVerdict 3) true part).trans h
  generalize espEnd s (passVerdict 3) true = u at hfree ⊢
  exact if_neg (by rw [hfree]; decide)

theorem graftPending_holds {s : State} {part : Nat} (h : s.partOp part = none) (g : GraftPassed) :
    let t := graftPending s part g
    t.espOp = none ∧ t.str = s.str ∧ t.fld Reg.ESP_STAT_state = 2 ∧
      t.partOps = s.partOps ++ [(⟨part, true, s.tick + 2 + s.pl, none, g.bytes⟩ : PartOp)] ∧
      t.graftNew = some (g.str, g.blocks) := by
  have hshows := forward_graftHeld_shows (espEnd s (passVerdict 3) true) part (s.tick + 2 + s.pl) g
    (fun n => .graft n part (s.tick + 2 + s.pl))
  rwa [espOp_espEnd, str_espEnd, partOps_espEnd, ← graftPending_free h] at hshows

/-! ### The end of V1 (Table 11.3) -/

section
variable {s : State}

theorem exec_verifyComplete_boot (h : s.boot = bootVerify) : exec (.verifyComplete none) s = .next (bootVerified s none) := if_pos h

theorem face_foldl_of_mem {α : Type} {f : State → α → State} {l : List α} (h : ∀ a ∈ l, ∀ t, (f t a).face = t.face) :
    (l.foldl f s).face = s.face :=
  List.foldlRecOn (motive := fun t => t.face = s.face) l f rfl fun t ht a ha => (h a ha t).trans ht

theorem face_showGens : (showGens s).face = s.face := by
  refine face_foldl_of_mem fun n hn t => ?_
  have hlt : n < 2 := List.mem_range.1 hn
  have hgen (u : State) (f : Fld) (hf : f.addr = Reg.BOOT_SETGEN n) (v : Nat) : (u.setFld f v).face = u.face :=
    face_setFld u (by rw [hf]; simp [faceRegs, Reg.BOOT_SETGEN, Reg.BOOT_STATE, Reg.TWN_STAT, Reg.ESP_STAT]; omega) v
  dsimp only
  rw [face_setReg _ (by simp [faceRegs, Reg.BOOT_SETSCH, Reg.BOOT_STATE, Reg.TWN_STAT, Reg.ESP_STAT]; omega), hgen _ _ rfl,
    hgen _ _ rfl, hgen _ _ rfl, hgen _ _ rfl, hgen _ _ rfl]

/-- The phases of L2 and after are all open, the image's structure is the running one, and the registers of `State.face` stay. -/
theorem face_takeImage (q : Passed) : (takeImage s q).face = ({ s with str := q.str, phases := [] } : State).face := by
  have hhash (t : State) (n : Nat) (hn : n ∈ List.range 8) (v : Word) : (t.setReg (Reg.ESP_IMG_HASH n) v).face = t.face := by
    have hlt : n < 8 := List.mem_range.1 hn
    exact face_setReg t (by simp [faceRegs, Reg.ESP_IMG_HASH, Reg.BOOT_STATE, Reg.TWN_STAT, Reg.ESP_STAT]; omega) v
  rw [takeImage, face_showGens, face_setReg _ (by decide), face_foldl_of_mem (fun n hn t => hhash t n hn _)]
  rfl

theorem takeImage_shows (q : Passed) : (takeImage s q).str = q.str ∧ (takeImage s q).phases = [] ∧
    (takeImage s q).fld Reg.ESP_STAT_result = s.fld Reg.ESP_STAT_result := by
  have hface := face_takeImage (s := s) q
  obtain ⟨-, hphases, hstr, -⟩ := face_eq_iff.1 hface
  exact ⟨hstr, hphases, (fld_of_face hface (by decide)).trans (fld_of_regs rfl _)⟩

theorem str_setBoot (b : Nat) : (s.setBoot b).str = s.str := by
  obtain ⟨l, m, n, r, c, h⟩ := setBoot_frame s b
  rw [h, State.setFld_str]

-- `delta` below: the equation that `rw [bootVerified]` would derive takes long to check.

/-- The verdict and the result of V1. -/
def bootShown (s : State) (v : VErr) (r : Nat) : State := raiseEvent ((showVerdict s v).setFld Reg.ESP_STAT_result r) 8

theorem result_bootShown (s : State) (v : VErr) {r : Nat} (hr : r < 4) : (bootShown s v r).fld Reg.ESP_STAT_result = r := by
  rw [bootShown, fld_raiseEvent, fld_setFld_of_lt (by decide) hr]

theorem bootVerified_ok {q : Passed} (h : verifyBundle s (slotImg s.bootFlash (s.fld Reg.BOOT_CAUSE_slot)) = .ok q) :
    bootVerified s none = (takeImage (bootShown s (passVerdict 2) 1) q).setBoot bootLoad := by
  delta bootVerified
  rw [h, bootShown]

theorem bootVerified_error {e : VErr} (h : verifyBundle s (slotImg s.bootFlash (s.fld Reg.BOOT_CAUSE_slot)) = .error e) :
    bootVerified s none = countedFailure (bootShown s e 2) 2 (e.step * 256 + e.part * 16 + e.code) := by
  delta bootVerified
  rw [h, bootShown]

/-- A bundle that passes V1 becomes the running structure, and the start goes on in LOAD (log entry 83). -/
theorem bootVerified_ok_shows {q : Passed} (h : verifyBundle s (slotImg s.bootFlash (s.fld Reg.BOOT_CAUSE_slot)) = .ok q) :
    let t := bootVerified s none
    t.boot = bootLoad ∧ t.str = q.str ∧ t.phases = [] ∧ t.fld Reg.ESP_STAT_result = 1 := by
  have hresult := result_bootShown s (passVerdict 2) (r := 1) (by decide)
  dsimp only
  rw [bootVerified_ok h]
  generalize bootShown s (passVerdict 2) 1 = u at hresult ⊢
  obtain ⟨hstr, hphases, hkept⟩ := takeImage_shows (s := u) q
  exact ⟨boot_setBoot _ (by decide), (str_setBoot _).trans hstr, (phases_setBoot _ _).trans hphases,
    (fld_setBoot _ _ (by decide)).trans (hkept.trans hresult)⟩

end

/-- Settles O22: a request by what its go finds, an end by the verdict of the verifier. -/
theorem verificationsStartWhenIdleAndEndWithTheirVerdict : Obligations.VerificationsStartWhenIdleAndEndWithTheirVerdict := by
  unfold Obligations.VerificationsStartWhenIdleAndEndWithTheirVerdict
  refine ⟨?_, fun o s hb ho => ?_, fun s hb => ?_⟩
  · intro slot part s kept hreach
    refine ⟨fun hbusy => ?_, fun hidle => ?_⟩
    · exact ⟨⟨_, exec_verifySlot hreach slot, request_busy hbusy _ _ _⟩,
        ⟨_, exec_verifyGraft hreach part, request_busy hbusy _ _ _⟩, ⟨_, exec_graft hreach part, request_busy hbusy _ _ _⟩⟩
    · refine ⟨?_, fun hrun => ?_, fun hrun hfree hlead => ?_, fun hrun => ?_, fun hrefuses => ?_⟩
      · obtain ⟨hstate, -, hop⟩ := request_starts hidle (not_espRefuses_slot (s := s) 0) slot
        exact ⟨_, exec_verifySlot hreach slot, hstate, hop⟩
      · obtain ⟨hstate, -, hop⟩ := request_starts hidle (mt (espRefuses_verifyGraft_iff part).1 (not_not.2 hrun)) 0
        exact ⟨_, exec_verifyGraft hreach part, hstate, hop⟩
      · have hstarts : ¬ espRefuses s 2 part := by simp [espRefuses_graft_iff, hrun, hfree, hlead]
        obtain ⟨hstate, hpart, hop⟩ := request_starts hidle hstarts 0
        exact ⟨_, exec_graft hreach part, hstate, hpart rfl part.isLt, hop⟩
      · exact ⟨_, exec_verifyGraft hreach part, request_refused hidle ((espRefuses_verifyGraft_iff part).2 hrun) 0⟩
      · exact ⟨_, exec_graft hreach part, request_refused hidle ((espRefuses_graft_iff part).2 hrefuses) 0⟩
  · have hexec := exec_verifyComplete_beside hb ho
    refine ⟨fun h0 => ?_, fun h1 => ?_, fun g h2 hg hfree => ?_, fun e h2 he => ?_⟩
    · rw [hexec, besideVerified_slot h0]
      generalize verifyBundle s (slotImg s.bootFlash o.slot) = verdict
      obtain ⟨hop, hstate, hstr, hresult⟩ := endWith_ends s 2 verdict
      exact ⟨_, rfl, hop, hstate, hstr, hresult.trans (by cases verdict <;> rfl)⟩
    · rw [hexec, besideVerified_graftCheck h1]
      generalize verifyGraftImg s o.part o.src = verdict
      obtain ⟨hop, hstate, hstr, hresult⟩ := endWith_ends s 3 verdict
      exact ⟨_, rfl, hop, hstate, hstr, hresult.trans (by cases verdict <;> rfl)⟩
    · exact ⟨_, hexec.trans (congrArg Host.Outcome.next (besideVerified_graft_ok h2 hg)), graftPending_holds hfree g⟩
    · exact ⟨_, hexec.trans (congrArg Host.Outcome.next (besideVerified_graft_error h2 he)), espOp_espEnd s e false,
        str_espEnd s e false, espState_espEnd s e false, result_espEnd s e false, partOps_espEnd s e false⟩
  · refine ⟨fun q hq => ⟨_, exec_verifyComplete_boot hb, bootVerified_ok_shows hq⟩, fun e he => ?_⟩
    exact ⟨_, (exec_verifyComplete_boot hb).trans (congrArg Host.Outcome.next (bootVerified_error he)),
      result_bootShown s e (by decide)⟩

end Sys2Proof.Machine
end

section
/-!
PROOFS. Requests in PART_RESET (R216, R219): the verdict on a go, and what each verdict changes.
-/
namespace Sys2Proof.Machine

/-! ### What a write of one register leaves of the state that decides about a reset -/

section
variable {as : List Nat} {s t : State} (h : onlyRegs as s t)
include h

theorem fld_of_onlyRegs {f : Fld} (hf : f.addr ∉ as) : t.fld f = s.fld f := by rw [State.fld, h.2 _ hf, State.fld]

theorem partOp_of_onlyRegs (p : Nat) : t.partOp p = s.partOp p := by rw [h.1]; rfl

theorem part_of_onlyRegs (p : Nat) : t.part p = s.part p := by rw [h.1]; rfl

theorem boot_of_onlyRegs (hf : Reg.BOOT_STATE ∉ as) : t.boot = s.boot := fld_of_onlyRegs h hf

theorem follows_of_onlyRegs (hf : Reg.TWN_STAT ∉ as) : t.follows = s.follows := by
  have howner : t.fld Reg.TWN_STAT_owner = s.fld Reg.TWN_STAT_owner := fld_of_onlyRegs h hf
  rw [State.follows, howner, h.1]
  rfl

theorem leads_of_onlyRegs (hf : Reg.TWN_STAT ∉ as) : t.leads = s.leads := by
  have howner : t.fld Reg.TWN_STAT_owner = s.fld Reg.TWN_STAT_owner := fld_of_onlyRegs h hf
  rw [State.leads, howner, h.1]
  rfl

end

/-! ### The verdict (R216, R219) -/

/-- What R216 asks of a reset request of partition `p`: a partition of the device that is not 0, in RUN. -/
def resetFits (s : State) (p : Nat) : Prop := p ≠ 0 ∧ (s.part p).isSome = true ∧ s.boot = bootRun

section
variable {s : State} {p : Nat}

theorem resetVerdict_refused (h : ¬ resetFits s p) : resetVerdict s p = .refused := by
  refine if_pos ?_
  rw [← Option.not_isSome, Bool.not_eq_true', ← Bool.not_eq_true]
  unfold resetFits at h
  tauto

theorem not_resetUnfit (h : resetFits s p) : ¬ (p = 0 ∨ (s.part p).isNone = true ∨ s.boot ≠ bootRun) := by
  obtain ⟨hp, hpart, hb⟩ := h
  simp [hp, hb, Option.isSome_iff_ne_none.1 hpart]

theorem resetVerdict_absorbed (h : resetFits s p) (hop : s.partOp p ≠ none) : resetVerdict s p = .absorbed :=
  (if_neg (not_resetUnfit h)).trans (if_pos (Option.isSome_iff_ne_none.2 hop))

theorem resetVerdict_accepted (h : resetFits s p) (hop : s.partOp p = none) : resetVerdict s p = .accepted :=
  (if_neg (not_resetUnfit h)).trans (if_neg (by simp [hop]))

theorem resetVerdict_of_onlyRegs {as : List Nat} {t : State} (h : onlyRegs as s t) (hf : Reg.BOOT_STATE ∉ as) :
    resetVerdict t p = resetVerdict s p := by
  rw [resetVerdict, part_of_onlyRegs h, boot_of_onlyRegs h hf, partOp_of_onlyRegs h, resetVerdict]

end

/-! ### The write -/

/-- A write of PART_RESET with the refused bit as the word leaves it. -/
def resetAsked (s : State) (v : Word) : State := if bitsOf v 8 1 = 1 then s.setFld Reg.PART_RESET_refused 0 else s

/-- What a write of PART_RESET that is not refused shows: the partition that the word names. -/
def resetNamed (s : State) (v : Word) : State := (resetAsked s v).setFld Reg.PART_RESET_partition (bitsOf v 0 8)

section
variable (s : State) (v : Word)

theorem onlyFlds_resetAsked : onlyFlds [Reg.PART_RESET_refused] s (resetAsked s v) := by
  unfold resetAsked
  split
  · exact onlyFlds_setFld (onlyFlds_refl _ s) (by simp) (by decide) 0
  · exact onlyFlds_refl _ s

theorem onlyRegs_resetAsked : onlyRegs [Reg.PART_RESET] s (resetAsked s v) := by
  unfold resetAsked
  split
  · exact onlyRegs_setFld (onlyRegs_refl _ s) (by decide) 0
  · exact onlyRegs_refl _ s

theorem onlyFlds_resetNamed : onlyFlds [Reg.PART_RESET_partition, Reg.PART_RESET_refused] s (resetNamed s v) :=
  onlyFlds_setFld (onlyFlds_mono (onlyFlds_resetAsked s v) (by simp)) (by simp) (by decide) _

theorem onlyRegs_resetNamed : onlyRegs [Reg.PART_RESET] s (resetNamed s v) :=
  onlyRegs_setFld (onlyRegs_resetAsked s v) (by decide) _

theorem partition_resetNamed : (resetNamed s v).fld Reg.PART_RESET_partition = bitsOf v 0 8 :=
  fld_setFld_bits _ _ v 0 8 (by decide) rfl

theorem partResetWrite_show (h : bitsOf v 31 1 ≠ 1) : partResetWrite s v = resetNamed s v := if_neg h

/-- A go is answered by its verdict. -/
theorem partResetWrite_go (h : bitsOf v 31 1 = 1) : partResetWrite s v =
    match resetVerdict s (bitsOf v 0 8) with
    | .refused => (resetAsked s v).setFld Reg.PART_RESET_refused 1
    | .absorbed => (resetNamed s v).setFld (Reg.PART_STAT_absorbed (bitsOf v 0 8)) 1
    | .accepted => if s.follows then sendCtl (resetNamed s v) (.relayReset (bitsOf v 0 8))
        else acceptReset (resetNamed s v) (bitsOf v 0 8) := by
  rw [← resetVerdict_of_onlyRegs (onlyRegs_resetAsked s v) (by decide), ← follows_of_onlyRegs (onlyRegs_resetNamed s v) (by decide)]
  exact if_pos h

end

/-! ### A reset that is absorbed or refused -/

section
variable {s : State} {v : Word}

theorem partResetWrite_refused (hgo : bitsOf v 31 1 = 1) (h : ¬ resetFits s (bitsOf v 0 8)) : let t := partResetWrite s v
    t.fld Reg.PART_RESET_refused = 1 ∧ onlyFlds [Reg.PART_RESET_refused] s t := by
  dsimp only
  rw [partResetWrite_go s v hgo, resetVerdict_refused h]
  exact ⟨fld_setFld_of_lt (by decide) (by decide), onlyFlds_setFld (onlyFlds_resetAsked s v) (by simp) (by decide) 1⟩

theorem partStat_ne_partReset (p : Nat) : Reg.PART_RESET ≠ Reg.PART_STAT p := by simp only [Reg.PART_RESET, Reg.PART_STAT]; omega

theorem partResetWrite_absorbed (hgo : bitsOf v 31 1 = 1) (h : resetFits s (bitsOf v 0 8)) (hop : s.partOp (bitsOf v 0 8) ≠ none) :
    let t := partResetWrite s v
    t.fld (Reg.PART_STAT_absorbed (bitsOf v 0 8)) = 1 ∧ t.fld Reg.PART_RESET_partition = bitsOf v 0 8 ∧
      onlyRegs [Reg.PART_RESET, Reg.PART_STAT (bitsOf v 0 8)] s t := by
  obtain ⟨hst, hkept⟩ := onlyRegs_resetNamed s v
  have hnamed : onlyRegs [Reg.PART_RESET, Reg.PART_STAT (bitsOf v 0 8)] s (resetNamed s v) :=
    ⟨hst, fun a ha => hkept a fun hmem => ha (List.mem_cons.2 (.inl (List.mem_singleton.1 hmem)))⟩
  dsimp only
  rw [partResetWrite_go s v hgo, resetVerdict_absorbed h hop]
  exact ⟨fld_setFld_fits _ (Reg.PART_STAT_absorbed _) Nat.one_lt_two,
    (fld_setFld_other _ _ _ _ (by simp [Reg.PART_STAT_absorbed]) (.inl (partStat_ne_partReset _))).trans (partition_resetNamed s v),
    onlyRegs_setFld hnamed (by simp [Reg.PART_STAT_absorbed]) 1⟩

theorem partResetWrite_relayed (hgo : bitsOf v 31 1 = 1) (h : resetFits s (bitsOf v 0 8)) (hop : s.partOp (bitsOf v 0 8) = none)
    (hf : s.follows = true) : sendsItems [.relayReset (bitsOf v 0 8)] (resetNamed s v) (partResetWrite s v) := by
  rw [partResetWrite_go s v hgo, resetVerdict_accepted h hop]
  dsimp only
  rw [if_pos hf]
  exact sendsItems_sendCtl _ _

theorem partResetWrite_accepted (hgo : bitsOf v 31 1 = 1) (h : resetFits s (bitsOf v 0 8)) (hop : s.partOp (bitsOf v 0 8) = none)
    (hf : s.follows = false) : partResetWrite s v = acceptReset (resetNamed s v) (bitsOf v 0 8) := by
  rw [partResetWrite_go s v hgo, resetVerdict_accepted h hop]
  exact if_neg (by simp [hf])

end

/-! ### A reset that is accepted (R98, R185, R216) -/

/-- What a forward puts on the control stream: a leader's item under the next number, and nothing else. -/
theorem forward_sends (s : State) (f : Nat → CtlItem) : forward s f =
    { s with ctlOut := s.ctlOut ++ (if s.leads then [f (s.twin.ctlSeq + 1)] else []),
             twin := { s.twin with ctlSeq := s.twin.ctlSeq + s.leads.toNat, sent := (forward s f).twin.sent,
                                   sentTo := (forward s f).twin.sentTo } } := by
  cases hl : s.leads with
  | true =>
    have hsend := forward_leads hl f
    generalize forward s f = t at hsend ⊢
    exact hsend
  | false =>
    have hstay : forward s f = s := if_neg (ne_true_of_eq_false hl)
    rw [hstay]
    simp

/-- Steps that each change engine `e` by `f` alone change the engines of a list by `f`, each once or more. -/
theorem engine_foldl_of_step {g : State → Nat → State} {f : Engine → Engine} (hidem : ∀ x, f (f x) = f x)
    (hstep : ∀ s e x, (g s e).engine x = if x = e then f (s.engine e) else s.engine x) (es : List Nat) (s : State) (x : Nat) :
    (es.foldl g s).engine x = if x ∈ es then f (s.engine x) else s.engine x := by
  induction es generalizing s with
  | nil => rfl
  | cons e es ih =>
    rw [List.foldl_cons, ih, hstep]
    by_cases hx : x = e
    · subst hx
      simp [hidem]
    · simp [hx]

/-- The engines of the partition abort at once (R98). -/
theorem engine_abortNow (s : State) (p x : Nat) : (abortNow s p).engine x =
    if x ∈ s.partEngines p then { s.engine x with aborted := true, cut := true } else s.engine x :=
  engine_foldl_of_step (f := fun y => { y with aborted := true, cut := true }) (fun _ => rfl)
    (fun t e x => engine_setEngine t e x _) (s.partEngines p) s x

theorem pl_single {s : State} (h : s.twinMode = false) : s.pl = 0 := if_neg (ne_true_of_eq_false h)

theorem pl_twin {s : State} (h : s.twinMode = true) : s.pl = 1 := if_pos h

/-- The state in which a reset of partition `p` is pending for the boundary of R216. -/
def resetEntered (s : State) (p : Nat) : State :=
  { s with partOps := s.partOps ++ [(⟨p, false, s.tick + 1 + s.pl, none, 0⟩ : PartOp)] }

/-- On a single device the reset's boundary is the next one, and the engines abort now. -/
theorem addReset_single {s : State} (h : s.twinMode = false) (p : Nat) : addReset s p = abortNow (resetEntered s p) p :=
  if_pos (congrArg (s.tick + 1 + ·) (pl_single h))

/-- In twin mode it is the boundary after that, and no engine aborts yet. -/
theorem addReset_twin {s : State} (h : s.twinMode = true) (p : Nat) : addReset s p = resetEntered s p := by
  have hlater : s.tick + 1 + s.pl ≠ s.tick + 1 := by rw [pl_twin h]; omega
  exact if_neg hlater

theorem aborted_addReset_single {s : State} (h : s.twinMode = false) {p e : Nat} (he : e ∈ s.partEngines p) :
    ((addReset s p).engine e).aborted = true ∧ ((addReset s p).engine e).cut = true := by
  have hmem : e ∈ (resetEntered s p).partEngines p := he
  rw [addReset_single h, engine_abortNow, if_pos hmem]
  exact ⟨rfl, rfl⟩

theorem eng_addReset_twin {s : State} (h : s.twinMode = true) (p : Nat) : (addReset s p).eng = s.eng :=
  (congrArg State.eng (addReset_twin h p) :)

/-- A reset of partition `p` is pending for the boundary of R216 in `t`, a leader has forwarded it, and nothing else has changed
since `s`. -/
def resetAccepted (s : State) (p : Nat) (t : State) : Prop :=
  t.partOps = s.partOps ++ [(⟨p, false, s.tick + 1 + s.pl, none, 0⟩ : PartOp)] ∧
  t.ctlOut = s.ctlOut ++ (if s.leads then [.partReset (s.twin.ctlSeq + 1) p (s.tick + 1 + s.pl)] else []) ∧
  (s.twinMode = false → ∀ e ∈ s.partEngines p, (t.engine e).aborted = true ∧ (t.engine e).cut = true) ∧
  (s.twinMode = true → t.eng = s.eng) ∧
  t = { s with regs := t.regs, eng := t.eng, partOps := t.partOps, ctlOut := t.ctlOut, twin := t.twin } ∧
  t.twin = { s.twin with ctlSeq := s.twin.ctlSeq + s.leads.toNat, sent := t.twin.sent, sentTo := t.twin.sentTo }

theorem resetAccepted_acceptReset (s : State) (p : Nat) : resetAccepted s p (acceptReset s p) ∧ (acceptReset s p).regs = s.regs := by
  have hsingle (h : s.twinMode = false) (e : Nat) (he : e ∈ s.partEngines p) := aborted_addReset_single h he
  have htwin (h : s.twinMode = true) := eng_addReset_twin h p
  have hsend := forward_sends (addReset s p) (fun n => .partReset n p (s.tick + 1 + s.pl))
  obtain ⟨x, hadd⟩ := addReset_frame s p
  unfold resetAccepted acceptReset
  generalize forward (addReset s p) (fun n => .partReset n p (s.tick + 1 + s.pl)) = t at hsend ⊢
  rw [hadd] at hsend hsingle htwin
  rw [hsend]
  exact ⟨⟨rfl, rfl, hsingle, htwin, rfl, rfl⟩, rfl⟩

end Sys2Proof.Machine
end

section
/-!
PROOFS. The boundaries of a reset and of a graft (R181, R183, R184, R210, R216, R217): what is discarded at the first, and what starts
at the one that completes it.
-/
namespace Sys2Proof.Machine

/-! ### Leases break (R181) -/

theorem key_ne_of_storeFind_none {α : Type} {m : Store α} {k : Nat} (h : storeFind m k = none) : ∀ e ∈ m, e.1 ≠ k := by
  induction m with
  | nil => simp
  | cons a m ih =>
    by_cases hk : k = a.1
    · rw [storeFind, if_pos hk] at h
      cases h
    · rw [storeFind, if_neg hk] at h
      exact List.forall_mem_cons.2 ⟨Ne.symm hk, ih h⟩

theorem breakLease_held {s : State} {i : Nat} {l : Lease} (h : storeFind s.leases i = some l) :
    breakLease s i = discardGroups (leaseGone s i l) (underLease i l) := by
  rw [breakLease, h]
  rfl

theorem breakLease_free {s : State} {i : Nat} (h : storeFind s.leases i = none) : breakLease s i = s := by rw [breakLease, h]

theorem mem_leases_breakLease {s : State} {i : Nat} {e : Nat × Lease} (h : e ∈ (breakLease s i).leases) : e ∈ s.leases ∧ e.1 ≠ i := by
  cases hl : storeFind s.leases i with
  | none =>
    rw [breakLease_free hl] at h
    exact ⟨h, key_ne_of_storeFind_none hl e h⟩
  | some l =>
    obtain ⟨r, gs, hframe⟩ := discardGroups_frame (leaseGone s i l) (underLease i l)
    rw [breakLease_held hl, hframe] at h
    exact storeDel_mem h

theorem mem_leases_foldl_breakLease {is : List Nat} {s : State} {e : Nat × Lease} (h : e ∈ (is.foldl breakLease s).leases) :
    e ∈ s.leases ∧ e.1 ∉ is := by
  induction is generalizing s with
  | nil => exact ⟨h, List.not_mem_nil⟩
  | cons i is ih =>
    obtain ⟨hmem, hout⟩ := ih h
    obtain ⟨hmem', hne⟩ := mem_leases_breakLease hmem
    exact ⟨hmem', List.not_mem_cons_of_ne_of_not_mem hne hout⟩

/-- No unreleased lease that `f` picks is left. -/
theorem released_of_mem_breakLeases {s : State} {f : Lease → Bool} {e : Nat × Lease} (h : e ∈ (breakLeases s f).leases)
    (hf : f e.2 = true) : e.2.relAt ≠ none := by
  rw [breakLeases, ← List.foldl_map] at h
  obtain ⟨hmem, hout⟩ := mem_leases_foldl_breakLease h
  intro hrel
  exact hout (List.mem_map.2 ⟨e, List.mem_filter.2 ⟨hmem, by rw [hrel, hf]; rfl⟩, rfl⟩)

/-! ### Groups are discarded (R183) -/

/-- No group that `f` picks is left staged. -/
theorem not_staged_discardGroups {s : State} {f : Group → Bool} {g : Group}
    (h : g ∈ (discardGroups s f).groups) (hg : f g = true) : g.phase ≠ .staged := by
  rw [groups_discardGroups] at h
  obtain ⟨q, -, rfl⟩ := List.mem_map.1 h
  by_cases hpick : q.phase = .staged ∧ f q = true
  · rw [if_pos hpick]
    exact nofun
  · rw [if_neg hpick] at hg ⊢
    exact fun hphase => hpick ⟨hphase, hg⟩

theorem length_groups_discardGroups (s : State) (f : Group → Bool) : (discardGroups s f).groups.length = s.groups.length := by
  rw [groups_discardGroups, List.length_map]

theorem reg_discardGroups (s : State) (f : Group → Bool) {a : Nat} (ha : a ≠ Reg.CMT_STAT) : (discardGroups s f).reg a = s.reg a := by
  unfold discardGroups
  split
  · exact (reg_setFld _ Reg.CMT_STAT_discard 1 a).trans (if_neg ha)
  · rfl

/-! ### What the actions of a reset leave alone (R184) -/

/-- The state without what a reset acts on: leases, groups, gain cells, engines, and registers. -/
def State.unreset (s : State) : State := { s with regs := [], eng := [], groups := [], leases := [], broken := [], cells := [] }

/-- From `s` to `t` a reset's actions alone differ: no group comes or goes, and of the registers only CMT_STAT and those of the engines
change. -/
def resetLeaves (s t : State) : Prop :=
  t.unreset = s.unreset ∧ t.groups.length = s.groups.length ∧ ∀ a, a < 0x200000 → a ≠ Reg.CMT_STAT → t.reg a = s.reg a

theorem resetLeaves_refl (s : State) : resetLeaves s s := ⟨rfl, rfl, fun _ _ _ => rfl⟩

theorem resetLeaves_trans {s t u : State} (h : resetLeaves s t) (h' : resetLeaves t u) : resetLeaves s u := by
  obtain ⟨hst, hlen, hreg⟩ := h
  obtain ⟨htu, hlen', hreg'⟩ := h'
  exact ⟨htu.trans hst, hlen'.trans hlen, fun a ha hne => (hreg' a ha hne).trans (hreg a ha hne)⟩

theorem resetLeaves_foldl {α : Type} {f : State → α → State} (hf : ∀ t a, resetLeaves t (f t a)) (l : List α) (s : State) :
    resetLeaves s (l.foldl f s) :=
  List.foldlRecOn (motive := resetLeaves s) l f (resetLeaves_refl s) fun t ht a _ => resetLeaves_trans ht (hf t a)

theorem resetLeaves_discardGroups (s : State) (f : Group → Bool) : resetLeaves s (discardGroups s f) := by
  refine ⟨?_, length_groups_discardGroups s f, fun a _ hne => reg_discardGroups s f hne⟩
  obtain ⟨r, g, h⟩ := discardGroups_frame s f
  rw [h]
  rfl

theorem resetLeaves_breakLease (s : State) (i : Nat) : resetLeaves s (breakLease s i) := by
  cases hl : storeFind s.leases i with
  | none =>
    rw [breakLease_free hl]
    exact resetLeaves_refl s
  | some l =>
    have hgone : resetLeaves s (leaseGone s i l) := ⟨rfl, rfl, fun _ _ _ => rfl⟩
    rw [breakLease_held hl]
    exact resetLeaves_trans hgone (resetLeaves_discardGroups _ _)

theorem resetLeaves_breakLeases (s : State) (f : Lease → Bool) : resetLeaves s (breakLeases s f) :=
  resetLeaves_foldl (f := fun t (e : Nat × Lease) => breakLease t e.1) (fun t e => resetLeaves_breakLease t e.1) _ s

/-- Gain cells that step to their targets change nothing else (R177). -/
theorem cellsToTarget_frame (s : State) (p : Nat) : ∃ c, cellsToTarget s p = { s with cells := c } := by
  refine List.foldlRecOn (motive := fun t : State => ∃ c, t = { s with cells := c }) _ _ ⟨s.cells, rfl⟩ fun t ht r _ => ?_
  obtain ⟨c, rfl⟩ := ht
  exact ⟨_, rfl⟩

theorem resetLeaves_cellsToTarget (s : State) (p : Nat) : resetLeaves s (cellsToTarget s p) := by
  obtain ⟨c, h⟩ := cellsToTarget_frame s p
  rw [h]
  exact ⟨rfl, rfl, fun _ _ _ => rfl⟩

theorem reg_setEngState (s : State) (e v : Nat) {a : Nat} (ha : a < 0x200000) : (s.setEngState e v).reg a = s.reg a := by
  have hne : a ≠ (Reg.ENG_STAT_state (e / 16 % 8) (e % 16)).addr := by simp only [Reg.ENG_STAT_state, Reg.ENG_STAT]; omega
  exact (reg_setFld s _ v a).trans (if_neg hne)

/-- From `s` to `t` engines alone change, and of the registers those of the engines alone. -/
def onlyEngines (s t : State) : Prop := t = { s with regs := t.regs, eng := t.eng } ∧ ∀ a, a < 0x200000 → t.reg a = s.reg a

/-- Engine `e` enters HALT, unless its cluster is off or asleep (Table 03.7). -/
def haltEngine (s : State) (e : Nat) : State :=
  let s := if s.engState e = engRun then s.setEngState e engHalt else s
  s.setEngine e { s.engine e with win := false, done := true }

theorem onlyEngines_haltEngine {s t : State} (h : onlyEngines s t) (e : Nat) : onlyEngines s (haltEngine t e) := by
  obtain ⟨hst, hreg⟩ := h
  obtain ⟨r, x, rfl⟩ : ∃ r x, t = { s with regs := r, eng := x } := ⟨_, _, hst⟩
  unfold haltEngine
  dsimp only
  split
  · exact ⟨rfl, fun a ha => (reg_setEngState _ e engHalt ha).trans (hreg a ha)⟩
  · exact ⟨rfl, hreg⟩

theorem onlyEngines_haltEngines (s : State) (p : Nat) : onlyEngines s (haltEngines s p) :=
  List.foldlRecOn (motive := onlyEngines s) (s.partEngines p) haltEngine ⟨rfl, fun _ _ => rfl⟩
    fun _ ht e _ => onlyEngines_haltEngine ht e

theorem resetLeaves_of_onlyEngines {s t : State} (h : onlyEngines s t) : resetLeaves s t := by
  obtain ⟨hst, hreg⟩ := h
  obtain ⟨r, x, rfl⟩ : ∃ r x, t = { s with regs := r, eng := x } := ⟨_, _, hst⟩
  exact ⟨rfl, rfl, fun a ha _ => hreg a ha⟩

/-- The reset's actions but for its count: what it discards, and its engines in HALT. -/
def resetDiscards (s : State) (p : Nat) : State :=
  haltEngines (cellsToTarget (discardGroups (breakLeases s (fun l => l.part == p)) (fun g => g.part == p)) p) p

theorem resetActions_eq (s : State) (p : Nat) : resetActions s p = (resetDiscards s p).wrapInc (Reg.PART_STAT_resets p) := rfl

section
variable (s : State) (p : Nat)

/-- Gain cells and engines follow the discards; they touch no lease and no group. -/
theorem resetDiscards_frame : ∃ r x c, resetDiscards s p =
    { discardGroups (breakLeases s (fun l => l.part == p)) (fun g => g.part == p) with regs := r, eng := x, cells := c } := by
  unfold resetDiscards
  generalize discardGroups (breakLeases s (fun l => l.part == p)) (fun g => g.part == p) = u
  obtain ⟨c, hc⟩ := cellsToTarget_frame u p
  have hhalt := (onlyEngines_haltEngines (cellsToTarget u p) p).1
  exact ⟨_, _, c, by rw [hhalt, hc]⟩

theorem resetLeaves_resetDiscards : resetLeaves s (resetDiscards s p) :=
  resetLeaves_trans (resetLeaves_breakLeases s (fun l => l.part == p)) <|
    resetLeaves_trans (resetLeaves_discardGroups _ (fun g => g.part == p)) <|
      resetLeaves_trans (resetLeaves_cellsToTarget _ p) (resetLeaves_of_onlyEngines (onlyEngines_haltEngines _ p))

theorem released_of_mem_resetDiscards {e : Nat × Lease} (h : e ∈ (resetDiscards s p).leases) (hp : e.2.part = p) :
    e.2.relAt ≠ none := by
  obtain ⟨r, x, c, hframe⟩ := resetDiscards_frame s p
  obtain ⟨r', g, hgroups⟩ := discardGroups_frame (breakLeases s (fun l => l.part == p)) (fun g => g.part == p)
  rw [hframe, hgroups] at h
  exact released_of_mem_breakLeases h (beq_iff_eq.2 hp)

theorem not_staged_of_mem_resetDiscards {g : Group} (h : g ∈ (resetDiscards s p).groups) (hp : g.part = p) : g.phase ≠ .staged := by
  obtain ⟨r, x, c, hframe⟩ := resetDiscards_frame s p
  rw [hframe] at h
  exact not_staged_discardGroups h (beq_iff_eq.2 hp)

end

/-- A reset of partition `p` has acted (R184): its leases and unflipped groups are gone, it is counted, and no parameter, delay or DRAM
word has changed. -/
def resetActed (s : State) (p : Nat) (t : State) : Prop :=
  (∀ e ∈ t.leases, e.2.part = p → e.2.relAt ≠ none) ∧ (∀ g ∈ t.groups, g.part = p → g.phase ≠ .staged) ∧
    t.groups.length = s.groups.length ∧
    t.fld (Reg.PART_STAT_resets p) = (s.fld (Reg.PART_STAT_resets p) + 1) % 2 ^ (Reg.PART_STAT_resets p).w ∧
    t.pstA = s.pstA ∧ t.pstB = s.pstB ∧ t.delay = s.delay ∧ t.dram = s.dram

section
variable {s t : State} {p : Nat}

/-- Counting the reset is what is left to do once the discards are done. -/
theorem resetActed_wrapInc (hsame : resetLeaves s t) (hleases : ∀ e ∈ t.leases, e.2.part = p → e.2.relAt ≠ none)
    (hgroups : ∀ g ∈ t.groups, g.part = p → g.phase ≠ .staged) (hp : p < 256) : resetActed s p (t.wrapInc (Reg.PART_STAT_resets p)) := by
  obtain ⟨hst, hlen, hreg⟩ := hsame
  have hcount : t.fld (Reg.PART_STAT_resets p) = s.fld (Reg.PART_STAT_resets p) := by
    have hlow : Reg.PART_STAT p < 0x200000 := by simp only [Reg.PART_STAT]; omega
    have hne : Reg.PART_STAT p ≠ Reg.CMT_STAT := by simp only [Reg.PART_STAT, Reg.CMT_STAT]; omega
    exact congrArg (fun w => bitsOf w 24 8) (hreg _ hlow hne)
  simp only [resetActed, State.wrapInc_leases, State.wrapInc_groups, State.wrapInc_pstA, State.wrapInc_pstB, State.wrapInc_delay,
    State.wrapInc_dram]
  refine ⟨hleases, hgroups, hlen, ?_, (congrArg State.pstA hst :), (congrArg State.pstB hst :), (congrArg State.delay hst :),
    (congrArg State.dram hst :)⟩
  rw [← hcount]
  exact fld_setFld_self t (Reg.PART_STAT_resets p) _ (by simp [Reg.PART_STAT_resets])

theorem resetActed_resetActions (hp : p < 256) : resetActed s p (resetActions s p) :=
  resetActed_wrapInc (resetLeaves_resetDiscards s p) (fun _ he => released_of_mem_resetDiscards s p he)
    (fun _ hg => not_staged_of_mem_resetDiscards s p hg) hp

theorem resetActed_setReg (h : resetActed s p t) {a : Nat} (ha : Reg.PART_STAT p ≠ a) (v : Word) : resetActed s p (t.setReg a v) := by
  have hcount : (t.setReg a v).fld (Reg.PART_STAT_resets p) = t.fld (Reg.PART_STAT_resets p) := fld_setReg_other _ _ _ _ ha
  simp only [resetActed, hcount, State.setReg_leases, State.setReg_groups, State.setReg_pstA, State.setReg_pstB, State.setReg_delay,
    State.setReg_dram]
  exact h

theorem resetActed_setPartOp (h : resetActed s p t) (o : PartOp) : resetActed s p (setPartOp t o) := h

end

section
variable (s : State) (p : Nat)

theorem str_resetActions : (resetActions s p).str = s.str := by
  have hstr : (resetDiscards s p).str = s.str := (congrArg State.str (resetLeaves_resetDiscards s p).1 :)
  rw [resetActions_eq, State.wrapInc_str, hstr]

theorem tick_resetActions : (resetActions s p).tick = s.tick := by
  have htick : (resetDiscards s p).tick = s.tick := (congrArg State.tick (resetLeaves_resetDiscards s p).1 :)
  rw [resetActions_eq, State.wrapInc_tick, htick]

theorem partOps_resetActions : (resetActions s p).partOps = s.partOps := by
  have hops : (resetDiscards s p).partOps = s.partOps := (congrArg State.partOps (resetLeaves_resetDiscards s p).1 :)
  rw [resetActions_eq, State.wrapInc_partOps, hops]

end

/-! ### Operations -/

theorem part_of_partOp {s : State} {p : Nat} {o : PartOp} (h : s.partOp p = some o) : o.part = p := by
  simpa using List.find?_some h

/-- An operation of the partition takes the place of the one that stood. -/
theorem partOp_setPartOp {s : State} {o : PartOp} (h : s.partOp o.part ≠ none) : (setPartOp s o).partOp o.part = some o := by
  have hput (q : PartOp) : (if q.part = o.part then o else q).part = q.part := by
    split
    · next hq => exact hq.symm
    · rfl
  simp only [State.partOp, setPartOp, List.find?_map, Function.comp_def, hput]
  obtain ⟨q, hq⟩ := Option.ne_none_iff_exists'.1 h
  have hpart : q.part = o.part := part_of_partOp hq
  rw [State.partOp] at hq
  rw [hq, Option.map_some, if_pos hpart]

@[simp] theorem tick_setPartOp (s : State) (o : PartOp) : (setPartOp s o).tick = s.tick := Eq.trans rfl rfl
@[simp] theorem groups_setPartOp (s : State) (o : PartOp) : (setPartOp s o).groups = s.groups := Eq.trans rfl rfl

theorem partOp_dropPartOp (s : State) (p : Nat) : (dropPartOp s p).partOp p = none := by
  simp [State.partOp, dropPartOp]

/-- The boundary at which a reset completes is read off the groups (R217). -/
theorem resetDone_of_groups {s t : State} (h : t.groups = s.groups) (p r : Nat) : resetDone t p r = resetDone s p r := by
  rw [resetDone, lastEcho, h, ← lastEcho, resetDone]

/-- Where a reset and a graft complete: L ticks keep a graft longer (R210, R217). -/
theorem graftDone_eq (s : State) (p b bytes : Nat) : graftDone s p b bytes = max (b + graftTicks s bytes) (resetDone s p b) := by
  have hticks : 1 ≤ graftTicks s bytes := Nat.le_max_left _ _
  unfold graftDone resetDone
  cases lastEcho s p b with
  | none => rfl
  | some e => dsimp only; omega

/-! ### The boundary of a reset (R184, R216, R217) -/

/-- The state after the actions of a reset of partition `o.part`, with its completion at boundary `c`. -/
def resetHeld (s : State) (o : PartOp) (c : Nat) : State := setPartOp (resetActions s o.part) { o with done := some c }

section
variable {s : State} {o : PartOp}

theorem partOp_resetHeld (h : s.partOp o.part = some o) (c : Nat) : (resetHeld s o c).partOp o.part = some { o with done := some c } := by
  refine partOp_setPartOp (o := { o with done := some c }) ?_
  rw [State.partOp, partOps_resetActions]
  exact fun hnone => nomatch h.symm.trans hnone

theorem tick_resetHeld (c : Nat) : (resetHeld s o c).tick = s.tick := by
  rw [resetHeld, tick_setPartOp, tick_resetActions]

theorem groups_resetHeld (c : Nat) : (resetHeld s o c).groups = (resetActions s o.part).groups := by
  rw [resetHeld, groups_setPartOp]

theorem resetActed_resetHeld (hp : o.part < 256) (c : Nat) : resetActed s o.part (resetHeld s o c) :=
  resetActed_setPartOp (resetActed_resetActions hp) _

variable (h : s.partOp o.part = some o) (hd : o.done = none) (hs : o.start ≤ s.tick)
include h hd hs

theorem doPartReset_due (hg : o.graft = false) : let c := resetDone (resetActions s o.part) o.part s.tick
    doPartReset s o.part = ((resetHeld s o c).setReg Reg.PART_RESET_TICK (BitVec.ofNat 32 s.tick)).setReg Reg.PART_RESET_DONE
      (BitVec.ofNat 32 c) := by
  have hdue : o.graft = false ∧ o.done = none ∧ o.start ≤ s.tick := ⟨hg, hd, hs⟩
  rw [doPartReset, h]
  dsimp only
  rw [if_pos hdue, tick_resetActions, ← resetHeld, tick_resetHeld]

theorem doGraftReset_due (hg : o.graft = true) :
    let c := max (s.tick + graftTicks s o.bytes) (resetDone (resetActions s o.part) o.part s.tick)
    doGraftReset s o.part = ((resetHeld s o c).setFld Reg.ESP_STAT_state 3).setReg Reg.ESP_GRAFT_TICK (BitVec.ofNat 32 s.tick) := by
  have hdue : o.graft = true ∧ o.done = none ∧ o.start ≤ s.tick := ⟨hg, hd, hs⟩
  have hticks : graftTicks (resetActions s o.part) o.bytes = graftTicks s o.bytes := by
    rw [graftTicks, str_resetActions, graftTicks]
  rw [doGraftReset, h]
  dsimp only
  rw [if_pos hdue, tick_resetActions, graftDone_eq, hticks, ← resetHeld, tick_resetHeld]

end

end Sys2Proof.Machine
end

section
/-!
PROOFS. The boundary that completes a reset or a graft (R45, R147, R210, R217): engines start, and the composite structure applies.
-/
namespace Sys2Proof.Machine

/-! ### Engines start (R45, R107, R147) -/

theorem startLines_frame (s : State) (e : Nat) : ∃ a, startLines s e = { s with age := a } := by
  refine List.foldlRecOn (motive := fun t : State => ∃ a, t = { s with age := a }) _ _ ⟨s.age, rfl⟩ fun t ht r _ => ?_
  obtain ⟨a, rfl⟩ := ht
  exact ⟨_, rfl⟩

theorem clearBridges_frame (s : State) (e : Nat) : ∃ i, clearBridges s e = { s with io := i } := by
  refine List.foldlRecOn (motive := fun t : State => ∃ i, t = { s with io := i }) _ _ ⟨s.io, rfl⟩ fun t ht b _ => ?_
  obtain ⟨i, rfl⟩ := ht
  exact ⟨_, rfl⟩

/-- ENG_STATe as a start of engine `e` leaves it: RUN, unless the cluster is off or asleep. -/
def engineRuns (s : State) (e : Nat) : State :=
  if s.engState e = engHalt ∨ s.engState e = engRun then s.setEngState e engRun else s

theorem engine_engineRuns (s : State) (e x : Nat) : (engineRuns s e).engine x = s.engine x := by
  unfold engineRuns
  split
  · exact engine_setFld s _ x engRun
  · rfl

/-- A start shows RUN and gives the engine its start values; ages of lines and histories of bridges follow. -/
theorem startEngine_eq (s : State) (e : Nat) : ∃ a i,
    startEngine s e = { (engineRuns s e).setEngine e (s.engine e).start with age := a, io := i } := by
  have hcut : startEngine s e = startLines (clearBridges ((engineRuns s e).setEngine e ((engineRuns s e).engine e).start) e) e := rfl
  rw [hcut, engine_engineRuns]
  obtain ⟨i, hi⟩ := clearBridges_frame ((engineRuns s e).setEngine e (s.engine e).start) e
  obtain ⟨a, ha⟩ := startLines_frame (clearBridges ((engineRuns s e).setEngine e (s.engine e).start) e) e
  exact ⟨a, i, by rw [ha, hi]⟩

theorem engine_startEngine (s : State) (e x : Nat) :
    (startEngine s e).engine x = if x = e then (s.engine e).start else s.engine x := by
  obtain ⟨a, i, h⟩ := startEngine_eq s e
  have hset := engine_setEngine (engineRuns s e) e x (s.engine e).start
  rw [engine_engineRuns] at hset
  rw [h]
  exact hset

/-- Engines that start, one after the other, change these parts alone. -/
theorem startEngines_frame (es : List Nat) (s : State) : ∃ r x a i,
    es.foldl startEngine s = { s with regs := r, eng := x, age := a, io := i } := by
  refine List.foldlRecOn (motive := fun t : State => ∃ r x a i, t = { s with regs := r, eng := x, age := a, io := i }) _ _
    ⟨s.regs, s.eng, s.age, s.io, rfl⟩ fun t ht e _ => ?_
  obtain ⟨r, x, a, i, rfl⟩ := ht
  obtain ⟨a', i', h⟩ := startEngine_eq { s with regs := r, eng := x, age := a, io := i } e
  rw [h, engineRuns]
  split <;> exact ⟨_, _, _, _, rfl⟩

theorem startEngines_keep (es : List Nat) (s : State) : (es.foldl startEngine s).str = s.str ∧
    (es.foldl startEngine s).graftNew = s.graftNew ∧ (es.foldl startEngine s).tick = s.tick := by
  obtain ⟨r, x, a, i, h⟩ := startEngines_frame es s
  rw [h]
  exact ⟨rfl, rfl, rfl⟩

/-! ### ENG_STATe.state -/

theorem engState_setEngState_self (s : State) (e : Nat) {v : Nat} (hv : v < 8) : (s.setEngState e v).engState e = v :=
  fld_setFld_of_lt (f := Reg.ENG_STAT_state (e / 16 % 8) (e % 16)) (by simp [Reg.ENG_STAT_state]) hv

/-- Two engine numbers show in one register or in two. -/
theorem engState_setEngState_other (s : State) (e x v : Nat) (hv : v < 8) :
    (s.setEngState e v).engState x = v ∨ (s.setEngState e v).engState x = s.engState x := by
  by_cases h : Reg.ENG_STAT_state (x / 16 % 8) (x % 16) = Reg.ENG_STAT_state (e / 16 % 8) (e % 16)
  · refine .inl ?_
    rw [State.engState, h]
    exact engState_setEngState_self s e hv
  · refine .inr (fld_setFld_other s (Reg.ENG_STAT_state _ _) (Reg.ENG_STAT_state _ _) v (by simp [Reg.ENG_STAT_state]) (.inl ?_))
    exact fun haddr => h (by simpa [Reg.ENG_STAT_state] using haddr)

theorem engState_startEngine_eq (s : State) (e x : Nat) : (startEngine s e).engState x = (engineRuns s e).engState x := by
  obtain ⟨a, i, h⟩ := startEngine_eq s e
  rw [h]
  exact fld_of_regs (s := engineRuns s e) rfl _

theorem engState_startEngine (s : State) (e x : Nat) :
    (startEngine s e).engState x = engRun ∨ (startEngine s e).engState x = s.engState x := by
  rw [engState_startEngine_eq, engineRuns]
  split
  · exact engState_setEngState_other s e x engRun (by decide)
  · exact .inr rfl

theorem engState_startEngine_self {s : State} {e : Nat} (h : s.engState e = engHalt) : (startEngine s e).engState e = engRun := by
  rw [engState_startEngine_eq, engineRuns, if_pos (.inl h)]
  exact engState_setEngState_self s e (by decide)

theorem engState_startEngines_of_run {es : List Nat} {s : State} {x : Nat} (h : s.engState x = engRun) :
    (es.foldl startEngine s).engState x = engRun :=
  List.foldlRecOn (motive := fun t : State => t.engState x = engRun) es startEngine h fun t ht e _ =>
    (engState_startEngine t e x).elim id fun hsame => hsame.trans ht

/-- An engine in HALT that is among those that start runs after it. -/
theorem engState_startEngines {es : List Nat} {s : State} {x : Nat} (hx : x ∈ es) (h : s.engState x = engHalt) :
    (es.foldl startEngine s).engState x = engRun := by
  induction es generalizing s with
  | nil => cases hx
  | cons e es ih =>
    rw [List.foldl_cons]
    by_cases he : x = e
    · subst he
      exact engState_startEngines_of_run (engState_startEngine_self h)
    · rcases engState_startEngine s e x with hrun | hsame
      · exact engState_startEngines_of_run hrun
      · exact ih (List.mem_of_ne_of_mem he hx) (hsame.trans h)

theorem engine_startEngines {es : List Nat} {x : Nat} (hx : x ∈ es) (s : State) :
    (es.foldl startEngine s).engine x = (s.engine x).start :=
  (engine_foldl_of_step (f := Engine.start) (fun _ => rfl) engine_startEngine es s x).trans (if_pos hx)

/-! ### The boundary that ends an operation (R217, Table 09.7) -/

/-- The operation of partition `p` has ended at this boundary: it is gone, the partition's mute ends with the launch tick after the
boundary, and no group or lease has changed. -/
def opEnded (s : State) (p : Nat) (t : State) : Prop :=
  t.partOp p = none ∧ storeGet 0 t.muteEnd p = s.tick + 1 ∧ t.groups = s.groups ∧ t.leases = s.leases

/-- The state in which partition `p` is muted for the launch tick of this boundary and has no operation. -/
def opDropped (s : State) (p : Nat) : State := dropPartOp { s with muteEnd := storeSet 0 s.muteEnd p (s.tick + 1) } p

theorem opEnded_opDropped (s : State) (p : Nat) : opEnded s p (opDropped s p) := by
  refine ⟨partOp_dropPartOp _ p, ?_, rfl, rfl⟩
  rw [opDropped, dropPartOp, storeGet_set, if_pos rfl]

theorem opEnded_startEngines {s t : State} {p : Nat} (h : opEnded s p t) (es : List Nat) : opEnded s p (es.foldl startEngine t) := by
  obtain ⟨r, x, a, i, hstart⟩ := startEngines_frame es t
  rw [hstart]
  exact h

section
variable {s : State} {p c : Nat} {o : PartOp} (h : s.partOp p = some o) (hd : o.done = some c) (hc : c ≤ s.tick)
include h hd hc

theorem doPartDone_due (hg : o.graft = false) : doPartDone s p = (s.partEngines p).foldl startEngine (opDropped s p) := by
  rw [doPartDone, h]
  exact if_pos ⟨hg, by rw [hd]; exact decide_eq_true hc⟩

end

/-! ### The composite structure applies (R210) -/

/-- The state in which `str` is the running structure, with the histories and counts that outlive the change (R147, R401). -/
def structurePut (s : State) (str : Structure) : State :=
  { s with str := str, io := { s.io with bridgeHist := keptHist s str },
           silence := s.silence.filter (fun e => str.io.any (fun r => r.num == e.1)),
           silent := s.silent.filter (fun e => str.io.any (fun r => r.num == e.1)) }

/-- Engine `e` takes the program that the running structure has for it. -/
def programPut (s : State) (e : Nat) : State :=
  match s.prog e with
  | some r => s.setEngine e { s.engine e with prog := progStore r.words }
  | none => s

theorem applyStructure_eq (s : State) (p : Nat) (str : Structure) : applyStructure s p str =
    showOversize (((structurePut s str).partEngines p).foldl programPut (structurePut s str)) := rfl

theorem programsPut_frame (es : List Nat) (s : State) : ∃ x, es.foldl programPut s = { s with eng := x } := by
  refine List.foldlRecOn (motive := fun t : State => ∃ x, t = { s with eng := x }) _ _ ⟨s.eng, rfl⟩ fun t ht e _ => ?_
  obtain ⟨x, rfl⟩ := ht
  unfold programPut
  split <;> exact ⟨_, rfl⟩

theorem applyStructure_frame (s : State) (p : Nat) (str : Structure) : ∃ r x i q z, applyStructure s p str =
    { s with regs := r, eng := x, str := str, io := i, silence := q, silent := z } := by
  obtain ⟨x, hx⟩ := programsPut_frame ((structurePut s str).partEngines p) (structurePut s str)
  rw [applyStructure_eq, hx]
  exact ⟨_, _, _, _, _, rfl⟩

/-- The state in which the structure of the graft, if one is held, has replaced the running one, with the bank owners that stand. -/
def graftApplied (s : State) (p : Nat) : State :=
  match s.graftNew with
  | some (str, _) => applyStructure s p { str with handed := s.str.handed }
  | none => s

theorem graftApplied_frame (s : State) (p : Nat) : ∃ r x n i q z,
    graftApplied s p = { s with regs := r, eng := x, str := n, io := i, silence := q, silent := z } := by
  unfold graftApplied
  split
  · obtain ⟨r, x, i, q, z, h⟩ := applyStructure_frame s p _
    exact ⟨r, x, _, i, q, z, h⟩
  · exact ⟨s.regs, s.eng, s.str, s.io, s.silence, s.silent, rfl⟩

theorem str_graftApplied {s : State} {n : Structure} {bl : List Nat} (h : s.graftNew = some (n, bl)) (p : Nat) :
    (graftApplied s p).str = { n with handed := s.str.handed } := by
  rw [graftApplied, h]
  obtain ⟨r, x, i, q, z, happly⟩ := applyStructure_frame s p { n with handed := s.str.handed }
  exact congrArg State.str happly

/-- The state in which the graft of partition `p` applies, its gain cells stand at their targets, and its engines are about to start. -/
def graftSettled (s : State) (p : Nat) : State := cellsToTarget { opDropped (graftApplied s p) p with graftNew := none } p

theorem graftSettled_shows (s : State) (p : Nat) : opEnded s p (graftSettled s p) ∧ (graftSettled s p).graftNew = none ∧
    (graftSettled s p).str = (graftApplied s p).str ∧ (graftSettled s p).tick = s.tick := by
  obtain ⟨c, hcells⟩ := cellsToTarget_frame { opDropped (graftApplied s p) p with graftNew := none } p
  obtain ⟨r, x, n, i, q, z, happly⟩ := graftApplied_frame s p
  rw [graftSettled, hcells, happly]
  exact ⟨opEnded_opDropped { s with regs := r, eng := x, str := n, io := i, silence := q, silent := z } p, rfl, rfl, rfl⟩

/-- What GRAFT_COMPLETE shows, at tick `x`. -/
def graftShown (s : State) (x : Nat) : State := (s.setFld Reg.ESP_STAT_state 0).setReg Reg.ESP_GRAFT_DONE (BitVec.ofNat 32 x)

theorem graftShown_shows (s : State) (x : Nat) : (graftShown s x).fld Reg.ESP_STAT_state = 0 ∧
    (graftShown s x).reg Reg.ESP_GRAFT_DONE = BitVec.ofNat 32 x ∧ (graftShown s x).graftNew = s.graftNew ∧
    (graftShown s x).str = s.str :=
  ⟨(fld_setReg_other _ _ _ _ (by decide)).trans (fld_setFld_of_lt (by decide) (by decide)), reg_setReg_self _ _ _,
    by rw [graftShown, State.setReg_graftNew, State.setFld_graftNew], by rw [graftShown, State.setReg_str, State.setFld_str]⟩

theorem opEnded_graftShown {s t : State} {p : Nat} (h : opEnded s p t) (x : Nat) : opEnded s p (graftShown t x) := by
  simp only [opEnded, State.partOp, graftShown, State.setReg_partOps, State.setFld_partOps, State.setReg_muteEnd, State.setFld_muteEnd,
    State.setReg_groups, State.setFld_groups, State.setReg_leases, State.setFld_leases]
  exact h

section
variable {s : State} {p c : Nat} {o : PartOp} (h : s.partOp p = some o) (hd : o.done = some c) (hc : c ≤ s.tick)
include h hd hc

theorem doGraftDone_due (hg : o.graft = true) : doGraftDone s p =
    let t := ((graftApplied s p).partEngines p).foldl startEngine (graftSettled s p)
    graftShown t t.tick := by
  have hdue : o.graft = true ∧ o.done.any (fun c => decide (c ≤ s.tick)) = true := ⟨hg, by rw [hd]; exact decide_eq_true hc⟩
  rw [doGraftDone, h]
  exact if_pos hdue

end

end Sys2Proof.Machine
end

section
/-!
PROOFS. PART_RESET_REQUEST, PARTITION_RESET, GRAFT_RESET, PARTITION_RESET_COMPLETE and GRAFT_COMPLETE.
-/
namespace Sys2Proof.Machine

/-! ### Requests (R216, R219) -/

theorem exec_partResetRequest {s : State} (h : reaches s Reg.PART_RESET = true) (v : Word) :
    exec (.partResetRequest v) s = .next (partResetWrite s v) := congrArg Host.Outcome.next (gated_reached h)

theorem resetAccepted_of_onlyRegs {as : List Nat} {s u t : State} {p : Nat} (h : onlyRegs as s u) (hf : Reg.TWN_STAT ∉ as)
    (ht : resetAccepted u p t) : resetAccepted s p t := by
  have hleads := leads_of_onlyRegs h hf
  obtain ⟨r, rfl⟩ : ∃ r, u = { s with regs := r } := ⟨_, h.1⟩
  obtain ⟨hops, hout, hsingle, htwin, hst, hstream⟩ := ht
  rw [hleads] at hout hstream
  exact ⟨hops, hout, hsingle, htwin, hst, hstream⟩

section
variable {s : State} {v : Word} (hgo : bitsOf v 31 1 = 1) (h : resetFits s (bitsOf v 0 8)) (hop : s.partOp (bitsOf v 0 8) = none)
include hgo h hop

theorem partResetWrite_accepted_shows (hf : s.follows = false) : let t := partResetWrite s v
    t.fld Reg.PART_RESET_partition = bitsOf v 0 8 ∧ resetAccepted s (bitsOf v 0 8) t ∧ regsKept [Reg.PART_RESET] s t := by
  have hnamed := onlyRegs_resetNamed s v
  obtain ⟨haccepted, hregs⟩ := resetAccepted_acceptReset (resetNamed s v) (bitsOf v 0 8)
  dsimp only
  rw [partResetWrite_accepted hgo h hop hf]
  refine ⟨(fld_of_regs hregs _).trans (partition_resetNamed s v), resetAccepted_of_onlyRegs hnamed (by decide) haccepted, fun a ha => ?_⟩
  rw [State.reg, hregs]
  exact hnamed.2 a ha

theorem partResetWrite_relayed_shows (hf : s.follows = true) : let t := partResetWrite s v
    t.fld Reg.PART_RESET_partition = bitsOf v 0 8 ∧
    t = { s with regs := t.regs, ctlOut := s.ctlOut ++ [.relayReset (bitsOf v 0 8)], twin := t.twin } ∧
    t.twin = { s.twin with sent := t.twin.sent, sentTo := t.twin.sentTo } ∧ regsKept [Reg.PART_RESET] s t := by
  obtain ⟨hframe, hkept⟩ := onlyRegs_resetNamed s v
  have hpart := partition_resetNamed s v
  have hsend := partResetWrite_relayed hgo h hop hf
  have hregs := regs_of_sendsItems hsend
  dsimp only
  generalize resetNamed s v = u at *
  generalize partResetWrite s v = t at *
  obtain ⟨r, rfl⟩ : ∃ r, u = { s with regs := r } := ⟨_, hframe⟩
  refine ⟨(fld_of_regs hregs _).trans hpart, ?_, congrArg State.twin hsend, fun a ha => ?_⟩
  · rw [hsend]
  · rw [State.reg, hregs]
    exact hkept a ha

end

/-! ### The first boundary (R184, R210, R217) -/

section
variable {s : State} {p : Nat} {o : PartOp} (h : s.partOp p = some o) (hd : o.done = none) (hs : o.start ≤ s.tick) (hp : p < 256)
include h hd hs hp

/-- PARTITION_RESET: the completion boundary is read off the echo tokens that the discards leave. -/
theorem doPartReset_acts (hg : o.graft = false) : let t := doPartReset s p; let c := resetDone t p s.tick
    resetActed s p t ∧ t.reg Reg.PART_RESET_TICK = BitVec.ofNat 32 s.tick ∧ t.partOp p = some { o with done := some c } ∧
      t.reg Reg.PART_RESET_DONE = BitVec.ofNat 32 c := by
  obtain rfl := part_of_partOp h
  have htick : Reg.PART_STAT o.part ≠ Reg.PART_RESET_TICK := by simp only [Reg.PART_STAT, Reg.PART_RESET_TICK]; omega
  have hdone : Reg.PART_STAT o.part ≠ Reg.PART_RESET_DONE := by simp only [Reg.PART_STAT, Reg.PART_RESET_DONE]; omega
  have hdue := doPartReset_due h hd hs hg
  dsimp only at hdue ⊢
  generalize hc : resetDone (resetActions s o.part) o.part s.tick = c at hdue
  have hop := partOp_resetHeld h c
  have hacted := resetActed_resetHeld (s := s) hp c
  have hgroups := groups_resetHeld (s := s) (o := o) c
  generalize resetHeld s o c = u at hdue hop hacted hgroups
  have hread : resetDone (doPartReset s o.part) o.part s.tick = c :=
    (resetDone_of_groups (by rw [hdue, State.setReg_groups, State.setReg_groups, hgroups]) _ _).trans hc
  rw [hread, hdue]
  refine ⟨resetActed_setReg (resetActed_setReg hacted htick _) hdone _, ?_, ?_, reg_setReg_self _ _ _⟩
  · rw [reg_setReg, if_neg (by decide), reg_setReg_self]
  · rw [State.partOp, State.setReg_partOps, State.setReg_partOps]
    exact hop

/-- GRAFT_RESET: the same, and the load of the image keeps the graft for L ticks. -/
theorem doGraftReset_acts (hg : o.graft = true) : let t := doGraftReset s p
    resetActed s p t ∧ t.fld Reg.ESP_STAT_state = 3 ∧ t.reg Reg.ESP_GRAFT_TICK = BitVec.ofNat 32 s.tick ∧
      t.partOp p = some { o with done := some (max (s.tick + graftTicks s o.bytes) (resetDone t p s.tick)) } := by
  obtain rfl := part_of_partOp h
  have hstat : Reg.PART_STAT o.part ≠ Reg.ESP_STAT := by simp only [Reg.PART_STAT, Reg.ESP_STAT]; omega
  have htick : Reg.PART_STAT o.part ≠ Reg.ESP_GRAFT_TICK := by simp only [Reg.PART_STAT, Reg.ESP_GRAFT_TICK]; omega
  have hdue := doGraftReset_due h hd hs hg
  dsimp only at hdue ⊢
  generalize hc : resetDone (resetActions s o.part) o.part s.tick = c at hdue
  have hop := partOp_resetHeld h (max (s.tick + graftTicks s o.bytes) c)
  have hacted := resetActed_resetHeld (s := s) hp (max (s.tick + graftTicks s o.bytes) c)
  have hgroups := groups_resetHeld (s := s) (o := o) (max (s.tick + graftTicks s o.bytes) c)
  generalize resetHeld s o (max (s.tick + graftTicks s o.bytes) c) = u at hdue hop hacted hgroups
  have hread : resetDone (doGraftReset s o.part) o.part s.tick = c :=
    (resetDone_of_groups (by rw [hdue, State.setReg_groups, State.setFld_groups, hgroups]) _ _).trans hc
  rw [hread, hdue]
  refine ⟨resetActed_setReg (resetActed_setReg hacted hstat _) htick _, ?_, reg_setReg_self _ _ _, ?_⟩
  · rw [fld_setReg_other _ _ _ _ (by decide)]
    exact fld_setFld_of_lt (by decide) (by decide)
  · rw [State.partOp, State.setReg_partOps, State.setFld_partOps]
    exact hop

end

/-! ### The boundary that completes the operation (R210, R217) -/

section
variable {s : State} {p c : Nat} {o : PartOp} (h : s.partOp p = some o) (hd : o.done = some c) (hc : c ≤ s.tick)
include h hd hc

theorem doPartDone_restarts (hg : o.graft = false) : let t := doPartDone s p
    opEnded s p t ∧ t.str = s.str ∧
      ∀ e ∈ s.partEngines p, t.engine e = (s.engine e).start ∧ (s.engState e = engHalt → t.engState e = engRun) := by
  dsimp only
  rw [doPartDone_due h hd hc hg]
  obtain ⟨hstr, -, -⟩ := startEngines_keep (s.partEngines p) (opDropped s p)
  have hstate (e : Nat) : (opDropped s p).engState e = s.engState e := fld_of_regs rfl _
  exact ⟨opEnded_startEngines (opEnded_opDropped s p) _, hstr, fun e he =>
    ⟨engine_startEngines he _, fun hhalt => engState_startEngines he ((hstate e).trans hhalt)⟩⟩

theorem doGraftDone_applies (hg : o.graft = true) : let t := doGraftDone s p
    opEnded s p t ∧ t.graftNew = none ∧ t.fld Reg.ESP_STAT_state = 0 ∧ t.reg Reg.ESP_GRAFT_DONE = BitVec.ofNat 32 s.tick ∧
      ∀ n bl, s.graftNew = some (n, bl) → t.str = { n with handed := s.str.handed } := by
  obtain ⟨hended, hnew, hstr, htick⟩ := graftSettled_shows s p
  have hstarted := opEnded_startEngines hended ((graftApplied s p).partEngines p)
  obtain ⟨hstr', hnew', htick'⟩ := startEngines_keep ((graftApplied s p).partEngines p) (graftSettled s p)
  rw [doGraftDone_due h hd hc hg]
  dsimp only
  generalize ((graftApplied s p).partEngines p).foldl startEngine (graftSettled s p) = t at hstarted hstr' hnew' htick'
  rw [htick', htick]
  obtain ⟨hstate, hdone, hnew'', hstr''⟩ := graftShown_shows t s.tick
  exact ⟨opEnded_graftShown hstarted _, hnew''.trans (hnew'.trans hnew), hstate, hdone, fun n bl hgraft =>
    hstr''.trans (hstr'.trans (hstr.trans (str_graftApplied hgraft p)))⟩

end

/-- Settles O21: a request by its verdict, each boundary by what is due at it. -/
theorem partitionResetsAreScheduledAndThenRestart : Obligations.PartitionResetsAreScheduledAndThenRestart := by
  unfold Obligations.PartitionResetsAreScheduledAndThenRestart
  refine ⟨?_, ?_⟩
  · intro v s go p fits hreach
    have hexec := exec_partResetRequest hreach v
    refine ⟨fun hgo hfits hfree hlead => ?_, fun hgo hfits hfree hfollow => ⟨_, hexec, partResetWrite_relayed_shows hgo hfits hfree hfollow⟩,
      fun hgo hfits hpending => ⟨_, hexec, partResetWrite_absorbed hgo hfits hpending⟩,
      fun hgo hunfit => ⟨_, hexec, partResetWrite_refused hgo hunfit⟩, fun hgo => ⟨_, hexec, ?_⟩⟩
    · obtain ⟨hpart, ⟨hops, hout, hsingle, htwin, hst, hstream⟩, hkept⟩ := partResetWrite_accepted_shows hgo hfits hfree hlead
      exact ⟨_, hexec, hpart, hops, hout, hsingle, htwin, hst, hstream, hkept⟩
    · rw [partResetWrite_show s v hgo]
      exact ⟨partition_resetNamed s v, onlyFlds_resetNamed s v⟩
  · intro p o s hop undone ended c'
    exact ⟨fun hg hd hs => ⟨doPartReset s p, rfl, doPartReset_acts hop hd hs p.isLt hg⟩,
      fun hg hd hs => ⟨doGraftReset s p, rfl, doGraftReset_acts hop hd hs p.isLt hg⟩,
      fun c hg hd hc => ⟨doPartDone s p, rfl, doPartDone_restarts hop hd hc hg⟩,
      fun c hg hd hc => ⟨doGraftDone s p, rfl, doGraftDone_applies hop hd hc hg⟩⟩

end Sys2Proof.Machine
end

section
/-!
PROOFS. What the commands of a pleached pair share (R233, R239, R247, R248; Table 14.8): a twin that leaves its pair, a control stream that
begins anew, and the event TWN.
-/
namespace Sys2Proof.Machine

/-! ### Reads beside a write -/

/-- A field of another register keeps its value. -/
theorem fld_setFld_elsewhere (s : State) (f : Fld) (v : Nat) {g : Fld} (h : g.addr ≠ f.addr) : (s.setFld f v).fld g = s.fld g :=
  fld_setReg_other s g f.addr _ h

/-- A write of a field changes the registers alone. -/
theorem setFld_frame (s : State) (f : Fld) (v : Nat) : ∃ r, s.setFld f v = { s with regs := r } := ⟨_, rfl⟩

theorem fld_wrapInc_self (s : State) (f : Fld) (h : f.lo + f.w ≤ 32) : (s.wrapInc f).fld f = (s.fld f + 1) % 2 ^ f.w :=
  fld_setFld_self s f _ h

/-- What BOOT_STATE says is not said by another register. -/
theorem boot_setFld_elsewhere (s : State) (f : Fld) (v : Nat) (h : Reg.BOOT_STATE ≠ f.addr) : (s.setFld f v).boot = s.boot :=
  fld_setFld_elsewhere s f v h

/-! ### The parts that the link's commands change -/

/-- From `s` to `t` registers, cores, the twin and the control stream alone differ. -/
def onlyTwin (s t : State) : Prop := ∃ r c w o, t = { s with regs := r, sv := c, twin := w, ctlOut := o }

section
variable {s t : State}

theorem onlyTwin_frame (h : onlyTwin s t) : t = { s with regs := t.regs, sv := t.sv, twin := t.twin, ctlOut := t.ctlOut } := by
  obtain ⟨r, c, w, o, rfl⟩ := h
  rfl

theorem onlyTwin_ctl (h : onlyTwin s t) {ctl : List CtlItem} (hctl : t.ctlOut = ctl) :
    t = { s with regs := t.regs, sv := t.sv, twin := t.twin, ctlOut := ctl } := by
  rw [← hctl]
  exact onlyTwin_frame h

/-- Registers and cores alone differ where the twin and the control stream are as they were. -/
theorem onlyTwin_shown (h : onlyTwin s t) (htwin : t.twin = s.twin) (hctl : t.ctlOut = s.ctlOut) :
    t = { s with regs := t.regs, sv := t.sv } := by
  obtain ⟨r, c, w, o, rfl⟩ := h
  obtain rfl : w = s.twin := htwin
  obtain rfl : o = s.ctlOut := hctl
  rfl

theorem onlyTwin_refl (s : State) : onlyTwin s s := ⟨s.regs, s.sv, s.twin, s.ctlOut, rfl⟩

theorem onlyTwin_setFld (h : onlyTwin s t) (f : Fld) (v : Nat) : onlyTwin s (t.setFld f v) := by
  obtain ⟨r, c, w, o, rfl⟩ := h
  exact ⟨_, _, _, _, rfl⟩

theorem onlyTwin_putTwin (h : onlyTwin s t) (w : Twin) (o : List CtlItem) : onlyTwin s { t with twin := w, ctlOut := o } := by
  obtain ⟨r, c, w', o', rfl⟩ := h
  exact ⟨_, _, _, _, rfl⟩

theorem onlyTwin_raiseEvent (h : onlyTwin s t) (n : Nat) : onlyTwin s (raiseEvent t n) := by
  obtain ⟨r, c, w, o, rfl⟩ := h
  exact ⟨_, _, _, _, rfl⟩

theorem onlyTwin_twnEvent (h : onlyTwin s t) (old : State) : onlyTwin s (twnEvent old t) := by
  unfold twnEvent
  split
  · exact h
  · exact onlyTwin_raiseEvent h 12

theorem onlyTwin_leavePair (h : onlyTwin s t) : onlyTwin s (leavePair t) := by
  unfold leavePair State.setRipe
  exact onlyTwin_setFld (onlyTwin_putTwin h _ t.ctlOut) _ _

theorem onlyTwin_newStream (h : onlyTwin s t) : onlyTwin s (newStream t) := onlyTwin_putTwin h _ _

theorem onlyTwin_sendCtl (h : onlyTwin s t) (i : CtlItem) : onlyTwin s (sendCtl t i) := by
  rw [sendsItems_sendCtl t i]
  exact onlyTwin_putTwin h _ _

end

/-! ### The event TWN -/

section
variable (old s : State)

/-- The event changes the cores alone. -/
theorem twnEvent_frame : ∃ c, twnEvent old s = { s with sv := c } := by
  unfold twnEvent
  split
  · exact ⟨s.sv, rfl⟩
  · exact ⟨_, raiseEvent_frame s 12⟩

@[simp] theorem regs_twnEvent : (twnEvent old s).regs = s.regs := by
  obtain ⟨c, h⟩ := twnEvent_frame old s
  rw [h]

@[simp] theorem fld_twnEvent (f : Fld) : (twnEvent old s).fld f = s.fld f := fld_of_regs (regs_twnEvent old s) f

@[simp] theorem owns_twnEvent : (twnEvent old s).owns = s.owns := congrArg (· == 1) (fld_twnEvent old s _)

@[simp] theorem ripe_twnEvent : (twnEvent old s).ripe = s.ripe := fld_twnEvent old s _

@[simp] theorem boot_twnEvent : (twnEvent old s).boot = s.boot := fld_twnEvent old s _

@[simp] theorem twin_twnEvent : (twnEvent old s).twin = s.twin := by
  obtain ⟨c, h⟩ := twnEvent_frame old s
  rw [h]

@[simp] theorem ctlOut_twnEvent : (twnEvent old s).ctlOut = s.ctlOut := by
  obtain ⟨c, h⟩ := twnEvent_frame old s
  rw [h]

@[simp] theorem io_twnEvent : (twnEvent old s).io = s.io := by
  obtain ⟨c, h⟩ := twnEvent_frame old s
  rw [h]

/-- TWN_STAT as it was raises nothing. -/
theorem twnEvent_same {old s : State} (h : s.reg Reg.TWN_STAT = old.reg Reg.TWN_STAT) : twnEvent old s = s := if_pos h.symm

theorem regsKept_of_regs {as : List Nat} {s t u : State} (hregs : u.regs = t.regs) (h : regsKept as s t) : regsKept as s u :=
  fun a ha => by rw [State.reg, hregs]; exact h a ha

theorem regsKept_twnEvent {as : List Nat} {s t : State} (h : regsKept as s t) (old : State) : regsKept as s (twnEvent old t) :=
  regsKept_of_regs (regs_twnEvent old t) h

end

/-! ### Leaving the pair -/

section
variable (s : State)

/-- What a twin that is paired no longer holds. -/
def Twin.alone (w : Twin) : Twin :=
  { w with paired := false, joinTick := none, hoPend := none, partCrc := [], eqFrom := [], bulkDone := [], bulkAt := 0,
           copyFrom := none, copyNow := [], params := [], paramNext := 0 }

@[simp] theorem twin_leavePair : (leavePair s).twin = s.twin.alone := by
  simp only [leavePair, State.setRipe, State.setFld_twin, Twin.alone]

@[simp] theorem ctlOut_leavePair : (leavePair s).ctlOut = s.ctlOut := by
  simp only [leavePair, State.setRipe, State.setFld_ctlOut]

theorem regs_leavePair : (leavePair s).regs = (s.setRipe (if s.owns then ripeSole else ripeDetached)).regs := Eq.trans rfl rfl

theorem ripe_leavePair : (leavePair s).ripe = if s.owns then ripeSole else ripeDetached := by
  rw [State.ripe, fld_of_regs (regs_leavePair s)]
  exact fld_setFld_of_lt (by decide) (by split <;> decide)

/-- Of the registers it writes the ripeness alone. -/
theorem fld_leavePair {f : Fld} (h : f.addr ≠ Reg.TWN_STAT ∨ f.lo + f.w ≤ 16 ∨ 19 ≤ f.lo) : (leavePair s).fld f = s.fld f := by
  rw [fld_of_regs (regs_leavePair s)]
  exact fld_setFld_other _ _ _ _ (by decide) h

theorem owns_leavePair : (leavePair s).owns = s.owns := congrArg (· == 1) (fld_leavePair s (by decide))

theorem regsKept_leavePair {as : List Nat} {s t : State} (h : regsKept as s t) (has : Reg.TWN_STAT ∈ as) : regsKept as s (leavePair t) :=
  regsKept_of_regs (regs_leavePair t) (regsKept_setFld h has _)

/-! ### A control stream that begins anew (R248; log entry 134) -/

@[simp] theorem fld_newStream (f : Fld) : (newStream s).fld f = s.fld f := fld_of_regs rfl f

@[simp] theorem ctlOut_newStream : (newStream s).ctlOut = [] := rfl

@[simp] theorem owns_newStream : (newStream s).owns = s.owns := congrArg (· == 1) (fld_newStream s _)

@[simp] theorem ripe_newStream : (newStream s).ripe = s.ripe := fld_newStream s _

/-- What a stream that begins anew no longer holds. -/
def Twin.anew (w : Twin) : Twin := { w with image := 3, hashParts := [], hashRun := 0, acked := 0, rxSeq := 0, sentTo := 0 }

@[simp] theorem twin_newStream : (newStream s).twin = s.twin.anew := rfl

end

end Sys2Proof.Machine
end

section
/-!
PROOFS. Ownership (R236, R244, R246, R247, R251, R267): the fall of PL_ALIVE, a handover asked for and carried out, and the notices.
-/
namespace Sys2Proof.Machine

/-! ### PL_ALIVE_FALL (R244, R246, R247) -/

section
variable {s : State}

/-- The twin with PL_ALIVE_IN shown low. -/
def partnerLow (s : State) : State := s.setFld Reg.TWN_STAT_partner_alive 0

theorem partner_alive_partnerLow (s : State) : (partnerLow s).fld Reg.TWN_STAT_partner_alive = 0 := fld_setFld_self _ _ _ (by decide)

theorem fld_partnerLow (s : State) {f : Fld} (h : f.addr ≠ Reg.TWN_STAT ∨ f.lo + f.w ≤ 15 ∨ 16 ≤ f.lo) :
    (partnerLow s).fld f = s.fld f := fld_setFld_other _ _ _ _ (by decide) h

theorem owns_partnerLow (s : State) : (partnerLow s).owns = s.owns := congrArg (· == 1) (fld_partnerLow s (by decide))

theorem ripe_partnerLow (s : State) : (partnerLow s).ripe = s.ripe := fld_partnerLow s (by decide)

theorem fld_putTwin (s : State) (w : Twin) (f : Fld) : ({ s with twin := w } : State).fld f = s.fld f := fld_of_regs rfl f

theorem owns_putTwin (s : State) (w : Twin) : ({ s with twin := w } : State).owns = s.owns := congrArg (· == 1) (fld_putTwin s w _)

theorem serving_partnerLow (s : State) : (partnerLow s).serving = s.serving := by
  have hboot : (partnerLow s).boot = s.boot := boot_setFld_elsewhere s _ _ (by decide)
  rw [State.serving, hboot, State.serving]

theorem partnerShown_partnerLow (s : State) : partnerShown (partnerLow s) = partnerShown s := by
  have htwin : (partnerLow s).twin = s.twin := State.setFld_twin ..
  rw [partnerShown, fld_partnerLow s (by decide), htwin, partnerShown]

theorem onlyTwin_partnerLow (s : State) : onlyTwin s (partnerLow s) := onlyTwin_setFld (onlyTwin_refl s) _ _

theorem unripeMuted_partnerLow (s : State) : unripeMuted (partnerLow s) = unripeMuted s := by
  rw [unripeMuted, partnerLow, State.setFld_str, unripeMuted]

theorem twinMode_partnerLow (s : State) : (partnerLow s).twinMode = s.twinMode := by
  rw [State.twinMode, partnerLow, State.setFld_str, State.twinMode]

/-- The fall of a partner that is shown low, by what the twin is. -/
def fellBeside (t : State) : State :=
  if t.twinMode = false ∨ t.serving = false ∨ t.faultStart = true then t
  else if t.owns then newStream (leavePair { t with twin := { t.twin with peerGone := t.twin.paired } })
  else
    let kept := if t.ripe = ripeRipe then [] else unripeMuted t
    let u := if partnerShown t then sendCtl t .takeover else newStream t
    { u with twin := { u.twin with armed := true, ownNext := some true, peerGone := true, kept := kept } }

theorem partnerFell_eq (s : State) : partnerFell s = fellBeside (partnerLow s) := by
  unfold partnerFell fellBeside partnerLow
  rfl

theorem exec_plAliveFall (h : s.fld Reg.TWN_STAT_partner_alive = 1) : exec .plAliveFall s = .next (twnEvent s (partnerFell s)) :=
  congrArg Host.Outcome.next (if_pos h)

/-- The fall changes nothing more at a twin that has stopped. -/
theorem partnerFell_stopped (h : s.twinMode = false ∨ s.serving = false ∨ s.faultStart = true) : partnerFell s = partnerLow s := by
  have hlow : (partnerLow s).twinMode = false ∨ (partnerLow s).serving = false ∨ (partnerLow s).faultStart = true := by
    rwa [twinMode_partnerLow, serving_partnerLow, partnerLow, State.setFld_faultStart]
  rw [partnerFell_eq, fellBeside, if_pos hlow]

theorem partnerLow_runs (htwin : s.twinMode = true) (hserving : s.serving = true) (hfault : s.faultStart = false) :
    ¬ ((partnerLow s).twinMode = false ∨ (partnerLow s).serving = false ∨ (partnerLow s).faultStart = true) := by
  rw [twinMode_partnerLow, serving_partnerLow, partnerLow, State.setFld_faultStart]
  simp [htwin, hserving, hfault]

section
variable {t : State}

/-- An owner goes on alone (R247). -/
theorem fellBeside_owner (hrun : ¬ (t.twinMode = false ∨ t.serving = false ∨ t.faultStart = true)) (howns : t.owns = true)
    (hst : onlyTwin s t) :
    let u := fellBeside t
    onlyTwin s u ∧ u.fld Reg.TWN_STAT_partner_alive = t.fld Reg.TWN_STAT_partner_alive ∧ u.owns = true ∧ u.twin.paired = false ∧
      u.ripe = ripeSole ∧ u.twin.ownNext = t.twin.ownNext ∧ u.ctlOut = [] := by
  dsimp only
  rw [fellBeside, if_neg hrun, if_pos howns]
  have hlost : onlyTwin s { t with twin := { t.twin with peerGone := t.twin.paired } } := onlyTwin_putTwin hst _ t.ctlOut
  have hfld : ({ t with twin := { t.twin with peerGone := t.twin.paired } } : State).fld Reg.TWN_STAT_partner_alive =
      t.fld Reg.TWN_STAT_partner_alive := fld_putTwin ..
  have hown : ({ t with twin := { t.twin with peerGone := t.twin.paired } } : State).owns = true := howns
  refine ⟨onlyTwin_newStream (onlyTwin_leavePair hlost), ?_, ?_, ?_, ?_, ?_, ctlOut_newStream _⟩
  · rw [fld_newStream, fld_leavePair _ (by decide), hfld]
  · rw [owns_newStream, owns_leavePair, hown]
  · rw [twin_newStream, twin_leavePair, Twin.anew, Twin.alone]
  · rw [ripe_newStream, ripe_leavePair, if_pos hown]
  · rw [twin_newStream, twin_leavePair, Twin.anew, Twin.alone]

/-- A twin that does not own arms itself for the next boundary (R244, R246). -/
theorem fellBeside_follower (hrun : ¬ (t.twinMode = false ∨ t.serving = false ∨ t.faultStart = true)) (howns : t.owns = false)
    (hst : onlyTwin s t) :
    let u := fellBeside t
    onlyTwin s u ∧ u.fld Reg.TWN_STAT_partner_alive = t.fld Reg.TWN_STAT_partner_alive ∧ u.owns = false ∧ u.twin.armed = true ∧
      u.twin.ownNext = some true ∧ u.twin.kept = (if t.ripe = ripeRipe then [] else unripeMuted t) ∧
      u.ctlOut = (if partnerShown t then t.ctlOut ++ [.takeover] else []) := by
  dsimp only
  rw [fellBeside, if_neg hrun, if_neg (by rw [howns]; decide)]
  dsimp only
  split
  · have hsend := sendsItems_sendCtl t .takeover
    have hfld (f : Fld) : (sendCtl t .takeover).fld f = t.fld f := fld_of_regs (regs_of_sendsItems hsend) f
    exact ⟨onlyTwin_putTwin (onlyTwin_sendCtl hst _) _ _, (fld_putTwin ..).trans (hfld _),
      (owns_putTwin ..).trans ((congrArg (· == 1) (hfld _)).trans howns), rfl, rfl, rfl, congrArg State.ctlOut hsend⟩
  · exact ⟨onlyTwin_putTwin (onlyTwin_newStream hst) _ _, (fld_putTwin ..).trans (fld_newStream ..),
      (owns_putTwin ..).trans ((owns_newStream t).trans howns), rfl, rfl, rfl, rfl⟩

end

theorem partnerFell_owner (htwin : s.twinMode = true) (hserving : s.serving = true) (hfault : s.faultStart = false)
    (howns : s.owns = true) :
    let t := partnerFell s
    onlyTwin s t ∧ t.fld Reg.TWN_STAT_partner_alive = 0 ∧ t.owns = true ∧ t.twin.paired = false ∧ t.ripe = ripeSole ∧
      t.twin.ownNext = s.twin.ownNext ∧ t.ctlOut = [] := by
  have hown : (partnerLow s).owns = true := (owns_partnerLow s).trans howns
  have hwent := fellBeside_owner (partnerLow_runs htwin hserving hfault) hown (onlyTwin_partnerLow s)
  rwa [partner_alive_partnerLow, partnerLow, State.setFld_twin, ← partnerLow, ← partnerFell_eq] at hwent

theorem partnerFell_follower (htwin : s.twinMode = true) (hserving : s.serving = true) (hfault : s.faultStart = false)
    (howns : s.owns = false) :
    let t := partnerFell s
    onlyTwin s t ∧ t.fld Reg.TWN_STAT_partner_alive = 0 ∧ t.owns = false ∧ t.twin.armed = true ∧ t.twin.ownNext = some true ∧
      t.twin.kept = (if s.ripe = ripeRipe then [] else unripeMuted s) ∧
      t.ctlOut = (if partnerShown s then s.ctlOut ++ [.takeover] else []) := by
  have hown : (partnerLow s).owns = false := (owns_partnerLow s).trans howns
  have hwent := fellBeside_follower (partnerLow_runs htwin hserving hfault) hown (onlyTwin_partnerLow s)
  rwa [partner_alive_partnerLow, ripe_partnerLow, unripeMuted_partnerLow, partnerShown_partnerLow, partnerLow, State.setFld_ctlOut,
    ← partnerLow, ← partnerFell_eq] at hwent

end

/-! ### HO_GO (R251) -/

section
variable {s : State}

theorem exec_hoGo (hreach : reaches s Reg.TWN_CTL = true) (howns : s.owns = true) :
    exec .hoGo s = .next (twnEvent s (requestHandover s (s.reg Reg.TWN_HO_TICK))) := by
  refine congrArg Host.Outcome.next ?_
  rw [gated_reached hreach, handoverGo, if_pos howns]
  rfl

/-- An item that no earlier one keeps waiting and that fits joins the frame of the tick (R185, R233). -/
theorem sent_sendCtl {x : LinkSent} {i : CtlItem} (hsent : s.twin.sent = some x) (hnext : x.upTo = s.twin.acked + s.ctlOut.length)
    (hfits : Config.ctlBytes i ≤ x.room) : ∃ y, (sendCtl s i).twin.sent = some y ∧ y.frame.items = x.frame.items ++ [i] := by
  have hcond : x.upTo + 1 = s.twin.acked + (s.ctlOut ++ [i]).length ∧ Config.ctlBytes i ≤ x.room :=
    ⟨by rw [List.length_append, List.length_singleton]; omega, hfits⟩
  simp only [sendCtl, joinFrame, hsent, if_pos hcond]
  exact ⟨_, rfl, rfl⟩

/-- A handover that is accepted is booked, and the partner is told. -/
theorem requestHandover_accepted {h : Word} (hok : handoverAccepted s h = true) : twnEvent s (requestHandover s h) =
    sendCtl { s with twin := { s.twin with hoPend := some (s.tick + aheadOf s h) } } (.handover (s.tick + aheadOf s h)) := by
  have hbook : requestHandover s h = sendCtl { s with twin := { s.twin with hoPend := some (s.tick + aheadOf s h) } }
      (.handover (s.tick + aheadOf s h)) := if_pos hok
  have hregs := regs_of_sendsItems (sendsItems_sendCtl { s with twin := { s.twin with hoPend := some (s.tick + aheadOf s h) } }
      (.handover (s.tick + aheadOf s h)))
  rw [hbook]
  refine twnEvent_same ?_
  rw [State.reg, hregs]
  rfl

theorem requestHandover_refused {h : Word} (hno : handoverAccepted s h = false) :
    requestHandover s h = s.setFld Reg.TWN_STAT_ho_refused 1 := if_neg (by rw [hno]; decide)

end

/-! ### PLANNED_HANDOVER (R251) -/

section
variable {s : State} {h : Nat}

theorem plannedHandover_due (hpend : s.twin.hoPend = some h) (hdue : h ≤ s.tick) : plannedHandover s =
    let t : State := { s with twin := { s.twin with hoPend := none } }
    if s.owns then giveUpOwnership t h else if s.twin.paired then takeOwnership t false else t := by
  simp only [plannedHandover, hpend, if_pos hdue]

theorem plannedHandover_early (hearly : ∀ h, s.twin.hoPend = some h → s.tick < h) : plannedHandover s = s := by
  unfold plannedHandover
  split
  · rfl
  · next h hpend => exact if_neg (Nat.not_le.2 (hearly h hpend))

/-- Both roles leave or come to a twin, and the handover is counted (R236). -/
def ownerShown (s : State) (own : Nat) : State := (s.setFld Reg.TWN_STAT_owner own).wrapInc Reg.TWN_STAT_handovers

theorem ownerShown_frame (s : State) (own : Nat) : ∃ r, ownerShown s own = { s with regs := r } := by
  obtain ⟨r, hr⟩ := setFld_frame s Reg.TWN_STAT_owner own
  rw [ownerShown, State.wrapInc, hr]
  exact setFld_frame { s with regs := r } _ _

theorem owner_ownerShown (s : State) (own : Nat) : (ownerShown s own).fld Reg.TWN_STAT_owner = own % 2 :=
  (fld_setFld_other _ _ _ _ (by decide) (by decide)).trans (fld_setFld_self _ _ _ (by decide))

theorem handovers_ownerShown (s : State) (own : Nat) : (ownerShown s own).fld Reg.TWN_STAT_handovers =
    (s.fld Reg.TWN_STAT_handovers + 1) % 2 ^ Reg.TWN_STAT_handovers.w := by
  rw [ownerShown, fld_wrapInc_self _ _ (by decide), fld_setFld_other _ _ _ _ (by decide) (by decide)]

theorem regsKept_ownerShown (s : State) (own : Nat) : regsKept [Reg.TWN_STAT] s (ownerShown s own) :=
  regsKept_setFld (regsKept_setFld (regsKept_refl _ s) (by decide) _) (by decide) _

theorem boot_ownerShown (s : State) (own : Nat) : (ownerShown s own).boot = s.boot :=
  (boot_setFld_elsewhere _ _ _ (by decide)).trans (boot_setFld_elsewhere s _ _ (by decide))

/-- An owner gives up both roles, and drives the frames that begin before `upto` (R251). -/
theorem giveUpOwnership_owner (howns : s.owns = true) (upto : Nat) : giveUpOwnership s upto =
    { ownerShown s 0 with twin := { s.twin with ownUntil := upto },
                          io := { s.io with tdmDrives := if upto = 0 then [] else s.io.tdmDrives } } := by
  rw [giveUpOwnership, if_pos howns]
  rfl

/-- Both roles come to a paired twin (R251). -/
def rolesTaken (s : State) : State :=
  { ownerShown s 1 with twin := { s.twin with armed := false, ownFrom := s.tick, pktFrom := s.tick } }

/-- The same with the engines of a twin that has not joined yet started (R258). -/
def rolesStarted (s : State) : State :=
  if (rolesTaken s).boot = bootRipening ∧ ((rolesTaken s).ripe = ripeDetached ∨ (rolesTaken s).ripe = ripeJoining)
    then startEngines (rolesTaken s) else rolesTaken s

theorem face_rolesStarted (s : State) : (rolesStarted s).face = (rolesTaken s).face := face_ite _ (face_startEngines _) rfl

theorem takeOwnership_paired (howns : s.owns = false) (hfault : s.faultStart = false) :
    takeOwnership s false = if (rolesStarted s).boot = bootRipening then (rolesStarted s).setBoot bootRun else rolesStarted s := by
  rw [takeOwnership, if_neg (by simp [howns, hfault])]
  rfl

theorem takeOwnership_shows (howns : s.owns = false) (hfault : s.faultStart = false) : let t := takeOwnership s false
    t.owns = true ∧ t.fld Reg.TWN_STAT_handovers = (s.fld Reg.TWN_STAT_handovers + 1) % 2 ^ Reg.TWN_STAT_handovers.w ∧
      t.twin = { s.twin with armed := false, ownFrom := s.tick, pktFrom := s.tick } ∧
      t.boot = if s.boot = bootRipening then bootRun else s.boot := by
  have hface := face_rolesStarted s
  have hfld {f : Fld} (hf : f.addr = Reg.TWN_STAT) : (rolesStarted s).fld f = (ownerShown s 1).fld f :=
    fld_of_face hface (by rw [hf]; decide)
  have hown : (rolesStarted s).fld Reg.TWN_STAT_owner = 1 := (hfld rfl).trans (owner_ownerShown s 1)
  have hcount := (hfld (f := Reg.TWN_STAT_handovers) rfl).trans (handovers_ownerShown s 1)
  have htwin : (rolesStarted s).twin = { s.twin with armed := false, ownFrom := s.tick, pktFrom := s.tick } := (face_eq_iff.1 hface).1
  have hboot : (rolesStarted s).boot = s.boot := (fld_of_face hface (by decide)).trans (boot_ownerShown s 1)
  dsimp only
  rw [takeOwnership_paired howns hfault, hboot]
  split
  · exact ⟨congrArg (· == 1) ((fld_setBoot _ bootRun (by decide)).trans hown), (fld_setBoot _ bootRun (by decide)).trans hcount,
      (twin_setBoot _ bootRun).trans htwin, boot_setBoot _ (by decide)⟩
  · exact ⟨congrArg (· == 1) hown, hcount, htwin, hboot⟩

theorem plannedHandover_gives (hpend : s.twin.hoPend = some h) (hdue : h ≤ s.tick) (howns : s.owns = true) : plannedHandover s =
    { ownerShown s 0 with twin := { s.twin with hoPend := none, ownUntil := h },
                          io := { s.io with tdmDrives := if h = 0 then [] else s.io.tdmDrives } } := by
  refine (plannedHandover_due hpend hdue).trans ((if_pos howns).trans ?_)
  exact giveUpOwnership_owner (s := { s with twin := { s.twin with hoPend := none } }) howns h

theorem plannedHandover_takes (hpend : s.twin.hoPend = some h) (hdue : h ≤ s.tick) (howns : s.owns = false)
    (hpaired : s.twin.paired = true) :
    plannedHandover s = takeOwnership { s with twin := { s.twin with hoPend := none } } false := by
  rw [plannedHandover_due hpend hdue]
  dsimp only
  rw [if_neg (by rw [howns]; decide), if_pos hpaired]

end

/-! ### The commands -/

section
variable {s : State}

theorem exec_plAliveFall_stopped (halive : s.fld Reg.TWN_STAT_partner_alive = 1)
    (hstopped : s.twinMode = false ∨ s.serving = false ∨ s.faultStart = true) :
    exec .plAliveFall s = .next (twnEvent s (partnerLow s)) := by
  rw [exec_plAliveFall halive, partnerFell_stopped hstopped]

/-- Registers and cores alone differ behind a write of TWN_STAT and its event. -/
theorem onlyTwin_shows (s : State) (f : Fld) (v : Nat) : let t := twnEvent s (s.setFld f v)
    t = { s with regs := t.regs, sv := t.sv } :=
  onlyTwin_shown (onlyTwin_twnEvent (onlyTwin_setFld (onlyTwin_refl s) f v) s) (twin_twnEvent ..) (ctlOut_twnEvent ..)

theorem exec_hoGo_booked (hreach : reaches s Reg.TWN_CTL = true) (howns : s.owns = true)
    (hok : handoverAccepted s (s.reg Reg.TWN_HO_TICK) = true) :
    let h := s.tick + aheadOf s (s.reg Reg.TWN_HO_TICK)
    exec .hoGo s = .next (sendCtl { s with twin := { s.twin with hoPend := some h } } (.handover h)) := by
  rw [exec_hoGo hreach howns, requestHandover_accepted hok]

theorem exec_hoGo_refused (hreach : reaches s Reg.TWN_CTL = true) (howns : s.owns = true)
    (hno : handoverAccepted s (s.reg Reg.TWN_HO_TICK) = false) :
    exec .hoGo s = .next (twnEvent s (s.setFld Reg.TWN_STAT_ho_refused 1)) := by
  rw [exec_hoGo hreach howns, requestHandover_refused hno]

theorem exec_hoGo_follower (howns : s.owns = false) : exec .hoGo s = .next s := by
  refine congrArg Host.Outcome.next ?_
  rw [handoverGo, if_neg (by rw [howns]; decide), gated, ite_self]

theorem exec_plannedHandover (s : State) : exec .plannedHandover s = .next (twnEvent s (plannedHandover s)) := rfl

theorem exec_plannedHandover_early (hearly : ∀ h, s.twin.hoPend = some h → s.tick < h) : exec .plannedHandover s = .next s := by
  rw [exec_plannedHandover, plannedHandover_early hearly, twnEvent_same rfl]

/-- The owner's part of a handover (R251). -/
theorem handover_given {h : Nat} (hpend : s.twin.hoPend = some h) (hdue : h ≤ s.tick) (howns : s.owns = true) :
    let t := twnEvent s (plannedHandover s)
    t = { s with regs := t.regs, sv := t.sv, twin := { s.twin with hoPend := none, ownUntil := h }, io := t.io } ∧ t.owns = false ∧
      t.fld Reg.TWN_STAT_handovers = (s.fld Reg.TWN_STAT_handovers + 1) % 2 ^ Reg.TWN_STAT_handovers.w ∧
      regsKept [Reg.TWN_STAT] s t ∧ t.io = { s.io with tdmDrives := if h = 0 then [] else s.io.tdmDrives } := by
  obtain ⟨r, hr⟩ := ownerShown_frame s 0
  have hgives := plannedHandover_gives hpend hdue howns
  have hown := owner_ownerShown s 0
  have hcount := handovers_ownerShown s 0
  have hkept := regsKept_ownerShown s 0
  rw [hr] at hgives hown hcount hkept
  have hregs : (plannedHandover s).regs = ({ s with regs := r } : State).regs := by rw [hgives]
  obtain ⟨c, hc⟩ := twnEvent_frame s (plannedHandover s)
  refine ⟨?_, (owns_twnEvent ..).trans (congrArg (· == 1) ((fld_of_regs hregs _).trans hown)),
    (fld_twnEvent ..).trans ((fld_of_regs hregs _).trans hcount), regsKept_twnEvent (regsKept_of_regs hregs hkept) s, ?_⟩
  · dsimp only
    rw [hc, hgives]
  · rw [io_twnEvent, hgives]

/-- The partner's part of a handover (R251). -/
theorem handover_taken {h : Nat} (hpend : s.twin.hoPend = some h) (hdue : h ≤ s.tick) (howns : s.owns = false)
    (hpaired : s.twin.paired = true) (hfault : s.faultStart = false) :
    let t := twnEvent s (plannedHandover s)
    t.owns = true ∧ t.fld Reg.TWN_STAT_handovers = (s.fld Reg.TWN_STAT_handovers + 1) % 2 ^ Reg.TWN_STAT_handovers.w ∧
      t.twin.hoPend = none ∧ t.twin.paired = true ∧ t.boot = (if s.boot = bootRipening then bootRun else s.boot) := by
  obtain ⟨hown, hcount, htwin, hboot⟩ := takeOwnership_shows (s := { s with twin := { s.twin with hoPend := none } }) howns hfault
  rw [← plannedHandover_takes hpend hdue howns hpaired] at hown hcount htwin hboot
  refine ⟨(owns_twnEvent ..).trans hown, (fld_twnEvent ..).trans hcount, ?_, ?_, (boot_twnEvent ..).trans hboot⟩
  · rw [twin_twnEvent, htwin]
  · rw [twin_twnEvent, htwin]
    exact hpaired

end

/-- Settles O31: each command by the branch that its hypotheses name. -/
theorem ownershipMovesByTakeoverHandoverOrYield : Obligations.OwnershipMovesByTakeoverHandoverOrYield := by
  unfold Obligations.OwnershipMovesByTakeoverHandoverOrYield
  intro s quiet live counted
  refine ⟨?_, ?_, ?_, ?_, ?_, exec_hoGo_follower, fun h hpend hdue howns => ?_, fun h hpend hdue howns hpaired hfault => ?_,
    exec_plannedHandover_early, rfl, ?_⟩
  · rintro halive ⟨htwin, hserving, hfault⟩ howns
    obtain ⟨honly, hshown⟩ := partnerFell_owner htwin hserving hfault howns
    exact ⟨_, exec_plAliveFall halive, onlyTwin_frame (onlyTwin_twnEvent honly s), by simpa using hshown⟩
  · rintro halive ⟨htwin, hserving, hfault⟩ howns
    obtain ⟨honly, hshown⟩ := partnerFell_follower htwin hserving hfault howns
    exact ⟨_, exec_plAliveFall halive, onlyTwin_frame (onlyTwin_twnEvent honly s), by simpa using hshown⟩
  · intro halive hnot
    have hstopped : s.twinMode = false ∨ s.serving = false ∨ s.faultStart = true := by
      by_contra hlive
      simp only [not_or, Bool.not_eq_false, Bool.not_eq_true] at hlive
      exact hnot hlive
    exact ⟨_, exec_plAliveFall_stopped halive hstopped, onlyTwin_shows .., (fld_twnEvent ..).trans (partner_alive_partnerLow s),
      regsKept_twnEvent (regsKept_setFld (regsKept_refl _ s) (by decide) _) s⟩
  · exact fun hreach howns hok => ⟨_, exec_hoGo_booked hreach howns hok, sendsItems_sendCtl _ _,
      fun x hsent hnext hfits => sent_sendCtl (s := { s with twin := { s.twin with hoPend := some _ } }) hsent hnext hfits⟩
  · exact fun hreach howns hno => ⟨_, exec_hoGo_refused hreach howns hno, (fld_twnEvent ..).trans (fld_setFld_of_lt (by decide) (by decide)),
      onlyTwin_shows .., regsKept_twnEvent (regsKept_setFld (regsKept_refl _ s) (by decide) _) s⟩
  · obtain ⟨hframe, hown, hcount, hregs, hio⟩ := handover_given hpend hdue howns
    exact ⟨_, exec_plannedHandover s, hframe, hown, hcount, hregs, hio⟩
  · obtain ⟨hown, hcount, hpend', hpaired', hboot⟩ := handover_taken hpend hdue howns hpaired hfault
    exact ⟨_, exec_plannedHandover s, hown, hcount, hpend', hpaired', hboot⟩
  · exact congrArg Host.Outcome.next (if_congr (by simp) rfl rfl)

end Sys2Proof.Machine
end

section
/-!
PROOFS. A link frame (R232 to R239, R252): what it shows of the partner, which of its items are taken, and how a twin answers it before its
tick runs; and the commands by which a twin leaves its pair (R235, R239, R247, R248).
-/
namespace Sys2Proof.Machine

/-! ### The parts that a frame changes before its items -/

/-- From `s` to `t` registers, the twin, the float of the outputs and the control stream alone differ. -/
def onlyHeard (s t : State) : Prop := ∃ r w b o, t = { s with regs := r, twin := w, floated := b, ctlOut := o }

section
variable {s t : State}

theorem onlyHeard_frame (h : onlyHeard s t) :
    t = { s with regs := t.regs, twin := t.twin, floated := t.floated, ctlOut := t.ctlOut } := by
  obtain ⟨r, w, b, o, rfl⟩ := h
  rfl

/-- What the answer and the event change, behind a state in which the outputs may float. -/
theorem onlyTwin_floated {x : State} {r : Store Word} {w : Twin} {b : Bool} (hx : x = { s with regs := r, twin := w, floated := b })
    (h : onlyTwin x t) (hctl : t.ctlOut = x.ctlOut) :
    t = { s with regs := t.regs, sv := t.sv, twin := t.twin, floated := b } := by
  subst hx
  exact onlyTwin_ctl h hctl

theorem regs_twin_frame {r : Store Word} {w : Twin} (h : t = { s with regs := r, twin := w }) :
    t = { s with regs := t.regs, twin := t.twin } := by
  subst h
  rfl

theorem onlyHeard_refl (s : State) : onlyHeard s s := ⟨s.regs, s.twin, s.floated, s.ctlOut, rfl⟩

theorem onlyHeard_setFld (h : onlyHeard s t) (f : Fld) (v : Nat) : onlyHeard s (t.setFld f v) := by
  obtain ⟨r, w, b, o, rfl⟩ := h
  exact ⟨_, _, _, _, rfl⟩

theorem onlyHeard_put (h : onlyHeard s t) (w : Twin) (b : Bool) (o : List CtlItem) :
    onlyHeard s { t with twin := w, floated := b, ctlOut := o } := by
  obtain ⟨r, w', b', o', rfl⟩ := h
  exact ⟨_, _, _, _, rfl⟩

theorem onlyHeard_leavePair (h : onlyHeard s t) : onlyHeard s (leavePair t) := by
  unfold leavePair State.setRipe
  exact onlyHeard_setFld (onlyHeard_put h _ t.floated t.ctlOut) _ _

/-- What a frame shows of the partner: the silence, its state, its roles, the image verdict and the items taken. -/
def State.linkView (s : State) : Nat × Nat × Nat × Bool × Bool × Nat × Nat :=
  (s.twin.silent, s.twin.partnerBoot, s.twin.partnerRipe, s.twin.partnerOwner, s.twin.partnerFault, s.twin.image, s.twin.rxSeq)

end

/-! ### The heartbeat (R232, R234, R239) -/

section
variable (s : State) (f : LinkFrame)

/-- The heartbeat taken, with what it says of the roles. -/
def heardFrame (clash : Bool) : State := (heartbeat s f).setFld Reg.TWN_LINK_role_clash clash.toNat

theorem regs_heartbeat : (heartbeat s f).regs = (s.setFld Reg.TWN_STAT_link_down 0).regs := by simp only [heartbeat]

theorem onlyHeard_heartbeat : onlyHeard s (heartbeat s f) := by
  unfold heartbeat
  exact onlyHeard_put (onlyHeard_setFld (onlyHeard_refl s) _ _) _ _ _

theorem onlyHeard_heardFrame (clash : Bool) : onlyHeard s (heardFrame s f clash) := onlyHeard_setFld (onlyHeard_heartbeat s f) _ _

theorem role_clash_heardFrame (clash : Bool) : (heardFrame s f clash).fld Reg.TWN_LINK_role_clash = clash.toNat :=
  fld_setFld_of_lt (by decide) (Bool.toNat_lt clash)

/-- Of TWN_STAT it writes link_down alone. -/
theorem fld_heardFrame (clash : Bool) {g : Fld} (hg : g.addr = Reg.TWN_STAT) :
    (heardFrame s f clash).fld g = (s.setFld Reg.TWN_STAT_link_down 0).fld g := by
  rw [heardFrame, fld_setFld_elsewhere _ _ _ (by rw [hg]; decide), fld_of_regs (regs_heartbeat s f)]

theorem link_down_heardFrame (clash : Bool) : (heardFrame s f clash).fld Reg.TWN_STAT_link_down = 0 :=
  (fld_heardFrame s f clash rfl).trans (fld_setFld_self _ _ _ (by decide))

theorem owns_heardFrame (clash : Bool) : (heardFrame s f clash).owns = s.owns :=
  congrArg (· == 1) ((fld_heardFrame s f clash rfl).trans (fld_setFld_other _ _ _ _ (by decide) (by decide)))

theorem regsKept_heardFrame (clash : Bool) : regsKept [Reg.TWN_STAT, Reg.TWN_LINK] s (heardFrame s f clash) :=
  regsKept_setFld (regsKept_of_regs (regs_heartbeat s f) (regsKept_setFld (regsKept_refl _ s) (by decide) _)) (by decide) _

theorem linkView_heardFrame (clash : Bool) : (heardFrame s f clash).linkView =
    (0, f.boot.val, f.ripe.val, f.owner, f.fault, s.twin.image, s.twin.rxSeq) := by
  simp only [State.linkView, heardFrame, heartbeat, State.setFld_twin]

/-- It leaves the pair, what is booked for the boundary, the control stream and the outputs. -/
theorem heardFrame_kept (clash : Bool) : (heardFrame s f clash).twin.paired = s.twin.paired ∧
    (heardFrame s f clash).twin.acked = s.twin.acked ∧ (heardFrame s f clash).ctlOut = s.ctlOut := by
  simp [heardFrame, heartbeat]

theorem heardFrame_frame (clash : Bool) : ∃ r w, heardFrame s f clash = { s with regs := r, twin := w } ∧
    w.ownNext = s.twin.ownNext ∧ w.rxSeq = s.twin.rxSeq := by
  obtain ⟨r, hr⟩ := setFld_frame s Reg.TWN_STAT_link_down 0
  unfold heardFrame heartbeat
  rw [hr]
  obtain ⟨r', hr'⟩ := setFld_frame { s with regs := r, twin := _ } Reg.TWN_LINK_role_clash clash.toNat
  exact ⟨r', _, hr', rfl, rfl⟩

/-! ### A clash of roles (R232) -/

/-- An owner is to give up its roles; another floats its outputs. -/
theorem roleClash_eq : roleClash s =
    { s with twin := { s.twin with ownNext := if s.owns then some false else s.twin.ownNext }, floated := s.floated || !s.owns } := by
  unfold roleClash
  cases s.owns
  · rw [Bool.not_false, Bool.or_true]
    rfl
  · rw [Bool.not_true, Bool.or_false]
    rfl

theorem regs_roleClash : (roleClash s).regs = s.regs := by rw [roleClash_eq]

/-- The same of a state in which the heartbeat has changed registers and the twin. -/
theorem roleClash_frame {s x : State} {r : Store Word} {w : Twin} (hx : x = { s with regs := r, twin := w }) (howns : x.owns = s.owns) :
    roleClash x = { s with regs := r, twin := { w with ownNext := if s.owns then some false else w.ownNext },
                           floated := s.floated || !s.owns } := by
  rw [roleClash_eq, howns, hx]

/-! ### The image (R234, R259) -/

/-- The verdict is about the hash and the structure. -/
theorem imageVerdict_heardFrame (clash : Bool) : imageVerdict (heardFrame s f clash) f = imageVerdict (heartbeat s f) f := by
  have hreg {i : Nat} (hi : i ∈ List.range 8) : (heardFrame s f clash).reg (Reg.ESP_IMG_HASH i) = (heartbeat s f).reg (Reg.ESP_IMG_HASH i) := by
    have hlt := List.mem_range.1 hi
    rw [heardFrame, reg_setFld, if_neg (by simp only [Reg.ESP_IMG_HASH, Reg.TWN_LINK_role_clash, Reg.TWN_LINK]; omega)]
  have htwin : (heardFrame s f clash).twin = (heartbeat s f).twin := State.setFld_twin ..
  have hstr : (heardFrame s f clash).str = (heartbeat s f).str := State.setFld_str ..
  have hparts : (List.range 8).all (fun i => storeGet 0 (heardFrame s f clash).twin.hashParts i == (heardFrame s f clash).reg (Reg.ESP_IMG_HASH i)) =
      (List.range 8).all (fun i => storeGet 0 (heartbeat s f).twin.hashParts i == (heartbeat s f).reg (Reg.ESP_IMG_HASH i)) := by
    rw [Bool.eq_iff_iff, List.all_eq_true, List.all_eq_true]
    exact forall₂_congr fun i hi => by rw [hreg hi, htwin]
  rw [imageVerdict, hparts, htwin, hstr, imageVerdict]

theorem onlyHeard_showImage {t : State} (h : onlyHeard s t) : onlyHeard s (showImage t f) := by
  unfold showImage
  exact onlyHeard_put (onlyHeard_setFld (onlyHeard_setFld h _ _) _ _) _ _ _

theorem twin_showImage : (showImage s f).twin = { s.twin with image := imageVerdict s f } := by
  simp only [showImage, State.setFld_twin]

theorem ctlOut_showImage : (showImage s f).ctlOut = s.ctlOut := by simp only [showImage, State.setFld_ctlOut]

theorem regs_showImage : (showImage s f).regs = ((s.setFld Reg.TWN_STAT_mismatch (if imageVerdict s f = 2 then 1 else 0)).setFld
    Reg.TWN_STAT_mixed (if imageVerdict s f = 1 then 1 else 0)).regs := by simp only [showImage]

theorem fld_showImage {g : Fld} (h : g.addr ≠ Reg.TWN_STAT ∨ g.lo + g.w ≤ 24 ∨ 26 ≤ g.lo) : (showImage s f).fld g = s.fld g := by
  have hmixed : g.addr ≠ Reg.TWN_STAT ∨ g.lo + g.w ≤ 24 ∨ 25 ≤ g.lo := h.imp_right (Or.imp_right (by omega))
  have hmis : g.addr ≠ Reg.TWN_STAT ∨ g.lo + g.w ≤ 25 ∨ 26 ≤ g.lo := h.imp_right (Or.imp_left (by omega))
  rw [fld_of_regs (regs_showImage s f), fld_setFld_other _ _ _ _ (by decide) hmixed, fld_setFld_other _ _ _ _ (by decide) hmis]

theorem mismatch_showImage : (showImage s f).fld Reg.TWN_STAT_mismatch = if imageVerdict s f = 2 then 1 else 0 := by
  rw [fld_of_regs (regs_showImage s f), fld_setFld_other _ _ _ _ (by decide) (by decide),
    fld_setFld_of_lt (by decide) (by split <;> decide)]

theorem mixed_showImage : (showImage s f).fld Reg.TWN_STAT_mixed = if imageVerdict s f = 1 then 1 else 0 := by
  rw [fld_of_regs (regs_showImage s f), fld_setFld_of_lt (by decide) (by split <;> decide)]

/-! ### The tick count (R239) -/

/-- A differing count is shown, and a paired follower leaves. -/
theorem checkTick_cases : checkTick s f = s ∨ checkTick s f = s.setFld Reg.TWN_STAT_tick_mismatch 1 ∨
    checkTick s f = leavePair (s.setFld Reg.TWN_STAT_tick_mismatch 1) := by
  unfold checkTick
  split
  · refine .inr ?_
    dsimp only
    split
    · exact .inl rfl
    · exact .inr rfl
  · exact .inl rfl

theorem checkTick_equal (h : f.tick = BitVec.ofNat 32 s.tick) : checkTick s f = s := if_neg fun ⟨_, hne, _⟩ => hne h

theorem checkTick_differs (hpaired : s.twin.paired = true) (hon : s.tickOn = true) (hne : f.tick ≠ BitVec.ofNat 32 s.tick) :
    (checkTick s f).fld Reg.TWN_STAT_tick_mismatch = 1 ∧ (checkTick s f).twin.paired = s.owns := by
  have hshown : (s.setFld Reg.TWN_STAT_tick_mismatch 1).fld Reg.TWN_STAT_tick_mismatch = 1 := fld_setFld_of_lt (by decide) (by decide)
  have hcheck : checkTick s f = if s.owns = true ∨ s.twin.paired = false then s.setFld Reg.TWN_STAT_tick_mismatch 1
      else leavePair (s.setFld Reg.TWN_STAT_tick_mismatch 1) := if_pos ⟨hon, hne, .inl hpaired⟩
  rw [hcheck]
  cases howns : s.owns with
  | false =>
    rw [if_neg (by simp [hpaired]), twin_leavePair, Twin.alone]
    exact ⟨(fld_leavePair _ (by decide)).trans hshown, rfl⟩
  | true =>
    rw [if_pos (.inl rfl), State.setFld_twin]
    exact ⟨hshown, hpaired⟩

theorem onlyHeard_checkTick {t : State} (h : onlyHeard s t) : onlyHeard s (checkTick t f) := by
  have hshown := onlyHeard_setFld h Reg.TWN_STAT_tick_mismatch 1
  rcases checkTick_cases t f with e | e | e <;> rw [e]
  · exact h
  · exact hshown
  · exact onlyHeard_leavePair hshown

theorem fld_checkTick {g : Fld} (hripe : g.addr ≠ Reg.TWN_STAT ∨ g.lo + g.w ≤ 16 ∨ 19 ≤ g.lo)
    (htick : g.addr ≠ Reg.TWN_STAT ∨ g.lo + g.w ≤ 28 ∨ 29 ≤ g.lo) : (checkTick s f).fld g = s.fld g := by
  have hshown : (s.setFld Reg.TWN_STAT_tick_mismatch 1).fld g = s.fld g := fld_setFld_other _ _ _ _ (by decide) htick
  rcases checkTick_cases s f with e | e | e <;> rw [e]
  · exact hshown
  · exact (fld_leavePair _ hripe).trans hshown

/-- It is about the pair alone: neither the view of the partner nor the control stream changes. -/
theorem checkTick_kept : (checkTick s f).linkView = s.linkView ∧ (checkTick s f).ctlOut = s.ctlOut ∧
    (checkTick s f).twin.acked = s.twin.acked := by
  rcases checkTick_cases s f with e | e | e <;> simp [e, State.linkView, Twin.alone]

/-! ### The rest of a frame before its items (R233, R237, R240) -/

/-- The output CRCs of a paired twin are kept for the comparison (R240). -/
def noteCrcs : State :=
  if s.twin.paired then { s with twin := { s.twin with partCrc := f.crcs.foldl (fun m e => storeIns e.1 e.2 m) [] } } else s

/-- Acknowledged items leave the control stream; CRCs and what the owner shares are noted. -/
def frameNoted : State := takeShared (noteCrcs (dropAcked s f.acked) f) f

theorem frameNoted_frame : ∃ w, frameNoted s f = { s with twin := w, ctlOut := s.ctlOut.drop (f.acked - s.twin.acked) } ∧
    w.paired = s.twin.paired ∧ ({ s with twin := w } : State).linkView = s.linkView := by
  unfold frameNoted takeShared noteCrcs
  split <;> split <;> exact ⟨_, rfl, rfl, rfl⟩

/-! ### The items (R233) -/

/-- The items that were not taken before, where `n` items were, of a frame that does not start after a gap. -/
def freshItems (f : LinkFrame) (n : Nat) : List CtlItem := if n + 1 < f.seq then [] else f.items.drop (n + 1 - f.seq)

/-- They are counted as taken. -/
def itemsNoted : State := { s with twin := { s.twin with rxSeq := s.twin.rxSeq + (freshItems f s.twin.rxSeq).length } }

theorem takeItems_eq : takeItems s f = (freshItems f s.twin.rxSeq).foldl linkItem (itemsNoted s f) := by
  have hnone (h : freshItems f s.twin.rxSeq = []) : (freshItems f s.twin.rxSeq).foldl linkItem (itemsNoted s f) = s := by
    rw [itemsNoted, h]
    rfl
  unfold takeItems
  split
  · next h =>
    refine (hnone ?_).symm
    unfold freshItems
    split
    · rfl
    · next hgap => rw [h.resolve_right hgap, List.drop_nil]
  · next h =>
    rw [not_or] at h
    obtain ⟨hitems, hgap⟩ := h
    have hlen : 0 < f.items.length := List.length_pos_iff.2 hitems
    have hfresh : freshItems f s.twin.rxSeq = f.items.drop (s.twin.rxSeq + 1 - f.seq) := if_neg hgap
    have hcount : max s.twin.rxSeq (f.seq + f.items.length - 1) = s.twin.rxSeq + (freshItems f s.twin.rxSeq).length := by
      rw [hfresh, List.length_drop]
      omega
    rw [itemsNoted, ← hcount, hfresh]

end

/-! ### A frame of a twin of the other role, before its items -/

section
variable (s : State) (f : LinkFrame)

/-- The partner's state and image, shown. -/
def partnerSeen : State := showImage (heardFrame s f false) f

theorem onlyHeard_partnerSeen : onlyHeard s (partnerSeen s f) := onlyHeard_showImage s f (onlyHeard_heardFrame s f false)

theorem fld_partnerSeen {g : Fld} (h : g.addr ≠ Reg.TWN_STAT ∨ g.lo + g.w ≤ 24 ∨ 26 ≤ g.lo) :
    (partnerSeen s f).fld g = (heardFrame s f false).fld g := fld_showImage _ _ h

theorem owns_partnerSeen : (partnerSeen s f).owns = s.owns :=
  (congrArg (· == 1) (fld_partnerSeen s f (by decide))).trans (owns_heardFrame s f false)

/-- The verdict of the heartbeat is shown. -/
theorem image_partnerSeen : let v := imageVerdict (heartbeat s f) f
    (partnerSeen s f).fld Reg.TWN_STAT_mismatch = (if v = 2 then 1 else 0) ∧
    (partnerSeen s f).fld Reg.TWN_STAT_mixed = (if v = 1 then 1 else 0) ∧
    (partnerSeen s f).linkView = (0, f.boot.val, f.ripe.val, f.owner, f.fault, v, s.twin.rxSeq) := by
  have hview := linkView_heardFrame s f false
  simp only [State.linkView, Prod.mk.injEq] at hview
  dsimp only
  rw [← imageVerdict_heardFrame s f false]
  refine ⟨mismatch_showImage _ f, mixed_showImage _ f, ?_⟩
  simp only [State.linkView, partnerSeen, twin_showImage, hview]

theorem partnerSeen_kept : (partnerSeen s f).twin.paired = s.twin.paired ∧ (partnerSeen s f).twin.acked = s.twin.acked ∧
    (partnerSeen s f).ctlOut = s.ctlOut ∧ (partnerSeen s f).tick = s.tick ∧ (partnerSeen s f).tickOn = s.tickOn := by
  obtain ⟨hpaired, hacked, hctl⟩ := heardFrame_kept s f false
  obtain ⟨r, w, b, o, honly⟩ := onlyHeard_partnerSeen s f
  refine ⟨?_, ?_, (ctlOut_showImage ..).trans hctl, ?_, ?_⟩
  · rw [partnerSeen, twin_showImage, hpaired]
  · rw [partnerSeen, twin_showImage, hacked]
  · rw [honly]
  · rw [honly]

/-- The state in which its items are taken. -/
def frameShown : State := itemsNoted (frameNoted (checkTick (partnerSeen s f) f) f) f

theorem linkBody_eq (t : State) : linkBody t f = takeItems (frameNoted (checkTick (showImage t f) f) f) f := by
  unfold linkBody frameNoted noteCrcs
  rfl

/-- Beside the pair's check it changes the twin and the control stream alone. -/
theorem frameShown_frame : ∃ w, frameShown s f =
      { checkTick (partnerSeen s f) f with twin := w, ctlOut := s.ctlOut.drop (f.acked - s.twin.acked) } ∧
    w.paired = (checkTick (partnerSeen s f) f).twin.paired ∧
    (frameShown s f).linkView = (0, f.boot.val, f.ripe.val, f.owner, f.fault, imageVerdict (heartbeat s f) f,
      s.twin.rxSeq + (freshItems f s.twin.rxSeq).length) ∧
    linkBody (heardFrame s f false) f = (freshItems f s.twin.rxSeq).foldl linkItem (frameShown s f) := by
  obtain ⟨_, _, hseen⟩ := image_partnerSeen s f
  obtain ⟨_, hacked, hctl, _, _⟩ := partnerSeen_kept s f
  obtain ⟨hchecked, hctl', hacked'⟩ := checkTick_kept (partnerSeen s f) f
  obtain ⟨w, hnoted, hpaired, hview⟩ := frameNoted_frame (checkTick (partnerSeen s f) f) f
  rw [hctl', hctl, hacked', hacked] at hnoted
  have hshown : frameShown s f = itemsNoted { checkTick (partnerSeen s f) f with
      twin := w, ctlOut := s.ctlOut.drop (f.acked - s.twin.acked) } f := congrArg (itemsNoted · f) hnoted
  have hbody := linkBody_eq f (heardFrame s f false)
  rw [← partnerSeen, takeItems_eq, ← frameShown, hnoted] at hbody
  rw [hchecked, hseen] at hview
  simp only [State.linkView, Prod.mk.injEq] at hview
  obtain ⟨hsilent, hboot, hripe, howner, hfault, himage, hseq⟩ := hview
  rw [hbody]
  refine ⟨_, hshown, hpaired, ?_, ?_⟩
  · simp only [hshown, itemsNoted, State.linkView, hsilent, hboot, hripe, howner, hfault, himage, hseq]
  · simp only [hseq]

/-- The parts behind the tick's check write no register. -/
theorem fld_frameShown (g : Fld) : (frameShown s f).fld g = (checkTick (partnerSeen s f) f).fld g := by
  obtain ⟨w, h, _⟩ := frameShown_frame s f
  rw [h]
  exact fld_of_regs rfl g

theorem onlyHeard_frameShown : onlyHeard s (frameShown s f) := by
  obtain ⟨w, h, _⟩ := frameShown_frame s f
  rw [h]
  exact onlyHeard_put (onlyHeard_checkTick s f (onlyHeard_partnerSeen s f)) _ _ _

theorem owns_frameShown : (frameShown s f).owns = s.owns :=
  (congrArg (· == 1) ((fld_frameShown s f _).trans (fld_checkTick _ _ (by decide) (by decide)))).trans (owns_partnerSeen s f)

theorem link_down_frameShown : (frameShown s f).fld Reg.TWN_STAT_link_down = 0 := by
  rw [fld_frameShown, fld_checkTick _ _ (by decide) (by decide), fld_partnerSeen _ _ (by decide), link_down_heardFrame]

theorem role_clash_frameShown : (frameShown s f).fld Reg.TWN_LINK_role_clash = 0 := by
  rw [fld_frameShown, fld_checkTick _ _ (by decide) (by decide), fld_partnerSeen _ _ (by decide), role_clash_heardFrame, Bool.toNat_false]

/-- The image verdict is shown. -/
theorem image_frameShown : let u := frameShown s f
    u.twin.image = imageVerdict (heartbeat s f) f ∧ u.fld Reg.TWN_STAT_mismatch = (if u.twin.image = 2 then 1 else 0) ∧
      u.fld Reg.TWN_STAT_mixed = (if u.twin.image = 1 then 1 else 0) := by
  obtain ⟨w, _, _, hview, _⟩ := frameShown_frame s f
  obtain ⟨hmis, hmixed, _⟩ := image_partnerSeen s f
  simp only [State.linkView, Prod.mk.injEq] at hview
  obtain ⟨_, _, _, _, _, himage, _⟩ := hview
  dsimp only
  rw [himage, fld_frameShown, fld_frameShown, fld_checkTick _ _ (by decide) (by decide), fld_checkTick _ _ (by decide) (by decide)]
  exact ⟨rfl, hmis, hmixed⟩

/-- A differing tick count of a paired twin is shown, and its owner alone stays in the pair (R239). -/
theorem frameShown_tick : let u := frameShown s f
    (s.twin.paired = true → s.tickOn = true → f.tick ≠ BitVec.ofNat 32 s.tick →
      u.fld Reg.TWN_STAT_tick_mismatch = 1 ∧ u.twin.paired = s.owns) ∧
    (f.tick = BitVec.ofNat 32 s.tick → u.twin.paired = s.twin.paired) := by
  obtain ⟨w, hframe, hw, _⟩ := frameShown_frame s f
  obtain ⟨hpaired, _, _, htick, hon⟩ := partnerSeen_kept s f
  have hpair : (frameShown s f).twin.paired = (checkTick (partnerSeen s f) f).twin.paired := by rw [hframe, hw]
  dsimp only
  rw [fld_frameShown, hpair]
  constructor
  · intro hp ht hne
    rw [← hpaired] at hp
    rw [← hon] at ht
    rw [← htick] at hne
    rw [← owns_partnerSeen s f]
    exact checkTick_differs _ f hp ht hne
  · intro heq
    rw [checkTick_equal _ f (by rw [htick, heq]), hpaired]

end

/-! ### The answer before the tick runs (R236; log entry 157) -/

section
variable (u : State)

/-- The lanes shown up and aligned. -/
def lanesShown : State := (u.setFld Reg.TWN_LINK_lanes_up 15).setFld Reg.TWN_LINK_aligned 1

theorem loadAnswer_on (hon : u.tickOn = true) : loadAnswer u = u := if_pos hon

theorem loadAnswer_off (hon : u.tickOn = false) : loadAnswer u = loadFrame (lanesShown u) := if_neg (by rw [hon]; decide)

/-- A heartbeat changes the twin alone, and nothing of its pair. -/
theorem loadFrame_frame : ∃ w, loadFrame u = { u with twin := w } ∧ w.ownNext = u.twin.ownNext ∧ w.rxSeq = u.twin.rxSeq := by
  unfold loadFrame
  split
  · exact ⟨_, rfl, rfl, rfl⟩
  · exact ⟨_, rfl, rfl, rfl⟩

theorem fld_lanesShown {g : Fld} (h : g.addr ≠ Reg.TWN_LINK) : (lanesShown u).fld g = u.fld g :=
  (fld_setFld_elsewhere _ _ _ h).trans (fld_setFld_elsewhere u _ _ h)

theorem lanes_up_lanesShown : (lanesShown u).fld Reg.TWN_LINK_lanes_up = 15 :=
  (fld_setFld_other _ _ _ _ (by decide) (by decide)).trans (fld_setFld_of_lt (by decide) (by decide))

theorem aligned_lanesShown : (lanesShown u).fld Reg.TWN_LINK_aligned = 1 := fld_setFld_of_lt (by decide) (by decide)

theorem role_clash_lanesShown : (lanesShown u).fld Reg.TWN_LINK_role_clash = u.fld Reg.TWN_LINK_role_clash :=
  (fld_setFld_other _ _ _ _ (by decide) (by decide)).trans (fld_setFld_other u _ _ _ (by decide) (by decide))

theorem lanesShown_frame : ∃ r, lanesShown u = { u with regs := r } := by
  obtain ⟨r, h⟩ := setFld_frame u Reg.TWN_LINK_lanes_up 15
  rw [lanesShown, h]
  exact setFld_frame { u with regs := r } _ _

/-- It changes TWN_LINK and the twin, and nothing of the pair. -/
theorem loadAnswer_frame : ∃ r w, loadAnswer u = { u with regs := r, twin := w } ∧ w.ownNext = u.twin.ownNext ∧ w.rxSeq = u.twin.rxSeq ∧
    (loadAnswer u).fld Reg.TWN_LINK_role_clash = u.fld Reg.TWN_LINK_role_clash ∧ regsKept [Reg.TWN_LINK] u (loadAnswer u) := by
  by_cases hon : u.tickOn = true
  · rw [loadAnswer_on u hon]
    exact ⟨u.regs, u.twin, rfl, rfl, rfl, rfl, regsKept_refl _ u⟩
  · obtain ⟨r, hr⟩ := lanesShown_frame u
    obtain ⟨w, hw, hnext, hseq⟩ := loadFrame_frame (lanesShown u)
    have hclash := role_clash_lanesShown u
    have hkept : regsKept [Reg.TWN_LINK] u (lanesShown u) :=
      regsKept_setFld (regsKept_setFld (regsKept_refl _ u) (by decide) _) (by decide) _
    rw [loadAnswer_off u (Bool.not_eq_true _ ▸ hon), hw]
    rw [hr] at hnext hseq hclash hkept ⊢
    exact ⟨r, w, rfl, hnext, hseq, hclash, hkept⟩

theorem ctlOut_loadAnswer : (loadAnswer u).ctlOut = u.ctlOut := by
  obtain ⟨r, w, hanswer, _⟩ := loadAnswer_frame u
  rw [hanswer]

theorem onlyTwin_loadAnswer {s : State} (h : onlyTwin s u) : onlyTwin s (loadAnswer u) := by
  obtain ⟨r, w, hanswer, _⟩ := loadAnswer_frame u
  obtain ⟨r', c', w', o', rfl⟩ := h
  rw [hanswer]
  exact ⟨r, c', w, o', rfl⟩

theorem fld_loadAnswer (hon : u.tickOn = false) (g : Fld) : (loadAnswer u).fld g = (lanesShown u).fld g := by
  obtain ⟨w, hw, _⟩ := loadFrame_frame (lanesShown u)
  rw [loadAnswer_off u hon, hw, fld_putTwin]

/-- A twin in LOAD answers by a heartbeat without items. -/
theorem sent_loadAnswer (hon : u.tickOn = false) (htwin : u.twinMode = true) (hboot : u.boot = bootLoad) (hdom : u.domOn 13 = true) :
    ∃ x, (loadAnswer u).twin.sent = some x ∧ x.frame.tick = BitVec.ofNat 32 u.twin.loadFrames ∧
      x.frame.boot = Fin.ofNat 8 bootLoad ∧ x.frame.items = [] ∧ (x.frame.roleB = true ↔ u.fld Reg.TWN_STAT_role = 1) := by
  have hboot' : (lanesShown u).boot = bootLoad := (fld_lanesShown u (by decide)).trans hboot
  have hdom' : (lanesShown u).domOn 13 = true := (congrArg (· == 0) (fld_lanesShown u (by decide))).trans hdom
  have hrole : (lanesShown u).fld Reg.TWN_STAT_role = u.fld Reg.TWN_STAT_role := fld_lanesShown u (by decide)
  obtain ⟨r, hr⟩ := lanesShown_frame u
  have htwin' : (lanesShown u).twin = u.twin := by rw [hr]
  have hmode : (lanesShown u).twinMode = true := by rw [hr]; exact htwin
  have hon' : (lanesShown u).tickOn = false := by rw [hr]; exact hon
  have hsent : loadFrame (lanesShown u) = { lanesShown u with twin := { (lanesShown u).twin with
      sent := some { frame := heartbeatOf (lanesShown u) (lanesShown u).twin.loadFrames, copy := [], bulk := [] },
      loadFrames := (lanesShown u).twin.loadFrames + 1 } } := if_pos ⟨hmode, hboot', hon', hdom'⟩
  rw [loadAnswer_off u hon, hsent, htwin']
  refine ⟨_, rfl, rfl, congrArg (Fin.ofNat 8) hboot', rfl, ?_⟩
  rw [← hrole]
  exact beq_iff_eq

end

/-! ### LINK_FRAME (R232, R233) -/

section
variable {s : State} {f : LinkFrame}

/-- A twin that has started, with the PLEACH domain on, hears the link. -/
def hearsLink (s : State) : Prop := s.twinMode = true ∧ s.domOn 13 = true ∧ (s.serving = true ∨ s.boot = bootLoad)

theorem not_hearsLink_iff : ¬ hearsLink s ↔ s.twinMode = false ∨ s.domOn 13 = false ∨ s.serving = false ∧ s.boot ≠ bootLoad := by
  simp only [hearsLink, not_and_or, not_or, Bool.not_eq_true]

theorem exec_linkFrame (f : LinkFrame) (s : State) : exec (.linkFrame f) s = .next (linkFrame s f) := rfl

theorem linkFrame_unheard (h : ¬ hearsLink s) : linkFrame s f = s := if_pos (not_hearsLink_iff.1 h)

theorem linkFrame_badCrc (h : hearsLink s) (hcrc : f.crcOk = false) : linkFrame s f = s.satInc Reg.TWN_LINK_crc_err := by
  rw [linkFrame, if_neg fun hno => not_hearsLink_iff.2 hno h, if_pos hcrc]

theorem linkFrame_heard (h : hearsLink s) (hcrc : f.crcOk = true) {clash : Bool} (hrole : (f.roleB.toNat == s.fld Reg.TWN_STAT_role) = clash) :
    linkFrame s f = twnEvent s (loadAnswer (if clash then roleClash (heardFrame s f clash) else linkBody (heardFrame s f clash) f)) := by
  rw [linkFrame, if_neg fun hno => not_hearsLink_iff.2 hno h, if_neg (by rw [hcrc]; decide), hrole]
  unfold heardFrame
  rfl

theorem linkFrame_clash (h : hearsLink s) (hcrc : f.crcOk = true) (hrole : f.roleB.toNat = s.fld Reg.TWN_STAT_role) :
    linkFrame s f = twnEvent s (loadAnswer (roleClash (heardFrame s f true))) := by
  rw [linkFrame_heard h hcrc (beq_iff_eq.2 hrole), if_pos rfl]

theorem linkFrame_partner (h : hearsLink s) (hcrc : f.crcOk = true) (hrole : f.roleB.toNat ≠ s.fld Reg.TWN_STAT_role) :
    linkFrame s f = twnEvent s (loadAnswer ((freshItems f s.twin.rxSeq).foldl linkItem (frameShown s f))) := by
  obtain ⟨w, _, _, _, hbody⟩ := frameShown_frame s f
  rw [linkFrame_heard h hcrc (beq_eq_false_iff_ne.2 hrole), if_neg Bool.false_ne_true, hbody]

theorem ownNext_of_frame {x : State} {r : Store Word} {w : Twin} {n : Option Bool} {b : Bool}
    (hx : x = { s with regs := r, twin := { w with ownNext := n }, floated := b }) :
    x.twin.ownNext = n ∧ x.twin.rxSeq = w.rxSeq := by
  subst hx
  exact ⟨rfl, rfl⟩

/-- What a clash of roles shows and books (R232). -/
theorem clash_shows (s : State) (f : LinkFrame) : let t := twnEvent s (loadAnswer (roleClash (heardFrame s f true)))
    t.fld Reg.TWN_LINK_role_clash = 1 ∧ t.twin.ownNext = (if s.owns then some false else s.twin.ownNext) ∧
      t.twin.rxSeq = s.twin.rxSeq ∧ t = { s with regs := t.regs, sv := t.sv, twin := t.twin, floated := s.floated || !s.owns } ∧
      regsKept [Reg.TWN_STAT, Reg.TWN_LINK] s t := by
  obtain ⟨r, w, hheard, hnext, hseq⟩ := heardFrame_frame s f true
  have hroles := roleClash_frame hheard (owns_heardFrame s f true)
  have hregs : (roleClash (heardFrame s f true)).regs = (heardFrame s f true).regs := regs_roleClash _
  obtain ⟨r', w', hanswer, hnext', hseq', hclash, hkept⟩ := loadAnswer_frame (roleClash (heardFrame s f true))
  have honly := onlyTwin_twnEvent (onlyTwin_loadAnswer _ (onlyTwin_refl (roleClash (heardFrame s f true)))) s
  have hclashTwin : (roleClash (heardFrame s f true)).twin.ownNext = (if s.owns then some false else s.twin.ownNext) ∧
      (roleClash (heardFrame s f true)).twin.rxSeq = s.twin.rxSeq := by
    rw [← hnext, ← hseq]
    exact ownNext_of_frame hroles
  have hanswerTwin : (loadAnswer (roleClash (heardFrame s f true))).twin = w' := by rw [hanswer]
  refine ⟨?_, ?_, ?_, onlyTwin_floated hroles honly ((ctlOut_twnEvent ..).trans (ctlOut_loadAnswer _)), regsKept_twnEvent (fun a ha => ?_) s⟩
  · rw [fld_twnEvent, hclash, fld_of_regs hregs, role_clash_heardFrame, Bool.toNat_true]
  · rw [twin_twnEvent, hanswerTwin, hnext', hclashTwin.1]
  · rw [twin_twnEvent, hanswerTwin, hseq', hclashTwin.2]
  · rw [hkept a fun hmem => ha (List.mem_cons_of_mem _ hmem)]
    exact regsKept_of_regs hregs (regsKept_heardFrame s f true) a ha

end

/-! ### Leaving the pair (R235, R239, R247, R248) -/

section
variable {s t : State}

/-- A twin leaves its pair, alone its control stream may have begun anew; its ownership stays. -/
def leftPair (s : State) (ctl : List CtlItem) (t : State) : Prop := t.twin.paired = false ∧
  t.ripe = (if s.owns then ripeSole else ripeDetached) ∧ t.owns = s.owns ∧
  t = { s with regs := t.regs, sv := t.sv, twin := t.twin, ctlOut := ctl } ∧ regsKept [Reg.TWN_STAT] s t

theorem leftPair_leavePair (honly : onlyTwin s t) (howns : t.owns = s.owns) (hkept : regsKept [Reg.TWN_STAT] s t) :
    leftPair s t.ctlOut (twnEvent s (leavePair t)) := by
  refine ⟨?_, ?_, ?_, onlyTwin_ctl (onlyTwin_twnEvent (onlyTwin_leavePair honly) s) ?_,
    regsKept_twnEvent (regsKept_leavePair hkept List.mem_cons_self) s⟩
  · rw [twin_twnEvent, twin_leavePair, Twin.alone]
  · rw [ripe_twnEvent, ripe_leavePair, howns]
  · rw [owns_twnEvent, owns_leavePair, howns]
  · rw [ctlOut_twnEvent, ctlOut_leavePair]

theorem leftPair_newStream (honly : onlyTwin s t) (howns : t.owns = s.owns) (hkept : regsKept [Reg.TWN_STAT] s t) :
    leftPair s [] (twnEvent s (leavePair (newStream t))) :=
  leftPair_leavePair (onlyTwin_newStream honly) ((owns_newStream t).trans howns) (regsKept_of_regs rfl hkept)

/-- LINK_DOWN of a paired twin (R239; log entry 134). -/
theorem linkDown_paired (hsilent : 2 ≤ s.twin.silent) (halive : s.fld Reg.TWN_STAT_partner_alive = 1)
    (hup : s.fld Reg.TWN_STAT_link_down = 0) (hpaired : s.twin.paired = true) :
    linkDown s = twnEvent s (leavePair (newStream (s.setFld Reg.TWN_STAT_link_down 1))) := by
  rw [linkDown, if_pos ⟨hsilent, halive, hup⟩]
  dsimp only
  rw [if_pos (.inl hpaired)]

theorem linkDown_heard (h : s.twin.silent < 2) : linkDown s = s := if_neg fun ⟨hsilent, _⟩ => Nat.not_le.2 h hsilent

theorem linkDown_shows : let t := twnEvent s (leavePair (newStream (s.setFld Reg.TWN_STAT_link_down 1)))
    t.fld Reg.TWN_STAT_link_down = 1 ∧ leftPair s [] t := by
  have hdown : (s.setFld Reg.TWN_STAT_link_down 1).fld Reg.TWN_STAT_link_down = 1 := fld_setFld_of_lt (by decide) (by decide)
  have hown : (s.setFld Reg.TWN_STAT_link_down 1).owns = s.owns := congrArg (· == 1) (fld_setFld_other _ _ _ _ (by decide) (by decide))
  have honly := onlyTwin_setFld (onlyTwin_refl s) Reg.TWN_STAT_link_down 1
  have hkept : regsKept [Reg.TWN_STAT] s (s.setFld Reg.TWN_STAT_link_down 1) := regsKept_setFld (regsKept_refl _ s) (by decide) _
  refine ⟨?_, leftPair_newStream honly hown hkept⟩
  rw [fld_twnEvent, fld_leavePair _ (by decide), fld_newStream, hdown]

theorem skewError_follower (hticks : 16 ≤ s.twin.skewTicks) (hpaired : s.twin.paired = true) (hfollows : tickFollower s = true) :
    skewError s = twnEvent s (leavePair (s.setFld Reg.TWN_STAT_skew_err 1)) := if_pos ⟨hticks, hpaired, hfollows⟩

theorem skewError_early (h : s.twin.skewTicks < 16) : skewError s = s := if_neg fun ⟨hticks, _⟩ => Nat.not_le.2 h hticks

theorem skewError_shows : let t := twnEvent s (leavePair (s.setFld Reg.TWN_STAT_skew_err 1))
    t.fld Reg.TWN_STAT_skew_err = 1 ∧ leftPair s s.ctlOut t := by
  have hshown : (s.setFld Reg.TWN_STAT_skew_err 1).fld Reg.TWN_STAT_skew_err = 1 := fld_setFld_of_lt (by decide) (by decide)
  have hown : (s.setFld Reg.TWN_STAT_skew_err 1).owns = s.owns := congrArg (· == 1) (fld_setFld_other _ _ _ _ (by decide) (by decide))
  have hleft := leftPair_leavePair (onlyTwin_setFld (onlyTwin_refl s) Reg.TWN_STAT_skew_err 1) hown
    (regsKept_setFld (regsKept_refl _ s) (by decide) _)
  rw [State.setFld_ctlOut] at hleft
  refine ⟨?_, hleft⟩
  rw [fld_twnEvent, fld_leavePair _ (by decide), hshown]

theorem twinLeave_owner (howns : s.owns = true) (hpaired : s.twin.paired = true) : twinLeave s = s := if_pos ⟨howns, hpaired⟩

theorem twinLeave_free (h : s.owns = false ∨ s.twin.paired = false) :
    twinLeave s = twnEvent s ((leavePair s).setRipe ripeDetached) := by
  refine if_neg fun ⟨howns, hpaired⟩ => ?_
  rcases h with h | h
  · exact Bool.false_ne_true (h.symm.trans howns)
  · exact Bool.false_ne_true (h.symm.trans hpaired)

theorem twinLeave_shows : let t := twnEvent s ((leavePair s).setRipe ripeDetached)
    t.twin.paired = false ∧ t.ripe = ripeDetached ∧ t.twin.hoPend = none ∧
      t = { s with regs := t.regs, sv := t.sv, twin := t.twin } ∧ regsKept [Reg.TWN_STAT] s t := by
  have honly : onlyTwin s ((leavePair s).setRipe ripeDetached) := onlyTwin_setFld (onlyTwin_leavePair (onlyTwin_refl s)) _ _
  have hkept : regsKept [Reg.TWN_STAT] s ((leavePair s).setRipe ripeDetached) :=
    regsKept_setFld (regsKept_leavePair (regsKept_refl _ s) List.mem_cons_self) List.mem_cons_self _
  refine ⟨?_, ?_, ?_, onlyTwin_ctl (onlyTwin_twnEvent honly s) ?_, regsKept_twnEvent hkept s⟩
  · rw [twin_twnEvent, State.setRipe, State.setFld_twin, twin_leavePair, Twin.alone]
  · rw [ripe_twnEvent]
    exact fld_setFld_of_lt (by decide) (by decide)
  · rw [twin_twnEvent, State.setRipe, State.setFld_twin, twin_leavePair, Twin.alone]
  · rw [ctlOut_twnEvent, State.setRipe, State.setFld_ctlOut, ctlOut_leavePair]

theorem exec_twinLeave (hreach : reaches s Reg.TWN_CTL = true) : exec .twinLeave s = .next (twinLeave s) :=
  congrArg Host.Outcome.next (gated_reached hreach)

end

/-- What a frame of a twin of the other role shows before its items, read off the state in which they are taken. -/
theorem frameShown_shows (s : State) (f : LinkFrame) : let u := frameShown s f
    u.twin.silent = 0 ∧ u.twin.partnerBoot = f.boot ∧ u.twin.partnerRipe = f.ripe ∧ u.twin.partnerOwner = f.owner ∧
      u.twin.partnerFault = f.fault ∧ u.twin.rxSeq = s.twin.rxSeq + (freshItems f s.twin.rxSeq).length ∧
      u.ctlOut = s.ctlOut.drop (f.acked - s.twin.acked) := by
  obtain ⟨w, hframe, _, hview, _⟩ := frameShown_frame s f
  simp only [State.linkView, Prod.mk.injEq] at hview
  obtain ⟨hsilent, hboot, hripe, howner, hfault, _, hseq⟩ := hview
  exact ⟨hsilent, hboot, hripe, howner, hfault, hseq, congrArg State.ctlOut hframe⟩

/-- Settles O32: what a frame shows before its items, the answer before the tick runs, and each way out of the pair. -/
theorem linkSupervisionDetachesOneTwin : Obligations.LinkSupervisionDetachesOneTwin := by
  unfold Obligations.LinkSupervisionDetachesOneTwin
  intro f last s hears left fresh
  refine ⟨fun hhears hcrc => ?_, fun hhears hcrc hrole => ?_, fun hhears hcrc hrole => ?_, fun u => ⟨loadAnswer_on u, fun hon => ?_⟩,
    fun hno => ?_, fun hsilent halive hup hpaired => ?_, fun hheard => ?_, fun hticks hpaired hfollows => ?_, fun hearly => ?_, rfl, rfl,
    fun howns hpaired => ?_, fun hreach hfree => ?_⟩
  · rw [exec_linkFrame, linkFrame_badCrc hhears hcrc]
  · rw [exec_linkFrame, linkFrame_clash hhears hcrc hrole]
    exact ⟨_, rfl, clash_shows s f⟩
  · obtain ⟨hsilent, hboot, hripe, howner, hfault, hseq, hctl⟩ := frameShown_shows s f
    obtain ⟨himage, hmis, hmixed⟩ := image_frameShown s f
    obtain ⟨hdiffers, hequal⟩ := frameShown_tick s f
    exact ⟨frameShown s f, congrArg Host.Outcome.next (linkFrame_partner hhears hcrc hrole), role_clash_frameShown s f,
      link_down_frameShown s f, hsilent, hboot, hripe, howner, hfault, owns_frameShown s f, himage, hmis, hmixed, hdiffers, hequal,
      hseq, hctl, onlyHeard_frame (onlyHeard_frameShown s f)⟩
  · obtain ⟨r, w, hanswer, _, _, _, hkept⟩ := loadAnswer_frame u
    exact ⟨(fld_loadAnswer u hon _).trans (lanes_up_lanesShown u), (fld_loadAnswer u hon _).trans (aligned_lanesShown u),
      sent_loadAnswer u hon, regs_twin_frame hanswer, hkept⟩
  · rw [exec_linkFrame, linkFrame_unheard hno]
  · exact ⟨_, congrArg Host.Outcome.next (linkDown_paired hsilent halive hup hpaired), linkDown_shows⟩
  · exact congrArg Host.Outcome.next (linkDown_heard hheard)
  · exact ⟨_, congrArg Host.Outcome.next (skewError_follower hticks hpaired hfollows), skewError_shows⟩
  · exact congrArg Host.Outcome.next (skewError_early hearly)
  · refine congrArg Host.Outcome.next ?_
    rw [twinLeave_owner howns hpaired, gated, ite_self]
  · rw [exec_twinLeave hreach, twinLeave_free hfree]
    exact ⟨_, rfl, twinLeave_shows⟩

end Sys2Proof.Machine
end

section
/-!
PROOFS. A joiner (R241, R252 to R257): how it enters JOINING, what a copied set and a copied line write, how it becomes RIPE, and how the
mutes of a divergence end.
-/
namespace Sys2Proof.Machine

/-! ### JOIN_REQUEST (R252; log entry 131) -/

section
variable {s : State}

theorem canJoin_iff : canJoin s = true ↔ s.twinMode = true ∧ s.fld Reg.TWN_STAT_link_down = 0 ∧ s.fld Reg.TWN_LINK_aligned = 1 ∧
    skewHigh s = false ∧ s.twin.image < 2 ∧ s.fld Reg.TWN_LINK_role_clash = 0 ∧ s.twin.paired = false := by
  simp [canJoin, and_assoc]

theorem exec_joinRequest (j : BitVec 64) (s : State) : exec (.joinRequest j) s = .next (twnEvent s (joinRequest s j.toNat)) := rfl

theorem joinRequest_unable {j : Nat} (h : canJoin s = false) : joinRequest s j = s := if_pos h

theorem joinRequest_joiner {j : Nat} (h : canJoin s = true) (howns : s.owns = false)
    (hfree : s.boot = bootRipening ∨ (s.boot = bootRun ∧ s.ripe = ripeDetached ∧ s.faultStart = false)) :
    joinRequest s j = dropPromises (s.setRipe ripeJoining) := by
  rw [joinRequest, if_neg (by rw [h]; decide), if_neg (by rw [howns]; decide), if_pos hfree]

theorem joinRequest_owner {j : Nat} (h : canJoin s = true) (howns : s.owns = true) (hboot : s.boot = bootRun)
    (hnone : s.twin.joinTick = none) (hahead : s.tick + 8 ≤ j) :
    joinRequest s j = sendCtl { s with twin := { s.twin with joinTick := some j } } (.joinTick j) := by
  rw [joinRequest, if_neg (by rw [h]; decide), if_pos howns, if_pos ⟨hboot, hnone, hahead⟩]

theorem regs_dropPromises (s : State) : (dropPromises s).regs = s.regs := rfl

/-- What a joiner holds behind the register that it has written and the event. -/
theorem dropPromises_frame {t u : State} {r : Store Word} {c : Store SvCore} (hu : u = { s with regs := r })
    (ht : t = { dropPromises u with sv := c }) :
    t = { s with regs := t.regs, sv := t.sv, groups := [], leases := [], partOps := [], held := [], cluWrites := [],
                 net := { s.net with writes := [] }, twin := { s.twin with taken := [], params := [] } } := by
  subst hu ht
  rfl

theorem joiner_shows (s : State) : let t := twnEvent s (dropPromises (s.setRipe ripeJoining))
    t.ripe = ripeJoining ∧ regsKept [Reg.TWN_STAT] s t ∧
      t = { s with regs := t.regs, sv := t.sv, groups := [], leases := [], partOps := [], held := [], cluWrites := [],
                   net := { s.net with writes := [] }, twin := { s.twin with taken := [], params := [] } } := by
  obtain ⟨r, hr⟩ := setFld_frame s Reg.TWN_STAT_ripe_state ripeJoining
  obtain ⟨c, hc⟩ := twnEvent_frame s (dropPromises (s.setRipe ripeJoining))
  have hkept : regsKept [Reg.TWN_STAT] s (s.setRipe ripeJoining) :=
    regsKept_setFld (regsKept_refl _ s) (f := Reg.TWN_STAT_ripe_state) List.mem_cons_self _
  refine ⟨?_, regsKept_twnEvent (regsKept_of_regs (regs_dropPromises _) hkept) s, dropPromises_frame hr hc⟩
  rw [ripe_twnEvent, State.ripe, fld_of_regs (regs_dropPromises _)]
  exact fld_setFld_of_lt (by decide) (by decide)

theorem owner_names_joinTick (s : State) (j : Nat) :
    let t := sendCtl { s with twin := { s.twin with joinTick := some j } } (.joinTick j)
    twnEvent s t = t ∧ sendsItems [.joinTick j] { s with twin := { s.twin with joinTick := some j } } t := by
  have hsends := sendsItems_sendCtl { s with twin := { s.twin with joinTick := some j } } (.joinTick j)
  refine ⟨twnEvent_same ?_, hsends⟩
  rw [State.reg, regs_of_sendsItems hsends]
  rfl

end

/-! ### COPY_SET_TRANSFER (R255) -/

section
variable (s : State)

/-- From `s` to `t` engines, guards and gain cells alone differ. -/
def onlyCopied (s t : State) : Prop := ∃ e g c, t = { s with eng := e, guards := g, cells := c }

theorem onlyCopied_writeCopyWord {s t : State} (h : onlyCopied s t) (w : CopyWord) : onlyCopied s (writeCopyWord t w) := by
  obtain ⟨e, g, c, rfl⟩ := h
  cases w <;> exact ⟨_, _, _, rfl⟩

/-- The words of a set change the engines, guards and gain cells that hold them. -/
theorem onlyCopied_words {s t : State} (ws : List CopyWord) (h : onlyCopied s t) : onlyCopied s (ws.foldl writeCopyWord t) := by
  induction ws generalizing t with
  | nil => exact h
  | cons w ws ih => exact ih (onlyCopied_writeCopyWord h w)

theorem eqSince_markEqual (es : List Nat) (x : Nat) : (markEqual s es).eqSince x = if x ∈ es then s.tick + 1 else s.eqSince x :=
  storeGet_foldl_set ..

theorem copied_shows (ws : List CopyWord) (es : List Nat) : let t := markEqual (ws.foldl writeCopyWord s) es
    t.regs = s.regs ∧ t.dram = s.dram ∧ t.delay = s.delay ∧ ∀ x, t.eqSince x = if x ∈ es then s.tick + 1 else s.eqSince x := by
  obtain ⟨e, g, c, h⟩ := onlyCopied_words ws ⟨s.eng, s.guards, s.cells, rfl⟩
  rw [h]
  exact ⟨rfl, rfl, rfl, eqSince_markEqual _ es⟩

theorem exec_copySetTransfer (e : EngNo) (ws : List CopyWord) : exec (.copySetTransfer e ws) s =
    if s.ripe ≠ ripeCopying ∨ s.twin.copyNow.contains e.val = false ∨ s.eqSince e ≠ 0 ∨
        ws.map copyName ≠ (readSet s s.twin.copyNow).map copyName then .next s
    else .next (markEqual (ws.foldl writeCopyWord s) s.twin.copyNow) := rfl

/-- It is passed over unless the engine's set is the one of this tick, is not equal yet and the words are its own. -/
theorem notCopied_iff {e : EngNo} {ws : List CopyWord} : (s.ripe ≠ ripeCopying ∨ s.twin.copyNow.contains e.val = false ∨ s.eqSince e ≠ 0 ∨
      ws.map copyName ≠ (readSet s s.twin.copyNow).map copyName) ↔
    ¬ (s.ripe = ripeCopying ∧ s.twin.copyNow.contains e.val = true ∧ s.eqSince e = 0 ∧
      ws.map copyName = (readSet s s.twin.copyNow).map copyName) := by
  simp only [not_and_or, Bool.not_eq_true, ne_eq]

end

/-! ### BULK_LINE_COPY (R256) -/

/-- A read behind words that were stored one after another from address `b + n` on. -/
theorem storeGet_foldl_zipIdx {α : Type} [DecidableEq α] (d : α) (b : Nat) (ws : List α) (n : Nat) (m : Store α) (a : Nat) :
    storeGet d ((ws.zipIdx n).foldl (fun m w => storeSet d m (b + w.2) w.1) m) a =
      if b + n ≤ a then (ws[a - (b + n)]?).getD (storeGet d m a) else storeGet d m a := by
  induction ws generalizing n m with
  | nil => simp
  | cons w ws ih =>
    rw [List.zipIdx_cons, List.foldl_cons, ih, storeGet_set]
    rcases Nat.lt_trichotomy a (b + n) with h | h | h
    · rw [if_neg (by omega), if_neg (by omega), if_neg (by omega)]
    · subst h
      rw [if_neg (by omega), if_pos rfl, if_pos (Nat.le_refl _), Nat.sub_self]
      rfl
    · have hidx : a - (b + n) = a - (b + (n + 1)) + 1 := by omega
      rw [if_pos (by omega), if_neg (by omega), if_pos (by omega), hidx, List.getElem?_cons_succ]

section
variable (s : State) (r : LineRec)

/-- The memory behind the words of a line's copy. -/
def lineCopied (ws : List Word) : Store Word :=
  (ws.take r.length).zipIdx.foldl (fun m w => storeSet 0 m (r.base + w.2) w.1) s.dram

theorem lineCopied_in {ws : List Word} {i : Nat} {w : Word} (hi : i < r.length) (hw : ws[i]? = some w) :
    storeGet 0 (lineCopied s r ws) (r.base + i) = w := by
  rw [lineCopied, storeGet_foldl_zipIdx, Nat.add_zero, if_pos (Nat.le_add_right ..), Nat.add_sub_cancel_left,
    List.getElem?_take_of_lt hi, hw, Option.getD_some]

theorem lineCopied_out {ws : List Word} {a : Nat} (h : a < r.base ∨ r.base + r.length ≤ a) :
    storeGet 0 (lineCopied s r ws) a = storeGet 0 s.dram a := by
  rw [lineCopied, storeGet_foldl_zipIdx, Nat.add_zero]
  split
  · next hle =>
    have hnone : (ws.take r.length)[a - r.base]? = none := List.getElem?_eq_none (by rw [List.length_take]; omega)
    rw [hnone, Option.getD_none]
  · rfl

/-- The line is copied, and its age is its length. -/
def bulkCopied (c line : Nat) (ws : List Word) : State :=
  ({ s with dram := lineCopied s r ws, twin := { s.twin with bulkDone := s.twin.bulkDone ++ [1024 * c + line] } } : State).setAge r r.length

theorem exec_bulkLineCopy {c : ClNo} {line : Fin 1024} {ws : List Word} {r : LineRec} (hline : s.line c line = some r) (htier : r.tier = 2)
    (hripe : s.ripe = ripeCopying ∨ s.ripe = ripeConverging) (heq : s.eqSince (16 * c.val + r.writer) ≠ 0) :
    exec (.bulkLineCopy c line ws) s = .next (bulkCopied s r c.val line.val ws) := by
  have hgo : ¬ (r.tier ≠ 2 ∨ (s.ripe ≠ ripeCopying ∧ s.ripe ≠ ripeConverging) ∨ s.eqSince (16 * c.val + r.writer) = 0) := by
    simp only [not_or, not_and_or, not_not]
    exact ⟨htier, hripe, heq⟩
  show execBulkLineCopy c line ws s = _
  rw [execBulkLineCopy, hline]
  exact if_neg hgo

theorem lineAge_bulkCopied (c line : Nat) (ws : List Word) : (bulkCopied s r c line ws).lineAge r = r.length := by
  rw [bulkCopied, State.lineAge, State.setAge, storeGet_set, if_pos rfl]

end

/-! ### BECOME_RIPE (R257) -/

section
variable (s : State)

/-- RIPE, with the join's bookkeeping ended. -/
def ripened : State :=
  let t := s.setRipe ripeRipe
  { t with twin := { t.twin with copyFrom := none, copyNow := [] } }

theorem exec_becomeRipe : exec .becomeRipe s = .next (twnEvent s (becomeRipe s)) := rfl

theorem becomeRipe_early (h : ripeNow s = false) : becomeRipe s = s := if_neg (by rw [h]; decide)

theorem becomeRipe_now (h : ripeNow s = true) :
    becomeRipe s = if (ripened s).boot = bootRipening then (ripened s).setBoot bootRun else ripened s := by
  rw [becomeRipe, if_pos h]
  unfold ripened
  rfl

theorem ripe_ripened : (ripened s).ripe = ripeRipe := (fld_putTwin ..).trans (fld_setFld_of_lt (by decide) (by decide))

theorem boot_ripened : (ripened s).boot = s.boot := (fld_putTwin ..).trans (boot_setFld_elsewhere s _ _ (by decide))

theorem becomeRipe_shows (h : ripeNow s = true) : (becomeRipe s).ripe = ripeRipe ∧
    (becomeRipe s).boot = (if s.boot = bootRipening then bootRun else s.boot) ∧ (becomeRipe s).twin.copyFrom = none := by
  have hripe := ripe_ripened s
  have hboot := boot_ripened s
  have hcopy : (ripened s).twin.copyFrom = none := rfl
  rw [becomeRipe_now s h, hboot]
  split
  · exact ⟨(fld_setBoot _ bootRun (by decide)).trans hripe, boot_setBoot _ (by decide), by rw [twin_setBoot, hcopy]⟩
  · exact ⟨hripe, hboot, hcopy⟩

end

/-! ### The mutes of a divergence (R241) -/

section
variable (s : State)

/-- A mute that holds or is to come ends; the others stay. -/
theorem endMute_frame (g t : Nat) : ∃ m, endMute s g t = { s with twin := { s.twin with muteTo := m } } ∧
    ∀ x, storeGet 0 m x = if x = g ∧ storeGet 0 s.twin.muteFrom g ≠ 0 ∧ storeGet 0 s.twin.muteTo g = 0 then t + 1
      else storeGet 0 s.twin.muteTo x := by
  unfold endMute
  split
  · next h =>
    refine ⟨_, rfl, fun x => ?_⟩
    rw [storeGet_set]
    exact if_congr (by simp only [h, ne_eq, not_false_eq_true, and_self, and_true]) rfl rfl
  · next h => exact ⟨s.twin.muteTo, rfl, fun x => (if_neg fun ⟨_, hmute⟩ => h hmute).symm⟩

/-- Every mute of the listed groups that holds or is to come ends. -/
theorem endMutes_frame (gs : List Nat) (t : Nat) :
    ∃ m, gs.foldl (fun u g => endMute u g t) s = { s with twin := { s.twin with muteTo := m } } ∧
      ∀ x, storeGet 0 m x = if x ∈ gs ∧ storeGet 0 s.twin.muteFrom x ≠ 0 ∧ storeGet 0 s.twin.muteTo x = 0 then t + 1
        else storeGet 0 s.twin.muteTo x := by
  induction gs generalizing s with
  | nil => exact ⟨s.twin.muteTo, rfl, fun x => (if_neg fun ⟨hx, _⟩ => List.not_mem_nil hx).symm⟩
  | cons g gs ih =>
    obtain ⟨m, hm, hreads⟩ := endMute_frame s g t
    obtain ⟨m', hm', hreads'⟩ := ih { s with twin := { s.twin with muteTo := m } }
    refine ⟨m', by rw [List.foldl_cons, hm, hm'], fun x => ?_⟩
    rw [hreads' x]
    dsimp only
    rw [hreads x]
    by_cases hx : x = g
    · subst hx
      by_cases hmute : storeGet 0 s.twin.muteFrom x ≠ 0 ∧ storeGet 0 s.twin.muteTo x = 0 <;> simp [hmute]
    · simp [hx]

theorem mem_keys_of_storeGet_ne {m : Store Nat} {x : Nat} (h : storeGet 0 m x ≠ 0) : x ∈ m.map Prod.fst := by
  refine mem_keys_of_storeFind (Option.isSome_iff_ne_none.2 fun hnone => h ?_)
  rw [storeGet_eq_find, hnone, Option.getD_none]

theorem clearDiverge_frame : ∃ m, clearDiverge s = { s with twin := { s.twin with muteTo := m, matched := [] } } ∧
    ∀ x, storeGet 0 m x = if storeGet 0 s.twin.muteFrom x ≠ 0 ∧ storeGet 0 s.twin.muteTo x = 0 then s.io.launched + 1
      else storeGet 0 s.twin.muteTo x := by
  obtain ⟨m, hm, hreads⟩ := endMutes_frame s (s.twin.muteFrom.map (·.1)) s.io.launched
  refine ⟨m, by rw [clearDiverge, hm], fun x => ?_⟩
  rw [hreads x]
  exact if_congr (and_iff_right_of_imp fun ⟨hfrom, _⟩ => mem_keys_of_storeGet_ne hfrom) rfl rfl

theorem endDiverge_frame (g : Nat) : ∃ m, endDiverge s g = { s with twin := { s.twin with muteTo := m } } ∧
    ∀ x, storeGet 0 m x = if x = g ∧ 1024 ≤ storeGet 0 s.twin.matched g ∧ storeGet 0 s.twin.muteFrom g ≠ 0 ∧
      storeGet 0 s.twin.muteTo g = 0 then s.tick + 1 else storeGet 0 s.twin.muteTo x := by
  unfold endDiverge
  split
  · next h =>
    obtain ⟨m, hm, hreads⟩ := endMute_frame s g s.tick
    exact ⟨m, hm, fun x => (hreads x).trans (if_congr (by simp only [h, true_and]) rfl rfl)⟩
  · next h => exact ⟨s.twin.muteTo, rfl, fun x => (if_neg fun ⟨_, hmatched, _⟩ => h hmatched).symm⟩

end

/-- Settles O33: each command by the branch that its hypotheses name. -/
theorem joinersCopyConvergeAndRipen : Obligations.JoinersCopyConvergeAndRipen := by
  unfold Obligations.JoinersCopyConvergeAndRipen
  intro j e ws c line bulk g s able
  refine ⟨fun hable howns hfree => ?_, fun hable howns hboot hnone hahead => ?_, fun hpaired => ?_, ⟨fun hcopies => ?_, fun hno => ?_⟩,
    fun r hline htier hripe heq => ?_, fun hnow => ?_, fun hnot => ?_, ?_, fun hreach => ?_⟩
  · rw [exec_joinRequest, joinRequest_joiner (canJoin_iff.2 hable) howns hfree]
    exact ⟨_, rfl, joiner_shows s⟩
  · obtain ⟨hsame, hsends⟩ := owner_names_joinTick s j.toNat
    rw [exec_joinRequest, joinRequest_owner (canJoin_iff.2 hable) howns hboot hnone hahead, hsame]
    exact ⟨_, rfl, hsends⟩
  · have hunable : canJoin s = false := by
      rw [← Bool.not_eq_true, canJoin_iff]
      rintro ⟨_, _, _, _, _, _, halone⟩
      exact Bool.false_ne_true (halone.symm.trans hpaired)
    rw [exec_joinRequest, joinRequest_unable hunable, twnEvent_same rfl]
  · rw [exec_copySetTransfer, if_neg fun hno => (notCopied_iff s).1 hno hcopies]
    exact ⟨_, rfl, rfl, copied_shows s ws _⟩
  · rw [exec_copySetTransfer, if_pos ((notCopied_iff s).2 hno)]
  · exact ⟨_, exec_bulkLineCopy s hline htier hripe heq, rfl, rfl, lineAge_bulkCopied s r _ _ bulk, rfl,
      fun i w hi hw => lineCopied_in s r hi hw, fun a ha => lineCopied_out s r ha⟩
  · obtain ⟨hripe, hboot, hcopy⟩ := becomeRipe_shows s hnow
    exact ⟨_, exec_becomeRipe s, (ripe_twnEvent ..).trans hripe, (boot_twnEvent ..).trans hboot, by rw [twin_twnEvent, hcopy]⟩
  · rw [exec_becomeRipe, becomeRipe_early s hnot, twnEvent_same rfl]
  · obtain ⟨m, hm, hreads⟩ := endDiverge_frame s g.val
    exact ⟨_, congrArg Host.Outcome.next hm, rfl, hreads⟩
  · obtain ⟨m, hm, hreads⟩ := clearDiverge_frame s
    exact ⟨_, congrArg Host.Outcome.next ((gated_reached hreach).trans hm), rfl, hreads⟩

end Sys2Proof.Machine
end
